-- ==== Sys2Proof/Word.lean ====
section
/-!
DEFINITION. The machine's words and the byte order of R8: little-endian bytes, least significant bit 0.
-/

namespace Sys2Proof

/-- A byte of memory, of a message or of a dictionary value. -/
abbrev Byte := BitVec 8

/-- A 32-bit register or core word (R248). -/
abbrev Word := BitVec 32

/-- The number that little-endian bytes spell (R8). -/
def leNat : List Byte → Nat
  | [] => 0
  | b :: bs => b.toNat + 256 * leNat bs

/-- `n` little-endian bytes of a number, the number taken modulo 256^n (R8). -/
def natLE : Nat → Nat → List Byte
  | 0, _ => []
  | n + 1, v => BitVec.ofNat 8 v :: natLE n (v / 256)

/-- Bytes `off` to `off + n - 1` of a byte string; bytes past its end read 0. -/
def sliceBytes (bs : List Byte) (off n : Nat) : List Byte :=
  (List.range n).map fun i => bs.getD (off + i) 0

/-- The little-endian number of `n` bytes at `off`. -/
def fieldLE (bs : List Byte) (off n : Nat) : Nat := leNat (sliceBytes bs off n)

/-- Bits `[lo + n - 1 : lo]` of a number. -/
def bitsOf (v lo n : Nat) : Nat := (v / 2 ^ lo) % 2 ^ n

/-- A two's complement reading of the low `n` bits of a number. -/
def signedOf (n v : Nat) : Int :=
  let u := v % 2 ^ n
  if u < 2 ^ (n - 1) then (u : Int) else (u : Int) - (2 ^ n : Nat)

/-- The two's complement code of an integer in `n` bits. -/
def codeOf (n : Nat) (v : Int) : Nat := (v % ((2 ^ n : Nat) : Int)).toNat

/-- A truth value as bit 0 or 1. -/
def bit (b : Bool) : Nat := if b then 1 else 0

/-- A byte string padded with zeros to `n` bytes and cut there. -/
def padTo (n : Nat) (bs : List Byte) : List Byte := sliceBytes bs 0 n

/-- A count that stops at its largest value (a saturating counter of `n` bits). -/
def satAdd (n c k : Nat) : Nat := min (2 ^ n - 1) (c + k)

end Sys2Proof
end

