-- ==== Sys2Proof/Syntax.lean ====
section
/-!
DEFINITION. The commands of the block: one constructor of Instr per row of spec/opcode_table.json, in its order.
An operand is what the outside brings to the happening: an address, a value, a frame, a measured quantity (log 3).
-/

namespace Sys2Proof

/-- The two controller dies (R18); as a core, field is the Kenier pair and host the single core (R242). -/
inductive Die where
  | field | host
  deriving DecidableEq, Repr

/-- The end of a message link at which a message arrives: the two dies' Porter ends (R24) and the twin link (R361). -/
inductive LinkEnd where
  | porterField | porterHost | twin
  deriving DecidableEq, Repr

/-- The two ports of the ring (R330). -/
inductive Port where
  | a | b
  deriving DecidableEq, Repr

/-- The two endpoints of the SPI port (R347). -/
inductive Sel where
  | sel0 | sel1
  deriving DecidableEq, Repr

/-- Where a unit comes from or goes to: a ring source address and UDP port, or the SPI host (R310). -/
inductive Peer where
  | ring (ip udp : Nat)
  | spi
  deriving DecidableEq, Repr

/-- An LDP unit as it arrives: its source and its bytes, header first (R306). -/
structure LdpIn where
  peer : Peer
  bytes : List Byte
  deriving DecidableEq, Repr

/-- A class A command as it arrives: its source, its request identifier and its COMMAND body (R311). -/
structure CmdIn where
  peer : Peer
  rid : Nat
  body : List Byte
  deriving DecidableEq, Repr

/-- A proxied dictionary request (R22); the payload layout of DICT_REQ is not stated, so its content is an operand. -/
inductive DictReq where
  | read (idx sub : Nat)
  | write (idx sub : Nat) (val : List Byte)
  deriving DecidableEq, Repr

/-- A journal record (R320). -/
structure JRec where
  esn : Nat
  ts : Nat
  off : Nat
  group : Nat
  typ : Nat
  data : List Byte
  rmac : List Byte
  deriving DecidableEq, Repr

/-- The outcome codes of R65. -/
inductive Outcome where
  | ok | silent | collided | corrupt | impulse | split | timeout | deferred
  deriving DecidableEq, Repr

/-- The framing of a Type B response in ct: SOF low and high part, EOF, the longest EGT, and a missing stop bit (R155, R162). -/
structure BFraming where
  sofLow : Nat
  sofHigh : Nat
  eof : Nat
  egt : Nat
  stopMissing : Bool
  deriving DecidableEq, Repr

/-- What one output's winning decoder brings of a frame: the received bytes with their CRC where the standard has one, the
detections of R148 and R162, and the measured levels of R139. A collision is the place of its bit on the air, the parity bits
of Type A counted, with the ct from the window's reference at which that bit begins. -/
structure RxFrame where
  data : List Byte
  bits : Nat
  collision : Option Nat
  collisionCt : Nat
  parityErr : Option Nat
  symbolErr : Bool
  framing : BFraming
  eofAbsent : Bool
  dbfs : Nat
  dbc : Nat
  residual : Nat
  phase : Nat
  deriving DecidableEq, Repr

/-- The signal on one input chain of a listen (R124): overranges before the SOF, and the peak of each symbol after it, in
1/256 dBm at the coupler. -/
structure AgcRun where
  overs : Nat
  peaks : List Int
  deriving DecidableEq, Repr

/-- The end of a received frame: the signals of the input chains over it (R124), and the ct until it. -/
structure FrameTail where
  agc : List AgcRun
  after : Nat
  deriving DecidableEq, Repr

/-- An SOF (R129, R149): its instant in ct from the window's reference, and the Type B lead-in in ct or the sync word of
ISO/IEC 18092 before it. -/
structure SofMark where
  ct : Nat
  lead : Nat
  deriving DecidableEq, Repr

/-- Out-of-band energy on a receive chain (R135): of the four samples of a burst, and of the time before them. -/
structure ImpulseObs where
  chain : Fin 16
  quiet : Int
  energy : Int
  deriving DecidableEq, Repr

/-- A pulse on a feeder's bias current (R89): its height in mA, and its start after the select word and its length in ns. -/
structure AckPulse where
  feeder : Fin 16
  ma : Nat
  startNs : Nat
  lenNs : Nat
  deriving DecidableEq, Repr

/-- What a decoder other than the winner made of its frame under ALLSOF (R129, R139). -/
structure AltFrame where
  out : Nat
  dec : Nat
  bits : Nat
  outcome : Outcome
  deriving DecidableEq, Repr

/-- A tag as a coil result identifies it (R172): protocol 1 to 4 and UID bytes in the order received. -/
structure TagId where
  proto : Nat
  uid : List Byte
  deriving DecidableEq, Repr

/-- What one stage of a firmware exchange gave (R131, R134): its outcome, `LEN` and frame 0, frame 1 of a SPLIT, and the
combiner output that gave frame 0. -/
structure SlotObs where
  outcome : Outcome
  bits : Nat
  data : List Byte
  data1 : List Byte
  out : Nat
  deriving DecidableEq, Repr

/-- What a wave gave on one coil (R173, R184): whether its SELECT or SHAPE ended TIMEOUT or DEFERRED, whether the sweep was
stopped before the coil was read, and for each protocol bit of the plan the answers to the identification requests in
their order, HLTA and HLTB apart. -/
structure CoilObs where
  ca : Nat
  selectFailed : Bool
  aborted : Bool
  answers : List (List SlotObs)
  deriving DecidableEq, Repr

/-- Who runs a sense: a track's SENSE stage, or the Lantern scanner (R224). -/
inductive SenseBy where
  | track (t : Fin 9)
  | lantern
  deriving DecidableEq, Repr

/-- One burst's measurement (R224, R228): coil, I and Q as Q1.15 integers, and the out-of-band energy in dB. -/
structure Burst where
  ca : Nat
  i : Int
  q : Int
  energy : Int
  deriving DecidableEq, Repr

/-- What a guest handler returned: A0 and A1 at its TRAP 0, and the bytes of the exchange area (R271). -/
structure GuestReturn where
  status : Nat
  len : Nat
  resp : List Byte
  deriving DecidableEq, Repr

/-- What the frames of a security action gave (R212, R218, R219): the answers to its template or handshake, and to the
second signature template. -/
structure SecurityEnd where
  answers : List SlotObs
  answers2 : List SlotObs
  deriving DecidableEq, Repr

/-- The body of an HSR frame for or through the module (R332 to R342). -/
inductive RingBody where
  | ldp (ip dstUdp : Nat) (unit : LdpIn)
  | arp (ip : Nat)
  | icmp (ip : Nat)
  | supervision
  | otherUdp
  | fragment
  | wake
  | other
  deriving DecidableEq, Repr

/-- An HSR frame as it arrives at a port. -/
structure RingIn where
  src : Nat
  dst : Nat
  seq : Nat
  tagged : Bool
  sizeOk : Bool
  len : Nat
  fcsOk : Bool
  vid : Nat
  pcp : Nat
  egressFull : Bool
  body : RingBody
  deriving DecidableEq, Repr

/-- The kinds of message content the module tells apart on POWER_STATE (R374, R412). -/
inductive PowerMsg where
  | exchange
  | role (lead : Bool)
  deriving DecidableEq, Repr

/-- The result of a sweep for one coil (R172, R173): status, reason and attributed tags; or tags that another coil's
output attributes to it, which are not its own reading. -/
structure CoilResult where
  ca : Nat
  status : Nat
  reason : Nat
  own : Bool
  tags : List TagId
  deriving DecidableEq, Repr

/-- A wave message of a twin lead (R365): start with coils and plan, or end with the wave's coil
results, of which a message that is not the last holds a part. -/
inductive WaveMsg where
  | start (plan sweep wave : Nat) (coils : List Nat)
  | part (results : List CoilResult)
  | finish (results : List CoilResult)
  deriving DecidableEq, Repr

/-- A tag-state change or service exchange opened or closed (R365, R373). -/
structure ChangeMsg where
  opened : Bool
  kind : Nat
  handle : Nat
  ca : Nat
  what : Nat
  deriving DecidableEq, Repr

/-- A reservation mirrored by M_RESERVE (R365): 0 ESN, 1 command counter of a slot, 2 journal offset. -/
structure ReserveMsg where
  kind : Nat
  slot : Nat
  first : Nat
  deriving DecidableEq, Repr

/-- Changes of keys, quarantine list and attempt log mirrored by M_KEYS (R365). -/
inductive KeysMsg where
  | key (kind slot : Nat) (material : List Byte)
  | quarantine (tag : TagId) (add : Bool)
  | attempt (tag : TagId) (fails : List Nat) (pendingOpen : Bool)
  deriving DecidableEq, Repr

/-- Host-side positions mirrored by M_HOST (R365). -/
inductive HostMsg where
  | subscribe (peer : Peer) (mask : Nat)
  | eventAck (peer : Peer) (esn : Nat)
  | storeAck (store off : Nat)
  deriving DecidableEq, Repr

/-- Dictionary content mirrored by M_DICT (R365). -/
inductive DictMsg where
  | write (idx sub : Nat) (val : List Byte)
  | store
  deriving DecidableEq, Repr

/-- A part of a rejoining second's state copy (R374). -/
inductive ResyncPart where
  | counter (slot last : Nat)
  | reserve (m : ReserveMsg)
  | key (kind slot : Nat) (material : List Byte)
  | attempt (tag : TagId) (fails : List Nat) (pendingOpen : Bool)
  | record (r : JRec)
  | roster (gen fresh : Nat)
  | entry (index : Nat) (bytes : List Byte)
  | quarantine (tag : TagId)
  | verified (index slot : Nat)
  | released (l : List (Nat × Nat))
  | igens (l : List (Nat × Nat))
  | setting (idx sub : Nat) (val : List Byte)
  | last
  deriving DecidableEq, Repr

/-- What a received door-link packet carries for the module (R443, R454, R455). -/
inductive DoorMsg where
  | doorReport (closed : Bool)
  | other
  deriving DecidableEq, Repr

/-- A door-link packet that passed its header checks, and its measurements (R457). In extended mode `symbols` holds the
received value of each bit slot, bit level b of sub-carrier d at place 4 d + b of its symbol (R453), `seed` the scrambler seed
of the PHR; `psdu` is what the decoder makes of a packet whose coded bits hold errors, or of one in standard mode (R449). -/
structure DoorPacket where
  seed : Nat := 0
  symbols : List (List Bool) := []
  node : Option Nat
  mcs : Nat
  psdu : List Byte
  rssi : Int
  snrs : List Int
  msg : DoorMsg
  deriving DecidableEq, Repr

/-- One coupling of a survey row (R471). -/
structure Coupling where
  src : Nat
  victim : Nat
  mag : Nat
  phase : Nat
  deriving DecidableEq, Repr

/-- What a calibration measured (R463): main value, phase in degrees, tuning state, pickup voltage in mV, survey couplings,
coils not acknowledged, and whether it was interrupted. -/
structure CalMeasure where
  value : Rat
  degrees : Rat
  tune : Nat
  pickupMv : Rat
  couplings : List Coupling
  unacked : List Nat
  interrupted : Bool
  deriving DecidableEq, Repr

/-- The THEN states of R430. -/
inductive Then where
  | idle | fsOn | rx | sleep
  deriving DecidableEq, Repr

/-- The frequency references of R49. -/
inductive RefSrc where
  | crystal | refin10 | refin27
  deriving DecidableEq, Repr

/-- A number of a Kenier register (R244). -/
abbrev RegNo := BitVec 5

/-- The commands, one per row of the table. -/
inductive Instr where
  -- Porter and link (R24 to R31)
  | linkHello (l : LinkEnd) (f : List Byte) (pos : Option Bool)
  | helloPeriod (l : LinkEnd)
  | linkAck (l : LinkEnd) (f : List Byte)
  | ackPeriod (l : LinkEnd)
  | retransmitTimeout (l : LinkEnd)
  | linkLost (l : LinkEnd)
  | linkResync (l : LinkEnd) (f : List Byte)
  | dictReq (f : List Byte) (peer : Peer) (rid : Nat) (q : DictReq)
  | dictRsp (f : List Byte) (peer : Peer) (rid : Nat) (q : DictReq) (status : Nat) (val : List Byte)
  | cmdReq (f : List Byte) (c : CmdIn)
  | cmdRsp (f : List Byte) (peer : Peer) (rid : Nat)
  | porterEvent (f : List Byte) (recs : List JRec)
  | porterEventAck (f : List Byte) (esn : Nat)
  | porterJournal (f : List Byte)
  | porterJournalAck (f : List Byte) (store off : Nat)
  | powerState (f : List Byte) (l : LinkEnd) (m : PowerMsg)
  | time (f : List Byte) (ts : Nat)
  | report (f : List Byte)
  | faultMsg (l : LinkEnd) (f : List Byte)
  | porterEcho (l : LinkEnd) (f : List Byte)
  -- Timebase (R44 to R55)
  | tbcclRead
  | tsSave
  | referenceChange (r : RefSrc)
  | zeroCrossEdge (after : Nat)
  | freeRunning
  | mainsReport (present : Bool)
  | mainsCycleEnd
  -- Stages (R56 to R72)
  | select (t : Fin 9)
  | shape (t : Fin 9)
  | emit (t : Fin 9)
  | listen (t : Fin 9)
  | exchange (t : Fin 9)
  | waitStage (t : Fin 9)
  | meet (t : Fin 9)
  | meetRelease (mask : BitVec 9) (obs : List CoilObs)
  | branch (t : Fin 9)
  | defer (t : Fin 9)
  | verdict (t : Fin 9) (w : Word)
  | post (t : Fin 9)
  | callStage (t : Fin 9)
  | returnStage (t : Fin 9)
  | mark (t : Fin 9)
  | sense (t : Fin 9)
  | calib (t : Fin 9)
  | halt (t : Fin 9)
  | tout (t : Fin 9)
  | resourceWaitEnd (t : Fin 9)
  | horizonEnd (t : Fin 9)
  | heldRelease (t : Fin 9)
  | qpop (t : Fin 9)
  | qflush (t : Fin 9)
  | start (t : Fin 9) (entry : BitVec 15)
  | stop (t : Fin 9)
  | abort (t : Fin 9)
  -- Field engine (R82 to R113)
  | acknowledgePulse (p : AckPulse)
  | selectorSettle (t : Fin 9)
  | budgetAdmission
  | rampEnd (x : Fin 8)
  | trainingComplete (f : Fin 16) (depth : Nat) (range : Fin 4) (ci cq : BitVec 16)
  | feederAbsent (f : Fin 16) (ma : Nat)
  | feederShort (f : Fin 16)
  | feederOverload (f : Fin 16) (ma : Nat)
  | feederFenced (f : Fin 16) (fwd refl : Nat)
  | feederRecovery (f : Fin 16) (ma : Nat)
  | aboveCap (x : Fin 8) (mw : Nat)
  | powerAtZero (x : Fin 8) (mw : Nat)
  | peakTimeTick
  | heatsinkSample (sink amb : Int)
  -- Receive and capture (R115 to R143)
  | sof (t : Fin 9) (out dec : Nat) (m : SofMark)
  | frameReceived (t : Fin 9) (r0 : RxFrame) (r1 : Option RxFrame) (alts : List AltFrame) (e : FrameTail)
  | windowClose (t : Fin 9)
  | impulseMark (m : ImpulseObs)
  | markEnd (f : Fin 16)
  | mapClear (v : List Byte)
  | captureArm (v : List Byte)
  | captureTrigger
  | captureDone
  -- APDU and templates (R164 to R171)
  | apduStart (v : List Byte)
  | apduResult (answers : List SlotObs)
  | templateWrite (n : Nat) (v : List Byte)
  | templateStart (v : List Byte)
  | templateResult (answers : List SlotObs) (g : Option GuestReturn)
  -- Sweeps, roster and reports (R172 to R201)
  | sweepStart (p : Fin 16) (v : List Byte)
  | sweepPeriod (p : Fin 16)
  | sweepBegin
  | sweepClose (obs : List CoilObs)
  | closeWaitEnd
  | emptyRoster (c : CmdIn)
  | reportBuild (v : List Byte)
  | reportReady
  -- Tag security (R202 to R223)
  | loadWrappedKey (c : CmdIn)
  | loadIssuerKey (c : CmdIn)
  | eraseSlot (c : CmdIn)
  | releaseUid (c : CmdIn)
  | securityStart (v : List Byte)
  | securityResult (r : SecurityEnd)
  | failuresLeaveWindow (tag : TagId)
  -- Card detection (R224 to R241)
  | burstEnd (who : SenseBy) (bs : List Burst)
  | senseSkipped (who : SenseBy)
  | holdOffEnd (ca : BitVec 8)
  | doorGroupWrite (g : Fin 64) (v : List Byte)
  | doorHoldOffEnd (ca : BitVec 8)
  | lanternScan
  | impulseRepeat
  | relearn (v : List Byte)
  -- Kenier core (R242 to R268)
  | add (k : Die) (rd ra rb : RegNo)
  | sub (k : Die) (rd ra rb : RegNo)
  | and (k : Die) (rd ra rb : RegNo)
  | or (k : Die) (rd ra rb : RegNo)
  | xor (k : Die) (rd ra rb : RegNo)
  | andn (k : Die) (rd ra rb : RegNo)
  | clt (k : Die) (rd ra rb : RegNo)
  | cltu (k : Die) (rd ra rb : RegNo)
  | shl (k : Die) (rd ra : RegNo) (sh : BitVec 5)
  | shr (k : Die) (rd ra : RegNo) (sh : BitVec 5)
  | shra (k : Die) (rd ra : RegNo) (sh : BitVec 5)
  | shlr (k : Die) (rd ra rb : RegNo)
  | shrr (k : Die) (rd ra rb : RegNo)
  | shrar (k : Die) (rd ra rb : RegNo)
  | mul (k : Die) (ra rb : RegNo)
  | mulu (k : Die) (ra rb : RegNo)
  | mac (k : Die) (ra rb : RegNo)
  | macu (k : Die) (ra rb : RegNo)
  | productWrite (k : Die)
  | rdph (k : Die) (rd : RegNo)
  | rdpl (k : Die) (rd : RegNo)
  | wrph (k : Die) (ra : RegNo)
  | wrpl (k : Die) (ra : RegNo)
  | jmpr (k : Die) (ra : RegNo)
  | jmpf (k : Die) (ra : RegNo)
  | callr (k : Die) (ra : RegNo)
  | ret (k : Die)
  | addi (k : Die) (rd ra : RegNo) (imm : BitVec 16)
  | andi (k : Die) (rd ra : RegNo) (imm : BitVec 16)
  | ori (k : Die) (rd ra : RegNo) (imm : BitVec 16)
  | xori (k : Die) (rd ra : RegNo) (imm : BitVec 16)
  | clti (k : Die) (rd ra : RegNo) (imm : BitVec 16)
  | cltiu (k : Die) (rd ra : RegNo) (imm : BitVec 16)
  | ldhi (k : Die) (rd : RegNo) (imm : BitVec 16)
  | ldw (k : Die) (rd ra : RegNo) (imm : BitVec 16)
  | ldh (k : Die) (rd ra : RegNo) (imm : BitVec 16)
  | ldhu (k : Die) (rd ra : RegNo) (imm : BitVec 16)
  | ldb (k : Die) (rd ra : RegNo) (imm : BitVec 16)
  | ldbu (k : Die) (rd ra : RegNo) (imm : BitVec 16)
  | stw (k : Die) (rd ra : RegNo) (imm : BitVec 16)
  | sth (k : Die) (rd ra : RegNo) (imm : BitVec 16)
  | stb (k : Die) (rd ra : RegNo) (imm : BitVec 16)
  | ldfw (k : Die) (rd ra : RegNo) (imm : BitVec 16)
  | stfw (k : Die) (rd ra : RegNo) (imm : BitVec 16)
  | beq (k : Die) (ra rb : RegNo) (disp : BitVec 16)
  | bne (k : Die) (ra rb : RegNo) (disp : BitVec 16)
  | blt (k : Die) (ra rb : RegNo) (disp : BitVec 16)
  | bge (k : Die) (ra rb : RegNo) (disp : BitVec 16)
  | bltu (k : Die) (ra rb : RegNo) (disp : BitVec 16)
  | bgeu (k : Die) (ra rb : RegNo) (disp : BitVec 16)
  | jmp (k : Die) (disp : BitVec 16)
  | call (k : Die) (disp : BitVec 16)
  | rdsr (k : Die) (rd : RegNo) (sr : BitVec 5)
  | wrsr (k : Die) (ra : RegNo) (sr : BitVec 5)
  | lck (k : Die)
  | ulk (k : Die)
  | lockovr (k : Die)
  | trap (k : Die) (code : BitVec 5)
  | rfe (k : Die)
  | wait (k : Die)
  | brk (k : Die)
  | interrupt (k : Die)
  -- Guest code, debug, levels, watchdog (R269 to R277, R386, R407)
  | guestPage (v : List Byte)
  | guestActivate (c : CmdIn)
  | guestStop
  | enableCoreDebug (c : CmdIn)
  | debugExpiry
  | debugHalt
  | resume
  | step
  | debugPeek (a : BitVec 25)
  | debugConsume (a : BitVec 25)
  | debugWrite (a : BitVec 25) (d : Word)
  | lockstepMismatch (a : BitVec 25)
  | performanceLevel (level : Fin 4)
  | transitionEnd
  | levelDrop
  | wdkick (v : Word)
  | watchdog
  -- Memory and settings (R279 to R299)
  | scrub
  | nvmProgramDone
  | nvmEraseDone (verified : Bool)
  | store (v : List Byte)
  | storeComplete (fieldOk hostOk : Bool)
  | restoreDefaults (v : List Byte)
  | checkNewImage (c : CmdIn)
  | journalCheckpoint
  | fieldReset
  | hostReset
  -- LDP, observers and the journal (R300 to R329)
  | read (u : LdpIn)
  | nextRecord (peer : Peer) (rid : Nat)
  | write (u : LdpIn)
  | counterClear (idx : Nat) (v : List Byte)
  | subscribe (u : LdpIn)
  | eventAck (u : LdpIn)
  | eventResend (peer : Peer)
  | journalAck (u : LdpIn)
  | journalResend (k : Fin 4)
  | setRightsMask (c : CmdIn)
  | slotHoldEnd (slot : Fin 16)
  -- Ring (R330 to R346)
  | ringFrame (p : Port) (f : RingIn)
  | wakeFrame (p : Port) (f : RingIn)
  | supervision (backA backB : Bool)
  | nodeForget (mac : Nat)
  | entryForget (mac seq : Nat)
  | linkUp (p : Port)
  | linkDown (p : Port)
  | hostReady
  | lowPowerIdle (p : Port)
  | ringLoopback (v : List Byte)
  | ringLoopbackEnd (sent matched : Nat)
  | addressChange
  | serviceArp
  -- SPI (R347 to R358)
  | spiIdle (sel : Sel) (frame : List Byte) (both : Bool)
  | spiUnit (sel : Sel) (frame : List Byte) (both : Bool)
  | spiEcho (sel : Sel) (frame : List Byte) (both : Bool)
  | shiftRegisterEcho (peer : Peer) (v : List Byte)
  | echoDurationEnd
  -- Twin (R359 to R380)
  | heartbeatTick
  | heartbeat (f : List Byte)
  | heartbeatMissed
  | haltIn
  | fieldAbsent (f : Fin 16)
  | fieldQuery (f : List Byte) (feeder : Fin 16)
  | fieldReply (f : List Byte) (feeder : Fin 16) (fwd commanded : Nat)
  | fieldQueryTimeout (feeder : Fin 16)
  | mJournal (f : List Byte)
  | mWave (f : List Byte) (w : WaveMsg)
  | mClose (f : List Byte) (gen digest : Nat)
  | mCounter (f : List Byte) (slot : Fin 16) (ctr : Nat)
  | mReserve (f : List Byte) (r : ReserveMsg)
  | mInflight (f : List Byte) (c : ChangeMsg)
  | mService (f : List Byte) (c : ChangeMsg)
  | mKeys (f : List Byte) (m : KeysMsg)
  | mDict (f : List Byte) (m : DictMsg)
  | mHost (f : List Byte) (m : HostMsg)
  | mPower (f : List Byte) (curfew : Bool)
  | haltNotice (f : List Byte)
  | handover (f : List Byte)
  | pair (f : List Byte)
  | resyncData (f : List Byte) (parts : List ResyncPart)
  | roleDecision (roleIn : Bool)
  | yield
  | mirrorTimeout
  | loadTwinKey (c : CmdIn)
  | handOverLead (c : CmdIn)
  | handoverAbandoned
  -- Faults (R381 to R399)
  | acknowledgeFaults (v : List Byte)
  | acknowledgeAnyLevel (c : CmdIn)
  | ack (mask : BitVec 12)
  | caprel
  | releaseCapture (v : List Byte)
  | fltqConsume
  | restartDelay (d : Die)
  | carrierOutOfTolerance (ppm : BitVec 16)
  | pllUnlock
  | railOutOfRange (rail : Nat) (mv : Nat)
  | injectFault (c : CmdIn)
  -- Supply and power states (R400 to R425)
  | mainsAbsent
  | returnToMains
  | auxOutOfRange (v10 : Nat)
  | powerFailWarning
  | warningClear
  | powerLoss
  | enterLantern
  | enterCurfew
  | enterCurfewDiscarding
  | curfewWindowEnd (levelEvent : Option Nat)
  | wake (src : Fin 9)
  | wakeSymbol (d : Die)
  | wakeFailure (d : Die)
  | brownout (d : Die)
  | padrel (d : Die) (mask : BitVec 4)
  -- Door link (R426 to R461)
  | sleep (after : Then)
  | idle (after : Then)
  | fsOn (after : Then)
  | rx (after : Then)
  | tx (after : Then) (urgent pri : Bool) (pkt : BitVec 8)
  | calibrate
  | calibrateNow (v : List Byte)
  | transmitHead
  | leadEnd (grant : Bool)
  | coexRetry
  | packetSent (airUs : Nat) (lossBad : Bool)
  | settleEnd
  | synthesiserCalibrationDone
  | temperatureSample (c : Int)
  | backgroundCalibration (iq abandoned : Bool) (imageDb : Nat)
  | lossOfLock
  | grantWithdrawn
  | dutyBucket
  | sniffPeriod (preamble : Option Int)
  | stfDetection (opts : List Nat)
  | phr (hcsOk : Bool) (rate len : Nat)
  | xhr (hcsOk : Bool) (addr gen : Nat)
  | packetReceived (p : DoorPacket)
  | mapSetAck (node : Fin 1024)
  | mapReport (node : Fin 1024) (gen : Nat) (map : List Byte)
  | doorLinkLoopback (v : List Byte)
  | doorLinkLoopbackEnd (matched : Nat)
  -- Calibration and loop-backs (R462 to R478)
  | calibrationStart (v : List Byte)
  | calibrationDue (code target : Nat)
  | calibrationDone (m : CalMeasure)
  | correctionStep
  | commitCalibration (c : CmdIn)
  | hfLoopback (v : List Byte)
  | hfLoopbackEnd (sent matched : Nat) (good : Bool)
  -- Registers and late rows
  | registerWrite (bank : BitVec 9) (off : BitVec 16) (v : Word)
  | frameEnd (t : Fin 9) (dur : Nat)
  | unassignedOpcode (k : Die) (w : Word)
  | hbInEdge
  | heartbeatLineBroken
  | collectorParityError
  deriving DecidableEq, Repr

end Sys2Proof
end

