-- ==== Sys2Proof/Decode.lean ====
section
/-!
DEFINITION. The command that a word of the table's bits spells. No row of spec/opcode_table.json gives a bit
("fields" is empty in each), so no word spells a command.
-/

namespace Sys2Proof

/-- The command that `nbits` bits `w` spell by the table: none, since the table gives no row a bit. -/
def decodeTableWord (_nbits _w : Nat) : Option Instr := none

end Sys2Proof
end

