-- ==== Sys2Proof/Machine/Catalogue.lean ====
section
/-!
DEFINITION. The Loand dictionary's catalogue: each object's address, type, access kind, range and default (R300, R301).
-/

namespace Sys2Proof.Machine

open Sys2Proof

/-- The types of R301; `bytes n true` permits a shorter form. -/
inductive ObjType where
  | nat (bytes : Nat)
  | s32
  | bool
  | q16
  | bytes (n : Nat) (short : Bool)
  | str (n : Nat)
  deriving DecidableEq, Repr

/-- The access kinds of R12. -/
inductive ObjAccess where
  | ro | rw | wo | rws | cmd
  deriving DecidableEq, Repr

/-- The values a write may carry: the object's stated range or its listed encodings (R9, R301). -/
inductive ObjRange where
  | any
  | range (lo hi : Int)
  | rangeOr (lo hi extra : Int)
  | oneOf (vs : List Int)
  /-- A mask whose bit 0 is 0. -/
  | even
  deriving DecidableEq, Repr

/-- A row of an object table: index, how many indexes it repeats over, first and last sub-index. -/
structure Obj where
  idx : Nat
  span : Nat
  sub0 : Nat
  sub1 : Nat
  ty : ObjType
  access : ObjAccess
  range : ObjRange
  dflt : List Byte
  deriving DecidableEq, Repr

/-- `n` zero bytes. -/
def zeros (n : Nat) : List Byte := List.replicate n 0

/-- The objects of R31. -/
def objectsR31 : List Obj := [
  ⟨0xA020, 1, 0x00, 0x00, .nat 1, .wo, .range 0 0, []⟩,
  ⟨0xA020, 1, 0x01, 0x01, .nat 4, .ro, .any, []⟩,
  ⟨0xA020, 1, 0x02, 0x02, .nat 4, .ro, .any, []⟩,
  ⟨0xA020, 1, 0x03, 0x03, .nat 4, .ro, .any, []⟩,
  ⟨0xA020, 1, 0x04, 0x04, .nat 4, .ro, .any, []⟩,
  ⟨0xA020, 1, 0x05, 0x05, .nat 4, .ro, .any, []⟩,
  ⟨0xA020, 1, 0x06, 0x06, .nat 4, .ro, .any, []⟩,
  ⟨0xA020, 1, 0x07, 0x07, .nat 4, .ro, .any, []⟩,
  ⟨0xA020, 1, 0x08, 0x08, .nat 4, .ro, .any, []⟩,
  ⟨0xA021, 1, 0x00, 0x00, .nat 1, .wo, .range 0 0, []⟩,
  ⟨0xA021, 1, 0x01, 0x08, .nat 4, .ro, .any, []⟩]

/-- The objects of R55. -/
def objectsR55 : List Obj := [
  ⟨0x6001, 1, 0x01, 0x01, .nat 1, .rws, .oneOf [50, 60], natLE 1 50⟩,
  ⟨0x6001, 1, 0x02, 0x02, .nat 1, .ro, .any, []⟩,
  ⟨0x6001, 1, 0x03, 0x03, .q16, .ro, .any, []⟩,
  ⟨0x6001, 1, 0x04, 0x04, .nat 4, .ro, .any, []⟩,
  ⟨0x6001, 1, 0x05, 0x05, .nat 4, .ro, .any, []⟩,
  ⟨0x6002, 1, 0x01, 0x01, .bool, .rws, .any, natLE 1 1⟩,
  ⟨0x6002, 1, 0x02, 0x02, .nat 1, .ro, .any, []⟩]

/-- The objects of R114. -/
def objectsR114 : List Obj := [
  ⟨0x2010, 16, 0x01, 0x01, .bool, .rws, .any, natLE 1 1⟩,
  ⟨0x2010, 16, 0x02, 0x02, .bool, .rws, .any, natLE 1 0⟩,
  ⟨0x2010, 16, 0x03, 0x03, .nat 1, .ro, .any, []⟩,
  ⟨0x2010, 16, 0x04, 0x04, .nat 2, .ro, .any, []⟩,
  ⟨0x2010, 16, 0x05, 0x05, .nat 4, .ro, .any, []⟩,
  ⟨0x2020, 1, 0x01, 0x01, .q16, .ro, .any, []⟩,
  ⟨0x2020, 1, 0x02, 0x02, .q16, .ro, .any, []⟩,
  ⟨0x2020, 1, 0x03, 0x03, .nat 4, .ro, .any, []⟩,
  ⟨0x2020, 1, 0x04, 0x04, .q16, .ro, .any, []⟩,
  ⟨0x2020, 1, 0x05, 0x05, .q16, .ro, .any, []⟩,
  ⟨0x2020, 1, 0x06, 0x06, .q16, .ro, .any, []⟩,
  ⟨0x2020, 1, 0x07, 0x07, .nat 1, .ro, .any, []⟩,
  ⟨0x2020, 1, 0x08, 0x08, .nat 4, .ro, .any, []⟩,
  ⟨0x2020, 1, 0x09, 0x09, .nat 4, .ro, .any, []⟩,
  ⟨0x2100, 8, 0x01, 0x01, .nat 1, .rws, .range 2 40, natLE 1 10⟩,
  ⟨0x2100, 8, 0x02, 0x02, .nat 1, .rws, .range 2 40, natLE 1 10⟩,
  ⟨0x2100, 8, 0x03, 0x03, .nat 1, .rws, .range 0 1, natLE 1 1⟩,
  ⟨0x2100, 8, 0x04, 0x04, .q16, .ro, .any, natLE 4 262144⟩,
  ⟨0x2100, 8, 0x05, 0x05, .nat 2, .ro, .any, []⟩,
  ⟨0x2100, 8, 0x06, 0x06, .nat 2, .ro, .any, []⟩,
  ⟨0x2100, 8, 0x07, 0x07, .nat 1, .ro, .any, []⟩,
  ⟨0x2100, 8, 0x08, 0x08, .nat 4, .ro, .any, []⟩,
  ⟨0x2200, 256, 0x01, 0x01, .bool, .rws, .any, natLE 1 1⟩,
  ⟨0x2200, 256, 0x02, 0x02, .q16, .rws, .range 0 2147483647, natLE 4 98304⟩,
  ⟨0x2200, 256, 0x03, 0x09, .q16, .rws, .range 0 2147483647, natLE 4 0⟩,
  ⟨0x2200, 256, 0x0A, 0x0A, .q16, .ro, .any, []⟩,
  ⟨0x2200, 256, 0x0B, 0x0B, .nat 1, .ro, .any, []⟩,
  ⟨0x2200, 256, 0x0C, 0x0C, .q16, .ro, .any, natLE 4 491520⟩]

/-- The objects of R143. -/
def objectsR143 : List Obj := [
  ⟨0x3010, 16, 0x01, 0x01, .nat 1, .rws, .range 6 60, natLE 1 20⟩,
  ⟨0x3010, 16, 0x02, 0x02, .nat 1, .ro, .any, []⟩,
  ⟨0x3010, 16, 0x03, 0x03, .nat 4, .ro, .any, []⟩,
  ⟨0x3010, 16, 0x04, 0x04, .nat 4, .ro, .any, []⟩,
  ⟨0x3010, 16, 0x05, 0x05, .nat 4, .ro, .any, []⟩,
  ⟨0x3010, 16, 0x06, 0x06, .nat 4, .ro, .any, []⟩,
  ⟨0x3010, 16, 0x07, 0x07, .nat 4, .ro, .any, []⟩,
  ⟨0x3100, 1, 0x01, 0x01, .nat 8, .rws, .any, natLE 8 0⟩,
  ⟨0x3100, 1, 0x02, 0x02, .nat 1, .wo, .range 1 1, []⟩,
  ⟨0x3100, 1, 0x03, 0x03, .nat 1, .ro, .any, []⟩,
  ⟨0x3100, 1, 0x04, 0x04, .bool, .ro, .any, []⟩,
  ⟨0x3101, 1, 0x01, 0x40, .nat 8, .ro, .any, []⟩,
  ⟨0x3200, 1, 0x01, 0x01, .nat 2, .rw, .any, natLE 2 0⟩,
  ⟨0x3200, 1, 0x02, 0x02, .nat 1, .rw, .range 0 3, natLE 1 0⟩,
  ⟨0x3200, 1, 0x03, 0x03, .nat 2, .rw, .range 0 32767, natLE 2 0⟩,
  ⟨0x3200, 1, 0x04, 0x04, .nat 2, .rw, .range 0 32767, natLE 2 0⟩,
  ⟨0x3200, 1, 0x05, 0x05, .nat 1, .wo, .range 0 1, []⟩,
  ⟨0x3200, 1, 0x06, 0x06, .nat 1, .ro, .any, []⟩,
  ⟨0x3200, 1, 0x07, 0x07, .nat 4, .ro, .any, []⟩,
  ⟨0x3200, 1, 0x08, 0x08, .nat 8, .ro, .any, []⟩,
  ⟨0x3201, 1, 0x01, 0x01, .nat 2, .rw, .range 0 8191, natLE 2 0⟩,
  ⟨0x3201, 1, 0x02, 0x02, .bytes 256 false, .ro, .any, []⟩]

/-- The objects of R166. -/
def objectsR166 : List Obj := [
  ⟨0x6140, 1, 0x01, 0x01, .nat 4, .rw, .any, natLE 4 0⟩,
  ⟨0x6140, 1, 0x02, 0x02, .nat 2, .rw, .range 1 2048, natLE 2 0⟩,
  ⟨0x6140, 1, 0x03, 0x03, .nat 1, .rw, .range 0 7, natLE 1 0⟩,
  ⟨0x6140, 1, 0x04, 0x04, .bytes 256 true, .wo, .any, []⟩,
  ⟨0x6140, 1, 0x05, 0x05, .nat 1, .wo, .range 1 1, []⟩,
  ⟨0x6140, 1, 0x06, 0x06, .nat 1, .ro, .any, []⟩,
  ⟨0x6140, 1, 0x07, 0x07, .nat 2, .ro, .any, []⟩,
  ⟨0x6140, 1, 0x08, 0x08, .nat 1, .rw, .range 0 7, natLE 1 0⟩,
  ⟨0x6140, 1, 0x09, 0x09, .bytes 256 true, .ro, .any, []⟩]

/-- The objects of R171. -/
def objectsR171 : List Obj := [
  ⟨0x6100, 1, 0x01, 0x01, .nat 1, .rws, .range 0 8, natLE 1 8⟩,
  ⟨0x6100, 1, 0x02, 0x02, .nat 1, .rws, .range 0 3, natLE 1 2⟩,
  ⟨0x6100, 1, 0x03, 0x03, .nat 1, .rws, .range 0 3, natLE 1 2⟩,
  ⟨0x6100, 1, 0x04, 0x04, .nat 1, .rws, .range 1 4, natLE 1 3⟩,
  ⟨0x6100, 1, 0x05, 0x05, .nat 2, .ro, .any, []⟩,
  ⟨0x6100, 1, 0x06, 0x06, .nat 1, .rws, .range 5 50, natLE 1 5⟩,
  ⟨0x6100, 1, 0x07, 0x07, .nat 1, .rws, .range 1 50, natLE 1 1⟩,
  ⟨0x6100, 1, 0x08, 0x08, .nat 1, .rws, .range 20 50, natLE 1 20⟩,
  ⟨0x6100, 1, 0x09, 0x09, .bool, .rws, .any, natLE 1 1⟩,
  ⟨0x6101, 1, 0x01, 0x01, .nat 4, .ro, .any, []⟩,
  ⟨0x6101, 1, 0x02, 0x02, .nat 4, .ro, .any, []⟩,
  ⟨0x6101, 1, 0x03, 0x03, .nat 4, .ro, .any, []⟩,
  ⟨0x6101, 1, 0x04, 0x04, .nat 4, .ro, .any, []⟩,
  ⟨0x6101, 1, 0x05, 0x05, .nat 4, .ro, .any, []⟩,
  ⟨0x6110, 1, 0x01, 0x40, .bytes 32 false, .rws, .any, zeros 32⟩,
  ⟨0x6120, 1, 0x01, 0x01, .nat 1, .rw, .range 0 63, natLE 1 0⟩,
  ⟨0x6120, 1, 0x02, 0x02, .nat 4, .rw, .any, natLE 4 0⟩,
  ⟨0x6120, 1, 0x03, 0x03, .bytes 32 true, .rw, .any, []⟩,
  ⟨0x6120, 1, 0x04, 0x04, .nat 1, .wo, .range 1 1, []⟩,
  ⟨0x6120, 1, 0x05, 0x05, .nat 1, .ro, .any, []⟩,
  ⟨0x6120, 1, 0x06, 0x06, .nat 1, .ro, .any, []⟩,
  ⟨0x6120, 1, 0x07, 0x07, .bytes 32 true, .ro, .any, []⟩]

/-- The objects of R201. -/
def objectsR201 : List Obj := [
  ⟨0x4001, 1, 0x01, 0x01, .nat 1, .rws, .range 1 15, natLE 1 2⟩,
  ⟨0x4001, 1, 0x02, 0x02, .nat 1, .rws, .range 1 15, natLE 1 3⟩,
  ⟨0x4001, 1, 0x03, 0x03, .nat 1, .rws, .range 10 40, natLE 1 26⟩,
  ⟨0x4001, 1, 0x04, 0x04, .nat 4, .ro, .any, []⟩,
  ⟨0x4001, 1, 0x05, 0x05, .nat 4, .ro, .any, []⟩,
  ⟨0x4001, 1, 0x06, 0x06, .nat 4, .ro, .any, []⟩,
  ⟨0x4001, 1, 0x07, 0x07, .nat 4, .ro, .any, []⟩,
  ⟨0x4001, 1, 0x08, 0x08, .bool, .ro, .any, []⟩,
  ⟨0x4001, 1, 0x09, 0x09, .nat 4, .ro, .any, []⟩,
  ⟨0x4001, 1, 0x0A, 0x0A, .nat 4, .ro, .any, []⟩,
  ⟨0x4003, 1, 0x01, 0x01, .bytes 24 false, .cmd, .any, []⟩,
  ⟨0x4010, 16, 0x01, 0x01, .bytes 32 false, .rws, .any, zeros 32⟩,
  ⟨0x4010, 16, 0x02, 0x02, .nat 1, .rws, .range 0 31, natLE 1 0⟩,
  ⟨0x4010, 16, 0x03, 0x03, .nat 1, .rws, .any, natLE 1 255⟩,
  ⟨0x4010, 16, 0x04, 0x04, .nat 2, .rws, .rangeOr 10 60000 0, natLE 2 0⟩,
  ⟨0x4010, 16, 0x05, 0x05, .nat 1, .wo, .range 1 1, []⟩,
  ⟨0x4010, 16, 0x06, 0x06, .nat 1, .ro, .any, []⟩,
  ⟨0x4010, 16, 0x07, 0x07, .nat 2, .ro, .any, []⟩,
  ⟨0x4010, 16, 0x08, 0x08, .nat 4, .ro, .any, []⟩,
  ⟨0x4010, 16, 0x09, 0x09, .nat 2, .ro, .any, []⟩,
  ⟨0x4010, 16, 0x0A, 0x0A, .nat 2, .ro, .any, []⟩,
  ⟨0x4010, 16, 0x0B, 0x0B, .nat 4, .ro, .any, []⟩,
  ⟨0x4010, 16, 0x0C, 0x0C, .nat 4, .ro, .any, []⟩,
  ⟨0x4100, 1, 0x01, 0x01, .nat 1, .rw, .range 1 3, natLE 1 1⟩,
  ⟨0x4100, 1, 0x02, 0x02, .nat 4, .rw, .any, natLE 4 0⟩,
  ⟨0x4100, 1, 0x03, 0x03, .nat 1, .rw, .any, natLE 1 0⟩,
  ⟨0x4100, 1, 0x04, 0x04, .nat 1, .rw, .any, natLE 1 255⟩,
  ⟨0x4100, 1, 0x05, 0x05, .nat 1, .wo, .range 1 1, []⟩,
  ⟨0x4100, 1, 0x06, 0x06, .nat 1, .ro, .any, []⟩,
  ⟨0x4100, 1, 0x07, 0x07, .nat 4, .ro, .any, []⟩,
  ⟨0x4100, 1, 0x08, 0x08, .nat 2, .rw, .any, natLE 2 0⟩,
  ⟨0x4100, 1, 0x09, 0x09, .bytes 256 true, .ro, .any, []⟩,
  ⟨0x4100, 1, 0x0A, 0x0A, .nat 8, .ro, .any, []⟩,
  ⟨0x4100, 1, 0x0B, 0x0B, .bool, .rws, .any, natLE 1 1⟩,
  ⟨0x4200, 256, 0x01, 0x01, .nat 1, .rws, .any, natLE 1 0⟩,
  ⟨0x4200, 256, 0x02, 0x02, .nat 2, .rws, .rangeOr 0 255 65535, natLE 2 65535⟩]

/-- The objects of R223. -/
def objectsR223 : List Obj := [
  ⟨0x5001, 1, 0x01, 0x10, .nat 4, .ro, .any, []⟩,
  ⟨0x5001, 1, 0x11, 0x14, .nat 4, .ro, .any, []⟩,
  ⟨0x5001, 1, 0x41, 0x41, .nat 4, .ro, .any, []⟩,
  ⟨0x5001, 1, 0x42, 0x81, .nat 4, .ro, .any, []⟩,
  ⟨0x5001, 1, 0x82, 0xC1, .nat 4, .ro, .any, []⟩,
  ⟨0x5001, 1, 0xC2, 0xE1, .nat 4, .ro, .any, []⟩,
  ⟨0x5002, 1, 0x01, 0x01, .bytes 28 false, .cmd, .any, []⟩,
  ⟨0x5002, 1, 0x02, 0x02, .bytes 73 true, .cmd, .any, []⟩,
  ⟨0x5002, 1, 0x03, 0x03, .bytes 2 false, .cmd, .any, []⟩,
  ⟨0x5003, 1, 0x01, 0x01, .nat 1, .rws, .range 1 15, natLE 1 3⟩,
  ⟨0x5003, 1, 0x02, 0x02, .nat 1, .rws, .range 1 168, natLE 1 24⟩,
  ⟨0x5003, 1, 0x03, 0x03, .nat 4, .ro, .any, []⟩,
  ⟨0x5003, 1, 0x04, 0x04, .nat 2, .ro, .any, []⟩,
  ⟨0x5003, 1, 0x05, 0x05, .nat 4, .ro, .any, []⟩,
  ⟨0x5003, 1, 0x10, 0x10, .bytes 12 false, .cmd, .any, []⟩,
  ⟨0x5010, 16, 0x01, 0x01, .nat 1, .rws, .range 0 4, natLE 1 0⟩,
  ⟨0x5010, 16, 0x02, 0x02, .nat 2, .rws, .any, natLE 2 0⟩,
  ⟨0x5010, 16, 0x03, 0x03, .nat 2, .rws, .any, natLE 2 0⟩,
  ⟨0x5010, 16, 0x04, 0x04, .nat 1, .rws, .range 0 3, natLE 1 0⟩,
  ⟨0x5010, 16, 0x05, 0x05, .nat 1, .rws, .range 0 63, natLE 1 0⟩,
  ⟨0x5010, 16, 0x06, 0x06, .nat 1, .rws, .range 0 63, natLE 1 0⟩,
  ⟨0x5010, 16, 0x07, 0x07, .bytes 8 true, .rws, .any, []⟩,
  ⟨0x5010, 16, 0x08, 0x08, .bool, .rws, .any, natLE 1 0⟩,
  ⟨0x5010, 16, 0x09, 0x09, .nat 1, .rws, .range 0 63, natLE 1 0⟩,
  ⟨0x5010, 16, 0x0A, 0x0A, .bool, .ro, .any, []⟩,
  ⟨0x5010, 16, 0x0B, 0x0B, .nat 1, .rws, .rangeOr 0 63 255, natLE 1 255⟩,
  ⟨0x5010, 16, 0x0C, 0x0C, .nat 1, .rws, .range 0 1, natLE 1 1⟩,
  ⟨0x5020, 1, 0x01, 0x01, .nat 4, .rw, .any, natLE 4 0⟩,
  ⟨0x5020, 1, 0x02, 0x02, .nat 1, .rw, .range 1 3, natLE 1 1⟩,
  ⟨0x5020, 1, 0x03, 0x03, .nat 1, .wo, .range 1 1, []⟩,
  ⟨0x5020, 1, 0x04, 0x04, .nat 1, .ro, .any, []⟩]

/-- The objects of R241. -/
def objectsR241 : List Obj := [
  ⟨0x2400, 1, 0x01, 0x01, .nat 1, .rws, .range 0 15, natLE 1 6⟩,
  ⟨0x2400, 1, 0x02, 0x02, .nat 1, .rws, .range 0 100, natLE 1 0⟩,
  ⟨0x2400, 1, 0x03, 0x03, .nat 1, .rws, .any, natLE 1 0⟩,
  ⟨0x2400, 1, 0x04, 0x04, .nat 2, .rws, .range 62 2000, natLE 2 250⟩,
  ⟨0x2400, 1, 0x05, 0x05, .nat 1, .rws, .any, natLE 1 0⟩,
  ⟨0x2400, 1, 0x06, 0x06, .nat 2, .rws, .range 0 5000, natLE 2 500⟩,
  ⟨0x2400, 1, 0x07, 0x07, .nat 4, .ro, .any, []⟩,
  ⟨0x2400, 1, 0x08, 0x08, .nat 1, .wo, .range 1 1, []⟩,
  ⟨0x2401, 1, 0x01, 0x40, .bool, .rw, .any, natLE 1 0⟩,
  ⟨0x2500, 256, 0x01, 0x01, .bool, .rws, .any, natLE 1 0⟩,
  ⟨0x2500, 256, 0x02, 0x02, .nat 2, .rws, .range 1 65535, natLE 2 200⟩,
  ⟨0x2500, 256, 0x03, 0x03, .bool, .rws, .any, natLE 1 0⟩,
  ⟨0x2500, 256, 0x04, 0x04, .nat 1, .rws, .rangeOr 0 63 255, natLE 1 255⟩,
  ⟨0x2500, 256, 0x05, 0x05, .nat 1, .rws, .rangeOr 0 15 255, natLE 1 255⟩,
  ⟨0x2500, 256, 0x06, 0x06, .nat 2, .rws, .range 0 60000, natLE 2 2000⟩,
  ⟨0x2500, 256, 0x07, 0x07, .nat 2, .ro, .any, []⟩,
  ⟨0x2500, 256, 0x08, 0x08, .nat 8, .ro, .any, []⟩,
  ⟨0x2500, 256, 0x09, 0x09, .nat 4, .ro, .any, []⟩]

/-- The objects of R278. -/
def objectsR278 : List Obj := [
  ⟨0x6130, 1, 0x01, 0x01, .bytes 8 false, .cmd, .any, []⟩,
  ⟨0x6130, 1, 0x02, 0x02, .nat 1, .ro, .any, []⟩,
  ⟨0x6130, 1, 0x03, 0x03, .nat 4, .rws, .range 1000 1000000, natLE 4 20000⟩,
  ⟨0x6130, 1, 0x04, 0x04, .nat 4, .ro, .any, []⟩,
  ⟨0x6130, 1, 0x05, 0x05, .nat 4, .ro, .any, []⟩,
  ⟨0x6130, 1, 0x06, 0x06, .nat 4, .ro, .any, []⟩,
  ⟨0x6131, 1, 0x01, 0x01, .nat 2, .rw, .range 0 7935, natLE 2 0⟩,
  ⟨0x6131, 1, 0x02, 0x02, .bytes 256 false, .wo, .any, []⟩,
  ⟨0xE001, 1, 0x01, 0x01, .bytes 2 false, .cmd, .any, []⟩,
  ⟨0xE001, 1, 0x02, 0x02, .nat 2, .ro, .any, []⟩,
  ⟨0xE001, 1, 0x03, 0x03, .nat 4, .ro, .any, []⟩,
  ⟨0xE001, 1, 0x04, 0x04, .nat 4, .ro, .any, []⟩]

/-- The objects of R299. -/
def objectsR299 : List Obj := [
  ⟨0x1010, 1, 0x01, 0x01, .nat 1, .wo, .range 1 1, []⟩,
  ⟨0x1010, 1, 0x02, 0x02, .nat 1, .ro, .any, []⟩,
  ⟨0x1010, 1, 0x03, 0x03, .nat 4, .ro, .any, []⟩,
  ⟨0x1010, 1, 0x04, 0x04, .nat 4, .ro, .any, []⟩,
  ⟨0x1010, 1, 0x05, 0x05, .bool, .ro, .any, []⟩,
  ⟨0x1010, 1, 0x06, 0x06, .bool, .ro, .any, []⟩,
  ⟨0x1010, 1, 0x07, 0x07, .nat 1, .ro, .any, []⟩,
  ⟨0x1010, 1, 0x08, 0x08, .nat 1, .ro, .any, []⟩,
  ⟨0x1010, 1, 0x09, 0x09, .bool, .ro, .any, []⟩,
  ⟨0x1011, 1, 0x01, 0x01, .nat 1, .wo, .range 1 1, []⟩,
  ⟨0x1020, 1, 0x01, 0x01, .nat 1, .ro, .any, []⟩,
  ⟨0x1020, 1, 0x02, 0x02, .nat 4, .ro, .any, []⟩,
  ⟨0x1020, 1, 0x03, 0x03, .nat 4, .ro, .any, []⟩,
  ⟨0x1F20, 1, 0x01, 0x01, .bytes 8 false, .cmd, .any, []⟩,
  ⟨0x1F21, 1, 0x01, 0x01, .nat 2, .rw, .range 0 6143, natLE 2 0⟩,
  ⟨0x1F21, 1, 0x02, 0x02, .bytes 256 false, .wo, .any, []⟩,
  ⟨0xA030, 1, 0x01, 0x01, .nat 4, .ro, .any, []⟩,
  ⟨0xA030, 1, 0x02, 0x02, .nat 4, .ro, .any, []⟩,
  ⟨0xA030, 1, 0x03, 0x03, .nat 4, .ro, .any, []⟩,
  ⟨0xA030, 1, 0x04, 0x04, .nat 4, .ro, .any, []⟩]

/-- The objects of R303. -/
def objectsR303 : List Obj := [
  ⟨0x1000, 1, 0x00, 0x00, .nat 1, .ro, .any, []⟩,
  ⟨0x1000, 1, 0x01, 0x01, .str 16, .ro, .any, []⟩,
  ⟨0x1000, 1, 0x02, 0x02, .nat 1, .ro, .any, []⟩,
  ⟨0x1000, 1, 0x03, 0x03, .nat 2, .ro, .any, []⟩,
  ⟨0x1000, 1, 0x04, 0x04, .str 16, .ro, .any, []⟩,
  ⟨0x1000, 1, 0x05, 0x05, .nat 4, .ro, .any, []⟩,
  ⟨0x1000, 1, 0x06, 0x06, .nat 4, .ro, .any, []⟩,
  ⟨0x1000, 1, 0x07, 0x07, .nat 2, .ro, .any, []⟩,
  ⟨0xA000, 1, 0x10, 0x10, .nat 4, .ro, .any, []⟩]

/-- The objects of R319. -/
def objectsR319 : List Obj := [
  ⟨0x1F00, 1, 0x01, 0x10, .nat 8, .ro, .any, []⟩,
  ⟨0x1F00, 1, 0x11, 0x11, .nat 4, .ro, .any, []⟩,
  ⟨0x1F00, 1, 0x12, 0x12, .nat 4, .ro, .any, []⟩,
  ⟨0x1F00, 1, 0x13, 0x13, .nat 4, .ro, .any, []⟩,
  ⟨0x1F00, 1, 0x14, 0x14, .nat 4, .ro, .any, []⟩,
  ⟨0x1F01, 1, 0x01, 0x10, .nat 2, .ro, .any, []⟩,
  ⟨0x1F02, 1, 0x01, 0x01, .bytes 4 false, .cmd, .any, []⟩]

/-- The objects of R329. -/
def objectsR329 : List Obj := [
  ⟨0xD000, 1, 0x01, 0x01, .nat 8, .ro, .any, []⟩,
  ⟨0xD000, 1, 0x02, 0x02, .nat 8, .ro, .any, []⟩,
  ⟨0xD000, 1, 0x03, 0x03, .nat 4, .ro, .any, []⟩,
  ⟨0xD000, 1, 0x04, 0x04, .bool, .ro, .any, []⟩,
  ⟨0xD000, 1, 0x05, 0x05, .nat 4, .ro, .any, []⟩,
  ⟨0xD000, 1, 0x06, 0x06, .nat 4, .ro, .any, []⟩,
  ⟨0xD000, 1, 0x07, 0x07, .nat 4, .ro, .any, []⟩,
  ⟨0xD000, 1, 0x08, 0x08, .nat 4, .ro, .any, []⟩,
  ⟨0xD000, 1, 0x09, 0x09, .nat 4, .ro, .any, []⟩,
  ⟨0xD010, 4, 0x01, 0x01, .bool, .rws, .any, natLE 1 0⟩,
  ⟨0xD010, 4, 0x02, 0x02, .nat 1, .rws, .range 0 1, natLE 1 0⟩,
  ⟨0xD010, 4, 0x03, 0x03, .nat 4, .rws, .any, natLE 4 0⟩,
  ⟨0xD010, 4, 0x04, 0x04, .nat 2, .rws, .any, natLE 2 48211⟩,
  ⟨0xD010, 4, 0x05, 0x05, .bool, .rws, .any, natLE 1 1⟩,
  ⟨0xD010, 4, 0x06, 0x06, .nat 2, .rws, .range 16 4096, natLE 2 1024⟩,
  ⟨0xD010, 4, 0x07, 0x07, .nat 2, .rws, .range 50 10000, natLE 2 500⟩,
  ⟨0xD010, 4, 0x08, 0x08, .nat 8, .ro, .any, []⟩,
  ⟨0xD010, 4, 0x09, 0x09, .nat 8, .ro, .any, []⟩]

/-- The objects of R346. -/
def objectsR346 : List Obj := [
  ⟨0x8001, 1, 0x01, 0x01, .nat 4, .rws, .any, natLE 4 0⟩,
  ⟨0x8001, 1, 0x02, 0x02, .nat 4, .rws, .any, natLE 4 4294901760⟩,
  ⟨0x8001, 1, 0x03, 0x03, .nat 4, .rws, .any, natLE 4 0⟩,
  ⟨0x8001, 1, 0x04, 0x04, .nat 4, .ro, .any, []⟩,
  ⟨0x8001, 1, 0x05, 0x05, .nat 2, .rws, .range 1024 65535, natLE 2 48211⟩,
  ⟨0x8001, 1, 0x06, 0x06, .bytes 6 false, .ro, .any, []⟩,
  ⟨0x8001, 1, 0x07, 0x07, .bool, .rws, .any, natLE 1 1⟩,
  ⟨0x8002, 1, 0x01, 0x01, .nat 1, .ro, .any, []⟩,
  ⟨0x8002, 1, 0x02, 0x02, .nat 1, .ro, .any, []⟩,
  ⟨0x8002, 1, 0x03, 0x03, .bool, .rws, .any, natLE 1 1⟩,
  ⟨0x8002, 1, 0x04, 0x04, .nat 4, .ro, .any, []⟩,
  ⟨0x8002, 1, 0x05, 0x05, .nat 4, .ro, .any, []⟩,
  ⟨0x8002, 1, 0x06, 0x06, .nat 4, .ro, .any, []⟩,
  ⟨0x8002, 1, 0x07, 0x07, .nat 4, .ro, .any, []⟩,
  ⟨0x8002, 1, 0x08, 0x08, .nat 4, .ro, .any, []⟩,
  ⟨0x8003, 1, 0x01, 0x01, .nat 2, .rws, .range 500 10000, natLE 2 2000⟩,
  ⟨0x8003, 1, 0x02, 0x02, .bool, .ro, .any, []⟩,
  ⟨0x8003, 1, 0x03, 0x03, .nat 1, .ro, .any, []⟩,
  ⟨0x8003, 1, 0x04, 0x04, .nat 4, .ro, .any, []⟩,
  ⟨0x8003, 1, 0x05, 0x05, .nat 4, .ro, .any, []⟩,
  ⟨0x8003, 1, 0x06, 0x06, .nat 4, .ro, .any, []⟩,
  ⟨0x8003, 1, 0x07, 0x07, .nat 4, .ro, .any, []⟩,
  ⟨0x8003, 1, 0x08, 0x08, .nat 4, .ro, .any, []⟩,
  ⟨0x8005, 1, 0x01, 0x01, .nat 1, .ro, .any, []⟩,
  ⟨0x8005, 1, 0x02, 0x02, .nat 4, .ro, .any, []⟩,
  ⟨0x8005, 1, 0x03, 0x03, .nat 4, .ro, .any, []⟩,
  ⟨0x8005, 1, 0x04, 0x04, .nat 4, .ro, .any, []⟩,
  ⟨0x8005, 1, 0x05, 0x05, .nat 4, .ro, .any, []⟩,
  ⟨0x8006, 1, 0x01, 0x01, .nat 4, .rws, .any, natLE 4 0⟩,
  ⟨0x8006, 1, 0x02, 0x02, .bytes 6 false, .rws, .any, zeros 6⟩,
  ⟨0x8006, 1, 0x03, 0x03, .bool, .ro, .any, []⟩,
  ⟨0x8007, 1, 0x01, 0x01, .nat 1, .rw, .range 1 4, natLE 1 1⟩,
  ⟨0x8007, 1, 0x02, 0x02, .nat 1, .wo, .range 1 1, []⟩,
  ⟨0x8007, 1, 0x03, 0x03, .nat 1, .ro, .any, []⟩,
  ⟨0x8007, 1, 0x04, 0x04, .nat 2, .ro, .any, []⟩,
  ⟨0x8007, 1, 0x05, 0x05, .nat 2, .ro, .any, []⟩]

/-- The objects of R358. -/
def objectsR358 : List Obj := [
  ⟨0x8800, 1, 0x00, 0x00, .nat 1, .wo, .range 0 0, []⟩,
  ⟨0x8800, 1, 0x01, 0x01, .nat 4, .ro, .any, []⟩,
  ⟨0x8800, 1, 0x02, 0x02, .nat 4, .ro, .any, []⟩,
  ⟨0x8800, 1, 0x03, 0x03, .nat 4, .ro, .any, []⟩,
  ⟨0x8800, 1, 0x04, 0x04, .nat 4, .ro, .any, []⟩,
  ⟨0x8800, 1, 0x05, 0x05, .nat 4, .ro, .any, []⟩,
  ⟨0x8800, 1, 0x06, 0x06, .nat 4, .ro, .any, []⟩,
  ⟨0x8800, 1, 0x07, 0x07, .nat 4, .ro, .any, []⟩,
  ⟨0x8800, 1, 0x08, 0x08, .nat 4, .ro, .any, []⟩,
  ⟨0x8800, 1, 0x09, 0x09, .nat 4, .ro, .any, []⟩,
  ⟨0x8800, 1, 0x0A, 0x0A, .nat 4, .ro, .any, []⟩,
  ⟨0x8800, 1, 0x0B, 0x0B, .bool, .ro, .any, []⟩,
  ⟨0x8800, 1, 0x0C, 0x0C, .bool, .rws, .any, natLE 1 1⟩,
  ⟨0x8801, 1, 0x01, 0x01, .nat 1, .rw, .range 0 1, natLE 1 0⟩,
  ⟨0x8801, 1, 0x02, 0x02, .nat 2, .rw, .range 1 600, natLE 2 60⟩]

/-- The objects of R380. -/
def objectsR380 : List Obj := [
  ⟨0x9000, 1, 0x01, 0x01, .bool, .rws, .any, natLE 1 0⟩,
  ⟨0x9000, 1, 0x02, 0x02, .nat 1, .ro, .any, []⟩,
  ⟨0x9000, 1, 0x03, 0x03, .nat 1, .ro, .any, []⟩,
  ⟨0x9000, 1, 0x04, 0x04, .nat 1, .ro, .any, []⟩,
  ⟨0x9000, 1, 0x05, 0x05, .str 16, .ro, .any, []⟩,
  ⟨0x9000, 1, 0x06, 0x06, .nat 4, .ro, .any, []⟩,
  ⟨0x9000, 1, 0x07, 0x07, .nat 1, .ro, .any, []⟩,
  ⟨0x9000, 1, 0x08, 0x08, .nat 4, .ro, .any, []⟩,
  ⟨0x9000, 1, 0x09, 0x09, .nat 4, .ro, .any, []⟩,
  ⟨0x9000, 1, 0x0A, 0x0A, .nat 4, .ro, .any, []⟩,
  ⟨0x9000, 1, 0x0B, 0x0B, .nat 4, .ro, .any, []⟩,
  ⟨0x9000, 1, 0x0C, 0x0C, .nat 4, .ro, .any, []⟩,
  ⟨0x9000, 1, 0x0D, 0x0D, .nat 4, .ro, .any, []⟩,
  ⟨0x9000, 1, 0x0E, 0x0E, .nat 4, .ro, .any, []⟩,
  ⟨0x9001, 1, 0x01, 0x01, .nat 1, .rws, .range 6 30, natLE 1 20⟩,
  ⟨0x9001, 1, 0x02, 0x02, .bool, .rws, .any, natLE 1 1⟩,
  ⟨0x9002, 1, 0x01, 0x01, .bytes 28 false, .cmd, .any, []⟩,
  ⟨0x9002, 1, 0x02, 0x02, .nat 4, .ro, .any, []⟩,
  ⟨0x9003, 1, 0x01, 0x01, .bytes 4 false, .cmd, .any, []⟩,
  ⟨0x9011, 1, 0x01, 0x08, .nat 4, .ro, .any, []⟩]

/-- The objects of R399. -/
def objectsR399 : List Obj := [
  ⟨0xA000, 1, 0x01, 0x01, .nat 1, .ro, .any, []⟩,
  ⟨0xA000, 1, 0x02, 0x02, .nat 1, .ro, .any, []⟩,
  ⟨0xA000, 1, 0x03, 0x03, .bool, .ro, .any, []⟩,
  ⟨0xA000, 1, 0x04, 0x04, .nat 2, .ro, .any, []⟩,
  ⟨0xA000, 1, 0x05, 0x05, .nat 2, .ro, .any, []⟩,
  ⟨0xA000, 1, 0x06, 0x06, .nat 1, .ro, .any, []⟩,
  ⟨0xA000, 1, 0x07, 0x07, .bytes 32 true, .ro, .any, []⟩,
  ⟨0xA000, 1, 0x08, 0x08, .nat 2, .ro, .any, []⟩,
  ⟨0xA001, 1, 0x01, 0x01, .nat 2, .wo, .any, []⟩,
  ⟨0xA001, 1, 0x02, 0x02, .bool, .rws, .any, natLE 1 1⟩,
  ⟨0xA001, 1, 0x03, 0x03, .nat 2, .rws, .range 10 10000, natLE 2 100⟩,
  ⟨0xA002, 1, 0x01, 0x01, .bytes 4 false, .cmd, .any, []⟩,
  ⟨0xA003, 1, 0x01, 0x01, .nat 4, .ro, .any, []⟩,
  ⟨0xA003, 1, 0x02, 0x02, .nat 1, .ro, .any, []⟩,
  ⟨0xA003, 1, 0x03, 0x03, .nat 1, .ro, .any, []⟩,
  ⟨0xA003, 1, 0x04, 0x04, .nat 8, .ro, .any, []⟩,
  ⟨0xA003, 1, 0x05, 0x05, .nat 8, .ro, .any, []⟩,
  ⟨0xA003, 1, 0x06, 0x06, .bool, .ro, .any, []⟩,
  ⟨0xA003, 1, 0x07, 0x07, .nat 1, .wo, .range 1 1, []⟩,
  ⟨0xA003, 1, 0x11, 0x11, .nat 4, .ro, .any, []⟩,
  ⟨0xA003, 1, 0x12, 0x12, .nat 1, .ro, .any, []⟩,
  ⟨0xA003, 1, 0x13, 0x13, .nat 1, .ro, .any, []⟩,
  ⟨0xA003, 1, 0x14, 0x14, .nat 8, .ro, .any, []⟩,
  ⟨0xA003, 1, 0x15, 0x15, .nat 8, .ro, .any, []⟩,
  ⟨0xA003, 1, 0x16, 0x16, .bool, .ro, .any, []⟩,
  ⟨0xA003, 1, 0x17, 0x17, .nat 1, .wo, .range 1 1, []⟩,
  ⟨0xA005, 1, 0x01, 0x0C, .nat 2, .ro, .any, []⟩,
  ⟨0xA006, 1, 0x01, 0x0C, .nat 2, .ro, .any, []⟩,
  ⟨0xE000, 1, 0x01, 0x01, .nat 1, .ro, .any, []⟩,
  ⟨0xE000, 1, 0x02, 0x02, .bytes 8 false, .cmd, .any, []⟩]

/-- The objects of R425. -/
def objectsR425 : List Obj := [
  ⟨0xB000, 1, 0x01, 0x01, .nat 1, .ro, .any, []⟩,
  ⟨0xB000, 1, 0x02, 0x02, .q16, .ro, .any, []⟩,
  ⟨0xB000, 1, 0x03, 0x03, .q16, .ro, .any, []⟩,
  ⟨0xB000, 1, 0x04, 0x04, .bool, .ro, .any, []⟩,
  ⟨0xB000, 1, 0x05, 0x05, .nat 4, .ro, .any, []⟩,
  ⟨0xB000, 1, 0x06, 0x06, .q16, .ro, .any, []⟩,
  ⟨0xB000, 1, 0x07, 0x07, .nat 4, .ro, .any, []⟩,
  ⟨0xB000, 1, 0x08, 0x08, .bool, .rws, .any, natLE 1 1⟩,
  ⟨0xB001, 1, 0x01, 0x01, .nat 1, .rws, .range 0 4, natLE 1 4⟩,
  ⟨0xB001, 1, 0x02, 0x02, .nat 1, .ro, .any, []⟩,
  ⟨0xB001, 1, 0x03, 0x03, .nat 4, .ro, .any, []⟩,
  ⟨0xB010, 1, 0x01, 0x01, .nat 1, .wo, .range 1 3, []⟩,
  ⟨0xB010, 1, 0x02, 0x02, .nat 1, .ro, .any, []⟩,
  ⟨0xB010, 1, 0x03, 0x03, .nat 1, .ro, .any, []⟩,
  ⟨0xB010, 1, 0x04, 0x04, .nat 4, .ro, .any, []⟩,
  ⟨0xB010, 1, 0x05, 0x05, .nat 4, .ro, .any, []⟩,
  ⟨0xB010, 1, 0x06, 0x06, .nat 4, .ro, .any, []⟩,
  ⟨0xB011, 1, 0x01, 0x01, .nat 1, .rws, .even, natLE 1 254⟩,
  ⟨0xB011, 1, 0x02, 0x02, .nat 1, .ro, .any, []⟩,
  ⟨0xB011, 1, 0x03, 0x03, .nat 8, .ro, .any, []⟩,
  ⟨0xB011, 1, 0x04, 0x04, .nat 4, .ro, .any, []⟩,
  ⟨0xB012, 1, 0x01, 0x01, .nat 1, .ro, .any, []⟩]

/-- The objects of R446. -/
def objectsR446 : List Obj := [
  ⟨0x7000, 1, 0x00, 0x00, .nat 1, .ro, .any, []⟩,
  ⟨0x7001, 1, 0x01, 0x01, .nat 4, .ro, .any, []⟩,
  ⟨0x7001, 1, 0x02, 0x02, .nat 4, .ro, .any, []⟩,
  ⟨0x7001, 1, 0x03, 0x03, .nat 1, .ro, .any, []⟩,
  ⟨0x7001, 1, 0x04, 0x04, .nat 4, .ro, .any, []⟩,
  ⟨0x7001, 1, 0x05, 0x05, .s32, .ro, .any, []⟩,
  ⟨0x7001, 1, 0x06, 0x06, .q16, .ro, .any, []⟩,
  ⟨0x7001, 1, 0x07, 0x07, .nat 2, .ro, .any, []⟩,
  ⟨0x7010, 1, 0x01, 0x01, .nat 1, .rws, .any, natLE 1 0⟩,
  ⟨0x7010, 1, 0x02, 0x02, .nat 1, .rws, .range 1 15, natLE 1 15⟩,
  ⟨0x7010, 1, 0x03, 0x03, .s32, .rws, .any, natLE 4 0⟩,
  ⟨0x7010, 1, 0x04, 0x04, .bool, .rws, .any, natLE 1 0⟩,
  ⟨0x7010, 1, 0x05, 0x05, .nat 1, .rws, .range 0 1, natLE 1 0⟩,
  ⟨0x7010, 1, 0x06, 0x06, .bool, .rws, .any, natLE 1 0⟩,
  ⟨0x7010, 1, 0x07, 0x07, .nat 2, .rws, .range 50 500, natLE 2 50⟩,
  ⟨0x7010, 1, 0x08, 0x08, .bool, .rws, .any, natLE 1 1⟩,
  ⟨0x7010, 1, 0x09, 0x09, .nat 1, .rws, .range 0 15, natLE 1 3⟩,
  ⟨0x7010, 1, 0x0A, 0x0A, .nat 1, .rws, .range 4 32, natLE 1 8⟩,
  ⟨0x7011, 1, 0x01, 0x01, .nat 1, .ro, .any, []⟩,
  ⟨0x7011, 1, 0x02, 0x02, .nat 4, .ro, .any, []⟩,
  ⟨0x7011, 1, 0x03, 0x03, .nat 4, .ro, .any, []⟩,
  ⟨0x7011, 1, 0x04, 0x04, .q16, .ro, .any, []⟩,
  ⟨0x7011, 1, 0x05, 0x05, .nat 1, .ro, .any, []⟩,
  ⟨0x7011, 1, 0x06, 0x06, .nat 1, .wo, .range 1 1, []⟩,
  ⟨0x7012, 1, 0x01, 0x01, .nat 4, .ro, .any, []⟩,
  ⟨0x7012, 1, 0x02, 0x02, .nat 4, .ro, .any, []⟩,
  ⟨0x7012, 1, 0x03, 0x03, .nat 4, .ro, .any, []⟩,
  ⟨0x7012, 1, 0x04, 0x04, .nat 4, .ro, .any, []⟩,
  ⟨0x7012, 1, 0x05, 0x05, .nat 4, .ro, .any, []⟩,
  ⟨0x7012, 1, 0x06, 0x06, .nat 4, .ro, .any, []⟩,
  ⟨0x7030, 1, 0x01, 0x01, .bool, .rws, .any, natLE 1 1⟩,
  ⟨0x7030, 1, 0x02, 0x02, .nat 1, .rws, .range 5 100, natLE 1 20⟩,
  ⟨0x7030, 1, 0x03, 0x03, .s32, .rws, .range (-120) (-40), natLE 4 4294967196⟩,
  ⟨0x7400, 1024, 0x01, 0x01, .bool, .rws, .any, natLE 1 0⟩,
  ⟨0x7400, 1024, 0x02, 0x02, .nat 8, .rws, .any, natLE 8 0⟩,
  ⟨0x7400, 1024, 0x03, 0x03, .nat 2, .rws, .any, natLE 2 65535⟩,
  ⟨0x7400, 1024, 0x04, 0x04, .nat 1, .rws, .rangeOr 0 63 255, natLE 1 255⟩,
  ⟨0x7400, 1024, 0x05, 0x05, .s32, .ro, .any, []⟩,
  ⟨0x7400, 1024, 0x06, 0x06, .nat 8, .ro, .any, []⟩,
  ⟨0x7400, 1024, 0x07, 0x07, .nat 4, .ro, .any, []⟩,
  ⟨0x7400, 1024, 0x08, 0x08, .nat 4, .ro, .any, []⟩]

/-- The objects of R461. -/
def objectsR461 : List Obj := [
  ⟨0x7020, 1, 0x01, 0x01, .bool, .rws, .any, natLE 1 1⟩,
  ⟨0x7020, 1, 0x02, 0x02, .nat 1, .rws, .range 0 2, natLE 1 1⟩,
  ⟨0x7020, 1, 0x03, 0x03, .nat 1, .rws, .range 0 10, natLE 1 3⟩,
  ⟨0x7020, 1, 0x04, 0x04, .nat 2, .rws, .range 10 3600, natLE 2 60⟩,
  ⟨0x7021, 1, 0x01, 0x01, .nat 4, .ro, .any, []⟩,
  ⟨0x7021, 1, 0x02, 0x02, .nat 4, .ro, .any, []⟩,
  ⟨0x7021, 1, 0x03, 0x03, .nat 4, .ro, .any, []⟩,
  ⟨0x7021, 1, 0x04, 0x04, .nat 4, .ro, .any, []⟩,
  ⟨0x7021, 1, 0x05, 0x05, .nat 4, .ro, .any, []⟩,
  ⟨0x7021, 1, 0x06, 0x06, .nat 4, .ro, .any, []⟩,
  ⟨0x7021, 1, 0x07, 0x07, .nat 4, .ro, .any, []⟩,
  ⟨0x7021, 1, 0x08, 0x08, .nat 4, .ro, .any, []⟩,
  ⟨0x7040, 1, 0x01, 0x01, .nat 1, .rw, .range 1 3, natLE 1 1⟩,
  ⟨0x7040, 1, 0x02, 0x02, .nat 1, .rw, .range 1 5, natLE 1 1⟩,
  ⟨0x7040, 1, 0x03, 0x03, .nat 1, .rw, .range 0 6, natLE 1 3⟩,
  ⟨0x7040, 1, 0x04, 0x04, .nat 1, .wo, .range 1 1, []⟩,
  ⟨0x7040, 1, 0x05, 0x05, .nat 1, .ro, .any, []⟩,
  ⟨0x7040, 1, 0x06, 0x06, .nat 2, .ro, .any, []⟩,
  ⟨0x7040, 1, 0x07, 0x07, .nat 2, .ro, .any, []⟩,
  ⟨0x7800, 1024, 0x01, 0x01, .bytes 24 false, .ro, .any, []⟩,
  ⟨0x7800, 1024, 0x02, 0x02, .nat 1, .ro, .any, []⟩,
  ⟨0x7800, 1024, 0x03, 0x03, .bytes 24 false, .ro, .any, []⟩,
  ⟨0x7800, 1024, 0x04, 0x04, .nat 1, .ro, .any, []⟩,
  ⟨0x7800, 1024, 0x05, 0x05, .bool, .rws, .any, natLE 1 0⟩,
  ⟨0x7800, 1024, 0x06, 0x06, .q16, .ro, .any, []⟩,
  ⟨0x7800, 1024, 0x07, 0x07, .nat 4, .ro, .any, []⟩]

/-- The objects of R478. -/
def objectsR478 : List Obj := [
  ⟨0xC000, 1, 0x01, 0x01, .nat 1, .rw, .range 1 6, natLE 1 1⟩,
  ⟨0xC000, 1, 0x02, 0x02, .nat 2, .rw, .any, natLE 2 0⟩,
  ⟨0xC000, 1, 0x03, 0x03, .nat 1, .ro, .any, []⟩,
  ⟨0xC000, 1, 0x04, 0x04, .nat 1, .wo, .range 1 1, []⟩,
  ⟨0xC000, 1, 0x05, 0x05, .nat 1, .ro, .any, []⟩,
  ⟨0xC000, 1, 0x06, 0x06, .nat 1, .ro, .any, []⟩,
  ⟨0xC000, 1, 0x07, 0x07, .nat 4, .ro, .any, []⟩,
  ⟨0xC000, 1, 0x08, 0x08, .bool, .ro, .any, []⟩,
  ⟨0xC000, 1, 0x09, 0x09, .bool, .ro, .any, []⟩,
  ⟨0xC000, 1, 0x0A, 0x0A, .q16, .ro, .any, []⟩,
  ⟨0xC000, 1, 0x0B, 0x0B, .nat 1, .ro, .any, []⟩,
  ⟨0xC001, 1, 0x01, 0x01, .q16, .rws, .any, natLE 4 0⟩,
  ⟨0xC001, 1, 0x02, 0x02, .nat 1, .rws, .range 0 15, natLE 1 15⟩,
  ⟨0xC002, 1, 0x01, 0x01, .bytes 4 false, .cmd, .any, []⟩,
  ⟨0xC002, 1, 0x02, 0x02, .nat 4, .ro, .any, []⟩,
  ⟨0xC003, 1, 0x01, 0x01, .nat 1, .ro, .any, []⟩,
  ⟨0xC003, 1, 0x02, 0x02, .nat 2, .ro, .any, []⟩,
  ⟨0xC003, 1, 0x03, 0x03, .bool, .ro, .any, []⟩,
  ⟨0xC010, 1, 0x01, 0x01, .nat 1, .rw, .any, natLE 1 0⟩,
  ⟨0xC010, 1, 0x02, 0x02, .bytes 256 false, .ro, .any, []⟩,
  ⟨0xC020, 1, 0x01, 0x01, .nat 1, .rw, .range 1 7, natLE 1 1⟩,
  ⟨0xC020, 1, 0x02, 0x02, .nat 2, .rw, .any, natLE 2 0⟩,
  ⟨0xC020, 1, 0x03, 0x03, .nat 1, .wo, .range 1 1, []⟩,
  ⟨0xC020, 1, 0x04, 0x04, .nat 1, .ro, .any, []⟩,
  ⟨0xC020, 1, 0x05, 0x05, .nat 2, .ro, .any, []⟩,
  ⟨0xC020, 1, 0x06, 0x06, .nat 2, .ro, .any, []⟩,
  ⟨0xC004, 256, 0x01, 0x01, .q16, .ro, .any, []⟩,
  ⟨0xC004, 256, 0x02, 0x02, .q16, .ro, .any, []⟩]

/-- Every object of the dictionary; an exact index stands before a repeated one that would cover it (log 4). -/
def catalogue : List Obj :=
  objectsR31 ++ objectsR55 ++ objectsR114 ++ objectsR143 ++ objectsR166 ++ objectsR171 ++ objectsR201 ++ objectsR223 ++ objectsR241 ++ objectsR278 ++ objectsR299 ++ objectsR303 ++ objectsR319 ++ objectsR329 ++ objectsR346 ++ objectsR358 ++ objectsR380 ++ objectsR399 ++ objectsR425 ++ objectsR446 ++ objectsR461 ++ objectsR478

/-- The row of an address. -/
def Obj.covers (o : Obj) (idx sub : Nat) : Bool :=
  decide (o.idx ≤ idx) && decide (idx < o.idx + o.span) && decide (o.sub0 ≤ sub) && decide (sub ≤ o.sub1)

/-- The object at an address, if a table of the manual lists it (R300). -/
def findObj (idx sub : Nat) : Option Obj := catalogue.find? fun o => o.covers idx sub

/-- The default of an object (R300); empty where it has none. -/
def defaultOf (idx sub : Nat) : List Byte :=
  match findObj idx sub with
  | some o => o.dflt
  | none => []

/-- The integer that a value's bytes spell by its type. -/
def ObjType.value : ObjType → List Byte → Int
  | .s32, v => signedOf 32 (leNat v)
  | .q16, v => signedOf 32 (leNat v)
  | _, v => leNat v

/-- UTF-8 well-formedness by lead and continuation bytes, for STR values (R301). -/
def utf8Ok : Nat → List Byte → Bool
  | 0, [] => true
  | 0, b :: bs =>
    let n := b.toNat
    if n < 0x80 then utf8Ok 0 bs
    else if 0xC2 ≤ n ∧ n < 0xE0 then utf8Ok 1 bs
    else if 0xE0 ≤ n ∧ n < 0xF0 then utf8Ok 2 bs
    else if 0xF0 ≤ n ∧ n < 0xF5 then utf8Ok 3 bs
    else false
  | _ + 1, [] => false
  | k + 1, b :: bs => decide (0x80 ≤ b.toNat ∧ b.toNat < 0xC0) && utf8Ok k bs

/-- The size and encoding checks of R301. -/
def ObjType.sizeOk : ObjType → List Byte → Bool
  | .nat n, v => decide (v.length = n)
  | .s32, v => decide (v.length = 4)
  | .q16, v => decide (v.length = 4)
  | .bool, v => decide (v.length = 1) && decide (leNat v ≤ 1)
  | .bytes n false, v => decide (v.length = n)
  | .bytes n true, v => decide (v.length ≤ n)
  | .str n, v => decide (v.length ≤ n) && utf8Ok 0 v

/-- The range check of R301. -/
def ObjRange.ok : ObjRange → Int → Bool
  | .any, _ => true
  | .range lo hi, v => decide (lo ≤ v) && decide (v ≤ hi)
  | .rangeOr lo hi e, v => (decide (lo ≤ v) && decide (v ≤ hi)) || decide (v = e)
  | .oneOf vs, v => vs.contains v
  | .even, v => decide (v % 2 = 0)

/-- A value an object may take by its type and range alone. -/
def Obj.valueOk (o : Obj) (v : List Byte) : Bool := o.ty.sizeOk v && o.range.ok (o.ty.value v)

/-- Status codes of dictionary responses (R304). -/
inductive Status where
  | ok | noObject | readOnly | writeOnly | valueRange | invalid | notSupported | notFitted | locked | busy
  | porterDown | noFirmware | tooSoon | worn | powerFail | authRequired | noKey | badMac | staleCounter
  | counterSpent | noRight | authHold | unwrap | notFound | refused | badPdu | notACommand
  deriving DecidableEq, Repr

/-- The code of a status (R304). -/
def Status.code : Status → Nat
  | .ok => 0 | .noObject => 1 | .readOnly => 2 | .writeOnly => 3 | .valueRange => 4 | .invalid => 5
  | .notSupported => 6 | .notFitted => 7 | .locked => 8 | .busy => 9 | .porterDown => 10 | .noFirmware => 11
  | .tooSoon => 12 | .worn => 13 | .powerFail => 14 | .authRequired => 15 | .noKey => 16 | .badMac => 17
  | .staleCounter => 18 | .counterSpent => 19 | .noRight => 20 | .authHold => 21 | .unwrap => 22
  | .notFound => 23 | .refused => 24 | .badPdu => 25 | .notACommand => 26

end Sys2Proof.Machine
end

