-- ==== Sys2Proof/Machine/Crypto.lean ====
section
/-!
DEFINITION. The check codes and ciphers the spec names by their standards: CRC-32C, CRC-64/XZ (R197), the CRCs of
the air interfaces (R145), AES-128, CMAC (RFC 4493), AES key wrap (RFC 3394), ECDSA verification (R219).
The algorithms themselves are those of the named standards: PRESUMED, log 11.
-/

namespace Sys2Proof.Machine

open Sys2Proof

/-- One bit of a reflected CRC register. -/
def crcBit (poly c : Nat) : Nat := if c % 2 = 1 then (c / 2) ^^^ poly else c / 2

/-- One byte into a reflected CRC register. -/
def crcByte (poly : Nat) (c : Nat) (b : Byte) : Nat :=
  (List.range 8).foldl (fun c _ => crcBit poly c) (c ^^^ b.toNat)

/-- A reflected CRC with its initial value and final XOR. -/
def crcReflected (poly init fin : Nat) (bs : List Byte) : Nat :=
  (bs.foldl (crcByte poly) init) ^^^ fin

/-- CRC-32C of a byte string (R24, R285, R349). -/
def crc32c (bs : List Byte) : Nat := crcReflected 0x82F63B78 0xFFFFFFFF 0xFFFFFFFF bs

/-- CRC-64/XZ of a byte string (R197): polynomial 0x42F0_E1EB_A9EA_3693, reflected. -/
def crc64 (bs : List Byte) : Nat :=
  crcReflected 0xC96C5795D7870F42 0xFFFFFFFFFFFFFFFF 0xFFFFFFFFFFFFFFFF bs

/-- CRC_A of ISO/IEC 14443-3. -/
def crcA (bs : List Byte) : Nat := crcReflected 0x8408 0x6363 0 bs

/-- CRC_B of ISO/IEC 14443-3 and the CRC of ISO/IEC 15693. -/
def crcB (bs : List Byte) : Nat := crcReflected 0x8408 0xFFFF 0xFFFF bs

/-- The CRC of ISO/IEC 18092 at 212 and 424 kbit/s: polynomial 0x1021, most significant bit first. -/
def crcF (bs : List Byte) : Nat :=
  bs.foldl (fun c b => (List.range 8).foldl
    (fun c _ => if c / 32768 % 2 = 1 then (c * 2 % 65536) ^^^ 0x1021 else c * 2 % 65536) (c ^^^ (b.toNat * 256))) 0

/-- The AES substitution table. -/
def aesSbox : List Nat :=
  [99, 124, 119, 123, 242, 107, 111, 197, 48, 1, 103, 43, 254, 215, 171, 118]
  ++ [202, 130, 201, 125, 250, 89, 71, 240, 173, 212, 162, 175, 156, 164, 114, 192]
  ++ [183, 253, 147, 38, 54, 63, 247, 204, 52, 165, 229, 241, 113, 216, 49, 21]
  ++ [4, 199, 35, 195, 24, 150, 5, 154, 7, 18, 128, 226, 235, 39, 178, 117]
  ++ [9, 131, 44, 26, 27, 110, 90, 160, 82, 59, 214, 179, 41, 227, 47, 132]
  ++ [83, 209, 0, 237, 32, 252, 177, 91, 106, 203, 190, 57, 74, 76, 88, 207]
  ++ [208, 239, 170, 251, 67, 77, 51, 133, 69, 249, 2, 127, 80, 60, 159, 168]
  ++ [81, 163, 64, 143, 146, 157, 56, 245, 188, 182, 218, 33, 16, 255, 243, 210]
  ++ [205, 12, 19, 236, 95, 151, 68, 23, 196, 167, 126, 61, 100, 93, 25, 115]
  ++ [96, 129, 79, 220, 34, 42, 144, 136, 70, 238, 184, 20, 222, 94, 11, 219]
  ++ [224, 50, 58, 10, 73, 6, 36, 92, 194, 211, 172, 98, 145, 149, 228, 121]
  ++ [231, 200, 55, 109, 141, 213, 78, 169, 108, 86, 244, 234, 101, 122, 174, 8]
  ++ [186, 120, 37, 46, 28, 166, 180, 198, 232, 221, 116, 31, 75, 189, 139, 138]
  ++ [112, 62, 181, 102, 72, 3, 246, 14, 97, 53, 87, 185, 134, 193, 29, 158]
  ++ [225, 248, 152, 17, 105, 217, 142, 148, 155, 30, 135, 233, 206, 85, 40, 223]
  ++ [140, 161, 137, 13, 191, 230, 66, 104, 65, 153, 45, 15, 176, 84, 187, 22]

/-- The table as one number, its entry for `x` in byte `x`, so that a lookup is a division. -/
def aesTable : Nat := aesSbox.foldr (fun b n => b + 256 * n) 0

/-- The inverse table in the same form: byte `aesSbox[x]` is `x`. -/
def aesInvTable : Nat := (List.range 256).foldl (fun n x => n + x * 256 ^ (aesTable / 256 ^ x % 256)) 0

/-- Substitution of one byte. -/
def aesSub (x : Nat) : Nat := aesTable / 256 ^ x % 256

/-- The inverse substitution. -/
def aesInvSub (x : Nat) : Nat := aesInvTable / 256 ^ x % 256

/-- Multiplication by x in the AES field. -/
def aesXtime (a : Nat) : Nat := if a ≥ 128 then (2 * a) % 256 ^^^ 0x1b else 2 * a

/-- Multiplication by a constant below 16 in the AES field. -/
def aesMul (c a : Nat) : Nat :=
  let a2 := aesXtime a
  let a4 := aesXtime a2
  let a8 := aesXtime a4
  (if c % 2 = 1 then a else 0) ^^^ (if c / 2 % 2 = 1 then a2 else 0) ^^^ (if c / 4 % 2 = 1 then a4 else 0)
    ^^^ (if c / 8 % 2 = 1 then a8 else 0)

/-- Byte-wise exclusive or. -/
def xorBytes (a b : List Nat) : List Nat := List.zipWith (· ^^^ ·) a b

/-- One round of the key schedule. -/
def aesNextKey (rcon : Nat) (k : List Nat) : List Nat :=
  let g (i : Nat) := k.getD i 0
  let t := [aesSub (g 13) ^^^ rcon, aesSub (g 14), aesSub (g 15), aesSub (g 12)]
  let w0 := xorBytes (k.take 4) t
  let w1 := xorBytes ((k.drop 4).take 4) w0
  let w2 := xorBytes ((k.drop 8).take 4) w1
  let w3 := xorBytes ((k.drop 12).take 4) w2
  w0 ++ w1 ++ w2 ++ w3

/-- The round constants. -/
def aesRcons : List Nat := [1, 2, 4, 8, 16, 32, 64, 128, 27, 54]

/-- The eleven round keys. -/
def aesKeys (k : List Nat) : List (List Nat) :=
  (aesRcons.foldl (fun (acc : List (List Nat) × List Nat) r => let n := aesNextKey r acc.2; (acc.1 ++ [n], n)) ([k], k)).1

/-- ShiftRows on a state held column by column. -/
def aesShift (s : List Nat) : List Nat := (List.range 16).map fun i => s.getD ((i + 4 * (i % 4)) % 16) 0

/-- The inverse of ShiftRows. -/
def aesUnshift (s : List Nat) : List Nat := (List.range 16).map fun i => s.getD ((i + 16 - 4 * (i % 4)) % 16) 0

/-- A column mix with the first matrix row `m`. -/
def aesMix (m : List Nat) (s : List Nat) : List Nat :=
  (List.range 16).map fun i =>
    (List.range 4).foldl (fun a j => a ^^^ aesMul (m.getD ((j + 4 - i % 4) % 4) 0) (s.getD (4 * (i / 4) + j) 0)) 0

/-- AES-128 of one block, key and block as 16 numbers below 256. -/
def aesEncrypt (key blk : List Nat) : List Nat :=
  match aesKeys key with
  | k0 :: ks =>
    let s := (ks.take 9).foldl (fun s k => xorBytes (aesMix [2, 3, 1, 1] (aesShift (s.map aesSub))) k) (xorBytes blk k0)
    xorBytes (aesShift (s.map aesSub)) (ks.getD 9 [])
  | [] => blk

/-- The inverse cipher. -/
def aesDecrypt (key blk : List Nat) : List Nat :=
  match (aesKeys key).reverse with
  | kl :: ks =>
    let s := (ks.take 9).foldl (fun s k => aesMix [14, 11, 13, 9] (xorBytes ((aesUnshift s).map aesInvSub) k)) (xorBytes blk kl)
    xorBytes ((aesUnshift s).map aesInvSub) (ks.getD 9 [])
  | [] => blk

/-- Doubling of a 16-byte block in the CMAC field. -/
def cmacDouble (b : List Nat) : List Nat :=
  let sh := (List.range 16).map fun i => (2 * b.getD i 0) % 256 + (b.getD (i + 1) 0) / 128
  if b.getD 0 0 ≥ 128 then sh.take 15 ++ [(sh.getD 15 0) ^^^ 0x87] else sh

/-- The chaining over whole blocks before the last. -/
def cmacChain (key : List Nat) : Nat → List Nat → List Nat → List Nat × List Nat
  | 0, x, m => (x, m)
  | n + 1, x, m => if m.length > 16 then cmacChain key n (aesEncrypt key (xorBytes x (m.take 16))) (m.drop 16) else (x, m)

/-- AES-128-CMAC (RFC 4493). -/
def cmac (key msg : List Byte) : List Byte :=
  let k := (padTo 16 key).map (·.toNat)
  let m := msg.map (·.toNat)
  let k1 := cmacDouble (aesEncrypt k (List.replicate 16 0))
  let k2 := cmacDouble k1
  let (x, last) := cmacChain k m.length (List.replicate 16 0) m
  let blk := if last.length = 16 then xorBytes last k1
    else xorBytes ((last ++ [128] ++ List.replicate 16 0).take 16) k2
  (aesEncrypt k (xorBytes x blk)).map fun n => BitVec.ofNat 8 n

/-- The first 8 bytes of a CMAC (R311, R314, R321). -/
def cmac8 (key msg : List Byte) : List Byte := (cmac key msg).take 8

/-- The key check value of R206: first 3 bytes of the CMAC over 16 zero bytes. -/
def keyCheckValue (key : List Byte) : List Byte := (cmac key (List.replicate 16 0)).take 3

/-- One step of AES key unwrap for step number `t`. -/
def unwrapStep (key : List Nat) (t : Nat) (a : List Nat) (r : List Nat) : List Nat × List Nat :=
  let tb := (natLE 8 t).reverse.map (·.toNat)
  let b := aesDecrypt key (xorBytes a tb ++ r)
  (b.take 8, b.drop 8)

/-- AES key unwrap (RFC 3394) of 24 bytes: the 16 bytes of material, or none where the integrity check fails (R207). -/
def keyUnwrap (key wrapped : List Byte) : Option (List Byte) :=
  let k := (padTo 16 key).map (·.toNat)
  let w := (padTo 24 wrapped).map (·.toNat)
  let go := fun (acc : List Nat × List Nat × List Nat) (j : Nat) =>
    let s2 := unwrapStep k (2 * j + 2) acc.1 acc.2.2
    let s1 := unwrapStep k (2 * j + 1) s2.1 acc.2.1
    (s1.1, s1.2, s2.2)
  let r := [5, 4, 3, 2, 1, 0].foldl go (w.take 8, (w.drop 8).take 8, w.drop 16)
  if r.1 = List.replicate 8 166 then some ((r.2.1 ++ r.2.2).map fun n => BitVec.ofNat 8 n) else none

/-- AES key wrap (RFC 3394, default initial value) of 16 bytes (R207, R362). -/
def keyWrap (key plain : List Byte) : List Byte :=
  let k := (padTo 16 key).map (·.toNat)
  let p := (padTo 16 plain).map (·.toNat)
  let one := fun (t : Nat) (a r : List Nat) =>
    let b := aesEncrypt k (a ++ r)
    (xorBytes (b.take 8) ((natLE 8 t).reverse.map (·.toNat)), b.drop 8)
  let go := fun (acc : List Nat × List Nat × List Nat) (j : Nat) =>
    let s1 := one (2 * j + 1) acc.1 acc.2.1
    let s2 := one (2 * j + 2) s1.1 acc.2.2
    (s2.1, s1.2, s2.2)
  let r := [0, 1, 2, 3, 4, 5].foldl go (List.replicate 8 166, p.take 8, p.drop 8)
  (r.1 ++ r.2.1 ++ r.2.2).map fun n => BitVec.ofNat 8 n

/-- Modular power by the bits of the exponent. -/
def powMod (m : Nat) : Nat → Nat → Nat → Nat
  | 0, _, _ => 1 % m
  | n + 1, b, e => if e % 2 = 1 then b * powMod m n (b * b % m) (e / 2) % m else powMod m n (b * b % m) (e / 2)

/-- Inverse modulo a prime of at most 256 bits. -/
def invMod (p a : Nat) : Nat := powMod p 260 (a % p) (p - 2)

/-- A curve y² = x³ - 3x + b over a prime field, its base point and order. -/
structure Curve where
  p : Nat
  b : Nat
  gx : Nat
  gy : Nat
  n : Nat
  len : Nat
  deriving DecidableEq, Repr

/-- The curves of R208: 1 secp128r1, 2 secp224r1, 3 secp256r1. -/
def curveOf : Nat → Option Curve
  | 1 => some ⟨0xFFFFFFFDFFFFFFFFFFFFFFFFFFFFFFFF, 0xE87579C11079F43DD824993C2CEE5ED3,
      0x161FF7528B899B2D0C28607CA52C5B86, 0xCF5AC8395BAFEB13C02DA292DDED7A83, 0xFFFFFFFE0000000075A30D1B9038A115, 16⟩
  | 2 => some ⟨0xFFFFFFFFFFFFFFFFFFFFFFFFFFFFFFFF000000000000000000000001,
      0xB4050A850C04B3ABF54132565044B0B7D7BFD8BA270B39432355FFB4,
      0xB70E0CBD6BB4BF7F321390B94A03C1D356C21122343280D6115C1D21,
      0xBD376388B5F723FB4C22DFE6CD4375A05A07476444D5819985007E34,
      0xFFFFFFFFFFFFFFFFFFFFFFFFFFFF16A2E0B8F03E13DD29455C5C2A3D, 28⟩
  | 3 => some ⟨0xFFFFFFFF00000001000000000000000000000000FFFFFFFFFFFFFFFFFFFFFFFF,
      0x5AC635D8AA3A93E7B3EBBD55769886BC651D06B0CC53B0F63BCE3C3E27D2604B,
      0x6B17D1F2E12C4247F8BCE6E563A440F277037D812DEB33A0F4A13945D898C296,
      0x4FE342E2FE1A7F9B8EE7EB4A7C0F9E162BCE33576B315ECECBB6406837BF51F5,
      0xFFFFFFFF00000000FFFFFFFFFFFFFFFFBCE6FAADA7179E84F3B9CAC2FC632551, 32⟩
  | _ => none

/-- Whether an affine point lies on a curve. -/
def Curve.on (c : Curve) (x y : Nat) : Bool :=
  decide (x < c.p) && decide (y < c.p) && (y * y % c.p == (x * x * x + (c.p - 3) * x + c.b) % c.p)

/-- Point addition, none being the point at infinity. -/
def Curve.add (c : Curve) (a b : Option (Nat × Nat)) : Option (Nat × Nat) :=
  match a, b with
  | none, q => q
  | q, none => q
  | some (x1, y1), some (x2, y2) =>
    if x1 = x2 ∧ (y1 + y2) % c.p = 0 then none
    else
      let l := if x1 = x2 then (3 * x1 * x1 + (c.p - 3)) * invMod c.p (2 * y1) % c.p
        else (y2 + c.p - y1) * invMod c.p (x2 + c.p - x1) % c.p
      let x3 := (l * l + 2 * c.p - x1 - x2) % c.p
      some (x3, (l * (x1 + c.p - x3) + c.p - y1) % c.p)

/-- Scalar multiplication by the bits of the scalar. -/
def Curve.mul (c : Curve) : Nat → Nat → Option (Nat × Nat) → Option (Nat × Nat)
  | 0, _, _ => none
  | n + 1, k, q => if k % 2 = 1 then c.add q (Curve.mul c n (k / 2) (c.add q q)) else Curve.mul c n (k / 2) (c.add q q)

/-- ECDSA verification of the unhashed message value `e` with signature r and s (R219). -/
def ecdsaVerify (c : Curve) (qx qy e r s : Nat) : Bool :=
  if r = 0 ∨ s = 0 ∨ c.n ≤ r ∨ c.n ≤ s then false
  else
    let w := invMod c.n s
    let pt := c.add (c.mul 260 (e * w % c.n) (some (c.gx, c.gy))) (c.mul 260 (r * w % c.n) (some (qx, qy)))
    match pt with
    | none => false
    | some (x, _) => x % c.n == r

end Sys2Proof.Machine
end

