-- ==== Sys2Proof/Config.lean ====
section
/-!
DEFINITION. What an implementation fixes and the values the spec leaves open.
Each constant here is opaque: nothing in Lean can evaluate it, and every statement holds for every value of it.
-/

namespace Sys2Proof.Config

open Sys2Proof

/-- The ordering codes of Scope and Use of This Manual (R3, R303). -/
inductive Variant where
  | e | n | h
  deriving DecidableEq, Repr, Inhabited

/-- The ordering code of this module (R3, R303). -/
opaque variant : Variant

/-- Random bytes of the field-side generator (R218, R362): draw number, length. Log 8. -/
opaque randomBytes : Nat → Nat → List Byte

/-- Whether an amplitude or power code that falls between two steps is taken at the upper one (R96). Log 12. -/
opaque roundUp : Rat → Bool

/-- What a 32-bit counter shows once its count has passed 2^32 - 1 where no rule says so. Log 7. -/
opaque countPastMax : Nat → Nat

/-- Core cycles an instruction takes beyond one: wait states, interlocks, mispredictions (R255, R259). Log 8. -/
opaque stallCycles : Nat → Nat

/-- Wrong-path instructions fetched and squashed at a mispredicted branch, at most two (R259). Log 8. -/
opaque wrongPath : Nat → Fin 3

/-- The bytes of the boot ROM (R243). Log 6. -/
opaque bootRom : Nat → Byte

/-- Factory content: serial number (at most 16 bytes), hardware revision, node MAC, transport key 0 (R303, R346, R205). Log 6. -/
opaque serial : List Byte
opaque hwRevision : Nat
opaque nodeMac : List Byte
opaque transportKey0 : List Byte
/-- Factory minimum image version, and the host firmware's version (R286, R303). Log 6. -/
opaque minImageVersion : Nat
opaque hostImageVersion : Nat
/-- An image's version, whether its CRC and signature check, whether it has a length and CRC, and what loading it puts
into banks 0x000 to 0x01F, as functions of its listed bytes: the layout of its header is not stated (R286). Log 6. -/
opaque imageVersion : List (Nat × Byte) → Nat
opaque imageGood : List (Nat × Byte) → Bool
opaque imageMatches : List (Nat × Byte) → Nat → Nat → Bool
opaque imageLoaded : List (Nat × Byte) → List (Nat × Byte)
/-- The payload of the Porter's LINK_HELLO, which no rule states (R25). Log 14. -/
opaque porterHello : List Byte
/-- Link-local address taken per RFC 3927 (R340). Log 8. -/
opaque linkLocal : Nat → Nat
/-- A validity that the spec leaves open by giving no result for the operands: number of the draw, case. Log 8. -/
opaque freeNat : Nat → Nat
/-- Result of a lower-level judgement that no rule fixes: whether an untold check passes. Log 8. -/
opaque freeBool : Nat → Bool

/-- Whether the answers of a handshake prove the key under the standard's crypto suite (R218): method, key, challenge, answers
joined. Log 104. -/
opaque handshakeOk : Nat → List Byte → List Byte → List Byte → Bool

/-- A sample byte of a captured block: arming number, 64 times the number of the block since arm plus the byte's place in it
(R141). The samples are the air's. Log 15. -/
opaque captureByte : Nat → Nat → Byte

/-- A byte of an NVM bank whose layout the spec does not give (settings, anchor, calibration, factory ...). Log 6. -/
opaque nvmByte : Nat → Byte

/-- A byte of the host side's non-volatile memory, whose contents the spec does not lay out (R297). Log 6. -/
opaque hostNvmByte : Nat → Byte

/-- The completed part of a raised-cosine ramp, from the completed part of its time (R99). Log 12. -/
opaque raisedCosine : Rat → Rat

/-- The part of an exponential approach that is done after `n` of a time constant of `tau` ct (R135). Log 99. -/
opaque settledPart : Nat → Nat → Rat

/-- Which of two accesses' product a Guarded-mode read that is too close returns (R256). Log 8. -/
opaque productArrived : Nat → Bool

/-- A bit of the standard's scrambling sequence: seed, place (R449). Log 16. -/
opaque scrambler : Nat → Nat → Bool

/-- Length in us of STF, LTF and PHR of an option other than 1, which no rule states (R447, R451). Log 16. -/
opaque headerUs : Nat → Nat

end Sys2Proof.Config
end

