-- ==== Sys2Proof/Machine/Tab.lean ====
section
/-!
DEFINITION. Tables indexed by number: sorted lists of (index, value) that list only entries unequal to what an
unlisted index reads as, so equal tables are equal data. Memory has the same form with bytes (Host.Cell).
-/

namespace Sys2Proof.Machine

/-- A table of values by index. -/
abbrev Tab (α : Type) := List (Nat × α)

/-- The entry of index `k`, or what an unlisted index reads as. -/
def Tab.get {α : Type} (d : α) : Tab α → Nat → α
  | [], _ => d
  | (i, v) :: t, k => if i = k then v else Tab.get d t k

/-- The table without index `k`. -/
def Tab.erase {α : Type} : Tab α → Nat → Tab α
  | [], _ => []
  | (i, v) :: t, k => if i = k then Tab.erase t k else (i, v) :: Tab.erase t k

/-- Insert before the first larger index. -/
def Tab.insert {α : Type} : Tab α → Nat → α → Tab α
  | [], k, v => [(k, v)]
  | (i, w) :: t, k, v => if k < i then (k, v) :: (i, w) :: t else (i, w) :: Tab.insert t k v

/-- Write an entry; the value an unlisted index reads as removes it. -/
def Tab.set {α : Type} [DecidableEq α] (d : α) (t : Tab α) (k : Nat) (v : α) : Tab α :=
  if v = d then t.erase k else (t.erase k).insert k v

/-- The canonical form: indices strictly rising, no entry equal to what an unlisted index reads as. -/
def Tab.wf {α : Type} [DecidableEq α] (d : Nat → α) : Tab α → Bool
  | [] => true
  | [(i, v)] => decide (v ≠ d i)
  | (i, v) :: (j, w) :: t => decide (v ≠ d i) && decide (i < j) && Tab.wf d ((j, w) :: t)

end Sys2Proof.Machine
end

