-- ==== Sys2Proof/Machine/State.lean ====
section
/-!
DEFINITION. The state of the machine as plain data, with every field's reset value, the reasons to stop, and the
state after reset. Indexed families are tables that list only entries unlike the family's reset entry.
-/

namespace Sys2Proof.Machine

open Sys2Proof

/-! ### Memory addresses and link messages -/

/-- What a message carries between the ends of a link, as far as the rules state it (R25, R361); log 14. -/
inductive Payload where
  | hello (bytes : List Byte)
  | ack (next : Nat)
  | resync (tx rx : Nat)
  | dictReq (peer : Peer) (rid : Nat) (q : DictReq)
  | dictRsp (peer : Peer) (rid : Nat) (q : DictReq) (status : Nat) (val : List Byte)
  | cmdReq (c : CmdIn)
  | cmdRsp (peer : Peer) (rid : Nat) (body : List Byte)
  | event (r : JRec)
  | eventAck (esn : Nat)
  | journal (rs : List JRec)
  | journalAck (store off : Nat)
  | power (m : PowerMsg)
  | time (ts : Nat)
  | report (bytes : List Byte)
  | fault (rec : List Byte)
  | echo (bytes : List Byte)
  | mJournal (r : JRec)
  | mWave (w : WaveMsg)
  | mClose (gen digest : Nat)
  | mCounter (slot ctr : Nat)
  | mReserve (r : ReserveMsg)
  | mInflight (c : ChangeMsg)
  | mService (c : ChangeMsg)
  | mKeys (m : KeysMsg)
  | mDict (m : DictMsg)
  | mHost (m : HostMsg)
  | mPower (curfew : Bool)
  | heartbeat (ts : Nat)
  | haltNotice
  | handover
  | pair (bytes : List Byte)
  | fieldQuery (feeder : Nat)
  | fieldReply (feeder fwd commanded : Nat)
  | resyncData (parts : List ResyncPart)
  deriving DecidableEq, Repr

/-- A sequenced message held by its sender (R28). -/
structure LinkMsg where
  typ : Nat
  seq : Nat
  body : Payload
  deriving DecidableEq, Repr

/-- A frame as L2 codes it for the air (R145): start and end of frame, and bits in the order sent. -/
inductive AirSym where
  | sof
  | eof
  | bit (b : Bool)
  deriving DecidableEq, Repr

/-- What the firmware has a stage do in an exchange (R159): 0 EXCHANGE, 1 EMIT, 2 WAIT, 3 LISTEN, 4 MEET, 5 field off. -/
structure Request where
  kind : Nat := 0
  frame : List Byte := []
  bits : Nat := 0
  fdtMin : Nat := 0
  window : Nat := 0
  /-- Relative start in ct after what came before, or for a LISTEN its `TIME` in timing mode 4 (R161). -/
  gap : Nat := 0
  /-- Retries of the stage, at the next quiet bin (R163). -/
  retry : Nat := 0
  deriving DecidableEq, Repr

/-- What leaves the module, oldest first; the model's own record (log 9). -/
inductive Output where
  /-- A message leaves an end of a link: its frame (R24) and the content that it carries. -/
  | link (e : LinkEnd) (frame : List Byte) (body : Payload)
  /-- A unit leaves for a peer over the ring, from one of the module's addresses (R306, R341). -/
  | unit (p : Peer) (src : Nat) (bytes : List Byte)
  /-- A kind-3 report is pushed to a subscriber (R197). -/
  | report (p : Peer) (bytes : List Byte)
  /-- A select word leaves on a feeder's bias: the word, and the levels of its half cells, true for high (R86, R87). -/
  | selectWord (feeder word : Nat) (levels : List Bool)
  /-- A chain modulates a frame: profile, coded frame, and its amplitude codes at the sixteen points of the falling and of
  the rising edge (R102, R103, R108, R145). -/
  | airFrame (chain wave : Nat) (frame : List AirSym) (fall rise : List Nat)
  /-- The firmware asks a tag on a coil for an answer: the stage's frame, bits, `FDTMIN`, window and spacing (R159). -/
  | request (ca : Nat) (r : Request)
  /-- The injector of a feeder drives a burst: coil, power in dBm, length in us (R224). -/
  | senseBurst (ca : Nat) (dbm : Int) (us : Nat)
  | status (idx sub code : Nat)
  /-- A frame is forwarded through a port, of high or low priority (R333). -/
  | ring (p : Port) (high : Bool) (f : RingIn)
  | arp (p : Port) (ip : Nat)
  | icmp (p : Port) (ip : Nat)
  | supervision (p : Port) (seq : Nat)
  | spiFrame (s : Sel) (bytes : List Byte)
  /-- The radio sends the packet of a transmit slot: slot, channel, its own output in dBm (R436), length of
  its ramps in us and their shape (R458), in extended mode the short address and map generation of its XHR (R451), and in extended mode the bit slots of each payload symbol,
  sub-carrier, bit level and coded bit (R438, R453). -/
  | radioPacket (pkt channel : Nat) (dbm : Rat) (ramp shape : Nat) (xhr : Option (Nat × Nat)) (symbols : List (List (Nat × Nat × Bool)))
  /-- The payload of a MAC data frame for a door node (R455). -/
  | nodeFrame (node : Nat) (payload : List Byte)
  /-- An output pin of the TWIN connector (R359): pin number and level. -/
  | twinPin (pin level : Nat)
  | wakeSymbol (toDie : Die)
  deriving DecidableEq, Repr

/-- An answer on its way out: a unit for a peer with the request it answers, the status of a row that writes one object, or a Porter message to the
host side. A mirroring lead may hold it back (R365). -/
inductive Reply where
  | unit (p : Peer) (req bytes : List Byte)
  | status (idx sub code : Nat)
  | porter (typ : Nat) (body : Payload)
  deriving DecidableEq, Repr

/-! ### Timebase (R44 to R55) -/

/-- The shadow registers that a read of TBCCL latches (R48). -/
structure Shadow where
  cch : Nat := 0
  mp : Nat := 0
  msrc : Nat := 2
  mcc : Nat := 0
  ts : Nat := 0
  deriving DecidableEq, Repr

/-- The timebase counters and the mains phase (R44 to R54). -/
structure Timebase where
  /-- Carrier counter, 48 bits (R44). -/
  cc : Nat := 0
  /-- Mains phase in mp with its fraction, 0 to 65,536 exclusive (R44). -/
  mp : Rat := 0
  /-- Mains cycle count, 32 bits (R44). -/
  mcc : Nat := 0
  /-- Timestamp, microseconds (R47). -/
  ts : Nat := 0
  /-- Fraction of a TS microsecond in 1/339 (log 1). -/
  tsAcc : Nat := 0
  /-- Mains phase source: 0 locked, 1 free-running, 2 virtual (R51). -/
  src : Nat := 2
  /-- Measured mains frequency in Hz, 0 none (R51). -/
  measured : Rat := 0
  /-- Consecutive accepted edges (R51). -/
  edgeRun : Nat := 0
  /-- Consecutive whole cycles without an accepted edge (R51), and whether the running cycle has had one. -/
  missed : Nat := 0
  edged : Bool := false
  /-- CC of the reference edge (R52). -/
  refEdge : Option Nat := none
  /-- Phase error still to be slewed out, mp (R52). -/
  slew : Int := 0
  /-- The power stage's mains report (R53). -/
  present : Bool := false
  rejected : Nat := 0
  steps : Nat := 0
  ref : RefSrc := .crystal
  shadow : Shadow := {}
  deriving DecidableEq, Repr

/-! ### Tracks (R56 to R81) -/

/-- What a track waits for or does inside an air stage. -/
inductive Phase where
  | none
  | calibWait | lentWait | rampDown | deferRamp | rfWait | word (tries : Nat) | budget | rampUp | trainWait | train
  | inputWait | emit | listen | exchangeEmit | sense | calib
  /-- The stage has begun and found no quiet bin; it ends at the end of the last bin searched (R68). -/
  | horizon (stop : Nat)
  deriving DecidableEq, Repr

/-- A mark that fell in a window: its receive chain, the bin in which it began, its start, and its end once it has ended
(R131, R135, R137). -/
structure WindowMark where
  chain : Nat
  bin : Nat
  fromCc : Nat
  endCc : Option Nat
  deriving DecidableEq, Repr

/-- An open listen window with the decoders, inputs and weights set at its opening (R61, R126, R129, R132). -/
structure Window where
  ref : Nat := 0
  close : Nat := 0
  /-- Input chains and coils, in order; one entry for a direct listen. -/
  inputs : List (Nat × Nat) := []
  /-- The weights of each output, one for each input, Q1.14 (R132); a dropped input has weight zero (R133). -/
  weights : List (List (Int × Int)) := []
  outs : List Nat := []
  decs : List Nat := []
  allsof : Bool := false
  amp : Bool := false
  maxlen : Nat := 280
  /-- 0 automatic, else the fixed range code plus 1 (R127). -/
  gain : Nat := 0
  dropped : Bool := false
  /-- Valid SOFs: output, decoder type, ct from the reference. -/
  sofs : List (Nat × Nat × Nat) := []
  early : Bool := false
  marks : List WindowMark := []
  cweak : Bool := false
  /-- The range of each input's chain at the opening (R124). -/
  ranges : List Nat := []
  deriving DecidableEq, Repr

/-- The tables that a stage took when it began (R59, R143): waveform profile, the length of its frame buffer in bits, listen
set, combiner configuration and sense profile. -/
structure StageData where
  profile : List Byte := []
  bits : Nat := 0
  lset : List Byte := []
  comb : List Byte := []
  sense : List Byte := []
  deriving DecidableEq, Repr

/-- A member of the SELECT or shaping set in use (R105): chain, coil, relative phase, commanded power in W, and whether
the chain stands at its cap (R98, R107). -/
structure Member where
  chain : Nat
  ca : Nat
  phase : Nat
  power : Rat
  clamp : Bool
  deriving DecidableEq, Repr

/-- One track (R56 to R81). -/
structure Track where
  entry : Nat := 0
  stage : Nat := 0
  /-- ITSTAT.STATE: 0 stopped, 1 waiting, 2 air action, 3 DEFER, 4 MEET, 5 HELD, 6 stopping. -/
  st : Nat := 0
  lout : Nat := 0
  sreason : Nat := 0
  late : Bool := false
  busyStart : Bool := false
  vlate : Bool := false
  /-- Return stack, newest first (R80). -/
  stack : List Nat := []
  retries : Nat := 0
  /-- Successor chosen at the end of the stage (R66). -/
  next : Nat := 0
  /-- The stage about to begin is a retry (R61 RQUIET). -/
  isRetry : Bool := false
  /-- Retries exhausted: shown in the descriptor of the packet (R66). -/
  rxh : Bool := false
  /-- End E of the predecessor (R68). -/
  predEnd : Nat := 0
  /-- No stage has begun since START, so that E is the CC of START (R68). -/
  first : Bool := false
  /-- CC at which the phase in progress began. -/
  markCc : Nat := 0
  /-- Release CC of the most recent MEET since START (R69). -/
  meetCc : Option Nat := none
  meetMask : Nat := 0
  /-- Selected coil (R61, COMB). -/
  coil : Option Nat := none
  /-- Members of the SELECT or SHAPE in progress or in force, member 0 first. -/
  members : List Member := []
  /-- Replacement frame buffer of a verdict (R71). -/
  repl : Option Nat := none
  /-- The stage as read at its begin (R58), and the tables it took then. -/
  raw : List Byte := []
  data : StageData := {}
  /-- The frame that the stage has emitted: bits and data; none with MODTYPE 0 (R104, R145). -/
  sent : Option (Nat × List Byte) := none
  phase : Phase := .none
  startCc : Nat := 0
  /-- The stage that began last: its index and the CC of its start (R141). -/
  began : Option (Nat × Nat) := none
  /-- CC at which a stage last ended with an outcome other than OK (R141). -/
  notOk : Option Nat := none
  dueCc : Nat := 0
  /-- CC at which TOUT expires; none when TOUT is 0. -/
  toutCc : Option Nat := none
  win : Option Window := none
  /-- Stage-result packets posted since START, modulo 65,536, and whether there is one (R138, R139). -/
  pseq : Nat := 0
  posted : Bool := false
  /-- Descriptors that have entered, head first, 16 bytes each (R74). -/
  queue : List (List Byte) := []
  /-- Descriptors still to enter, one in each fabric cycle, and the CC at which the first of them became due (R74). -/
  entering : List (List Byte) := []
  enterCc : Nat := 0
  /-- A flush waits for the end of the packet that is partly entered (R78). -/
  flushReq : Bool := false
  flushed : Bool := false
  held : Bool := false
  stallCt : Nat := 0
  /-- The packet that waits for room, and whether a DEFER (3), the halt of a STOP (2), a stop (0), a successor (1) or the
  halt descriptor of an ABORT (4) follows it. -/
  heldPkt : List (List Byte) := []
  /-- The halt descriptor that an ABORT puts after a held packet (R79). -/
  heldHalt : List (List Byte) := []
  heldThen : Nat := 0
  heldIrq : Bool := false
  /-- The track serves a credential read beside a sweep: its coil and its first stage (R183, R372). -/
  service : Option (Nat × Nat) := none
  /-- The bursts of a sense have begun: the coils judged against their closed baseline (R227). -/
  burst : Option (List Nat) := none
  /-- TS runs one of the firmware's own row senses (R236). -/
  rowSense : Bool := false
  deriving DecidableEq, Repr

/-! ### Field engine (R82 to R114) -/

/-- A transmit chain (R93 to R101). -/
structure Chain where
  feeder : Nat := 0
  routed : Bool := false
  /-- XSTAT.STATE: 0 at zero, 1 ramping, 2 at level, 3 modulating. -/
  st : Nat := 0
  /-- The ramp in progress is an on-ramp. -/
  up : Bool := false
  rampCc : Nat := 0
  clamp : Bool := false
  budgetWait : Bool := false
  lentTo : Option Nat := none
  calib : Bool := false
  sstale : Bool := false
  reduced : Bool := false
  /-- Commanded steady power in W (R97); 0 at zero. -/
  power : Rat := 0
  /-- Ramp times in µs and shape (0 linear, 1 raised cosine) that the newest SELECT or SHAPE took (R99, R107). -/
  onUs : Nat := 10
  offUs : Nat := 10
  shape : Nat := 1
  /-- A reduction in progress: amplitude code before it, its start and its length in ct (R111, R112). -/
  cutFrom : Nat := 0
  cutCc : Nat := 0
  cutCt : Nat := 0
  phase : Nat := 0
  fwd : Nat := 0
  refl : Nat := 0
  clamps : Nat := 0
  deriving DecidableEq, Repr

/-- A feeder port (R82 to R91). -/
structure Feeder where
  /-- FDSTAT.STATUS (R83). -/
  status : Nat := 0
  ack : Bool := false
  coil : Nat := 0
  tune : Nat := 0
  ibias : Nat := 0
  biasOn : Bool := true
  /-- The word just sent has been acknowledged. -/
  acked : Bool := false
  /-- A coil is connected: a word has been acknowledged since the bias came up (R88). -/
  conn : Bool := false
  /-- The SHORT (3) or FENCED (4) that awaits its acknowledgement; 0 none (R83). -/
  held : Nat := 0
  unacked : Nat := 0
  /-- Consecutive TIMEOUT ends after an unacknowledged repeat (R90). -/
  run : Nat := 0
  deriving DecidableEq, Repr

/-- Power budget and temperature (R109 to R112). -/
structure Budget where
  /-- Number of the 1 ms tick now running. -/
  ms : Nat := 0
  /-- Ticks counted within the last 60,000, oldest first. -/
  ticks : List Nat := []
  /-- S exceeded the continuous budget at an instant of the running tick. -/
  exceeded : Bool := false
  /-- Tracks waiting for admission, first waiter first (R109). -/
  waiters : List Nat := []
  amb : Int := 0
  sink : Int := 0
  /-- The 8 W limit of R112 is in force. -/
  throttled : Bool := false
  /-- The 105 degree condition stands (R112). -/
  hot : Bool := false
  waits : Nat := 0
  reductions : Nat := 0
  /-- CC of the most recent level change of any chain (R121). -/
  levelCc : Nat := 0
  deriving DecidableEq, Repr

/-- Calibrated values of a coil in use (R114, R474, R478). -/
structure CoilCal where
  k : Rat := 1
  tune : Nat := 0
  impedance : Rat := 0
  estimate : Rat := 0
  deriving DecidableEq, Repr

/-! ### Receive (R115 to R143) -/

/-- A mark in progress: the bin in which it began, the bin from which its span in this cycle still scores, its start, and
its energy in dB (R135 to R137). -/
structure RunMark where
  bin : Nat
  fromBin : Nat
  cc : Nat
  energy : Int
  deriving DecidableEq, Repr

/-- A receive chain (R117 to R125, R142). -/
structure Rx where
  range : Nat := 0
  trained : Bool := false
  weak : Bool := false
  training : Bool := false
  trwait : Bool := false
  imark : Bool := false
  /-- Cancellation depth in dB. -/
  depth : Nat := 0
  ci : Nat := 0
  cq : Nat := 0
  /-- CC at the end of the last training (R121). -/
  trainCc : Option Nat := none
  /-- CC at which the training in progress began, and the number of the free values it shows meanwhile (R119). -/
  trainFrom : Nat := 0
  trainDraw : Nat := 0
  /-- The highest range that did not overrange in the last training (R119, R120). -/
  top : Nat := 3
  /-- The residual at the coupler measured last, in 1/256 dBm (R122, R124). -/
  resid : Int := 0
  /-- CCs of the range changes counted since the chain entered listen (R125). -/
  counted : List Nat := []
  trainings : Nat := 0
  weakCt : Nat := 0
  marks : Nat := 0
  rchanges : Nat := 0
  trwaits : Nat := 0
  /-- Length of the run of third-row training results (R120). -/
  run : Nat := 0
  /-- The mark in progress (R135). -/
  mark : Option RunMark := none
  /-- The tracked floor of the out-of-band energy in dB, and the CC to which it has followed (R135). -/
  floor : Rat := 0
  floorCc : Nat := 0
  /-- A receive calibration step is running. -/
  calib : Bool := false
  /-- Values published while measurements are held (R467): depth. -/
  stale : Option Nat := none
  deriving DecidableEq, Repr

/-- An entry of the impulse map (R136, R137). -/
structure Bin where
  score : Nat := 0
  quiet : Bool := true
  hit : Bool := false
  hits : Nat := 0
  frames : Nat := 0
  deriving DecidableEq, Repr

/-- The blocks of one arming of capture (R141): its number, which names the sample bytes in Config, the CC of its first
sample, its chains, the blocks written, the range changes (chain, CC, range from then on) and the marks (chain, CC). -/
structure CaptureRun where
  fill : Nat
  armCc : Nat
  chains : List Nat
  blocks : Nat
  scale : List (Nat × Nat × Nat)
  marks : List (Nat × Nat)
  deriving DecidableEq, Repr

/-- Sample capture (R141). -/
structure Capture where
  /-- 0 idle, 1 armed, 2 triggered, 3 done. -/
  state : Nat := 0
  armCc : Nat := 0
  trigCc : Nat := 0
  /-- Chains captured, lower first, and pre-trigger blocks, as taken at arming and trigger. -/
  chains : List Nat := []
  pre : Nat := 0
  /-- Blocks written since arm, once capture has stopped. -/
  final : Nat := 0
  /-- Number of the arming, which names the sample bytes in Config. -/
  fill : Nat := 0
  /-- Since arm: the ranges of the captured chains (chain, CC, range from then on) and their marks (chain, CC). -/
  scale : List (Nat × Nat × Nat) := []
  marks : List (Nat × Nat) := []
  /-- Earlier armings, newest first, whose blocks stand until they are overwritten. -/
  old : List CaptureRun := []
  deriving DecidableEq, Repr

/-! ### Events, journal, observers, commands (R37, R300 to R329) -/

/-- A configured journal store (R324, R325). -/
structure Store where
  ack : Nat := 0
  send : Nat := 0
  /-- The acknowledged offset as the field side knows it (R24, R326). -/
  known : Nat := 0
  deriving DecidableEq, Repr

/-- The event committer and the Guestbook (R37, R38, R320 to R327). -/
structure Journal where
  /-- Records held, oldest first. -/
  ring : List JRec := []
  next : Nat := 0
  chain : List Byte := List.replicate 8 0
  esn : Nat := 1
  /-- First ESN beyond the reserved block (R38). -/
  esnLimit : Nat := 65536
  /-- First journal offset beyond the reserved block (R327). -/
  offLimit : Nat := 4194304
  /-- Released offset, and the one last checkpointed (R326, R327). -/
  released : Nat := 0
  checkpoint : Nat := 0
  /-- Highest ESN the host side has acknowledged over the Porter (R30). -/
  hostEsn : Nat := 0
  backpressure : Bool := false
  /-- Offset just beyond the newest loss marker (R326). -/
  markerEnd : Nat := 0
  markers : Nat := 0
  dropped : Nat := 0
  resent : Nat := 0
  ignored : Nat := 0
  evDropped : Nat := 0
  stores : Tab Store := []
  /-- Records received at the host side for streaming, oldest first (R30, R324). -/
  stream : List JRec := []
  /-- Highest ESN of the events received at the host side (R39). -/
  seen : Nat := 0
  deriving DecidableEq, Repr

/-- An observer (R310). -/
structure Observer where
  peer : Peer
  mask : Nat
  unacked : List JRec := []
  dropped : Bool := false
  deriving DecidableEq, Repr

/-- A command-key slot's counter state (R313 to R318). -/
structure CmdSlot where
  last : Nat := 0
  /-- First counter beyond the newest reservation; 0 with no reservation. -/
  reserved : Nat := 0
  rights : Option Nat := none
  /-- TS of BAD_MAC results within the last 60 s. -/
  bad : List Nat := []
  heldUntil : Option Nat := none
  deriving DecidableEq, Repr

/-- Class A command counters (R319). -/
structure Cmds where
  slots : Tab CmdSlot := []
  badMac : Nat := 0
  stale : Nat := 0
  consumed : Nat := 0
  holds : Nat := 0
  deriving DecidableEq, Repr

/-- A request answered within the last 2 s (R308): peer, unit, response unit, time. -/
structure Answered where
  peer : Peer
  unit : List Byte
  resp : List Byte
  ts : Nat
  deriving DecidableEq, Repr

/-! ### Links (R24 to R31, R361) -/

/-- One end of a message link. -/
structure Link where
  up : Bool := false
  nextTx : Nat := 0
  expRx : Nat := 0
  /-- Sent and not acknowledged, oldest first, at most 32. -/
  window : List LinkMsg := []
  /-- Queued and not yet sent. -/
  queue : List (Nat × Payload) := []
  /-- Value of the last LINK_ACK received. -/
  lastAck : Option Nat := none
  /-- Sequenced traffic received since the last acknowledgement sent. -/
  owe : Bool := false
  badCrc : Nat := 0
  badHeader : Nat := 0
  badType : Nat := 0
  badLength : Nat := 0
  outOfSeq : Nat := 0
  retrans : Nat := 0
  losses : Nat := 0
  resyncs : Nat := 0
  /-- Echoes matched by an M-ECHO loop-back (R476). -/
  echoes : Nat := 0
  deriving DecidableEq, Repr

/-! ### Faults (R381 to R399) -/

/-- First-error capture (R395). -/
structure FirstError where
  frozen : Bool := false
  adr : Nat := 0
  master : Nat := 0
  typ : Nat := 0
  ts : Nat := 0
  cc : Nat := 0
  deriving DecidableEq, Repr

/-- A fault collector (R382 to R396). -/
structure Collector where
  /-- Highest outstanding effective level by class; 0 none. -/
  outst : Tab Nat := []

  queue : List (List Byte) := []
  ovf : Tab Nat := []
  fseq : Nat := 0
  cap : FirstError := {}
  /-- Safe state held (field side). -/
  safe : Bool := false
  /-- The fault record that forced the safe state, until firmware journals its entry (R388 step 4). -/
  safeRec : Option (List Byte) := none
  haltOut : Bool := false
  /-- Level 4 has stopped the die's cores; the restart delay runs (R390). -/
  halting : Bool := false
  deriving DecidableEq, Repr

/-! ### Exchanges, sweeps, roster and reports (R164 to R201) -/

/-- The objects that an exchange keeps from its start (R171): FSDI, the highest rates, attempts per block. -/
structure Part4Cfg where
  fsdi : Nat := 8
  rateA : Nat := 2
  rateB : Nat := 2
  attempts : Nat := 3
  deriving DecidableEq, Repr

/-- A template run or APDU exchange in progress or last ended (R166, R170). -/
structure Service where
  status : Nat := 0
  handle : Nat := 0
  ca : Nat := 0
  template : Nat := 0
  /-- ESN at which the exchange opened (R499, group 8 type 6). -/
  esn : Nat := 0
  /-- The frame built per R169. -/
  frame : List Byte := []
  resp : List Byte := []
  /-- Command APDU pages as written (R166). -/
  cmd : List Byte := []
  /-- The track released to the exchange (R183). -/
  track : Option Nat := none
  /-- What the exchange keeps from its start (R171): the template's bytes, parameters, UID and protocol of its tag, and the
  protocol objects. -/
  tmpl : List Byte := []
  params : List Byte := []
  uid : List Byte := []
  proto : Nat := 0
  cfg : Part4Cfg := {}
  /-- The tag's data is read back first (R163, R373). -/
  verify : Bool := false
  deriving DecidableEq, Repr

/-- A roster entry (R186); the handle is index + 2^17 times the index generation. -/
structure Entry where
  uid : List Byte := []
  proto : Nat := 0
  ca : Nat := 0
  /-- Presence: 0 free, 1 candidate, 2 present, 3 absent, 4 moving. -/
  pres : Nat := 0
  secured : Bool := false
  origin : Bool := false
  quar : Bool := false
  ambig : Bool := false
  confirms : Nat := 0
  misses : Nat := 0
  pca : Nat := 0
  igen : Nat := 0
  gfirst : Nat := 0
  glast : Nat := 0
  seen : Nat := 0
  deriving DecidableEq, Repr

/-- An open ISO/IEC 14443-4 session (R164, R166): the entry's index, its standard, the PICC's frame size and FWI, the block
number in use and the rates of both directions. -/
structure Session where
  idx : Nat
  typeB : Bool := false
  fsc : Nat := 32
  fwi : Nat := 4
  num : Nat := 0
  dr : Nat := 0
  ds : Nat := 0
  deriving DecidableEq, Repr

/-- A sweep's results, held in order until their close (R188). -/
structure SweepResult where
  plan : Nat
  coils : List Nat
  results : List CoilResult
  deriving DecidableEq, Repr

/-- A record of kind-3 reports and of roster and security events (R196). -/
abbrev ReportRec := List Byte

/-- A roster or security event that waits for the end of its close (R192, R203): journal group, type, record, and for
security events the profile and status. -/
structure CloseEvent where
  group : Nat
  typ : Nat
  record : ReportRec
  profile : Nat
  status : Nat
  deriving DecidableEq, Repr

/-- A change that a close applies: the tag, the coils on which it was seen in the sweep (none for an entry covered and
not seen), and the coil by which it is ordered (R174, R191). -/
structure CloseItem where
  tag : TagId
  seen : List Nat
  ca : Nat
  deriving DecidableEq, Repr

/-- A close in progress, which may wait for the quarantine of a released index (R188). -/
structure Closing where
  result : SweepResult
  todo : List CloseItem
  events : List CloseEvent := []
  /-- Sightings that found no index (R199). -/
  lost : Nat := 0
  waited : Bool := false
  /-- N and M as they stood when the close began (R193), and the entries of the generation before it (R197). -/
  confirm : Nat := 2
  miss : Nat := 3
  before : Tab Entry := []
  deriving DecidableEq, Repr

/-- The roster (R186 to R199). -/
structure Roster where
  entries : Tab Entry := []
  /-- Indexes never used since the roster was last emptied start here (R188). -/
  fresh : Nat := 0
  /-- Released indexes with their TS, oldest first. -/
  released : List (Nat × Nat) := []
  /-- Index generation last used by an index. -/
  igens : Tab Nat := []
  gen : Nat := 0
  full : Bool := false
  overflowGen : Bool := false
  overflowed : Nat := 0
  waits : Nat := 0
  outside : Nat := 0
  /-- Kind-3 records of the last 64 generations with their RFLAGS, oldest first (R197). -/
  changes : List (Nat × Nat × List ReportRec) := []
  /-- The digest of the last close's full kind-3 report (R366). -/
  digest : Nat := 0
  /-- Open ISO/IEC 14443-4 sessions (R166). -/
  sessions : List Session := []
  deriving DecidableEq, Repr

/-- A sweep plan's running values (R181, R201). -/
structure PlanState where
  invalid : Bool := false
  waves : Nat := 0
  lastGen : Nat := 0
  failed : Nat := 0
  unresolved : Nat := 0
  merged : Nat := 0
  replans : Nat := 0
  /-- TS at the start of its previous sweep (R182). -/
  started : Option Nat := none
  deriving DecidableEq, Repr

/-- What reading a coil takes (R177): the feeders it energises and listens on, the member chains of its shaping set, the
coils of the set, its combiner's input coils and output coils, and the coils of its plan that are its survey neighbours. -/
structure CoilNeed where
  ca : Nat
  energises : List Nat
  inputs : List Nat
  chains : List Nat
  members : List Nat
  ins : List Nat
  outs : List Nat
  near : List Nat
  deriving DecidableEq, Repr

/-- The sweep that runs (R177 to R183). -/
structure Running where
  plan : Nat
  coils : List Nat
  tracks : List Nat
  /-- The compiled plan that the sweep keeps (R201): the protocols, what each coil takes, and whether a survey is held. -/
  protocols : Nat := 0
  needs : List CoilNeed := []
  surveyed : Bool := false
  /-- Waves not yet begun; each lists its coils with their tracks. -/
  waves : List (List (Nat × Nat))
  /-- The wave in progress, and its connects (R179): track, coil. -/
  current : List (Nat × Nat) := []
  connects : List (Nat × Nat) := []
  /-- Tracks released to service exchanges at the last wave boundary (R183). -/
  away : List Nat := []
  /-- Waves begun. -/
  wave : Nat := 0
  results : List CoilResult := []
  stopped : Bool := false
  deriving DecidableEq, Repr

/-- Sweep queue and results (R182, R188). -/
structure Sweeps where
  plans : Tab PlanState := []
  /-- Requests in their order; one that an instant of TS raised shows it (R182). -/
  queue : List (Nat × Option Nat) := []
  running : Option Running := none
  /-- Results that wait for their close, oldest first, and the close in progress. -/
  held : List SweepResult := []
  closing : Option Closing := none
  deriving DecidableEq, Repr

/-- The report object's build (R197, R201). -/
structure Report where
  status : Nat := 0
  bytes : List Byte := []
  nrec : Nat := 0
  digest : Nat := 0
  deriving DecidableEq, Repr

/-! ### Tag security (R202 to R223) -/

/-- An issuer public key (R208). -/
structure Issuer where
  curve : Nat := 0
  proto : Nat := 0
  pfx : Nat := 0
  mask : Nat := 0
  x : Nat := 0
  y : Nat := 0
  deriving DecidableEq, Repr

/-- An entry of the attempt log (R213, R216). -/
structure Attempt where
  tag : TagId
  fails : List Nat := []
  pending : Bool := false
  deriving DecidableEq, Repr

/-- A security result that waits for the next close (R203): the entry's handle, the record type of group 2 (R499), and
for an `ORIGIN` the verifying issuer slot (R221). -/
structure SecChange where
  handle : Nat
  typ : Nat
  profile : Nat
  status : Nat
  slot : Nat
  deriving DecidableEq, Repr

/-- A security action running or queued (R203, R204): the entry's handle, profile, what runs. -/
structure SecAction where
  handle : Nat
  profile : Nat
  /-- 1 secure, 2 verify origin. -/
  action : Nat
  fromHost : Bool
  deriving DecidableEq, Repr

/-- What the running security action keeps from its start (R209, R213, R222): its tag and coil, its key and challenge, its
templates with their frames, and the issuer slots. -/
structure SecHeld where
  tag : TagId := { proto := 0, uid := [] }
  ca : Nat := 0
  method : Nat := 0
  key : List Byte := []
  challenge : List Byte := []
  tmpl : List Byte := []
  frame : List Byte := []
  tmpl2 : List Byte := []
  frame2 : List Byte := []
  high : Bool := false
  issuers : Tab Issuer := []
  deriving DecidableEq, Repr

/-- Key store, attempt log, quarantine list and security actions (R205 to R223). -/
structure Keys where
  /-- Kind 0 to 3 material at 256 kind + slot; empty when unlisted. -/
  store : Tab (List Byte) := []
  issuers : Tab Issuer := []
  refused : Nat := 0
  attempts : List Attempt := []
  quarantine : List TagId := []
  failed : Nat := 0
  logFull : Nat := 0
  /-- Verifying issuer slot + 1 of each entry index; 0 none (R221). -/
  verified : Tab Nat := []
  status : Nat := 0
  running : Option SecAction := none
  kept : SecHeld := {}
  queue : List SecAction := []
  changes : List SecChange := []
  esn : Nat := 0
  /-- The track released to the running action (R183). -/
  track : Option Nat := none
  deriving DecidableEq, Repr

/-! ### Card detection (R224 to R241) -/

/-- A coil's sense state (R227 to R232). -/
structure SenseCoil where
  openI : Int := 0
  openQ : Int := 0
  openSet : Bool := false
  closedI : Int := 0
  closedQ : Int := 0
  closedSet : Bool := false
  latched : Bool := false
  /-- Detection hold-off and door hold-off running. -/
  hold : Bool := false
  doorHold : Bool := false
  /-- The last four bursts judged under rows 4 to 6, newest first (R230). -/
  last : List (Int × Int) := []
  dev : Nat := 0
  detects : Nat := 0
  deriving DecidableEq, Repr

/-- Card detection (R227 to R241). -/
structure Sense where
  coils : Tab SenseCoil := []
  scanner : Bool := false
  skipped : Nat := 0
  /-- The row that the firmware senses next in Run (R236). -/
  row : Nat := 0
  /-- The coils of the Lantern burst in progress or to repeat (R237). -/
  scanCoils : List Nat := []
  repeatCa : Option Nat := none
  /-- The scanner's select word that is out: its coil, which of the two it is, and the start of its first cell (R225). -/
  word : Option (Nat × Nat × Nat) := none
  /-- The burst in progress is that repeat. -/
  repeating : Bool := false
  /-- Detects of Lantern whose events and plan requests wait for the cores (R230, R237). -/
  late : List (List Byte × Nat) := []
  deriving DecidableEq, Repr

/-! ### Kenier core, guest code, debug (R242 to R278) -/

/-- A product on its way to PH:PL (R253). -/
structure Product where
  value : BitVec 64
  accumulate : Bool
  /-- Instructions issued since. -/
  age : Nat := 0
  deriving DecidableEq, Repr

/-- A transfer whose delay slot executes next (R252). -/
structure Slot where
  /-- Address of the branch. -/
  branch : Nat
  /-- Where fetch continues after the slot. -/
  target : Nat
  /-- What follows the slot: 0 the transfer, 1 the transfer of a call, 2 of a return, 3 the next instruction in sequence. -/
  window : Nat
  deriving DecidableEq, Repr

/-- A stale reading of Bare mode (R255): register key, value before the write, instructions left. -/
structure Stale where
  reg : Nat
  old : Word
  left : Nat
  deriving DecidableEq, Repr

/-- A Kenier core, or the pair in lockstep (R242 to R266). -/
structure Kenier where
  /-- The 256 windowed registers (R245). -/
  win : Tab Word := []
  /-- H1 to H7 (R244). -/
  house : Tab Word := []
  ph : Word := 0
  pl : Word := 0
  products : List Product := []
  wnow : BitVec 4 := 0
  wold : BitVec 4 := 0
  /-- Address of the next instruction, bank in [24:16]. -/
  pc : BitVec 25 := 0x1C00000
  /-- The instruction at offset 0xFFFC has executed in sequence (R258). -/
  past : Bool := false
  slot : Option Slot := none
  stale : List Stale := []
  ie : Bool := false
  trp : Bool := true
  /-- KSTAT.MODE: true Bare (R254). -/
  bare : Bool := true
  guest : Bool := false
  lock : Bool := false
  /-- Instructions executed and core cycles passed since LCK (R260). -/
  lockCt : Nat := 0
  lockCycles : Nat := 0
  tstat : Word := 6
  tpc : BitVec 25 := 0
  tcause : Word := 0
  taddr : BitVec 25 := 0
  tvec : Word := 0x1C00000
  dbk : BitVec 9 := 0
  abk : BitVec 9 := 0
  irqen : Word := 0
  /-- Latched interrupt sources (R266). -/
  irq : Word := 0
  cycle : Nat := 0
  cych : Word := 0
  fetchct : Word := 0
  squashct : Word := 0
  /-- WAIT is in progress (R251). -/
  waiting : Bool := false
  /-- Stopped by a level-4 reaction (R390). -/
  stopped : Bool := false
  deriving DecidableEq, Repr

/-- Guest image and calls (R269 to R272). -/
structure Guest where
  state : Nat := 0
  calls : Nat := 0
  stops : Nat := 0
  lastAddr : Nat := 0
  /-- A handler runs: number and template, and core cycles run in guest mode. -/
  running : Option (Nat × Nat) := none
  cycles : Nat := 0
  /-- H1 to H7 as the firmware saved them at the call (R271). -/
  saved : Tab Word := []
  deriving DecidableEq, Repr

/-- Core debug (R274 to R276). -/
structure Debug where
  minutes : Nat := 0
  halted : Bool := false
  defer : Bool := false
  /-- A single step has been armed (R276). -/
  stepping : Bool := false
  addr : Nat := 0
  typ : Nat := 0
  err : Bool := false
  data : Word := 0
  consumes : Nat := 0
  halts : Nat := 0
  deriving DecidableEq, Repr

/-! ### Memory and settings (R279 to R299) -/

/-- SRAM words with errors and the scrubber (R281, R282). -/
structure Ecc where
  /-- By word number (address / 8): 1 single-bit, 2 uncorrectable; 0 good. -/
  bad : Tab Nat := []
  /-- The same on the host side (R297). -/
  hostBad : Tab Nat := []
  pos : Nat := 0
  hostPos : Nat := 0
  /-- Corrected errors of the pass, by bank. -/
  counts : Tab Nat := []
  corrected : Nat := 0
  uncorrectable : Nat := 0
  hostCorrected : Nat := 0
  deriving DecidableEq, Repr

/-- An operation of the NVM controller (R284). -/
structure NvmOp where
  prio : Nat
  erase : Bool
  sector : Nat
  addr : Nat
  data : List Byte
  deriving DecidableEq, Repr

/-- An entry of the counter log (R285). -/
structure LogEntry where
  typ : Nat
  ref : Nat
  val : Nat
  deriving DecidableEq, Repr

/-- A last-gasp image (R295). -/
structure Gasp where
  ts : Nat
  counters : List Nat
  esn : Nat
  storing : Bool
  tail : List JRec
  /-- Exchanges in flight: handle, CA, kind, ESN. -/
  flight : List (Nat × Nat × Nat × Nat)
  consumed : Bool
  deriving DecidableEq, Repr

/-- The NVM controller of the field side and what it keeps (R284, R285, R295). -/
structure Nvm where
  busy : Option NvmOp := none
  /-- Erases suspended for a request of priority 1 to 3, newest first: each is resumed after its request (R284). -/
  suspended : List NvmOp := []
  queue : List NvmOp := []
  /-- Counter log, oldest first (R285). -/
  log : List LogEntry := []
  /-- Sectors of the counter log erased; entry `j` stands at ring position `256 dropped + j`. -/
  logDropped : Nat := 0
  erases : Tab Nat := []
  hostErases : Tab Nat := []
  /-- The journal anchor, oldest entry first, and its sectors erased (R327). -/
  anchor : List LogEntry := []
  anchorDropped : Nat := 0
  /-- The host side's counter log, and its sectors erased (R297). -/
  hostLog : List LogEntry := []
  hostDropped : Nat := 0
  recovered : Nat := 0
  /-- A last-gasp slot is armed (R295). -/
  armed : Bool := false
  /-- Last-gasp images written, oldest first, at most 16, and the sequence of the next one. -/
  gasps : List Gasp := []
  gaspSeq : Nat := 0
  /-- Image running (R286): 0 none, 1 A, 2 B. -/
  image : Nat := 0
  deriving DecidableEq, Repr

/-- A settings copy in an NVM slot (R289). -/
structure SettingsCopy where
  slot : Nat
  seq : Nat
  vals : Tab (List Byte)
  deriving DecidableEq, Repr

/-- Settings of both sides (R289 to R292). -/
structure Settings where
  /-- Valid copies, newest first. -/
  fieldCopies : List SettingsCopy := []
  hostCopies : List SettingsCopy := []
  state : Nat := 0
  /-- Settings changed since the last STORE or start-up, by side; and what a running STORE found. -/
  changedF : Bool := false
  changedH : Bool := false
  beforeF : Bool := false
  beforeH : Bool := false
  /-- Settings loaded from defaults, by side. -/
  defaultsF : Bool := false
  defaultsH : Bool := false
  /-- The record that the host side's settings came from defaults is still to be journalled. -/
  noteH : Bool := false
  /-- TS of the last accepted STORE of this power run. -/
  lastStore : Option Nat := none
  snapshot : Tab (List Byte) := []
  /-- The Porter was lost during the STORE: the combined result waits (R294). -/
  waitResult : Option Nat := none
  deriving DecidableEq, Repr

/-- The always-on memory (R288). -/
structure AonMem where
  words : Tab Word := []
  /-- Words whose parity fails. -/
  bad : List Nat := []
  summary : Word := 0
  deriving DecidableEq, Repr

/-! ### Ring (R330 to R346) -/

/-- One ring port (R330, R346). -/
structure RingPort where
  /-- 0 down, 1 up, 2 up in low-power idle. -/
  link : Nat := 0
  losses : Nat := 0
  badFcs : Nat := 0
  /-- The port was down when the sleep state was entered (R343). -/
  armed : Bool := false
  deriving DecidableEq, Repr

/-- The ring port block (R332 to R346). -/
structure Ring where
  a : RingPort := {}
  b : RingPort := {}
  /-- Source MACs of the supervision frames received. -/
  nodes : List Nat := []
  /-- Duplicate table: source and sequence numbers delivered; and forwarded, with the ingress port. -/
  seen : List (Nat × Nat) := []
  sent : List (Nat × Nat × Port) := []
  supSeq : Nat := 0
  /-- Whether own supervision frames came back on RING-A and RING-B in the last two intervals, newest first (R335). -/
  back : List (Bool × Bool) := []
  closed : Bool := false
  dups : Nat := 0
  own : Nat := 0
  untagged : Nat := 0
  tableFull : Nat := 0
  badEnd : Nat := 0
  qfull : Nat := 0
  /-- The relay state shown in 0x8005.01: 0 bypass, 1 inserted, 2 inserted with links pending. -/
  relay : Nat := 0
  relayOps : Nat := 0
  wakes : Nat := 0
  wakesRun : Nat := 0
  discarded : Nat := 0
  /-- IPv4 address and UDP port in use (R340). -/
  ip : Nat := 0
  udp : Nat := 48211
  /-- An address write waits for its second (R340). -/
  newAddr : Bool := false
  service : Bool := false
  /-- Peers that last sent to the service address (R341). -/
  asked : List Peer := []
  /-- Gratuitous ARPs for the service address still to be sent (R341). -/
  arps : Nat := 0
  loop : Nat := 0
  loopSent : Nat := 0
  loopMatched : Nat := 0
  deriving DecidableEq, Repr

/-! ### SPI (R347 to R358) -/

/-- The pending reply of an endpoint (R352): `ALIVE`, `REASON`, and the payload of an `ECHO` answered. -/
structure SpiReply where
  alive : Nat
  reason : Nat
  echo : Option (List Byte)
  deriving DecidableEq, Repr

/-- One endpoint of the SPI port. -/
structure SpiEnd where
  /-- Alive reference with the frame that set it (R351). -/
  ref : Option (Nat × List Byte) := none
  /-- Bytes shifted out during the frame that set the reference. -/
  orig : List Byte := []
  /-- The pending reply (R352); none before the first frame. -/
  reply : Option SpiReply := none
  /-- Payload bytes held of an incomplete unit (R353); none when no unit is open. -/
  part : Option (List Byte) := none
  /-- Outbound segments: payload, first, last. -/
  outq : List (List Byte × Bool × Bool) := []
  deriving DecidableEq, Repr

/-- The SPI host port (R347 to R358). -/
structure Spi where
  e0 : SpiEnd := {}
  e1 : SpiEnd := {}
  acc0 : Nat := 0
  acc1 : Nat := 0
  badFrame : Nat := 0
  badCrc : Nat := 0
  badType : Nat := 0
  aliveBreak : Nat := 0
  retrans : Nat := 0
  full : Nat := 0
  collisions : Nat := 0
  discards : Nat := 0
  attn : Bool := false
  /-- Shift-register echo in force, and a write of 1 that waits for its reply to leave (R356). -/
  echo : Bool := false
  echoArm : Bool := false
  deriving DecidableEq, Repr

/-! ### Twin (R359 to R380) -/

/-- Twin state (R359 to R380). -/
structure Twin where
  /-- 0 alone, 1 lead, 2 second. -/
  role : Nat := 0
  /-- 0x9000.03. -/
  state : Nat := 0
  posA : Bool := false
  roleIn : Bool := false
  hbLine : Bool := false
  hbMsg : Bool := false
  hbOut : Bool := false
  haltIn : Bool := false
  paired : Bool := false
  /-- The peer reports another position for this module (R360). -/
  posBad : Bool := false
  /-- TS at which ROLE_OUT last rose (R363). -/
  roleTs : Nat := 0
  taken : Bool := false
  /-- Own and peer's nonce and ESN of the pairing (R362). -/
  nonce : List Byte := []
  peerNonce : List Byte := []
  peerEsn : Nat := 0
  /-- The twin key (R362). -/
  key : List Byte := []
  /-- Mirrored highest ESN, and newest mirrored record's TS (R368, R369). -/
  mirrorEsn : Nat := 0
  mirrorTs : Nat := 0
  leadTs : Nat := 0
  /-- Journal records whose delivery waits for the acknowledgement of their M_JOURNAL (R365). -/
  heldRecs : List JRec := []
  /-- Responses that the lead holds back until the mirror message is acknowledged (R365). -/
  heldResp : List (Payload × Reply) := []
  /-- Commands whose execution waits for the acknowledgement of their M_COUNTER (R365); whether the answer is a CMD_RSP. -/
  heldCmds : List (Payload × CmdIn × Bool) := []
  /-- Open tag-state changes, each with the mirrored ESN at its opening, and service exchanges known by the mirror (R365,
  R373). -/
  inflight : List (ChangeMsg × Nat) := []
  services : List ChangeMsg := []
  /-- Mirrored counters awaiting confirmed execution: slot, counter (R373). -/
  counters : List (Nat × Nat) := []
  /-- Mirrored sweep: plan, number, last ended wave, energised coils (R365, R372). -/
  sweep : Option (Nat × Nat × Nat) := none
  sweepCoils : List Nat := []
  sweepRes : List CoilResult := []
  lit : List Nat := []
  /-- Feeders taken out of cross-monitoring, and queries outstanding (R370). -/
  masked : List Nat := []
  queries : List Nat := []
  /-- Word path blocked by a yield (R374). -/
  blocked : Bool := false
  /-- A handover waits for its wave boundary (R375). -/
  handing : Bool := false
  takeovers : Nat := 0
  trigger : Nat := 0
  resumeUs : Nat := 0
  resyncs : Nat := 0
  differences : Nat := 0
  answered : Nat := 0
  mismatches : Nat := 0
  discarded : Nat := 0
  tsSteps : Nat := 0
  /-- From M_POWER until both modules are back in Run (R422). -/
  sleeping : Bool := false
  peerSerial : List Byte := []
  deriving DecidableEq, Repr

/-! ### Supply and power states (R400 to R425) -/

/-- Supply, performance level and power state (R400 to R424). -/
structure Power where
  /-- 0 mains, 1 AUX, 2 none. -/
  source : Nat := 0
  warning : Bool := false
  warnings : Nat := 0
  /-- The warning has been asserted in this power run: the field side restarts (R403). -/
  doomed : Bool := false
  auxEvents : Nat := 0
  /-- The field side's state: 0 Run, 1 Lantern, 2 Curfew, 3 Off; and whether the host side sleeps (R409, R416). -/
  state : Nat := 0
  hostAsleep : Bool := false
  /-- The requested state, 1 to 3, while a lead's entry waits for the acknowledgement of its M_POWER (R365); 0 none. -/
  entering : Nat := 0
  /-- Curfew entry's blind window is open on each die (R415). -/
  window : Bool := false
  lastEntry : Nat := 0
  decl : Nat := 0
  declined : Bool := false
  declines : Nat := 0
  lanterns : Nat := 0
  curfews : Nat := 0
  /-- Requested and used performance level (R407, R424). -/
  reqLevel : Nat := 1
  level : Nat := 1
  trans : Bool := false
  transitions : Nat := 0
  /-- A transition requested during a locked sequence (R268). -/
  deferredLevel : Option Nat := none
  /-- The field side has not started up since power was applied. -/
  unstarted : Bool := true
  /-- REG_OK, OSC_OK, MEM_OK, LOGIC_OK of the field die. -/
  regOk : Bool := true
  oscOk : Bool := true
  memOk : Bool := true
  logicOk : Bool := true
  padlat : BitVec 4 := 0
  hostPadlat : BitVec 4 := 0
  wakeen : BitVec 8 := 0xFE
  hostWakeen : BitVec 8 := 0xFE
  lastWake : Nat := 0
  /-- WAKESRC.FROM: 1 Lantern, 2 Curfew. -/
  wokeFrom : Nat := 0
  /-- The last source other than a brown-out during a wake (R423), TS and count. -/
  wakeShown : Nat := 0
  wakeTs : Nat := 0
  wakes : Nat := 0
  cause : Nat := 0
  /-- Host die: in reset, ready; field die: recovery boot (R286, R337). -/
  hostReset : Bool := false
  hostReady : Bool := false
  recovery : Bool := false
  /-- A field restart waits for the host side to be ready (R397). -/
  restartWaits : Bool := false
  /-- Ports stopped serving LDP by a host Fence (R382). -/
  hostFenced : Bool := false
  /-- Field-side firmware watchdog: a kick arrived since the last check (R386). -/
  kicked : Bool := false
  missedKicks : Nat := 0
  deriving DecidableEq, Repr

/-! ### Door link (R426 to R461) -/

/-- A queued transmit command (R433). -/
structure TxCmd where
  pkt : Nat
  urgent : Bool
  pri : Bool
  after : Then
  /-- Acceptance at the head, CC; none while it waits behind others. -/
  t0 : Option Nat := none
  retries : Nat := 0
  /-- The coexistence lead has ended. -/
  leadDone : Bool := false
  calAbort : Bool := false
  /-- Ramp-up has started. -/
  onAir : Bool := false
  /-- The settings of 0x7010.06, .08 and .0A in force for this packet (R446). -/
  coex : Bool := false
  abort : Bool := false
  ramp : Nat := 0
  /-- A denial defers it until COEX_RETRY. -/
  waiting : Bool := false
  deriving DecidableEq, Repr

/-- The door-link radio (R428 to R445, R450, R459). -/
structure Radio where
  state : Nat := 0
  /-- The state that a settle or a transition in progress leads to, and whether a transition other than a settle runs. -/
  goal : Nat := 0
  moving : Bool := false
  lock : Bool := false
  calPend : Bool := false
  cal : Bool := false
  settle : Bool := false
  coexReq : Bool := false
  coexPri : Bool := false
  coexGnt : Bool := false
  rxBusy : Bool := false
  queue : List TxCmd := []
  temp : Int := 0
  calTemp : Int := 0
  cals : Nat := 0
  aborts : Nat := 0
  imageDb : Nat := 0
  txst : Nat := 0
  /-- FEM pins: PWR, PA, LNA, BYP in bits 0 to 3 (R438). -/
  fem : BitVec 4 := 0
  result : Nat := 0
  resUrg : Bool := false
  resAbort : Bool := false
  delay : Nat := 0
  /-- The 1 s buckets begun since the reset in us, newest first; the older buckets of the 3,600 s hold the limit's share
  (R437). -/
  duty : List Nat := []
  /-- A duty refusal since the sum was last below 90 %. -/
  dutyNoted : Bool := false
  dutyRefused : Nat := 0
  denials : Nat := 0
  withdrawals : Nat := 0
  lockLosses : Nat := 0
  femFaults : Nat := 0
  /-- Output reduced by 6 dB until acknowledged (R439). -/
  reduced : Bool := false
  /-- Frequency that the synthesiser is settled at, kHz; 0 off (R426 to R428). -/
  freq : Nat := 0
  /-- The FEM pin level in use: 0 1.8 V, 1 3.3 V (R438). -/
  vio : Nat := 0
  /-- Home channel in use, and THEN of the RX in force. -/
  channel : Nat := 0
  rxThen : Then := .rx
  /-- Option on which the receiver is locked, CC at detection, MCS or 255, node and generation of the XHR. -/
  lockOpt : Nat := 0
  stfCc : Nat := 0
  rxMcs : Nat := 0
  rxExt : Bool := false
  rxNode : Nat := 0xFFFF
  rxGen : Nat := 0
  rxLen : Nat := 0
  /-- The PHR of the packet under reception has been decoded. -/
  phrDone : Bool := false
  /-- The receive slot to be tried first (R457). -/
  rxNext : Nat := 8
  /-- The packet under reception is discarded; the receiver stays locked to its end (R450). -/
  rxDrop : Bool := false
  phrFails : Nat := 0
  rateFails : Nat := 0
  xhrFails : Nat := 0
  fcsFails : Nat := 0
  ringFull : Nat := 0
  ignoredPre : Nat := 0
  badMaps : Nat := 0
  txIgnored : Nat := 0
  /-- Loop-back (R459). -/
  loop : Nat := 0
  loopWait : Bool := false
  loopSent : Nat := 0
  loopMatched : Nat := 0
  /-- Duty of the packets that the loop-back radiates, us. -/
  loopDuty : Nat := 0
  deriving DecidableEq, Repr

/-- A door node's running values (R446, R454, R455, R461). -/
structure Node where
  rssi : Int := 0
  heard : Nat := 0
  received : Nat := 0
  sent : Nat := 0
  upMap : List Byte := []
  upGen : Nat := 0
  /-- Map set sent and not acknowledged, with its generation. -/
  newMap : Option (List Byte × Nat) := none
  /-- The previous uplink map and its generation. -/
  prevMap : List Byte := []
  prevGen : Nat := 0
  /-- Both generations are accepted until a packet with the new one arrives. -/
  bothGens : Bool := false
  downMap : List Byte := []
  downGen : Nat := 0
  /-- SNR of the 96 sub-carriers of the last 8 packets, newest first, in 0.01 dB. -/
  snrs : List (List Int) := []
  sets : Nat := 0
  lastSet : Option Nat := none
  deriving DecidableEq, Repr

/-! ### Calibration and loop-backs (R462 to R478) -/

/-- A correction being stepped (R467): on a transmit chain or a receive chain; the newest target in dB and degrees. -/
structure Correction where
  rx : Bool
  index : Nat
  amp : Rat
  phase : Rat
  deriving DecidableEq, Repr

/-- What a calibration commit writes and start-up loads (R474). -/
structure SavedCal where
  coils : Tab CoilCal
  survey : Tab (List Coupling)
  unsurveyed : List Nat
  gen : Nat
  paGain : Rat
  deriving DecidableEq, Repr

/-- Calibrations, survey and HF and Porter loop-backs (R462 to R478). -/
structure Calib where
  state : Nat := 0
  reason : Nat := 0
  runs : Nat := 0
  dirty : Bool := false
  fromDefaults : Bool := false
  last : Rat := 0
  /-- Calibration running: code, target, track of a CALIB stage. -/
  running : Option (Nat × Nat × Option Nat) := none
  due : List (Nat × Nat) := []
  /-- A commanded calibration that waits for its chain or feeder. -/
  wanted : Option (Nat × Nat) := none
  /-- The chain that a running calibration drives. -/
  chain : Option Nat := none
  corrections : List Correction := []
  /-- Corrections in force, dB and degrees: transmit chain *n* at *n*, receive chain *f* at 16 + *f* (R467). -/
  present : Tab (Rat × Rat) := []
  survey : Tab (List Coupling) := []
  unsurveyed : List Nat := []
  gen : Nat := 0
  seq : Nat := 0
  /-- Committed copy: coil calibrations and survey, loaded at start-up (R474). -/
  saved : Option SavedCal := none
  /-- The commit that runs. -/
  commit : Option SavedCal := none
  paGain : Rat := 0
  staleX : List Nat := []
  staleV : List Nat := []
  staleRssi : Bool := false
  loop : Nat := 0
  loopDepth : Nat := 0
  loopTarget : Nat := 0
  loopSent : Nat := 0
  loopMatched : Nat := 0
  deriving DecidableEq, Repr

/-- A request that the front end has proxied and that is not yet answered: its sender, identifier and unit, and the
dictionary request, none for a class A command (R22, R23). -/
structure Proxied where
  peer : Peer
  rid : Nat
  unit : List Byte
  q : Option DictReq
  deriving DecidableEq, Repr

/-! ### The machine -/

/-- The machine: everything the spec gives it, the queue of waiting commands, and the model's own record of outputs
and count of free values. -/
structure State where
  pending : List Instr := []
  tb : Timebase := {}
  tracks : Tab Track := []
  chains : Tab Chain := []
  feeders : Tab Feeder := []
  budget : Budget := {}
  coilCal : Tab CoilCal := []
  rxs : Tab Rx := []
  bins : Tab Bin := []
  capture : Capture := {}
  template : Service := {}
  apdu : Service := {}
  roster : Roster := {}
  sweeps : Sweeps := {}
  report : Report := {}
  keys : Keys := {}
  sense : Sense := {}
  coreF : Kenier := {}
  coreH : Kenier := {}
  guest : Guest := {}
  dbg : Debug := {}
  /-- Field memory: SRAM and NVM cells of the 25-bit space, sorted (R279, R283). -/
  mem : List Host.Cell := []
  /-- Host-side SRAM as the host core sees it (R297). -/
  hostMem : List Host.Cell := []
  ecc : Ecc := {}
  nvm : Nvm := {}
  settings : Settings := {}
  aon : AonMem := {}
  journal : Journal := {}
  observers : List Observer := []
  recent : List Answered := []
  /-- Requests proxied over the Porter and not yet answered, oldest first (R23). -/
  proxied : List Proxied := []
  cmds : Cmds := {}
  linkF : Link := {}
  linkH : Link := {}
  linkT : Link := {}
  /-- TS that the field side last told the host side, and the report it last pushed (R25, R43). -/
  hostTs : Nat := 0
  carried : List Byte := []
  /-- The part of a report that has come so far. -/
  carrying : List Byte := []
  fltF : Collector := {}
  fltH : Collector := {}
  /-- The last 64 records of both dies, held for 0xA000.07 (R393). -/
  records : List (List Byte) := []
  ring : Ring := {}
  spi : Spi := {}
  twin : Twin := {}
  power : Power := {}
  radio : Radio := {}
  /-- Packet memory of the radio, bytes by offset within its bank (R456). -/
  pktMem : List Host.Cell := []
  nodes : Tab Node := []
  calib : Calib := {}
  /-- Values of RW and RWS objects that differ from their default, by 256 index + sub-index (R300). -/
  dict : Tab (List Byte) := []
  /-- Counters of dictionary objects that no other field holds, by 256 index + sub-index. -/
  counts : Tab Nat := []
  out : List Output := []
  fresh : Nat := 0
  deriving DecidableEq, Repr

/-- Why the machine stops. -/
inductive Fault where
  /-- Raised by no meaning: the spec names no command that stops the module. Safe. -/
  | stopped
  deriving DecidableEq, Repr

/-- Why a command has no meaning. -/
inductive Refusal where
  /-- Raised by an arm of Machine/Dispatch.lean whose command has no meaning yet. Safe. -/
  | notModelled (mnemonic : String)
  deriving DecidableEq, Repr

/-- The machine right after reset: the first power-up of a module, before its field side and host side start
(FIELD_RESET and HOST_READY run the start-ups). Every field's value stands in its declaration. -/
def State.reset : State := {}

end Sys2Proof.Machine
end

