-- ==== Sys2Proof/Machine/Frames.lean ====
section
/-!
DEFINITION. The bytes of a message as it leaves on a link: payloads with the lengths of the catalogues, and the frame around
them (R24, R25, R320, R361). Where no rule lays a payload out, its layout is the model's (log 14).
-/

namespace Sys2Proof.Machine

open Sys2Proof

/-- A number as one byte. -/
def b8 (n : Nat) : Byte := BitVec.ofNat 8 n

/-- Bytes 0 to 55 of a journal record (R320). -/
def jrecBody (r : JRec) : List Byte :=
  natLE 8 r.esn ++ natLE 8 r.ts ++ natLE 6 r.off ++ [BitVec.ofNat 8 r.typ, BitVec.ofNat 8 r.group] ++ padTo 32 r.data

/-- A journal record's 64 bytes (R320). -/
def jrecBytes (r : JRec) : List Byte := jrecBody r ++ padTo 8 r.rmac

/-- A tag in 12 bytes: protocol and UID length, then the UID (log 14). -/
def tagBytes (t : TagId) : List Byte := b8 (t.proto + 16 * t.uid.length) :: padTo 11 t.uid

/-- A sender's 8 bytes: kind, UDP port, IPv4 address (log 14). -/
def peerBytes (p : Peer) : List Byte :=
  match p with
  | .ring ip udp => [1, 0] ++ natLE 2 udp ++ natLE 4 ip
  | .spi => zeros 8

/-- A coil result: coil, status, reason, count, tags (log 14). -/
def coilResultBytes (c : CoilResult) : List Byte :=
  [b8 c.ca, b8 c.status, b8 c.reason, b8 c.tags.length, b8 (bit c.own), 0, 0, 0] ++ (c.tags.map tagBytes).flatten

/-- An attempt-log entry: tag, pending, count, times of the failures (log 14). -/
def attemptBytes (t : TagId) (fails : List Nat) (pend : Bool) : List Byte :=
  tagBytes t ++ [b8 (bit pend), b8 fails.length, 0, 0, 0, 0, 0, 0] ++ (fails.map (natLE 8)).flatten

/-- A part of a state copy: kind, then its content (log 14). -/
def partBytes (p : ResyncPart) : List Byte :=
  match p with
  | .counter slot last => [1, b8 slot] ++ natLE 6 last
  | .reserve m => [2, b8 m.kind, b8 m.slot, 0, 0, 0, 0, 0] ++ natLE 8 m.first
  | .key kind slot mat => [3, b8 kind, b8 slot, 0] ++ natLE 4 mat.length ++ mat
  | .attempt t fails pend => [4, 0, 0, 0, 0, 0, 0, 0] ++ attemptBytes t fails pend
  | .record r => [5, 0, 0, 0, 0, 0, 0, 0] ++ jrecBytes r
  | .roster gen fresh => [6, 0, 0, 0] ++ natLE 4 gen ++ natLE 4 fresh
  | .released l => [12, b8 l.length, 0, 0] ++ (l.map fun q => natLE 4 q.1 ++ natLE 8 q.2).flatten
  | .igens l => [13, b8 l.length, 0, 0] ++ (l.map fun q => natLE 4 q.1 ++ natLE 4 q.2).flatten
  | .entry i bytes => [7, 0, 0, 0] ++ natLE 4 i ++ bytes
  | .quarantine t => [8, 0, 0, 0, 0, 0, 0, 0] ++ tagBytes t
  | .setting idx sub v => [9, b8 sub] ++ natLE 2 idx ++ natLE 4 v.length ++ v
  | .verified i slot => [11, b8 slot, 0, 0] ++ natLE 4 i
  | .last => [10, 0, 0, 0, 0, 0, 0, 0]

/-- The content of a message before it is brought to a permitted length. -/
def Payload.content (p : Payload) : List Byte :=
  match p with
  | .hello b => b
  | .ack next => natLE 2 next
  | .resync tx rx => natLE 4 tx ++ natLE 4 rx
  | .dictReq _ rid (.read idx sub) => natLE 2 idx ++ [b8 sub, 1] ++ natLE 2 rid
  | .dictReq _ rid (.write idx sub v) => natLE 2 idx ++ [b8 sub, 2] ++ natLE 2 rid ++ natLE 2 v.length ++ v
  | .dictRsp _ rid (.read idx sub) st v => natLE 2 idx ++ [b8 sub, b8 st] ++ natLE 2 rid ++ natLE 2 v.length ++ v
  | .dictRsp _ rid (.write idx sub _) st _ => natLE 2 idx ++ [b8 sub, b8 st] ++ natLE 2 rid
  | .cmdReq c => natLE 2 c.rid ++ [0, 0] ++ c.body
  | .cmdRsp _ _ b => b
  | .event r => zeros 16 ++ jrecBytes r
  | .eventAck esn => natLE 8 esn
  | .journal rs => [b8 rs.length, 0, 0, 0, 0, 0, 0, 0] ++ (rs.map jrecBytes).flatten
  | .journalAck store off => [b8 store, 0, 0, 0, 0, 0, 0, 0] ++ natLE 8 off
  | .power .exchange => [0]
  | .power (.role lead) => [1, b8 (bit lead)]
  | .time ts => natLE 8 ts
  | .report b => b
  | .fault r => r
  | .echo b => b
  | .mJournal r => [1, 0, 0, 0, 0, 0, 0, 0] ++ jrecBytes r
  | .mWave (.start plan sweep wave coils) =>
      [0, b8 plan] ++ natLE 2 wave ++ natLE 4 sweep ++ [b8 coils.length] ++ coils.map b8
  | .mWave (.part rs) => [2, b8 rs.length, 0, 0, 0, 0, 0, 0] ++ (rs.map coilResultBytes).flatten
  | .mWave (.finish rs) => [1, b8 rs.length, 0, 0, 0, 0, 0, 0] ++ (rs.map coilResultBytes).flatten
  | .mClose gen digest => natLE 8 gen ++ natLE 8 digest
  | .mCounter slot ctr => natLE 8 slot ++ natLE 8 ctr
  | .mReserve m => [b8 m.kind, b8 m.slot, 0, 0, 0, 0, 0, 0] ++ natLE 8 m.first
  | .mInflight c => [b8 (bit c.opened), b8 c.kind, b8 c.ca, 0] ++ natLE 4 c.handle ++ natLE 4 c.what
  | .mService c => [b8 (bit c.opened), b8 c.kind, b8 c.ca, 0] ++ natLE 4 c.handle ++ natLE 4 c.what
  | .mKeys (.key kind slot m) => [0, b8 kind, b8 slot, 0] ++ natLE 4 m.length ++ m
  | .mKeys (.quarantine t add) => [1, b8 (bit add), 0, 0, 0, 0, 0, 0] ++ tagBytes t
  | .mKeys (.attempt t fails pend) => [2, 0, 0, 0, 0, 0, 0, 0] ++ attemptBytes t fails pend
  | .mDict (.write idx sub v) => natLE 2 idx ++ [b8 sub, 0] ++ natLE 4 v.length ++ v
  | .mDict .store => [0, 0, 0, 1]
  | .mHost (.subscribe p mask) => peerBytes p ++ [0, 0, 0, 0] ++ natLE 4 mask
  | .mHost (.eventAck p esn) => peerBytes p ++ [1, 0, 0, 0, 0, 0, 0, 0] ++ natLE 8 esn
  | .mHost (.storeAck k off) => [2, b8 k, 0, 0, 0, 0, 0, 0] ++ natLE 8 off
  | .mPower c => [b8 (bit c)]
  | .heartbeat ts => natLE 8 ts
  | .haltNotice => []
  | .handover => []
  | .pair b => b
  | .fieldQuery f => [b8 f]
  | .fieldReply f fwd cmd => [b8 f, 0] ++ natLE 2 fwd ++ natLE 2 cmd
  | .resyncData parts => [b8 parts.length, 0, 0, 0, 0, 0, 0, 0] ++ (parts.map partBytes).flatten

/-- The shortest payload of a type, the longest and the step between permitted lengths (R25, R361). -/
def payloadRange (typ : Nat) : Nat × Nat × Nat :=
  match typ with
  | 0x01 => (16, 16, 4)
  | 0x02 => (4, 4, 4)
  | 0x10 => (8, 264, 4)
  | 0x11 => (8, 264, 4)
  | 0x12 => (24, 280, 4)
  | 0x13 => (20, 76, 8)
  | 0x20 => (16, 80, 16)
  | 0x21 => (12, 12, 4)
  | 0x30 => (72, 520, 64)
  | 0x31 => (16, 16, 4)
  | 0x41 => (16, 16, 4)
  | 0x50 => (16, 520, 8)
  | 0x60 => (32, 32, 4)
  | 0x7F => (4, 520, 4)
  | 0x80 => (72, 520, 64)
  | 0x81 => (16, 520, 8)
  | 0x82 => (16, 16, 4)
  | 0x83 => (16, 16, 4)
  | 0x84 => (16, 16, 4)
  | 0x85 => (16, 16, 4)
  | 0x86 => (16, 16, 4)
  | 0x87 => (16, 520, 8)
  | 0x88 => (8, 264, 4)
  | 0x89 => (16, 520, 8)
  | 0x90 => (16, 16, 4)
  | 0x95 => (16, 16, 4)
  | 0xA0 => (16, 520, 8)
  | _ => (8, 8, 4)

/-- The permitted length of a type that holds `n` bytes, or the longest (R25, R361). -/
def payloadLen (typ n : Nat) : Nat :=
  let (lo, hi, step) := payloadRange typ
  min hi (lo + (n - lo + step - 1) / step * step)

/-- A message's payload bytes, filled with zeros to a permitted length. -/
def Payload.bytes (typ : Nat) (p : Payload) : List Byte := padTo (payloadLen typ p.content.length) p.content

/-- A message's frame (R24): TYPE, FLAGS with RETX, SEQ, LEN, two zero bytes, the payload and its CRC-32C. -/
def linkFrame (typ seq : Nat) (retx : Bool) (payload : List Byte) : List Byte :=
  let b := [b8 typ, b8 (bit retx)] ++ natLE 2 seq ++ natLE 2 payload.length ++ [0, 0] ++ payload
  b ++ natLE 4 (crc32c b)

/-- A message that leaves an end of a link: its frame's bytes, and the content they carry. -/
def sentMessage (e : LinkEnd) (typ seq : Nat) (retx : Bool) (body : Payload) : Output :=
  .link e (linkFrame typ seq retx (body.bytes typ)) body

/-- Lists packed so that the bytes of each group stay within what one message holds (R361). -/
def packed {α : Type} (size : α → Nat) (l : List α) : List (List α) :=
  let r := l.foldl (fun (a : List (List α) × List α × Nat) x =>
    if a.2.1 ≠ [] ∧ a.2.2 + size x > 512 then (a.1 ++ [a.2.1], [x], size x) else (a.1, a.2.1 ++ [x], a.2.2 + size x)) ([], [], 0)
  r.1 ++ [r.2.1]

/-- A coil result with at most 40 tags in each part: the others follow as attributions (log 14). -/
def CoilResult.parts (c : CoilResult) : List CoilResult :=
  { c with tags := c.tags.take 40 } ::
    (List.range ((c.tags.length + 39) / 40 - 1)).map fun i =>
      { ca := c.ca, status := 1, reason := 0, own := false, tags := (c.tags.drop (40 * (i + 1))).take 40 }

/-- The messages of a wave's end, each within 520 bytes (R361, R365). -/
def waveEnd (rs : List CoilResult) : List WaveMsg :=
  let gs := packed (fun c => (coilResultBytes c).length) (rs.flatMap CoilResult.parts)
  gs.dropLast.map WaveMsg.part ++ [.finish (gs.getLast?.getD [])]

/-- A report cut into payloads of REPORT, each of 16 to 520 bytes (R25): all but the last of 512. -/
def reportParts : Nat → List Byte → List (List Byte)
  | 0, b => [b]
  | fuel + 1, b => if b.length ≤ 520 then [b] else b.take 512 :: reportParts fuel (b.drop 512)

end Sys2Proof.Machine
end

