-- ==== Sys2Proof/Machine/Ops.lean ====
section
/-!
DEFINITION. The named operations over State: tables, dictionary values, memory, time, message links, the event
committer and the journal.
-/

namespace Sys2Proof.Machine

open Sys2Proof

/-- What a meaning answers. -/
abbrev Result := Host.Outcome State Fault Refusal

/-! ### Families of state -/

def State.track (s : State) (t : Nat) : Track := Tab.get {} s.tracks t
def State.setTrack (t : Nat) (v : Track) (s : State) : State := { s with tracks := Tab.set {} s.tracks t v }
def State.modTrack (t : Nat) (f : Track → Track) (s : State) : State := s.setTrack t (f (s.track t))

def State.chain (s : State) (x : Nat) : Chain := Tab.get {} s.chains x
def State.setChain (x : Nat) (v : Chain) (s : State) : State := { s with chains := Tab.set {} s.chains x v }
def State.modChain (x : Nat) (f : Chain → Chain) (s : State) : State := s.setChain x (f (s.chain x))

def State.feeder (s : State) (f : Nat) : Feeder := Tab.get {} s.feeders f
def State.setFeeder (f : Nat) (v : Feeder) (s : State) : State := { s with feeders := Tab.set {} s.feeders f v }
def State.modFeeder (f : Nat) (g : Feeder → Feeder) (s : State) : State := s.setFeeder f (g (s.feeder f))

def State.rx (s : State) (v : Nat) : Rx := Tab.get {} s.rxs v
def State.setRx (v : Nat) (r : Rx) (s : State) : State := { s with rxs := Tab.set {} s.rxs v r }
def State.modRx (v : Nat) (f : Rx → Rx) (s : State) : State := s.setRx v (f (s.rx v))

def State.bin (s : State) (b : Nat) : Bin := Tab.get {} s.bins b
def State.modBin (b : Nat) (f : Bin → Bin) (s : State) : State :=
  { s with bins := Tab.set {} s.bins b (f (s.bin b)) }

def State.cal (s : State) (ca : Nat) : CoilCal := Tab.get {} s.coilCal ca
def State.modCal (ca : Nat) (f : CoilCal → CoilCal) (s : State) : State :=
  { s with coilCal := Tab.set {} s.coilCal ca (f (s.cal ca)) }

def State.coilSense (s : State) (ca : Nat) : SenseCoil := Tab.get {} s.sense.coils ca
def State.modSense (ca : Nat) (f : SenseCoil → SenseCoil) (s : State) : State :=
  { s with sense := { s.sense with coils := Tab.set {} s.sense.coils ca (f (s.coilSense ca)) } }

def State.plan (s : State) (p : Nat) : PlanState := Tab.get {} s.sweeps.plans p
def State.modPlan (p : Nat) (f : PlanState → PlanState) (s : State) : State :=
  { s with sweeps := { s.sweeps with plans := Tab.set {} s.sweeps.plans p (f (s.plan p)) } }

def State.node (s : State) (i : Nat) : Node := Tab.get {} s.nodes i
def State.modNode (i : Nat) (f : Node → Node) (s : State) : State :=
  { s with nodes := Tab.set {} s.nodes i (f (s.node i)) }

def State.cmdSlot (s : State) (k : Nat) : CmdSlot := Tab.get {} s.cmds.slots k
def State.modCmdSlot (k : Nat) (f : CmdSlot → CmdSlot) (s : State) : State :=
  { s with cmds := { s.cmds with slots := Tab.set {} s.cmds.slots k (f (s.cmdSlot k)) } }

def State.store (s : State) (k : Nat) : Store := Tab.get {} s.journal.stores k
def State.modStore (k : Nat) (f : Store → Store) (s : State) : State :=
  { s with journal := { s.journal with stores := Tab.set {} s.journal.stores k (f (s.store k)) } }

/-- Apply an operation for each of a list of numbers, in order. -/
def State.each (l : List Nat) (f : Nat → State → State) (s : State) : State := l.foldl (fun s i => f i s) s

/-- A conditional operation. -/
def State.when (c : Bool) (f : State → State) (s : State) : State := if c then f s else s

/-- Record what leaves the module (log 9). -/
def State.emit (o : Output) (s : State) : State := { s with out := s.out ++ [o] }

/-- The number of the next free value, and the state that has drawn it (log 8). -/
def State.draw (s : State) : State := { s with fresh := s.fresh + 1 }

/-! ### Dictionary values (R300) -/

def objKey (idx sub : Nat) : Nat := 256 * idx + sub

/-- The value of an RW or RWS object (R300). -/
def State.obj (s : State) (idx sub : Nat) : List Byte := Tab.get (defaultOf idx sub) s.dict (objKey idx sub)

/-- Set the value of an RW or RWS object; the default is not listed. -/
def State.setObj (idx sub : Nat) (v : List Byte) (s : State) : State :=
  { s with dict := if v = defaultOf idx sub then s.dict.erase (objKey idx sub)
      else (s.dict.erase (objKey idx sub)).insert (objKey idx sub) v }

def State.objNat (s : State) (idx sub : Nat) : Nat := leNat (s.obj idx sub)
def State.objBool (s : State) (idx sub : Nat) : Bool := decide (s.objNat idx sub = 1)
def State.objInt (s : State) (idx sub : Nat) : Int := signedOf 32 (s.objNat idx sub)
/-- A Q16.16 object (R301). -/
def State.objQ (s : State) (idx sub : Nat) : Rat := (s.objInt idx sub : Rat) / 65536

/-- A counter that no other field holds. -/
def State.count (s : State) (idx sub : Nat) : Nat := Tab.get 0 s.counts (objKey idx sub)
def State.bump (idx sub : Nat) (s : State) : State :=
  { s with counts := Tab.set 0 s.counts (objKey idx sub) (s.count idx sub + 1) }
def State.clearCount (idx sub : Nat) (s : State) : State :=
  { s with counts := Tab.set 0 s.counts (objKey idx sub) 0 }

/-- The Q16.16 code of a quantity, rounded to nearest with ties away from zero (R301). -/
def q16 (r : Rat) : Nat :=
  if r < 0 then codeOf 32 (-(((-r) * 65536 + 1 / 2).floor)) else codeOf 32 ((r * 65536 + 1 / 2).floor)

/-! ### Memory (R279 to R283) -/

def bankOf (a : Nat) : Nat := a / 65536 % 512
def addrOf (bank off : Nat) : Nat := bank * 65536 + off

/-- What an address reads as when nothing is listed for it (log 6). -/
def memDefault (a : Nat) : Byte :=
  if bankOf a = 0x1C0 then Config.bootRom (a % 65536) else if bankOf a ≥ 0x100 then 0xFF else 0

/-- The canonical form of the field memory. -/
abbrev Memory.wf (m : List Host.Cell) : Prop := Tab.wf memDefault m = true

/-- One byte written into a memory in canonical form. -/
def Memory.set (m : List Host.Cell) (a : Nat) (b : Byte) : List Host.Cell :=
  if b = memDefault a then Tab.erase m a else (Tab.erase m a).insert a b

/-- The 32 bytes of a roster entry (R186). -/
def Entry.bytes (i : Nat) (e : Entry) : List Byte :=
  if e.pres = 0 then zeros 32 else
  padTo 10 e.uid ++
  [BitVec.ofNat 8 (e.proto + 16 * e.uid.length), BitVec.ofNat 8 e.ca,
   BitVec.ofNat 8 (e.pres + 8 * bit e.secured + 16 * bit e.origin + 32 * bit e.quar + 64 * bit e.ambig),
   BitVec.ofNat 8 (e.confirms + 16 * e.misses), BitVec.ofNat 8 e.pca, 0] ++
  natLE 4 (i + 131072 * e.igen) ++ natLE 4 e.gfirst ++ natLE 4 e.glast ++ natLE 2 e.seen ++ [0, 0]

/-- The entry that 32 bytes spell (R186). -/
def Entry.ofBytes (b : List Byte) : Entry :=
  let p := fieldLE b 12 1
  { uid := sliceBytes b 0 (fieldLE b 10 1 / 16), proto := fieldLE b 10 1 % 16, ca := fieldLE b 11 1, pres := p % 8,
    secured := bitsOf p 3 1 = 1, origin := bitsOf p 4 1 = 1, quar := bitsOf p 5 1 = 1, ambig := bitsOf p 6 1 = 1,
    confirms := fieldLE b 13 1 % 16, misses := fieldLE b 13 1 / 16, pca := fieldLE b 14 1,
    igen := fieldLE b 16 4 / 131072, gfirst := fieldLE b 20 4, glast := fieldLE b 24 4, seen := fieldLE b 28 2 }

def State.entry (s : State) (i : Nat) : Entry := Tab.get {} s.roster.entries i
def State.setEntry (i : Nat) (e : Entry) (s : State) : State :=
  { s with roster := { s.roster with entries := Tab.set {} s.roster.entries i e } }

/-- The journal record held in a slot of the on-chip ring (R279). -/
def State.ringRecord (s : State) (slot : Nat) : Option JRec := s.journal.ring.find? fun r => r.off / 64 % 65536 = slot

/-- An entry of the counter log as 16 bytes (R285). -/
def LogEntry.bytes (e : LogEntry) : List Byte :=
  let b := [BitVec.ofNat 8 e.typ, 0] ++ natLE 2 e.ref ++ natLE 8 e.val
  b ++ natLE 4 (crc32c b)

/-- Capture blocks written since arm: each chain writes one per 60 ct (R141). -/
def State.captureBlocks (s : State) : Nat :=
  let c := s.capture
  if c.state = 1 ∨ c.state = 2 then c.chains.length * (((s.tb.cc + 2 ^ 48 - c.armCc) % 2 ^ 48) / 60) else c.final

/-- The newest arming of capture with what it has written. -/
def State.captureNow (s : State) : CaptureRun :=
  let c := s.capture
  { fill := c.fill, armCc := c.armCc, chains := c.chains, blocks := s.captureBlocks, scale := c.scale, marks := c.marks }

/-- The arming that wrote a place of the buffer last, and the number of the block that it wrote there. -/
def captureOwner : List CaptureRun → Nat → Option (CaptureRun × Nat)
  | [], _ => none
  | r :: rs, i => if i < r.blocks then some (r, i + 32768 * ((r.blocks - 1 - i) / 32768)) else captureOwner rs i

/-- The four header bytes of a block (R141): the chains write in turn, lower first (log 94). -/
def CaptureRun.header (r : CaptureRun) (k : Nat) : List Byte :=
  let n := max 1 r.chains.length
  let v := r.chains.getD (k % n) 0
  let first := 60 * (k / n)
  let at0 (cc : Nat) : Nat := (cc + 2 ^ 48 - r.armCc) % 2 ^ 48
  let mine := r.scale.filter fun e => decide (e.1 = v)
  let range := ((mine.filter fun e => decide (at0 e.2.1 ≤ first)).getLast?.map (·.2.2)).getD 0
  let change := mine.find? fun e => decide (first < at0 e.2.1 ∧ at0 e.2.1 < first + 60)
  let mark := (r.marks.filter fun e => decide (e.1 = v)).find? fun e => decide (first ≤ at0 e.2 ∧ at0 e.2 < first + 60)
  let idx (o : Option Nat) : Nat := match o with | some cc => (at0 cc - first) / 4 | none => 15
  [BitVec.ofNat 8 (v + 16 * range + 64 * bit change.isSome + 128 * bit mark.isSome),
   BitVec.ofNat 8 (idx (change.map (·.2.1)) + 16 * idx (mark.map (·.2)))] ++ natLE 2 ((r.armCc + first) / 4 % 65536)

/-- A byte of the capture buffer (R141): the header is the module's, the samples are the air's (log 15). Blocks stand until
they are overwritten. -/
def State.captureByte (s : State) (a : Nat) : Byte :=
  match captureOwner (s.captureNow :: s.capture.old) ((a - addrOf 0xD0 0) / 64) with
  | some (r, k) => if a % 64 < 4 then (r.header k).getD (a % 64) 0 else Config.captureByte r.fill (64 * k + a % 64)
  | none => Tab.get (memDefault a) s.mem a

/-- The bytes of a last-gasp slot (R295): the header's layout is not stated, nor what marks it consumed (log 6). -/
def Gasp.byte (g : Gasp) (a : Nat) : Byte :=
  let off := a % 8192
  if off < 0x100 then Config.nvmByte a
  else if off < 0x200 then (g.counters.flatMap (natLE 6) ++ natLE 8 g.esn ++ [BitVec.ofNat 8 (bit g.storing)]).getD (off - 0x100) 0xFF
  else if off < 0x1200 then (g.tail.flatMap jrecBytes).getD (off - 0x200) 0xFF
  else if off < 0x1400 then
    (g.flight.flatMap fun x => natLE 4 x.1 ++ natLE 2 x.2.1 ++ natLE 2 x.2.2.1 ++ natLE 8 x.2.2.2).getD (off - 0x1200) 0xFF
  else if 0x1FF0 ≤ off ∧ g.consumed then Config.nvmByte a
  else 0xFF

/-- A byte of the last-gasp area (R295): the newest images stand in the slots before the next one to use. -/
def State.gaspByte (s : State) (a : Nat) : Byte :=
  let n := s.nvm
  let back := (n.gaspSeq + 15 - (a - addrOf 0x136 0) / 8192 % 16) % 16
  if back < n.gasps.length ∧ back < 15 then ((n.gasps[n.gasps.length - 1 - back]?).map (·.byte a)).getD 0xFF else 0xFF

/-- A byte of a log of 16-byte entries in 16 sectors, `dropped` of them erased before (R285). -/
def logByte (log : List LogEntry) (dropped a : Nat) : Byte :=
  match log[((a % 65536) / 16 + 4096 - 256 * dropped % 4096) % 4096]? with
  | some e => e.bytes.getD (a % 16) 0
  | none => 0xFF

/-- One byte of field memory as a load reads it; structured banks are rendered from their own fields. -/
def State.readByte (s : State) (a : Nat) : Byte :=
  let b := bankOf a
  if 0x40 ≤ b ∧ b < 0x80 then
    let i := (a - addrOf 0x40 0) / 32
    ((s.entry i).bytes i).getD (a % 32) 0
  else if 0x80 ≤ b ∧ b < 0xC0 then
    match s.ringRecord ((a - addrOf 0x80 0) / 64) with
    | some r => (jrecBytes r).getD (a % 64) 0
    | none => 0
  else if 0xD0 ≤ b ∧ b < 0xF0 then s.captureByte a
  else if b = 0x135 then logByte s.nvm.log s.nvm.logDropped a
  else if b = 0x138 then logByte s.nvm.anchor s.nvm.anchorDropped a
  else if 0x136 ≤ b ∧ b < 0x138 then s.gaspByte a
  else if 0x130 ≤ b ∧ b < 0x140 then Config.nvmByte a
  else Tab.get (memDefault a) s.mem a

/-- Store one byte into SRAM. -/
def State.writeByte (a : Nat) (v : Byte) (s : State) : State :=
  let b := bankOf a
  if 0x40 ≤ b ∧ b < 0x80 then
    let i := (a - addrOf 0x40 0) / 32
    s.setEntry i (Entry.ofBytes (((s.entry i).bytes i).set (a % 32) v))
  else if 0x80 ≤ b ∧ b < 0xC0 then
    match s.ringRecord ((a - addrOf 0x80 0) / 64) with
    | some r =>
      let bs := (jrecBytes r).set (a % 64) v
      let r' : JRec := { esn := fieldLE bs 0 8, ts := fieldLE bs 8 8, off := fieldLE bs 16 6, typ := fieldLE bs 22 1,
                         group := fieldLE bs 23 1, data := sliceBytes bs 24 32, rmac := sliceBytes bs 56 8 }
      { s with journal := { s.journal with ring := s.journal.ring.map fun q => if q = r then r' else q } }
    | none => s
  else { s with mem := Memory.set s.mem a v }

def State.readBytes (s : State) (a n : Nat) : List Byte := (List.range n).map fun i => s.readByte (a + i)
def State.writeBytes (a : Nat) : List Byte → State → State
  | [], s => s
  | b :: bs, s => State.writeBytes (a + 1) bs (s.writeByte a b)

/-- Some word of a byte range has an uncorrectable error (R281). -/
def State.eccBad (s : State) (a n : Nat) : Bool :=
  (List.range (n / 8 + 2)).any fun i => decide (Tab.get 0 s.ecc.bad (a / 8 + i) = 2) && decide ((a / 8 + i) * 8 < a + n)

/-! ### Time (R44 to R54; log 1) -/

def nominalHz (s : State) : Rat := s.objNat 0x6001 1

/-- The frequency from which mp runs (R51, R53). -/
def State.hz (s : State) : Rat := if s.tb.src ≠ 2 ∧ s.tb.measured ≠ 0 then s.tb.measured else nominalHz s

/-- The part of the phase error slewed out in the running cycle, at most 64 mp (R52). -/
def State.slewNow (s : State) : Int := if s.tb.src = 0 then max (-64) (min 64 s.tb.slew) else 0

/-- mp gained per ct. -/
def State.mpRate (s : State) : Rat := (65536 + s.slewNow) * s.hz / 13560000

/-- The ct until mp passes from 65,535 to 0. -/
def State.ctToWrap (s : State) : Nat :=
  if s.mpRate ≤ 0 then 1 else (((65536 - s.tb.mp) / s.mpRate).ceil).toNat

/-- The phase bin, mp[15:10] (R45). -/
def State.binNow (s : State) : Nat := s.tb.mp.floor.toNat / 1024 % 64

/-- A bin at the end of a cycle (R136). -/
def Bin.cycle (b : Bin) : Bin :=
  let sc := min 255 ((b.score - 1) + 32 * bit b.hit)
  { b with score := sc, quiet := if sc ≥ 80 then false else if sc ≤ 40 then true else b.quiet, hit := false,
           hits := satAdd 16 b.hits (bit b.hit) }

/-- Set a hit in bins `a` to `b` (R136), unless the map is frozen (R137). -/
def State.hitBins (a b : Nat) (s : State) : State :=
  if s.tb.src = 2 then s else s.each ((List.range 64).filter fun i => decide (a ≤ i ∧ i ≤ b)) fun i => State.modBin i fun x => { x with hit := true }

/-- A mark in progress at the end of a cycle has hit every bin to the last, and runs on from bin 0 (R136). -/
def State.runMark (v : Nat) (s : State) : State :=
  match (s.rx v).mark with
  | some m => (s.hitBins m.fromBin 63).modRx v fun r => { r with mark := some { m with fromBin := 0 } }
  | none => s

/-- mp is about to step to 0 (R54): a mark in progress has hit the bins that ran before the step (R136). -/
def State.splitMark (v : Nat) (s : State) : State :=
  match (s.rx v).mark with
  | some m => (s.hitBins m.fromBin s.binNow).modRx v fun r => { r with mark := some { m with fromBin := 0 } }
  | none => s

/-- The impulse map at the end of a cycle; a virtual source freezes it (R51, R136). -/
def State.mapCycle (s : State) : State :=
  if s.tb.src = 2 then s
  else { s with bins := (s.bins.map fun p => (p.1, p.2.cycle)).filter fun p => p.2 ≠ ({} : Bin) }

/-- The end of a mains cycle: MCC, slewing, the impulse map (R45, R52, R136). -/
def State.cycleEnd (s : State) : State :=
  let s := (s.each (List.range 16) State.runMark).mapCycle
  let tb := s.tb
  let missed := if tb.edged then 0 else tb.missed + 1
  { s with tb := { tb with mcc := (tb.mcc + 1) % 2 ^ 32, slew := tb.slew - s.slewNow, missed := missed, edged := false } }

/-- CC and TS over `n` ct. -/
def Timebase.count (n : Nat) (tb : Timebase) : Timebase :=
  { tb with cc := (tb.cc + n) % 2 ^ 48, ts := tb.ts + (tb.tsAcc + 25 * n) / 339, tsAcc := (tb.tsAcc + 25 * n) % 339 }

/-- Mains cycles that end within a stretch, at most `fuel`; then the rest of the stretch. -/
def State.advanceLoop : Nat → Nat → State → State
  | 0, n, s => { s with tb := s.tb.count n }
  | fuel + 1, n, s =>
    let w := s.ctToWrap
    if w ≤ n then
      let s : State := { s with tb := { (s.tb.count w) with mp := max 0 (s.tb.mp + s.mpRate * w - 65536) } }
      State.advanceLoop fuel (n - w) s.cycleEnd
    else { s with tb := { (s.tb.count n) with mp := s.tb.mp + s.mpRate * n } }

/-- The clock moves on by `n` ct. In Curfew CC, mp and MCC are held, and in Off nothing counts (R409). -/
def State.advance (n : Nat) (s : State) : State :=
  if n = 0 ∨ s.power.state = 3 then s
  else if s.power.state = 2 then
    let t := s.tb.count n
    { s with tb := { s.tb with ts := t.ts, tsAcc := t.tsAcc } }
  else State.advanceLoop (n / 200000 + 2) n s

/-- What a step on an empty queue does: one carrier tick passes (log 1). -/
def State.tick (s : State) : State := s.advance 1

/-- The ct from now to a CC, modulo 2^48. -/
def State.ctTo (s : State) (cc : Nat) : Nat := (cc + 2 ^ 48 - s.tb.cc % 2 ^ 48) % 2 ^ 48

/-- A CC lies at or before now, within half the counter's range. -/
def State.passed (s : State) (cc : Nat) : Bool := decide (s.ctTo cc = 0 ∨ s.ctTo cc > 2 ^ 47)

/-- Move on to a CC unless it has passed. -/
def State.advanceTo (cc : Nat) (s : State) : State := if s.passed cc then s else s.advance (s.ctTo cc)

/-- Move on to a TS unless it has passed. -/
def State.advanceTs (ts : Nat) (s : State) : State :=
  s.advance (((ts - s.tb.ts) * 339 - s.tb.tsAcc + 24) / 25)

/-! ### Interrupts (R266) -/

def State.core (s : State) (k : Die) : Kenier := match k with | .field => s.coreF | .host => s.coreH
def State.setCore (k : Die) (c : Kenier) (s : State) : State :=
  match k with | .field => { s with coreF := c } | .host => { s with coreH := c }
def State.modCore (k : Die) (f : Kenier → Kenier) (s : State) : State := s.setCore k (f (s.core k))

/-- Raise a latched interrupt source. -/
def State.irqSet (k : Die) (n : Nat) (s : State) : State :=
  s.modCore k fun c => { c with irq := c.irq ||| (1#32 <<< n) }
def State.irqClear (k : Die) (n : Nat) (s : State) : State :=
  s.modCore k fun c => { c with irq := c.irq &&& ~~~(1#32 <<< n) }

/-- The ports serve LDP: the host side runs, awake and not fenced (R337, R382, R409). -/
def State.serving (s : State) : Bool :=
  s.power.hostReady && !s.power.hostReset && !s.power.hostAsleep && !s.power.hostFenced

/-! ### Message links (R24 to R31, R361) -/

def State.link (s : State) (e : LinkEnd) : Link :=
  match e with | .porterField => s.linkF | .porterHost => s.linkH | .twin => s.linkT
def State.setLink (e : LinkEnd) (l : Link) (s : State) : State :=
  match e with
  | .porterField => { s with linkF := l }
  | .porterHost => { s with linkH := l }
  | .twin => { s with linkT := l }
def State.modLink (e : LinkEnd) (f : Link → Link) (s : State) : State := s.setLink e (f (s.link e))

/-- Types that carry SEQ 0 and are never acknowledged (R27, R361). -/
def unsequenced (e : LinkEnd) (typ : Nat) : Bool :=
  decide (1 ≤ typ ∧ typ ≤ 3) || (decide (e = .twin) && decide (0x90 ≤ typ ∧ typ ≤ 0x95))

/-- Sending priority, 0 first (R29, R361). -/
def sendClass (e : LinkEnd) (typ : Nat) : Nat :=
  if e = .twin then
    if typ = 0x93 then 0 else if unsequenced e typ then 1 else if typ = 0x83 ∨ typ = 0x85 ∨ typ = 0x86 then 2 else 3
  else if typ = 0x60 then 0
  else if typ ≤ 3 then 1
  else if typ = 0x12 ∨ typ = 0x13 ∨ typ = 0x20 ∨ typ = 0x21 then 2
  else if typ = 0x10 ∨ typ = 0x11 ∨ typ = 0x40 ∨ typ = 0x41 then 3
  else if typ = 0x30 ∨ typ = 0x31 ∨ typ = 0x50 then 4
  else 5

/-- The position of the next message to start: the first of the best class (R29). -/
def nextToSend (e : LinkEnd) (q : List (Nat × Payload)) : Nat :=
  let best := q.foldl (fun m p => min m (sendClass e p.1)) 9
  q.findIdx fun p => decide (sendClass e p.1 = best)

/-- Send queued messages while the window has room (R28). -/
def State.pump (e : LinkEnd) : Nat → State → State
  | 0, s => s
  | fuel + 1, s =>
    let l := s.link e
    let i := nextToSend e l.queue
    match l.queue[i]? with
    | none => s
    | some (typ, body) =>
      if ¬ l.up ∨ l.window.length ≥ 32 then s
      else
        let m : LinkMsg := { typ := typ, seq := l.nextTx, body := body }
        let s := s.setLink e { l with queue := l.queue.eraseIdx i, window := l.window ++ [m], nextTx := (l.nextTx + 1) % 65536 }
        State.pump e fuel (s.emit (sentMessage e typ m.seq false body))

/-- Send a message: unsequenced ones at once, sequenced ones in their turn. -/
def State.send (e : LinkEnd) (typ : Nat) (body : Payload) (s : State) : State :=
  if unsequenced e typ then s.emit (sentMessage e typ 0 false body)
  else
    let s := s.modLink e fun l => { l with queue := l.queue ++ [(typ, body)] }
    s.pump e (s.link e).queue.length

/-- LINK_HELLO: over the twin link it carries this module's nonce and its last committed ESN (R30, R362); what the Porter's
16 bytes hold is not stated: a free value (log 14). -/
def State.sendHello (e : LinkEnd) (s : State) : State :=
  if e = .twin then s.send .twin 1 (.hello (padTo 8 s.twin.nonce ++ natLE 8 (s.journal.esn - 1)))
  else s.send e 1 (.hello (padTo 16 Config.porterHello))

/-- The MAC of PAIR under the twin key: domain, nonce, ESN (R362). -/
def pairMac (key nonce : List Byte) (esn : Nat) : List Byte := cmac8 key (4 :: (padTo 8 nonce ++ natLE 8 esn))

/-- PAIR over the peer's nonce and the own last committed ESN (R362). -/
def State.sendPair (s : State) : State :=
  s.send .twin 0x95 (.pair (pairMac s.twin.key s.twin.peerNonce (s.journal.esn - 1)))

/-- An output pin of the TWIN connector; while its group is latched it keeps its level (R359, R419). -/
def State.pin (n level : Nat) (s : State) : State := if s.power.padlat.getLsbD 2 then s else s.emit (.twinPin n level)

/-- This module is a lead whose second is ready, so it holds items back (R365, R367). -/
def State.mirrors (s : State) : Bool := decide (s.twin.role = 1) && decide (s.twin.state = 4)

/-- Mirror an item to the second, also to one that takes its copy (R365, R374). -/
def State.mirror (typ : Nat) (body : Payload) (s : State) : State :=
  if s.twin.role = 1 ∧ (s.twin.state = 3 ∨ s.twin.state = 4) then s.send .twin typ body else s

/-! ### The counter log (R285) -/

def Nvm.add (typ ref val : Nat) (n : Nvm) : Nvm := { n with log := n.log ++ [{ typ := typ, ref := ref, val := val }] }

/-- A settings sector of the field side (R283). -/
def settingsSector (sec : Nat) : Bool := decide (0x300 ≤ sec ∧ sec < 0x340)

/-- A settings sector of the host side (R297). -/
def hostSettingsSector (sec : Nat) : Bool := decide (0x60 ≤ sec ∧ sec < 0x80)

/-- Entries that are copied forward before the oldest sector is erased: the newest of types 3 and 5, of type 4 for each
slot and of type 2 for each settings sector (R285). -/
def logKept (settings : Nat → Bool) (e : LogEntry) : Bool :=
  decide (e.typ = 3) || decide (e.typ = 4) || decide (e.typ = 5) || (decide (e.typ = 2) && settings e.ref)

/-- The entries of the oldest sector, of those to keep, that no later entry of the log replaces (R285). -/
def logForward (keep : LogEntry → Bool) (old rest : List LogEntry) : List LogEntry :=
  let newest : List LogEntry → LogEntry → List LogEntry := fun acc e => acc.filter (fun x => decide (x.typ ≠ e.typ ∨ x.ref ≠ e.ref)) ++ [e]
  ((old.filter keep).foldl newest []).filter fun e => !(rest.any fun x => decide (x.typ = e.typ) && decide (x.ref = e.ref))

/-- A sector's erase begins or is found begun: the intent entry, and the count of started erases (R285). -/
def Nvm.intent (sec esn : Nat) (n : Nvm) : Nvm :=
  { (n.add 1 sec esn) with erases := Tab.set 0 n.erases sec (Tab.get 0 n.erases sec + 1) }

/-- The erase-complete entry of a sector (R285). -/
def Nvm.complete (sec : Nat) (n : Nvm) : Nvm := n.add 2 sec (Tab.get 0 n.erases sec)

/-- With 15 of its 16 sectors full, a log from sector `base` on erases the oldest, copying forward what it must keep (R285). -/
def Nvm.recycleAt (base : Nat) (settings : Nat → Bool) (esn : Nat) (n : Nvm) : Nvm :=
  if n.log.length < 3840 then n else
  let sec := base + n.logDropped % 16
  let n : Nvm := { n with log := n.log ++ logForward (logKept settings) (n.log.take 256) (n.log.drop 256) }
  let n := n.intent sec esn
  let n : Nvm := { n with log := n.log.drop 256, logDropped := n.logDropped + 1 }
  n.complete sec

/-- The field side's counter log keeps room (R285). -/
def Nvm.recycle (esn : Nat) (n : Nvm) : Nvm := n.recycleAt 0x350 settingsSector esn

/-- A sector of the host side's NVM is erased, bracketed in its own counter log (R297). -/
def Nvm.hostErase (sec esn : Nat) (n : Nvm) : Nvm :=
  let h : Nvm := { log := n.hostLog, logDropped := n.hostDropped, erases := n.hostErases }
  let h := ((h.recycleAt 0x80 hostSettingsSector esn).intent sec esn).complete sec
  { n with hostLog := h.log, hostDropped := h.logDropped, hostErases := h.erases }

/-- An entry of the journal anchor (R327): its 16 sectors hold entries as the counter log does; the newest of each type goes on
when the oldest sector is erased (log 6). -/
def Nvm.anchorAdd (typ val esn : Nat) (n : Nvm) : Nvm :=
  let e : LogEntry := { typ := typ, ref := 0, val := val }
  if n.anchor.length < 3840 then { n with anchor := n.anchor ++ [e] }
  else
    let sec := 0x380 + n.anchorDropped % 16
    let l := n.anchor ++ logForward (fun _ => true) (n.anchor.take 256) (n.anchor.drop 256) ++ [e]
    let n := (((n.recycle esn).intent sec esn).recycle esn).complete sec
    { n with anchor := l.drop 256, anchorDropped := n.anchorDropped + 1 }

/-- Append an entry to the counter log. -/
def State.logEntry (typ ref val : Nat) (s : State) : State :=
  { s with nvm := (s.nvm.recycle s.journal.esn).add typ ref val }

/-! ### The event committer and the journal (R37, R38, R320 to R327) -/

/-- The key material of a key store slot (R205). -/
def State.key (s : State) (kind slot : Nat) : List Byte := Tab.get [] s.keys.store (256 * kind + slot)

/-- The chain value of a record (R312, R321). -/
def chainValue (s : State) (prev : List Byte) (r : JRec) : List Byte :=
  if s.key 0 15 = [] then zeros 8 else cmac8 (s.key 0 15) (3 :: (prev ++ jrecBody r))

def storeEnabled (s : State) (k : Nat) : Bool := s.objBool (0xD010 + k) 1
def storeRequired (s : State) (k : Nat) : Bool := storeEnabled s k && s.objBool (0xD010 + k) 5

/-- Some required store is enabled (R326). -/
def anyRequired (s : State) : Bool := (List.range 4).any (storeRequired s)

/-- Offsets compared within a 2^47 window (R320): `a` is below `b`. -/
def offBelow (a b : Nat) : Bool := decide (a % 2 ^ 48 ≠ b % 2 ^ 48) && decide ((b + 2 ^ 48 - a % 2 ^ 48) % 2 ^ 48 < 2 ^ 47)

/-- The oldest held offset (R329). -/
def State.oldestHeld (s : State) : Nat := match s.journal.ring with | r :: _ => r.off | [] => s.journal.next

/-- An enabled store starts at the oldest held record; a disabled one keeps nothing (R324, R328). -/
def State.restartStore (k : Nat) (s : State) : State :=
  s.modStore k fun _ => if storeEnabled s k then { ack := s.oldestHeld, send := s.oldestHeld, known := s.oldestHeld } else {}

/-- Send a record to the host side: as an event and for the stores (R39, R324). -/
def State.deliver (r : JRec) (s : State) : State :=
  let s := if r.group = 0 then s else s.send .porterField 0x20 (.event r)
  s.send .porterField 0x30 (.journal [r])

/-- With no ESN of the reserved block left, the next 65,536 are reserved in the counter log and at the second (R38, R368). -/
def State.reserveEsn (s : State) : State :=
  let j := s.journal
  if j.esn < j.esnLimit then s
  else (State.logEntry 3 0 j.esnLimit { s with journal := { j with esnLimit := j.esnLimit + 65536 } }).mirror 0x84
    (.mReserve { kind := 0, slot := 0, first := j.esnLimit })

/-- With no journal offset of the reserved block left, the next block of 4,194,304 bytes is reserved (R327). -/
def State.reserveOff (s : State) : State :=
  let j := s.journal
  if j.next < j.offLimit then s
  else State.mirror 0x84 (.mReserve { kind := 2, slot := 0, first := j.offLimit })
    { s with journal := { j with offLimit := j.offLimit + 4194304 }, nvm := s.nvm.anchorAdd 1 j.offLimit j.esn }

/-- The record that takes the next ESN, TS, offset and chain value (R37, R320, R321). -/
def State.newRecord (s : State) (g typ : Nat) (data : List Byte) : JRec :=
  let j := s.journal
  let r : JRec := { esn := j.esn, ts := s.tb.ts, off := j.next, group := g, typ := typ, data := padTo 32 data, rmac := [] }
  { r with rmac := chainValue s j.chain r }

/-- A record enters the ring; with no required store it counts as released at once (R320, R326). -/
def State.enterRecord (r : JRec) (s : State) : State :=
  let j := s.journal
  { s with journal := { j with ring := j.ring ++ [r], next := (j.next + 64) % 2 ^ 48, chain := r.rmac, esn := j.esn + 1,
                               released := if anyRequired s then j.released else (j.next + 64) % 2 ^ 48 } }

/-- A lead with a ready second delivers a record only when its mirror message is acknowledged (R365). -/
def State.announce (r : JRec) (s : State) : State :=
  if s.mirrors then
    let tw := s.twin
    State.send .twin 0x80 (.mJournal r) { s with twin := { tw with heldRecs := tw.heldRecs ++ [r] } }
  else (s.mirror 0x80 (.mJournal r)).deliver r

/-- A record is made, enters the ring and goes out (R37, R320). -/
def State.append (g typ : Nat) (data : List Byte) (s : State) : State :=
  let s := s.reserveEsn.reserveOff
  let r := s.newRecord g typ data
  (s.enterRecord r).announce r

/-- Room for a new record in the ring of 65,536 (R326). -/
def State.makeRoom (s : State) : State :=
  let j := s.journal
  if j.ring.length < 65536 then s
  else if anyRequired s then
    let gone := j.ring.take 1024
    let first := gone.headD { esn := 0, ts := 0, off := 0, group := 0, typ := 0, data := [], rmac := [] }
    let last := gone.getLastD first
    let s : State := { s with journal := { j with ring := j.ring.drop 1024, backpressure := true, markers := j.markers + 1,
                                                  dropped := j.dropped + 1024 } }
    let s := s.append 0 2 (natLE 6 first.off ++ natLE 4 1024 ++ [0, 0] ++ natLE 8 first.esn ++ last.rmac)
    { s with journal := { s.journal with markerEnd := s.journal.next } }
  else { s with journal := { j with ring := j.ring.drop 1 } }

/-- Commit an event or journal record (R37, R499). Once the last-gasp image is programmed the committer has stopped
(R402), and a second commits nothing of its own (R364). -/
def State.commit (g typ : Nat) (data : List Byte) (s : State) : State :=
  if s.power.doomed ∨ s.twin.role = 2 then s else s.makeRoom.append g typ data

/-- A checkpoint of the released offset (R327). -/
def State.checkpoint (s : State) : State :=
  { s with journal := { s.journal with checkpoint := s.journal.released }, nvm := s.nvm.anchorAdd 2 s.journal.released s.journal.esn }

/-- Records below the lowest acknowledgement of the required stores are released (R326); 16,384 records further a checkpoint is
written (R327). With no required store the backpressure flag is FALSE. -/
def State.release (s : State) : State :=
  let req := (List.range 4).filter (storeRequired s)
  match req with
  | [] => { s with journal := { s.journal with backpressure := false } }
  | k :: ks =>
    let low := ks.foldl (fun m i => if offBelow (s.store i).known m then (s.store i).known else m) (s.store k).known
    let j := s.journal
    let ok := req.all fun i => !(offBelow (s.store i).known j.markerEnd)
    let s : State := { s with journal := { j with released := low, ring := j.ring.filter (fun r => !(offBelow r.off low)),
                                                  backpressure := j.backpressure && !ok } }
    s.when (offBelow j.checkpoint low && decide ((low + 2 ^ 48 - j.checkpoint % 2 ^ 48) % 2 ^ 48 ≥ 16384 * 64)) State.checkpoint

end Sys2Proof.Machine
end

