-- ==== Sys2Proof/Machine/Tracks.lean ====
section
/-!
DEFINITION. Tracks: the stage word fields, result packets and queues, and how a track stops (R61, R74 to R80).
-/

namespace Sys2Proof.Machine

open Sys2Proof

/-- The fields of a stage (R61). -/
structure Stage where
  kind : Nat
  tmode : Nat
  rquiet : Bool
  next : Nat
  retry : Nat
  pmode : Nat
  pirq : Bool
  rsv0 : Nat
  time : Nat
  target : Nat
  tsel : Bool
  level : Nat
  rsv2 : Nat
  wave : Nat
  fbuf : Nat
  rbuf : Nat
  lset : Nat
  comb : Nat
  winm : Nat
  wine : Nat
  fdtmin : Nat
  tout : Nat
  map : List Nat
  deriving DecidableEq, Repr

/-- The stage that 32 bytes spell (R61). -/
def Stage.ofBytes (b : List Byte) : Stage :=
  let w (i : Nat) : Nat := fieldLE b (4 * i) 4
  { kind := bitsOf (w 0) 0 4, tmode := bitsOf (w 0) 4 3, rquiet := bitsOf (w 0) 7 1 = 1, next := bitsOf (w 0) 8 15,
    retry := bitsOf (w 0) 23 4, pmode := bitsOf (w 0) 27 2, pirq := bitsOf (w 0) 29 1 = 1, rsv0 := bitsOf (w 0) 30 2,
    time := w 1 + 2 ^ 32 * bitsOf (w 2) 0 16, target := bitsOf (w 2) 16 8, tsel := bitsOf (w 2) 24 1 = 1,
    level := bitsOf (w 2) 25 3, rsv2 := bitsOf (w 2) 28 4, wave := bitsOf (w 3) 0 8, fbuf := bitsOf (w 3) 8 12,
    rbuf := bitsOf (w 3) 20 12, lset := bitsOf (w 4) 0 8, comb := bitsOf (w 4) 8 8, winm := bitsOf (w 4) 16 12,
    wine := bitsOf (w 4) 28 4, fdtmin := bitsOf (w 5) 0 16, tout := bitsOf (w 5) 16 16,
    map := (List.range 8).map fun i => fieldLE b (24 + i) 1 }

/-- The address of a stage (R57). -/
def stageAddr (i : Nat) : Nat := addrOf 0xC0 0 + 32 * i

/-- The stage a track executes, as it was read when it began (R58). -/
def Track.cur (tr : Track) : Stage := Stage.ofBytes tr.raw

/-- The transmit chain a track owns (R56). -/
def ownChain (t : Nat) : Option Nat := if t < 8 then some t else none

/-! ### Packets (R74, R75, R138, R139) -/

/-- A packet of at most four descriptors from their types and bytes 1 to 15 (R75). -/
def mkPacket (ds : List (Nat × List Byte)) : List (List Byte) :=
  let ds := ds.take 4
  (List.range ds.length).map fun i =>
    let d := ds.getD i (0, [])
    BitVec.ofNat 8 (16 * d.1 + 4 * (ds.length - 1) + i) :: padTo 15 d.2

/-- The halt descriptor (R139). -/
def haltPacket (tr : Track) (reason cc : Nat) : List (List Byte) :=
  mkPacket [(4, [b8 reason] ++ natLE 2 tr.stage ++ [b8 tr.lout] ++ natLE 6 cc)]

/-! ### Entry of packets (R74, R76, R78; log 13) -/

/-- Whether a packet has room in a track's queue (R76). -/
def Track.room (tr : Track) (pkt : List (List Byte)) : Bool :=
  decide (tr.queue.length + tr.entering.length + pkt.length ≤ 32)

/-- A packet begins to enter: its first descriptor at once, unless an earlier packet is still entering (R74). -/
def Track.push (pkt : List (List Byte)) (cc : Nat) (tr : Track) : Track :=
  if tr.entering = [] then { tr with queue := tr.queue ++ pkt.take 1, entering := pkt.drop 1, enterCc := cc }
  else { tr with entering := tr.entering ++ pkt }

/-- A descriptor is the last of its packet (R75). -/
def lastOfPacket (d : List Byte) : Bool := decide (fieldLE d 0 1 / 4 % 4 = fieldLE d 0 1 % 4)

/-- The descriptors that enter after the packet which is partly entered (R78). -/
def laterPackets (ds : List (List Byte)) : List (List Byte) := (ds.dropWhile fun d => !(lastOfPacket d)).drop 1

/-- One ct holds 16 fabric cycles, so by another ct every descriptor has entered; a flush that waited for the end of a
partly entered packet has then discarded that packet and all before it (R74, R78). -/
def Track.settle (cc : Nat) (tr : Track) : Track :=
  if tr.entering = [] ∨ cc = tr.enterCc then tr
  else if tr.flushReq then
    { tr with queue := laterPackets tr.entering, entering := [], flushReq := false, flushed := true }
  else { tr with queue := tr.queue ++ tr.entering, entering := [] }

/-- A track with what has entered its queue by now. -/
def State.trackNow (s : State) (t : Nat) : Track := (s.track t).settle s.tb.cc

/-! ### Stopping (R79, R80) -/

/-- A chain's off-ramp starts unless it is at zero already (R99). -/
def State.rampDown (x : Nat) (s : State) : State :=
  s.modChain x fun c => if c.st = 0 then c else { c with st := 1, up := false, rampCc := s.tb.cc, budgetWait := false }

/-- The chain gives up its feeder and its reduced level, and ramps to zero (R93, R111). -/
def State.dropChain (x : Nat) (s : State) : State :=
  (s.rampDown x).modChain x fun c => { c with routed := false, reduced := false, lentTo := none, budgetWait := false }

/-- The chains lent to a track (R63). -/
def State.lentChains (s : State) (t : Nat) : List Nat :=
  (List.range 8).filter fun x => decide ((s.chain x).lentTo = some t)

/-- A track's own chain and the chains lent to it ramp to zero and are given up. -/
def State.dropChains (t : Nat) (s : State) : State :=
  let s := s.each (s.lentChains t) State.dropChain
  match ownChain t with
  | some x => if (s.chain x).lentTo = none then s.dropChain x else s
  | none => s

/-- A track's own chain is lent no more: it ramps to zero and leaves the set that it served (R79). -/
def State.endLent (t : Nat) (s : State) : State :=
  match ownChain t with
  | none => s
  | some x =>
    match (s.chain x).lentTo with
    | none => s
    | some n => (s.dropChain x).modTrack n fun tr => { tr with members := tr.members.filter fun m => decide (m.chain ≠ x) }

/-- Trainings begun or awaited for a track's stage end with it. -/
def State.dropTraining (t : Nat) (s : State) : State :=
  let tr := s.track t
  if tr.phase = .train ∨ tr.phase = .trainWait ∨ tr.phase = .inputWait then
    s.each (tr.members.map (·.ca / 16)) fun v => State.modRx v fun r => { r with training := false, trwait := false }
  else s

/-- The track is stopped and nothing waits. -/
def Track.stopped (tr : Track) : Track :=
  { tr with st := 0, heldPkt := [], heldHalt := [], heldIrq := false, meetMask := 0 }

/-- The halt descriptor enters, or the track shows STATE 6 until room exists (R76, R79). -/
def State.postHalt (t reason : Nat) (s : State) : State :=
  let tr := s.trackNow t
  let pkt := haltPacket tr reason s.tb.cc
  if tr.room pkt then s.setTrack t (tr.stopped.push pkt s.tb.cc)
  else s.setTrack t { tr with st := 6, held := true, stallCt := satAdd 16 tr.stallCt 1, heldPkt := pkt, heldThen := 0, heldIrq := false }

/-- The credential read that a track serves is over (R183, R365). -/
def State.endCredential (t : Nat) (s : State) : State :=
  match (s.track t).service with
  | none => s
  | some (ca, entry) =>
    (s.modTrack t fun tr => { tr with service := none }).mirror 0x86
      (.mService { opened := false, kind := 4, handle := 0, ca := ca, what := entry })

/-- A running track stops: its stage and window end, its return stack empties, its chains go to zero, and the halt
descriptor is posted when `post` (R79, R80). -/
def State.stopTrack (t reason : Nat) (post : Bool) (s : State) : State :=
  let s := ((s.dropTraining t).dropChains t).endCredential t
  let s : State := { s with budget := { s.budget with waiters := s.budget.waiters.filter (· ≠ t) } }
  let tr := s.track t
  let s := s.setTrack t { tr.stopped with sreason := reason, stack := [], phase := .none, win := none, members := [],
                                          toutCc := none, repl := none, retries := 0, isRetry := false, sent := none }
  if post then s.postHalt t reason else s

/-- What follows once a track's packet is in its queue: 0 it is stopped, 2 it stops after its last stage (STOP), 3 it waits
in DEFER, 4 the halt descriptor of an ABORT enters, 1 its successor. -/
def State.resume (t after : Nat) (s : State) : State :=
  let tr := s.track t
  match after with
  | 0 => s.setTrack t tr.stopped
  | 2 => s.stopTrack t 2 true
  | 3 =>
    let tout := tr.cur.tout
    s.setTrack t { tr with st := 3, heldPkt := [], heldIrq := false,
                           toutCc := if tout = 0 then none else some ((s.tb.cc + 1024 * tout) % 2 ^ 48) }
  | 4 =>
    if tr.room tr.heldHalt then s.setTrack t (tr.stopped.push tr.heldHalt s.tb.cc)
    else s.setTrack t { tr with heldPkt := tr.heldHalt, heldHalt := [], heldThen := 0, heldIrq := false }
  | _ => s.setTrack t { tr with st := 1, stage := tr.next, phase := .none, heldPkt := [], heldIrq := false, toutCc := none,
                                repl := if tr.cur.kind = 8 then tr.repl else none }

/-- Enter a packet and go on, or hold until room exists (R76). -/
def State.post (t : Nat) (pkt : List (List Byte)) (after : Nat) (irq : Bool) (s : State) : State :=
  let tr := s.trackNow t
  if tr.room pkt then
    let s := s.setTrack t (tr.push pkt s.tb.cc)
    (s.when irq (State.irqSet .field t)).resume t after
  else s.setTrack t { tr with st := if after = 2 then 6 else 5, held := true, stallCt := satAdd 16 tr.stallCt 1,
                              heldPkt := pkt, heldThen := after, heldIrq := irq }

/-- A held packet enters once room exists, and the track goes on (R76). -/
def State.releaseHeld (t : Nat) (s : State) : State :=
  let tr := s.trackNow t
  if tr.heldPkt = [] ∨ ¬ tr.room tr.heldPkt then s
  else
    let s := s.setTrack t ({ tr with heldPkt := [] }.push tr.heldPkt s.tb.cc)
    (s.when tr.heldIrq (State.irqSet .field t)).resume t tr.heldThen

/-- A track runs (R79). -/
def Track.running (tr : Track) : Bool := decide (tr.st ≠ 0)

/-- A halt descriptor with another reason. -/
def haltReason (reason : Nat) (pkt : List (List Byte)) : List (List Byte) := pkt.map fun d => d.set 1 (b8 reason)

/-- ABORT of a running track (R79); no effect on a stopped one. Its own chain is lent no more, a packet that waits for room
is completed before the halt descriptor, and a halt descriptor that waits shows the new reason. -/
def State.abortTrack (reason t : Nat) (s : State) : State :=
  let tr := s.track t
  if tr.st = 0 then s
  else if tr.heldPkt ≠ [] ∧ tr.heldThen = 0 then
    s.setTrack t { tr with sreason := reason, heldPkt := haltReason reason tr.heldPkt }
  else if tr.heldPkt ≠ [] ∧ tr.heldThen = 4 then
    s.setTrack t { tr with sreason := reason, heldHalt := haltReason reason tr.heldHalt }
  else if tr.heldPkt = [] then (s.endLent t).stopTrack t reason true
  else
    let s := (s.endLent t).stopTrack t reason false
    s.modTrack t fun x => { x with st := 6, heldPkt := tr.heldPkt, heldIrq := tr.heldIrq, heldThen := 4,
                                   heldHalt := haltPacket x reason s.tb.cc }

/-- The safe state on one track: a running track is aborted, a stopped one shows SAFE too (R79). -/
def State.safeTrack (t : Nat) (s : State) : State :=
  let s := s.abortTrack 4 t
  s.modTrack t fun tr => { tr with sreason := 4 }

end Sys2Proof.Machine
end

