-- ==== Sys2Proof/Machine/Faults.lean ====
section
/-!
DEFINITION. Fault collection: records, escalation, the safe state and Halt (R381 to R396), as shared operations.
-/

namespace Sys2Proof.Machine

open Sys2Proof

def State.collector (s : State) (d : Die) : Collector := match d with | .field => s.fltF | .host => s.fltH
def State.setCollector (d : Die) (c : Collector) (s : State) : State :=
  match d with | .field => { s with fltF := c } | .host => { s with fltH := c }

/-- The highest outstanding effective level of a class; 0 none. -/
def Collector.level (c : Collector) (cls : Nat) : Nat := Tab.get 0 c.outst cls

/-- The highest outstanding level of a die (R396). -/
def Collector.top (c : Collector) : Nat := (List.range 13).foldl (fun m k => max m (c.level k)) 0

/-- An access that carried the fault (R395): address, master, access type. -/
structure Access where
  adr : Nat
  master : Nat
  typ : Nat
  deriving DecidableEq, Repr

/-- A fault record (R391). -/
def faultRecord (s : State) (d : Die) (cls eff raised : Nat) (esc cap : Bool) (cause fseq : Nat) (detail : List Byte) : List Byte :=
  [b8 cls, b8 (eff + 8 * raised + 64 * bit esc + 128 * bit cap), b8 (match d with | .field => 0 | .host => 1), 0] ++
  natLE 2 cause ++ natLE 2 fseq ++ natLE 8 s.tb.ts ++ natLE 6 (match d with | .field => s.tb.cc | .host => 0) ++ [0, 0] ++
  padTo 8 detail

/-! ### The radio and the calibrations under the safe state (R388, R441, R444, R475) -/

/-- FEM pins in the bypass combination, or all low without a FEM (R438). -/
def State.femPins (s : State) (v : BitVec 4) : BitVec 4 := if s.objBool 0x7010 4 then v else 0

/-- A transmit command ends with a result, which is journalled when not 0 (R433). -/
def State.txResult (c : TxCmd) (res : Nat) (s : State) : State :=
  let r := s.radio
  let d := match c.t0 with
    | some t => if c.onAir then r.delay else min 65535 (((s.tb.cc + 2 ^ 48 - t) % 2 ^ 48) * 25 / 339)
    | none => 0
  let s : State := { s with radio := { r with result := res, resUrg := c.urgent, resAbort := c.calAbort, delay := d } }
  if res = 0 then s else
    s.commit 4 1 ([b8 res, b8 (bit c.urgent + 2 * bit c.pri + 4 * bit c.calAbort), b8 c.pkt, b8 r.channel] ++ natLE 2 d ++
      natLE 4 ((c.t0.getD s.tb.cc) % 2 ^ 32))

/-- The duty limit in seconds of 3,600 (R435). -/
def dutyLimit : Nat := match Config.variant with | .e => 36 | .n => 3600 | .h => 0

/-- The share of the limit that a bucket holds after a reset, us (R437). -/
def dutyShare : Nat := dutyLimit * 1000000 / 3600

/-- Time on air counts in the running bucket (R437). -/
def State.addDuty (us : Nat) (s : State) : State :=
  { s with radio := { s.radio with duty := match s.radio.duty with
      | [] => [dutyShare + us]
      | d :: ds => (d + us) :: ds } }

/-- Duty of a packet cut short, from its ramp-up to the end of its ramp-down, us (R437). -/
def State.cutUs (c : TxCmd) (s : State) : Nat :=
  ((s.tb.cc % 2 ^ 32 + 2 ^ 32 - s.radio.txst) % 2 ^ 32) * 25 / 339 + c.ramp

/-- Every transmit command ends with result 5, a transmission by ramping down at once; the FEM goes to bypass (R388, R444). -/
def State.radioHalt (s : State) : State :=
  let q := s.radio.queue
  let s := match q.find? fun c => c.onAir with | some c => s.addDuty (s.cutUs c) | none => s
  let r := s.radio
  let r := { r with queue := [], coexReq := false, coexPri := false, state := if r.state = 4 then 2 else r.state,
                    fem := if r.state = 0 then r.fem else s.femPins 9#4 }
  let s : State := { s with radio := r }
  q.foldl (fun s c => s.txResult c 5) s

/-- A calibration ends with reason 4 and the previous values stand (R472, R475). -/
def State.calibInterrupt (s : State) : State :=
  match s.calib.running with
  | none => s
  | some (code, target, _) =>
    let s : State := { s with calib := { s.calib with running := none, state := 4, reason := 4, staleX := [], staleV := [], staleRssi := false } }
    let s := s.each (List.range 8) fun x => State.modChain x fun c => { c with calib := false }
    let s := s.each (List.range 16) fun v => State.modRx v fun r => { r with calib := false, stale := none }
    s.commit 6 10 ([b8 code, 4] ++ natLE 2 target ++ natLE 4 0)

/-- A running sweep ends at its current wave (R183). -/
def State.sweepStop (s : State) : State :=
  match s.sweeps.running with
  | none => s
  | some r => { s with sweeps := { s.sweeps with running := some { r with stopped := true } } }

/-- The hardware steps of the safe state (R388): tracks aborted, FEM PA off, class A gate closed, chains to zero. -/
def State.safeState (fr : List Byte) (s : State) : State :=
  let entering := !s.fltF.safe
  let s := s.each (List.range 9) State.safeTrack
  let s := s.each (List.range 8) State.rampDown
  let s := s.sweepStop.calibInterrupt.radioHalt
  { s with fltF := { s.fltF with safe := true, safeRec := if entering then some fr else s.fltF.safeRec } }

/-- A level-4 fault stops the die's cores until the restart delay has run (R390). -/
def State.haltDie (d : Die) (s : State) : State :=
  let s := s.modCore d fun c => { c with stopped := true }
  let s := s.setCollector d { s.collector d with halting := true }
  match d with
  | .field =>
    let s : State := { s with fltF := { s.fltF with haltOut := true } }
    let s := s.pin 13 1
    s.when s.linkT.up (State.send .twin 0x93 .haltNotice)
  | .host => { s with power := { s.power with hostFenced := true } }

/-- The reaction of a level on the raising die (R382). -/
def State.react (d : Die) (eff : Nat) (fr : List Byte) (s : State) : State :=
  match d with
  | .field =>
    let s := s.when (decide (eff ≥ 3)) (State.safeState fr)
    let s := s.when (decide (eff = 3) && decide (s.twin.role = 2) && decide (s.twin.state = 4)) fun s =>
      { s with twin := { s.twin with state := 6 } }
    s.when (decide (eff = 4)) (State.haltDie .field)
  | .host =>
    let s := s.when (decide (eff = 3)) fun s => { s with power := { s.power with hostFenced := true } }
    s.when (decide (eff = 4)) (State.haltDie .host)

/-- The host side keeps its records for reading and sends them to the field side (R393); a stopped core leaves them in
the collector's queue. -/
def State.drainHost (s : State) : State :=
  if s.coreH.stopped ∨ s.fltH.halting then s else
  let q := s.fltH.queue
  let s : State := { s with fltH := { s.fltH with queue := [] }, records := (s.records ++ q).drop (s.records.length + q.length - 64) }
  q.foldl (fun s r => s.send .porterHost 0x60 (.fault r)) s

/-- A fault is raised: escalation, first-error capture, record or overflow, reaction (R382 to R384, R391, R392, R395).
During the restart delay of a Halt it is recorded without a further reaction (R397). -/
def State.raiseFaultAt (d : Die) (cls cause raised : Nat) (detail : List Byte) (acc : Option Access) (s : State) : State :=
  let c := s.collector d
  let cur := c.level cls
  let eff0 := if cur = 0 then raised else min 4 (raised + 1)
  let lead := decide (d = .field) && decide (eff0 = 3) && s.mirrors
  let eff := if lead then 4 else eff0
  let esc := decide (cur ≠ 0) || lead
  let cap := acc.isSome && !c.cap.frozen
  let fr := faultRecord s d cls eff raised esc cap cause (c.fseq % 65536) detail
  let full := decide (c.queue.length ≥ 64)
  let c := { c with outst := Tab.set 0 c.outst cls (max cur eff),
                    fseq := (c.fseq + 1) % 65536,
                    queue := if full then c.queue else c.queue ++ [fr],
                    ovf := if full then Tab.set 0 c.ovf cls (satAdd 16 (Tab.get 0 c.ovf cls) 1) else c.ovf,
                    cap := match acc with
                      | some a => if c.cap.frozen then c.cap else
                          { frozen := true, adr := a.adr, master := a.master, typ := a.typ, ts := s.tb.ts,
                            cc := (match d with | .field => s.tb.cc | .host => 0) }
                      | none => c.cap }
  let s := s.setCollector d c
  let s := if c.halting then s else s.react d eff fr
  if d = .host then s.drainHost else s

/-- A fault that carries no access address. -/
def State.raiseFault (d : Die) (cls cause raised : Nat) (detail : List Byte) (s : State) : State :=
  s.raiseFaultAt d cls cause raised detail none

/-- The level of an uncorrectable SRAM error by bank (R282). -/
def eccLevel (bank : Nat) : Nat :=
  if bank < 0x20 then 4 else if bank < 0x40 then 2 else if bank < 0xC0 then 4 else if bank < 0xD0 then 2
  else if bank < 0xF0 then 1 else 3

/-- An uncorrectable error met by a master (R282, R395); in the guest banks the guest image is rejected. -/
def State.eccFault (a master typ : Nat) (s : State) : State :=
  let b := bankOf a
  let s : State := { s with ecc := { s.ecc with uncorrectable := s.ecc.uncorrectable + 1 } }
  let s := s.when (decide (0x20 ≤ b ∧ b < 0x40)) fun s =>
    let s := if s.guest.running.isSome then { s with template := { s.template with status := 7 } } else s
    { s with guest := { s.guest with state := 3, running := none } }
  s.raiseFaultAt .field 1 2 (eccLevel b) (natLE 4 a) (some { adr := a, master := master, typ := typ })

/-- Acknowledge the classes of a mask on a die (R385): faults cleared together, overflow counters reset. -/
def Collector.ack (mask : Nat) (c : Collector) : Collector :=
  let named := (List.range 13).filter fun k => decide (1 ≤ k) && decide (bitsOf mask k 1 = 1)
  named.foldl (fun c k => { c with outst := Tab.set 0 c.outst k 0, ovf := Tab.set 0 c.ovf k 0 }) c

/-- No class stands at level 3 or 4 (R389). -/
def Collector.calm (c : Collector) : Bool := decide (c.top < 3)

/-- A second begins to take the lead's copy: what it holds above the mirrored ESN is discarded and counted, with its
roster, quarantine list and attempt log, which the copy brings (R374). -/
def State.beginCopy (s : State) : State :=
  let gone := s.journal.ring.filter fun r => decide (r.esn > s.twin.mirrorEsn)
  { s with journal := { s.journal with ring := s.journal.ring.filter fun r => decide (r.esn ≤ s.twin.mirrorEsn) },
           roster := {}, keys := { s.keys with quarantine := [], attempts := [], verified := [] },
           twin := { s.twin with state := 3, discarded := s.twin.discarded + gone.length } }

/-- A second that was fenced or not ready asks the lead for a copy once its faults are acknowledged (R374). -/
def State.rejoin (s : State) : State :=
  if s.twin.role = 2 ∧ (s.twin.state = 6 ∨ s.twin.state = 7) then
    if s.twin.paired ∧ s.linkT.up then (s.beginCopy.sendHello .twin).sendPair else { s with twin := { s.twin with state := 2 } }
  else s

/-- The safe state ends when no field class stands at level 3 or 4 (R389). -/
def State.safeEnd (s : State) : State :=
  if s.fltF.calm then
    ({ s with fltF := { s.fltF with safe := false, haltOut := decide (s.fltF.top = 4) && s.fltF.haltOut } }).rejoin
  else s

/-- An acknowledged class on the field side: a SHORT or FENCED feeder that is enabled gets its bias back and is measured
again, its status standing until then (R83); the radio's full power returns (R439). -/
def State.ackEffects (mask : Nat) (s : State) : State :=
  let s := s.when (decide (bitsOf mask 4 1 = 1)) fun s => s.each (List.range 16) fun f =>
    State.modFeeder f fun x => { x with held := 0, biasOn := x.biasOn || (decide (x.held ≠ 0) && s.objBool (0x2010 + f) 1) }
  s.when (decide (bitsOf mask 12 1 = 1)) fun s => { s with radio := { s.radio with reduced := false } }

/-- Acknowledge a class mask on the field side (R385, R389); hostFenced ends likewise on the host side (R382). -/
def State.ackDie (d : Die) (mask : Nat) (s : State) : State :=
  let s := s.setCollector d ((s.collector d).ack mask)
  match d with
  | .field => (s.ackEffects mask).safeEnd
  | .host => if s.fltH.calm then { s with power := { s.power with hostFenced := false } } else s

end Sys2Proof.Machine
end

