-- ==== Sys2Proof/Machine/Stages.lean ====
section
/-!
DEFINITION. Stages: when a stage starts, how it begins and ends, its successor and its packet (R58 to R73, R138), and
the commands of the stage kinds that use no air (WAIT to MARK, HALT) and of the track controls.
-/

namespace Sys2Proof.Machine

open Sys2Proof

/-! ### When a stage starts (R67, R68) -/

/-- The ct in which the mains phase moves on by `d` mp, over the cycle ends on the way. -/
def State.ctAhead : Nat → Rat → State → Nat
  | 0, _, _ => 0
  | fuel + 1, d, s =>
    if d ≤ 0 ∨ s.mpRate ≤ 0 then 0
    else if s.tb.mp + d < 65536 then (d / s.mpRate).ceil.toNat
    else
      let w := s.ctToWrap
      let past := s.mpRate * w
      w + State.ctAhead fuel (d - past) { s with tb := { s.tb with mp := s.tb.mp + past - 65536, slew := s.tb.slew - s.slewNow } }

/-- The ct since a CC. -/
def State.since (s : State) (cc : Nat) : Nat := (s.tb.cc + 2 ^ 48 - cc) % 2 ^ 48

/-- The mains phase at an earlier CC. -/
def State.phaseAt (s : State) (cc : Nat) : Rat :=
  let p := s.tb.mp - s.mpRate * s.since cc
  p - 65536 * (p / 65536).floor

/-- The CC at which the phase stands `d` mp beyond its value at an earlier CC. -/
def State.ccAfterPhase (s : State) (e : Nat) (d : Rat) : Nat :=
  let gone := s.mpRate * s.since e
  if d ≤ gone then (e + (d / s.mpRate).ceil.toNat) % 2 ^ 48 else (s.tb.cc + s.ctAhead 4 (d - gone)) % 2 ^ 48

/-- A bin is quiet for stage timing (R136). -/
def State.binQuiet (s : State) (b : Nat) : Bool := (s.bin b).quiet && decide (bitsOf (s.objNat 0x3100 1) b 1 = 0)

/-- When a waiting stage starts: at a CC (with the CC that its timing mode gave, and the late flag of an absolute time), not
at all for want of a quiet bin before a CC, or never because its timing is illegal. -/
inductive Due where
  | start (cc given : Nat) (late : Bool)
  | noBin (stop : Nat)
  | illegal
  deriving DecidableEq, Repr

/-- The first quiet bin start after `e`, searching `h` bins, plus an offset (R68). -/
def State.quietStart (s : State) (e h offset : Nat) : Due :=
  let p := s.phaseAt e
  let b0 := p.floor.toNat / 1024
  let n := if h = 0 then 64 else h
  match (List.range n).find? fun i => s.binQuiet ((b0 + 1 + i) % 64) with
  | some i =>
    let cc := (s.ccAfterPhase e (1024 * ((b0 + 1 + i : Nat) : Rat) - p) + offset) % 2 ^ 48
    .start cc cc false
  | none => .noBin (s.ccAfterPhase e (1024 * ((b0 + 1 + n : Nat) : Rat) - p))

/-- The start that a stage's timing mode gives, no earlier than 1 ct after its predecessor (R67, R68). A relative start
within that 1 ct counts as given there (log 93). -/
def State.due (s : State) (t : Nat) (g : Stage) : Due :=
  let tr := s.track t
  let e := tr.predEnd
  let floor := if tr.first then e else (e + 1) % 2 ^ 48
  let clip (cc : Nat) : Nat := if (cc + 2 ^ 48 - floor) % 2 ^ 48 < 2 ^ 47 then cc else floor
  let bad := match g.tmode with
    | 0 => decide (bitsOf g.time 46 2 ≠ 0)
    | 1 => false
    | 2 => decide (bitsOf g.time 32 16 ≠ 0)
    | 3 => decide (bitsOf g.time 32 16 ≠ 0)
    | 4 => decide (bitsOf g.time 46 2 ≠ 0) || tr.meetCc.isNone
    | _ => true
  if bad then .illegal
  else if tr.isRetry ∧ g.rquiet then s.quietStart e 0 0
  else match g.tmode with
    | 0 => let cc := clip ((e + g.time) % 2 ^ 48); .start cc cc false
    | 1 =>
      let now := if s.passed floor then s.tb.cc else floor
      if (g.time + 2 ^ 48 - now) % 2 ^ 48 ≤ 2 ^ 46 then .start (clip g.time) g.time false else .start now g.time true
    | 2 =>
      let p := s.phaseAt e
      let d0 : Rat := 1024 * ((g.time % 64 : Nat) : Rat) - p
      let d := if d0 ≤ 0 then d0 + 65536 else d0
      let cc := (s.ccAfterPhase e d + bitsOf g.time 6 26) % 2 ^ 48
      .start (clip cc) cc false
    | 3 => s.quietStart e (g.time % 64) (bitsOf g.time 6 26)
    | _ => let cc := (tr.meetCc.getD e + g.time) % 2 ^ 48; .start (clip cc) cc false

/-! ### Errors of a stage (R59, R61) -/

/-- What a stage's checks find before any action: good, illegal, or a word with an uncorrectable error. -/
inductive Check where
  | good
  | illegal
  | fetch (a : Nat)
  deriving DecidableEq, Repr

/-- A stage that breaks a check stops its track with reason ILLEGAL. -/
def State.illegal (t : Nat) (s : State) : State := s.stopTrack t 5 true

/-- An uncorrectable error in what the stage reads stops the track with reason FETCH and raises a memory fault (R59). -/
def State.fetchStop (t a typ : Nat) (s : State) : State := (s.stopTrack t 7 true).eccFault a (t + 1) typ

/-- Single-bit errors in a byte range are corrected and written back (R281, R282). -/
def State.eccFix (a n : Nat) (s : State) : State :=
  let ws := ((List.range (n / 8 + 2)).map (a / 8 + ·)).filter fun w => decide (Tab.get 0 s.ecc.bad w = 1 ∧ w * 8 < a + n)
  s.each ws fun w s =>
    let b := w * 8 / 65536
    { s with ecc := { s.ecc with bad := s.ecc.bad.erase w, counts := Tab.set 0 s.ecc.counts b (Tab.get 0 s.ecc.counts b + 1) } }

/-- A table or buffer is readable when no word of it has an uncorrectable error. -/
def State.readable (s : State) (a n : Nat) (c : Check) : Check := if s.eccBad a n then .fetch a else c

/-! ### Beginning and ending (R58, R61, R66, R138) -/

/-- The stage of a track as it stands in stage memory (R57). -/
def State.stageBytes (s : State) (t : Nat) : List Byte := s.readBytes (stageAddr (s.track t).stage) 32

/-- The address of a frame buffer slot (R60). -/
def slotAddr (slot : Nat) : Nat := addrOf 0xF4 0 + 64 * slot

/-- An address in the air tables of bank 0x0F8 (R280). -/
def airAddr (off : Nat) : Nat := addrOf 0xF8 off

/-- The slot a stage emits from or posts: the verdict's replacement if there is one (R71, R498). -/
def State.fbuf (s : State) (t : Nat) (g : Stage) : Nat := ((s.track t).repl).getD g.fbuf

/-- The tables and buffers that a stage of its kind reads for its checks or its action, as addresses and lengths: shaping
set, waveform profile, frame buffer, listen set, combiner configuration, sense profile (R59). -/
def State.stageReads (s : State) (t : Nat) (g : Stage) : List (Nat × Nat) :=
  let slot := slotAddr (s.fbuf t g)
  let emits := decide (g.kind = 2 ∨ g.kind = 4)
  let listens := decide (g.kind = 3 ∨ g.kind = 4)
  (if g.kind = 1 then [(airAddr (0x4000 + 32 * g.target), 32)] else []) ++
  (if emits then [(airAddr (64 * g.wave), 64)] else []) ++
  (if emits ∧ s.readByte (airAddr (64 * g.wave)) ≠ 0 then
    [(slot, 4 + (leNat (s.readBytes slot 2) + 7) / 8)] else []) ++
  (if listens then [(airAddr (0x6000 + 16 * g.lset), 16)] else []) ++
  (if listens ∧ g.comb ≠ 0 then [(airAddr (0x7000 + 64 * g.comb), 64)] else []) ++
  (if g.kind = 13 then [(airAddr (0xB800 + 16 * g.wave), 16)] else []) ++
  (if g.kind = 9 then [(slot, 64)] else [])

/-- The tables that a stage takes when it begins; a later write to them affects later stages alone (R58, R143). -/
def State.stageData (s : State) (t : Nat) (g : Stage) : StageData :=
  { profile := s.readBytes (airAddr (64 * g.wave)) 64, bits := leNat (s.readBytes (slotAddr (s.fbuf t g)) 2),
    lset := s.readBytes (airAddr (0x6000 + 16 * g.lset)) 16, comb := s.readBytes (airAddr (0x7000 + 64 * g.comb)) 64,
    sense := s.readBytes (airAddr (0xB800 + 16 * g.wave)) 16 }

/-- The stage is read whole, with its tables; single-bit errors in it, and in what it reads, are corrected (R58, R59, R281). -/
def State.readStage (t : Nat) (s : State) : State :=
  let raw := s.stageBytes t
  let data := s.stageData t (Stage.ofBytes raw)
  let s := s.eccFix (stageAddr (s.track t).stage) 32
  let s := (s.stageReads t (Stage.ofBytes raw)).foldl (fun s r => s.eccFix r.1 r.2) s
  s.modTrack t fun tr => { tr with raw := raw, data := data }

/-- The action of a stage starts: time has run to its start. TOUT counts from the start that the timing mode gave, for an
absolute time that has passed from the start itself (R67, R68). -/
def State.startAction (t cc given : Nat) (late : Bool) (g : Stage) (s : State) : State :=
  let s := s.advanceTo cc
  let base := if late then cc else given
  s.modTrack t fun tr =>
    { tr with dueCc := given, startCc := s.tb.cc, began := some (tr.stage, s.tb.cc), markCc := s.tb.cc, first := false, late := tr.late || late,
              toutCc := if g.tout = 0 then none else some ((base + 1024 * g.tout) % 2 ^ 48) }

/-- A track may read a stage: it waits for its start, in Run, with no locked sequence in progress (R58, R409). -/
def State.mayBegin (s : State) (t : Nat) : Bool :=
  decide ((s.track t).st = 1) && decide ((s.track t).phase = .none) && decide (s.power.state = 0) && !s.coreF.lock

/-- The waiting track begins its stage, if the stage is of this kind: it is read whole, checked, and started at the
instant its timing gives. An illegal stage stops the track before any action. Without a quiet bin it waits for the end of
the last bin searched, and HORIZON_END ends it. The read waits for a locked sequence (R58); the sequencer is off outside Run (R409);
no air work begins before a last-gasp slot is armed (R295). -/
def State.beginStage (t kind : Nat) (air : Bool) (chk : Stage → State → Check) (act : Stage → State → State) (s : State) : State :=
  let g := Stage.ofBytes (s.stageBytes t)
  let a := stageAddr (s.track t).stage
  if ¬ s.mayBegin t then s
  else if s.eccBad a 32 then s.fetchStop t a 3
  else if g.kind ≠ kind ∨ (air ∧ ¬ s.nvm.armed) then s
  else
    let s := s.readStage t
    if g.rsv0 ≠ 0 ∨ g.rsv2 ≠ 0 ∨ (t = 8 ∧ kind ≤ 4) then s.illegal t
    else match s.due t g with
      | .illegal => s.illegal t
      | .noBin stop =>
        match chk g s with
        | .illegal => s.illegal t
        | .fetch b => s.fetchStop t b 3
        | .good => s.modTrack t fun tr => { tr with phase := .horizon stop }
      | .start cc given late =>
        match chk g s with
        | .illegal => s.illegal t
        | .fetch b => s.fetchStop t b 3
        | .good => act g (s.startAction t cc given late g)

/-- The successor index that a stage's map gives for an outcome (R66). -/
def Stage.succ (g : Stage) (cur out : Nat) : Nat :=
  let e := g.map.getD out 0
  if e = 0x80 then g.next else if e < 128 then (cur + e) % 32768 else (cur + 32768 + e - 256) % 32768

/-- The successor that the map gives for an outcome, retries counted (R66). -/
def Track.chosen (out : Nat) (tr : Track) : Track :=
  let g := tr.cur
  let n := g.succ tr.stage out
  if n ≠ tr.stage then { tr with next := n, isRetry := false, rxh := false, retries := 0 }
  else if tr.retries < g.retry then { tr with next := n, isRetry := true, rxh := false, retries := tr.retries + 1 }
  else { tr with next := g.next, isRetry := false, rxh := true, retries := if g.next = tr.stage then tr.retries else 0 }

/-- Choose the successor by the map (R66). -/
def State.choose (t out : Nat) (s : State) : State := s.modTrack t (Track.chosen out)

/-- The track goes on, or stops after this stage when STOP has been written (R79). -/
def State.goOn (t : Nat) (s : State) : State := s.resume t (if (s.track t).st = 6 then 2 else 1)

/-- A stage without packet or outcome ends now: its successor by the map entry of `out`. -/
def State.endPlain (t out : Nat) (s : State) : State :=
  ((s.modTrack t fun tr => { tr with predEnd := s.tb.cc }).choose t out).goOn t

/-- Whether a packet is posted (PMODE, R61). -/
def Stage.posts (g : Stage) (out : Nat) : Bool :=
  match g.pmode with
  | 0 => false
  | 1 => true
  | 2 => decide (out ≠ 0)
  | _ => decide (out = 0)

/-- What a stage-result descriptor shows beside the track's own state (R138). -/
structure ResultInfo where
  rchg : Bool := false
  imark : Bool := false
  cweak : Bool := false
  ca : Nat := 0
  dec : Nat := 0
  range : Nat := 0
  early : Bool := false
  cdrop : Bool := false
  len : Nat := 0
  deriving DecidableEq, Repr

/-- The result descriptor (R138). -/
def resultDesc (tr : Track) (out : Nat) (dtrunc : Bool) (r : ResultInfo) : Nat × List Byte :=
  (1, [b8 (out + 8 * bit tr.rxh + 16 * bit (decide (tr.startCc ≠ tr.dueCc)) + 32 * bit r.rchg + 64 * bit r.imark + 128 * bit dtrunc),
       b8 tr.stage, b8 (tr.stage / 256 + 128 * bit r.cweak), b8 r.ca,
       b8 (r.dec + 16 * r.range + 64 * bit r.early + 128 * bit r.cdrop)] ++
      natLE 2 r.len ++ natLE 6 tr.startCc ++ natLE 2 tr.pseq)

/-- A stage with an outcome ends now: LOUT, successor, and the stage-result packet that PMODE asks for (R64, R66, R138);
`rest` are the descriptors after the result descriptor. -/
def State.endAir (t out : Nat) (dtrunc : Bool) (r : ResultInfo) (rest : List (Nat × List Byte)) (s : State) : State :=
  let s := s.modTrack t fun tr => { tr with lout := out, notOk := if out = 0 then tr.notOk else some s.tb.cc, predEnd := s.tb.cc, phase := .none, win := none }
  let s := s.choose t out
  let tr := s.track t
  if tr.cur.posts out then
    let pkt := mkPacket (resultDesc tr out dtrunc r :: rest)
    (s.setTrack t { tr with pseq := (tr.pseq + 1) % 65536, posted := true }).post t pkt (if tr.st = 6 then 2 else 1) tr.cur.pirq
  else s.goOn t

/-- The end of an air stage that brings no frame. -/
def State.endSimple (t out : Nat) (s : State) : State :=
  s.endAir t out false { ca := ((s.track t).coil).getD 0 } []

/-! ### Kinds that use no air (R62, R69 to R72) -/

/-- WAIT ends at its start time (R62). -/
def execWaitStage (t : Fin 9) (s : State) : Result :=
  .next (s.beginStage t 5 false (fun _ _ => .good) fun _ s => s.endPlain t 0)

/-- The set mask of a MEET (R69). -/
def Stage.mask (g : Stage) : Nat := g.target + 256 * bit g.tsel

/-- The track waits at its MEET; a mask without the track itself is illegal (R69). -/
def execMeet (t : Fin 9) (s : State) : Result :=
  .next (s.beginStage t 6 false (fun g _ => if bitsOf g.mask t 1 = 1 then .good else .illegal) fun g s =>
    s.modTrack t fun tr => { tr with st := 4, meetMask := g.mask })

/-- Every track of the mask waits at a MEET with that mask (R69). -/
def State.meetComplete (s : State) (mask : Nat) : Bool :=
  decide (mask ≠ 0) && (List.range 9).all fun t =>
    decide (bitsOf mask t 1 = 0) || (decide ((s.track t).st = 4) && decide ((s.track t).meetMask = mask))

/-- The tracks of a completed meeting are released together, 2 ct after the last arrival (R69). -/
def State.meetRelease (mask : Nat) (s : State) : State :=
  if ¬ s.meetComplete mask then s
  else
    let ts := (List.range 9).filter fun t => decide (bitsOf mask t 1 = 1)
    let waited := ts.foldl (fun m t => min m (s.since (s.track t).startCc)) (2 ^ 48)
    let s := s.advance (2 - waited)
    s.each ts fun t s =>
      (s.modTrack t fun tr => { tr with meetCc := some s.tb.cc, meetMask := 0 }).endPlain t 0

/-- BRANCH ends 1 ct after its start with the map entry of the last outcome (R62). -/
def execBranch (t : Fin 9) (s : State) : Result :=
  .next (s.beginStage t 7 false (fun _ _ => .good) fun _ s => (s.advance 1).endPlain t (s.track t).lout)

/-- The DEFER pending descriptor (R139). -/
def deferPacket (tr : Track) : List (List Byte) :=
  mkPacket [(5, [b8 tr.lout] ++ natLE 2 tr.stage ++ natLE 2 (if tr.posted then (tr.pseq + 65535) % 65536 else 0) ++ [b8 (bit tr.posted)])]

/-- DEFER posts its packet, raises the track interrupt and waits for a verdict (R70). A replacement buffer of an earlier
verdict was for this stage alone (R71). -/
def execDefer (t : Fin 9) (s : State) : Result :=
  .next (s.beginStage t 8 false (fun _ _ => .good) fun _ s =>
    let s := s.modTrack t fun tr => { tr with repl := none }
    s.post t (deferPacket (s.track t)) 3 true)

/-- A verdict continues the waiting DEFER; on any other track it is ignored and sets VLATE (R71, R72). -/
def State.verdict (t : Nat) (w : Nat) (s : State) : State :=
  let tr := s.track t
  if tr.st ≠ 3 then s.setTrack t { tr with vlate := true }
  else
    let repl := if bitsOf w 19 1 = 1 then some (bitsOf w 20 12) else none
    let s := s.setTrack t { tr with predEnd := s.tb.cc, repl := repl, toutCc := none }
    if bitsOf w 15 1 = 0 then
      (s.modTrack t fun tr => { tr with next := bitsOf w 0 15, isRetry := false, retries := 0 }).resume t 1
    else
      ((s.modTrack t fun tr => { tr with lout := bitsOf w 16 3 }).choose t (bitsOf w 16 3)).resume t 1

def execVerdict (t : Fin 9) (w : Word) (s : State) : Result := .next (s.verdict t w.toNat)

/-- The packet in a slot (R139). -/
def State.slotPacket (s : State) (slot : Nat) : List (List Byte) :=
  mkPacket ((List.range (s.readByte (slotAddr slot)).toNat).map fun d => (3, s.readBytes (slotAddr slot + 4 + 15 * d) 15))

/-- POST posts the packet of its slot; slot 0xFFF or a count outside 1 to 4 is illegal (R139, R498). -/
def execPost (t : Fin 9) (s : State) : Result :=
  .next (s.beginStage t 9 false (fun g s =>
      let slot := s.fbuf t g
      let n := (s.readByte (slotAddr slot)).toNat
      if slot = 0xFFF then .illegal
      else s.readable (slotAddr slot) 64 (if n = 0 ∨ n > 4 then .illegal else .good))
    fun g s =>
      let pkt := s.slotPacket (s.fbuf t g)
      let s := s.advance 1
      ((s.modTrack t fun tr => { tr with predEnd := s.tb.cc }).choose t 0).post t pkt 1 g.pirq)

/-- The track stops with reason STACK and a firmware Degrade (R80). -/
def State.stackStop (t : Nat) (s : State) : State :=
  (s.stopTrack t 6 true).raiseFault .field 10 1 2 (natLE 4 t)

/-- CALL pushes the successor of its OK entry and continues at NEXT (R62, R80). Going to its own index counts as no retry
(log 93). -/
def execCallStage (t : Fin 9) (s : State) : Result :=
  .next (s.beginStage t 10 false (fun _ _ => .good) fun g s =>
    let tr := s.track t
    if tr.stack.length ≥ 8 then s.stackStop t
    else
      let s := s.advance 1
      (s.setTrack t { tr with stack := g.succ tr.stage 0 :: tr.stack, next := g.next, predEnd := s.tb.cc,
                              retries := 0, isRetry := false }).goOn t)

/-- RETURN pops and continues at the popped index (R62, R80). Going to its own index counts as no retry: R66 speaks of map
entries alone (log 93). -/
def execReturnStage (t : Fin 9) (s : State) : Result :=
  .next (s.beginStage t 11 false (fun _ _ => .good) fun _ s =>
    let tr := s.track t
    match tr.stack with
    | [] => s.stackStop t
    | i :: rest =>
      let s := s.advance 1
      (s.setTrack t { tr with stack := rest, next := i, predEnd := s.tb.cc, retries := 0, isRetry := false }).goOn t)

/-- MARK posts a marker with CC, MCC, mp and its tag (R62, R139). -/
def execMark (t : Fin 9) (s : State) : Result :=
  .next (s.beginStage t 12 false (fun _ _ => .good) fun g s =>
    let tr := s.track t
    let pkt := mkPacket [(2, [b8 g.fbuf] ++ natLE 6 s.tb.cc ++ natLE 4 s.tb.mcc ++ natLE 2 s.tb.mp.floor.toNat ++ natLE 2 tr.stage)]
    let s := s.advance 1
    ((s.modTrack t fun tr => { tr with predEnd := s.tb.cc }).choose t 0).post t pkt 1 g.pirq)

/-- The result of a credential read that its track's HALT ends (R36, R499 group 8 type 3): a credential when the last outcome
was OK, with the UID that the firmware resolved from the packets, a free value here (log 103). -/
def State.credentialResult (t : Nat) (s : State) : State :=
  let tr := s.track t
  match tr.service with
  | none => s
  | some (ca, _) =>
    if tr.lout = 0 then
      s.draw.commit 8 3 ([b8 ca, 1, 4, 0] ++ natLE 4 (Config.freeNat s.fresh))
    else s.commit 8 3 [b8 ca, 0, 0, 1]

/-- HALT ramps the chain to zero and stops the track; its halt descriptor is posted if PMODE is 1 (R62, R79). -/
def execHalt (t : Fin 9) (s : State) : Result :=
  .next (s.beginStage t 15 false (fun _ _ => .good) fun g s => (s.credentialResult t).stopTrack t 1 (decide (g.pmode = 1)))

/-- A stage that has begun and found no quiet bin ends DEFERRED at the end of the last bin searched, without its action
(R68). A kind without a DEFERRED outcome takes the successor of map entry 7 and posts nothing (log 93). -/
def execHorizonEnd (t : Fin 9) (s : State) : Result :=
  match (s.track t).phase with
  | .horizon stop =>
    let g := (s.track t).cur
    let s := s.advanceTo stop
    let s := s.modTrack t fun tr =>
      { tr with phase := .none, first := false, startCc := s.tb.cc, dueCc := s.tb.cc, repl := none }
    .next (if g.kind ≤ 4 ∨ g.kind = 14 then s.endSimple t 7
      else if g.kind = 13 then
        let s := ((s.modTrack t fun tr => { tr with lout := 7, notOk := some s.tb.cc, predEnd := s.tb.cc }).choose t 7)
        if g.posts 7 then
          s.post t (mkPacket [(10, [b8 7] ++ natLE 2 (s.track t).stage ++ [b8 g.target] ++ zeros 6 ++ [b8 g.wave] ++ natLE 4 s.tb.cc)]) 1 g.pirq
        else s.goOn t
      else s.endPlain t 7)
  | _ => .next s

/-! ### Track controls and queues (R74 to R79) -/

/-- Room in the queue lets a held packet enter, and the track goes on (R76). -/
def execHeldRelease (t : Fin 9) (s : State) : Result := .next (s.releaseHeld t)

/-- A read of QPOP word 3 consumes the head descriptor; of an empty queue it reads zero (R77). -/
def State.qpop (t : Nat) (s : State) : State :=
  let tr := s.trackNow t
  let q := tr.queue.tail
  let s := s.setTrack t { tr with queue := q }
  s.when (decide (q = [])) (State.irqClear .field t)

def execQpop (t : Fin 9) (s : State) : Result := .next (s.qpop t)

/-- A flush discards the descriptors held, and a held packet then enters and is kept; with a packet partly entered it waits
for the end of that packet, and a second request merges with it (R78). -/
def State.qflush (t : Nat) (s : State) : State :=
  let tr := s.trackNow t
  if tr.entering ≠ [] then s.setTrack t { tr with flushReq := true }
  else ((s.setTrack t { tr with queue := [], flushed := true }).irqClear .field t).releaseHeld t

def execQflush (t : Fin 9) (s : State) : Result := .next (s.qflush t)

/-- In automatic mode firmware raises the performance level before it writes START, but not while a DEFER waits (R408). -/
def State.raiseLevel (s : State) : State :=
  if s.objNat 0xB001 1 = 4 ∧ s.power.level ≠ 3 ∧ ¬ s.power.trans ∧ ¬ (List.range 9).any (fun t => decide ((s.track t).st = 3)) then
    { s with power := { s.power with level := 3, reqLevel := 3, transitions := s.power.transitions + 1 } }
  else s

/-- START begins a stopped track at its entry; it is ignored on a running track and while the safe state holds (R79). -/
def State.startTrack (t entry : Nat) (s : State) : State :=
  let tr := s.track t
  let s := s.setTrack t { tr with entry := entry }
  if tr.st ≠ 0 then s.modTrack t fun tr => { tr with busyStart := true }
  else if s.fltF.safe then s
  else
    s.raiseLevel.modTrack t fun tr =>
      { tr with service := none, st := 1, stage := entry, phase := .none, predEnd := s.tb.cc, first := true, stack := [], retries := 0,
                isRetry := false, pseq := 0, posted := false, meetCc := none, coil := none, repl := none, members := [], toutCc := none }

/-- STOP lets an air action in progress complete with its packet; a stage that waits, and a DEFER also while its packet
waits for room, ends at once without outcome (R79). -/
def State.stopStage (t : Nat) (s : State) : State :=
  let tr := s.track t
  match tr.st with
  | 0 => s
  | 2 => if tr.phase = .budget ∨ tr.phase = .trainWait then s.stopTrack t 2 true else s.setTrack t { tr with st := 6 }
  | 5 => if tr.heldThen = 3 then s.stopTrack t 2 true else s.setTrack t { tr with st := 6, heldThen := 2 }
  | 6 => s
  | _ => s.stopTrack t 2 true

/-- ABORT stops a running track at once (R79). -/
def execAbort (t : Fin 9) (s : State) : Result := .next (s.abortTrack 3 t)

end Sys2Proof.Machine
end

