-- ==== Sys2Proof/Machine/Air.lean ====
section
/-!
DEFINITION. The air tables and their checks (R60, R102 to R106, R127, R128, R132, R133, R498), emission, training and
listen windows, and the EMIT, LISTEN and EXCHANGE commands.
-/

namespace Sys2Proof.Machine

open Sys2Proof

/-- A length of time in µs as ct, the next whole one (R44). -/
def usCt (us : Nat) : Nat := (us * 1356 + 99) / 100

def feederOf (ca : Nat) : Nat := ca / 16

/-! ### Frame buffers (R60, R498) -/

/-- The length in bits that a buffer states (R60). -/
def State.bufBits (s : State) (slot : Nat) : Nat := leNat (s.readBytes (slotAddr slot) 2)

/-- The frame data of a buffer (R60). -/
def State.bufData (s : State) (slot : Nat) : List Byte := s.readBytes (slotAddr slot + 4) ((s.bufBits slot + 7) / 8)

/-- The check of the buffer an emitting stage uses, by its profile's CODING (R498). -/
def State.bufCheck (s : State) (slot coding : Nat) : Check :=
  let a := slotAddr slot
  let bits := s.bufBits slot
  let slots := (4 + (bits + 7) / 8 + 63) / 64
  if slot = 0xFFF then .illegal
  else if s.eccBad a 4 then .fetch a
  else if s.readByte (a + 2) ≠ 0 ∨ s.readByte (a + 3) ≠ 0 ∨ bits > 2240 ∨ slot + slots - 1 ≥ 0xFFF ∨
    (1 ≤ coding ∧ coding ≤ 4 ∧ bits % 8 ≠ 0) then .illegal
  else s.readable a (4 + (bits + 7) / 8) .good

/-! ### Waveform profiles (R102 to R104) -/

/-- The 64 bytes of a profile (R102). -/
def State.profile (s : State) (w : Nat) : List Byte := s.readBytes (airAddr (64 * w)) 64

/-- An edge table starts at 0, ends at 255 and does not fall (R103). -/
def edgeOk (p : List Byte) (off : Nat) : Bool :=
  let e (i : Nat) : Nat := fieldLE p (off + i) 1
  decide (e 0 = 0) && decide (e 15 = 255) && (List.range 15).all fun i => decide (e i ≤ e (i + 1))

/-- The pair of CODING and RATE is one of the combinations, whatever the MODTYPE (R104). -/
def pairOk (coding rate : Nat) : Bool :=
  match coding with
  | 0 => decide (rate ≤ 3)
  | 1 => decide (rate ≤ 3)
  | 2 => decide (rate = 5)
  | 3 => decide (rate = 4)
  | 4 => decide (rate = 1 ∨ rate = 2)
  | _ => false

/-- The MODTYPE is named in the row of its CODING (R104). -/
def modOk (coding modtype : Nat) : Bool :=
  match coding with
  | 0 => decide (modtype = 1)
  | 1 => decide (modtype = 2)
  | 4 => decide (modtype = 2)
  | _ => decide (modtype = 1 ∨ modtype = 2)

/-- The checks of R104 on a profile's bytes. -/
def profileOk (p : List Byte) : Bool :=
  let m := fieldLE p 0 1
  let c := fieldLE p 1 1
  let r := fieldLE p 2 1
  if m = 0 then pairOk c r
  else decide (m ≤ 2) && pairOk c r && modOk c m && edgeOk p 16 && edgeOk p 32 &&
    decide (m ≠ 1 ∨ fieldLE p 6 2 ≤ fieldLE p 4 2) &&
    decide (sliceBytes p 10 6 = zeros 6) && decide (sliceBytes p 48 16 = zeros 16)

/-- The profile and buffer checks of an EMIT or EXCHANGE (R104, R498). -/
def State.emitCheck (s : State) (t : Nat) (g : Stage) : Check :=
  let p := s.profile g.wave
  if s.eccBad (airAddr (64 * g.wave)) 64 then .fetch (airAddr (64 * g.wave))
  else if profileOk p = false then .illegal
  else if fieldLE p 0 1 = 0 then .good else s.bufCheck (s.fbuf t g) (fieldLE p 1 1)

/-! ### Frames as L2 codes them (R145, R146), and how long they last (R149) -/

/-- The bits of a byte, least significant first (R60). -/
def byteBits (b : Byte) : List Bool := (List.range 8).map fun i => b.getLsbD i

/-- A byte and its odd parity bit, as Type A sends it (log 95). -/
def parityByte (b : Byte) : List Bool := byteBits b ++ [decide ((byteBits b).count true % 2 = 0)]

/-- The first `n` bits of a byte. -/
def partBits (n : Nat) (b : Byte) : List Bool := (byteBits b).take n

/-- A Type A anticollision frame (R145). -/
def isAnticollision (bits : Nat) (data : List Byte) : Bool :=
  (data.getD 0 0 == 0x93#8 || data.getD 0 0 == 0x95#8 || data.getD 0 0 == 0x97#8) && !(data.getD 1 0 == 0x70#8) && decide (bits ≥ 16)

/-- The bits of a Type A frame: parity on full bytes, and CRC_A on a frame of whole bytes that is no anticollision frame. -/
def codeTypeA (bits : Nat) (data : List Byte) : List Bool :=
  if bits = 7 then partBits 7 (data.getD 0 0)
  else if isAnticollision bits data ∨ bits % 8 ≠ 0 then
    (data.take (bits / 8)).flatMap parityByte ++ partBits (bits % 8) (data.getD (bits / 8) 0)
  else (data.take (bits / 8) ++ natLE 2 (crcA (data.take (bits / 8)))).flatMap parityByte

/-- A Type B character: start bit, data, stop bit. -/
def characterB (b : Byte) : List Bool := [false] ++ byteBits b ++ [true]

/-- The frame that L2 makes of a buffer's bits under a CODING (R145). -/
def codeFrame (coding bits : Nat) (data : List Byte) : List AirSym :=
  let d := data.take (bits / 8)
  match coding with
  | 0 => (codeTypeA bits data).map .bit
  | 1 => [.sof] ++ ((d ++ natLE 2 (crcB d)).flatMap characterB).map .bit ++ [.eof]
  | 4 => (List.replicate 48 false ++ ([0xB2#8, 0x4D#8] ++ d ++ [b8 (crcF d / 256), b8 (crcF d)]).flatMap byteBits).map .bit
  | _ => if bits = 0 then [.eof] else [.sof] ++ ((d ++ natLE 2 (crcB d)).flatMap byteBits).map .bit ++ [.eof]

/-- Modified Miller after the start of communication: the start of the last pause, `T` ct to a bit (log 95). -/
def lastPause (T : Nat) : Nat → Bool → Nat → List Bool → Nat
  | _, _, last, [] => last
  | pos, _, _, true :: bs => lastPause T (pos + 1) true (pos * T + T / 2) bs
  | pos, afterOne, last, false :: bs => lastPause T (pos + 1) false (if afterOne then last else pos * T) bs

def AirSym.bits (f : List AirSym) : List Bool := f.filterMap fun s => match s with | .bit b => some b | _ => none

/-- The ct from the start of a frame to its end (R149, R155, R157): Type A to the end of the edge that ends its last pause,
Type B to the end of the EOF, ISO/IEC 15693 to the end of the EOF period, ISO/IEC 18092 to the last level change. -/
def frameCt (p : List Byte) (f : List AirSym) : Nat :=
  let rate := fieldLE p 2 1
  let n := (AirSym.bits f).length
  match fieldLE p 1 1 with
  | 0 => lastPause (128 / 2 ^ rate) 1 false 0 (AirSym.bits f ++ [false]) + (fieldLE p 4 2 + fieldLE p 8 2 + 15) / 16
  | 1 => (12 + n + 10) * (128 / 2 ^ rate)
  | 2 => (if n = 0 then 0 else 1024 + 512 * n) + 512
  | 3 => (if n = 0 then 0 else 1024 + 8192 * n) + 512
  | _ => n * (64 / 2 ^ (rate - 1)) - 32 / 2 ^ (rate - 1)

/-- The completed fraction of an edge, in 1/255, `k` fabric cycles into its `dur`: linear between sixteen points (R103). -/
def edgeAt (table : List Byte) (dur k : Nat) : Rat :=
  if k ≥ dur then 255
  else
    let e (i : Nat) : Rat := ((fieldLE table i 1 : Nat) : Rat)
    let i := 15 * k / dur
    e i + (e (i + 1) - e i) * ((15 * k % dur : Nat) : Rat) / dur

/-- The amplitude code of a power into 50 ohms (R96); between two codes it falls as the implementation rounds (log 12). -/
def ampCode (p : Rat) : Nat :=
  let x : Rat := 4095 * 4095 * p / 4
  let f := x.floor.toNat
  let n := Nat.sqrt f
  min 4095 (if ((n * n : Nat) : Rat) = x then n else if Config.roundUp x then n + 1 else n)

/-- A value between two codes, rounded as the implementation does (log 12). -/
def roundCode (x : Rat) : Nat := if (x.floor : Rat) = x then x.floor.toNat else x.floor.toNat + bit (Config.roundUp x)

/-- A chain's amplitude codes at each ct of an edge between its steady code and the residual carrier (R102, R103). -/
def edgeCodes (p : List Byte) (fall : Bool) (code : Nat) : List Nat :=
  let resid : Rat := if fieldLE p 0 1 = 2 then ((fieldLE p 3 1 : Nat) : Rat) / 256 else 0
  let dur := fieldLE p (if fall then 6 else 8) 2
  let table := sliceBytes p (if fall then 16 else 32) 16
  (List.range (dur / 16 + 1)).map fun i =>
    let d := edgeAt table dur (16 * i) / 255
    roundCode (code * (1 - (1 - resid) * (if fall then d else 1 - d)))

/-! ### Listen sets and combiner configurations (R127, R128, R132, R133) -/

/-- A listen set (R127). -/
structure LSet where
  ndec : Nat
  allsof : Bool
  amp : Bool
  gain : Nat
  decs : List Nat
  maxlen : Nat
  deriving DecidableEq, Repr

def lsetAddr (l : Nat) : Nat := airAddr (0x6000 + 16 * l)

def LSet.ofBytes (b : List Byte) : LSet :=
  let n := fieldLE b 0 1
  { ndec := n, allsof := bitsOf (fieldLE b 1 1) 0 1 = 1, amp := bitsOf (fieldLE b 1 1) 1 1 = 1, gain := fieldLE b 2 1,
    decs := (List.range (min n 6)).map fun i => fieldLE b (4 + i) 1,
    maxlen := if fieldLE b 10 2 = 0 then 280 else fieldLE b 10 2 }

/-- The checks of R128 on a listen set's bytes. -/
def lsetOk (b : List Byte) (twoOut : Bool) : Bool :=
  let l := LSet.ofBytes b
  decide (1 ≤ l.ndec ∧ l.ndec ≤ 6) && decide (fieldLE b 1 1 < 4) && decide (l.gain ≤ 4) && decide (fieldLE b 3 1 = 0) &&
  decide (sliceBytes b 12 4 = zeros 4) && decide (l.maxlen ≤ 280) && l.decs.all (fun d => decide (1 ≤ d ∧ d ≤ 11)) &&
  decide l.decs.Nodup && !(twoOut && decide (l.ndec > 4))

/-- A combiner configuration's fields beside its weights (R132). -/
structure Comb where
  nin : Nat
  nout : Nat
  sgen : Nat
  ins : List Nat
  outs : List Nat
  deriving DecidableEq, Repr

def combAddr (c : Nat) : Nat := airAddr (0x7000 + 64 * c)

def Comb.ofBytes (b : List Byte) : Comb :=
  { nin := fieldLE b 0 1, nout := fieldLE b 1 1, sgen := fieldLE b 3 1,
    ins := (List.range (min 4 (fieldLE b 0 1))).map fun i => fieldLE b (4 + i) 1,
    outs := (List.range (min 2 (fieldLE b 1 1))).map fun i => fieldLE b (8 + i) 1 }

/-- The checks of R133 on a combiner configuration's bytes. -/
def combOk (b : List Byte) : Bool :=
  let c := Comb.ofBytes b
  decide (fieldLE b 2 1 = 1) && decide (1 ≤ c.nin ∧ c.nin ≤ 4) && decide (1 ≤ c.nout ∧ c.nout ≤ 2) &&
  decide (sliceBytes b 10 6 = zeros 6) && decide (sliceBytes b 48 16 = zeros 16) && decide (c.ins.map feederOf).Nodup

def State.comb (s : State) (c : Nat) : Comb := Comb.ofBytes (s.readBytes (combAddr c) 64)

/-- The checks of a listening stage: listen set, combiner, selected coil and receive slots (R61, R128, R133, R498). -/
def State.listenCheck (s : State) (t : Nat) (g : Stage) : Check :=
  let la := lsetAddr g.lset
  let ca := combAddr g.comb
  if s.eccBad la 16 then .fetch la
  else if g.comb ≠ 0 ∧ s.eccBad ca 64 then .fetch ca
  else
    let two := decide (g.comb ≠ 0) && decide ((s.comb g.comb).nout = 2)
    if lsetOk (s.readBytes la 16) two = false then .illegal
    else if g.comb ≠ 0 ∧ combOk (s.readBytes ca 64) = false then .illegal
    else if g.comb = 0 ∧ (s.track t).coil = none then .illegal
    else if g.rbuf ≠ 0xFFF ∧ g.rbuf + (if two then 9 else 4) > 0xFFE then .illegal
    else .good

/-- The combiner configuration that a stage took when it began (R143). -/
def Track.comb (tr : Track) : Comb := Comb.ofBytes tr.data.comb
/-- The listen set that a stage took when it began (R143). -/
def Track.lset (tr : Track) : LSet := LSet.ofBytes tr.data.lset

/-! ### Receive chains in use (R117, R121, R123) -/

/-- A receive chain is in listen (R123). -/
def State.inListen (s : State) (v : Nat) : Bool :=
  (List.range 8).any fun t => match (s.track t).win with
    | some w => w.inputs.any fun p => decide (p.1 = v)
    | none => false

/-- The inputs of a track's listen: chain and coil (R61, R132). -/
def State.listenInputs (s : State) (t : Nat) : List (Nat × Nat) :=
  let tr := s.track t
  if tr.cur.comb = 0 then (tr.coil.toList).map fun ca => (feederOf ca, ca) else tr.comb.ins.map fun ca => (feederOf ca, ca)

/-- A receive chain's range is set; while capture runs on the chain the change is a scale marker there (R125, R141). -/
def State.setRange (v range cc : Nat) (s : State) : State :=
  let new := decide ((s.rx v).range ≠ range)
  let s := s.modRx v fun r => { r with range := range }
  if new ∧ (s.capture.state = 1 ∨ s.capture.state = 2) ∧ s.capture.chains.contains v then
    { s with capture := { s.capture with scale := s.capture.scale ++ [(v, cc, range)] } }
  else s

/-- A measured residual, free within its 16 bits (log 8). -/
def freeLevel (n : Nat) : Int := ((Config.freeNat n % 65536 : Nat) : Int) - 32768

/-- The tracking loop of a receive chain runs (R122, R123): outside training and listen, with the carrier of its feeder at
level and unmodulated. -/
def State.loopRuns (s : State) (v : Nat) : Bool :=
  !(s.rx v).training && !(s.inListen v) &&
  (List.range 8).any fun x => (s.chain x).routed && decide ((s.chain x).feeder = v) && decide ((s.chain x).st = 2)

/-- The tracking loop moves the coefficient with the composite carrier and measures the residual: free values (R122, log 8). -/
def State.loopStep (v : Nat) (s : State) : State :=
  if s.loopRuns v then
    let n := s.fresh
    s.draw.draw.draw.modRx v fun r =>
      { r with ci := Config.freeNat n % 65536, cq := Config.freeNat (n + 1) % 65536, resid := freeLevel (n + 2) }
  else s

/-- What a step on an empty queue does: one carrier tick passes, in which the tracking loops run (R122, log 1). -/
def State.idle (s : State) : State := (s.each (List.range 16) State.loopStep).tick

/-- A training of a chain starts at range 0 (R119), or waits while the chain is in listen (R121, R123). What registers show
of it before its end are free values (log 96). -/
def State.startTraining (v : Nat) (s : State) : State :=
  if s.inListen v then s.modRx v fun r => { r with trwait := true, trwaits := r.trwaits + 1 }
  else
    let n := s.fresh
    let s : State := { s with fresh := n + 5 }
    (s.setRange v 0 s.tb.cc).modRx v fun r =>
      { r with training := true, trwait := false, trainFrom := s.tb.cc, trainDraw := n }

/-- A combiner input needs training: not trained, or trained before the newest level change (R121). -/
def State.needsTraining (s : State) (v : Nat) : Bool :=
  let r := s.rx v
  !r.trained || match r.trainCc with
    | some cc => decide (s.since cc > s.since s.budget.levelCc)
    | none => true

/-- Training runs or waits on one of these chains. -/
def State.anyTraining (s : State) (vs : List Nat) : Bool := vs.any fun v => (s.rx v).training || (s.rx v).trwait

/-- The track waits for its trainings, or for those that wait for a window to close (R121, R123). -/
def State.awaitTraining (t : Nat) (vs : List Nat) (s : State) : State :=
  s.modTrack t fun tr => { tr with phase := if vs.any (fun v => (s.rx v).trwait) then .trainWait else .train }

/-! ### Windows and emission (R61, R108, R123 to R129) -/

/-- A coil is connected to its feeder (R88). -/
def State.connected (s : State) (ca : Nat) : Bool :=
  let f := s.feeder (feederOf ca)
  f.conn && decide (f.coil = ca % 16)

/-- The weights of an output of a combiner, a dropped input's being zero (R132, R133). -/
def combWeights (b : List Byte) (o : Nat) (dropped : List Bool) : List (Int × Int) :=
  (List.range dropped.length).map fun i =>
    if dropped.getD i false then (0, 0)
    else (signedOf 16 (fieldLE b (16 + 16 * o + 4 * i) 2), signedOf 16 (fieldLE b (18 + 16 * o + 4 * i) 2))

/-- One complex sample of an output: the sum of the weights times the rescaled samples of the inputs, Q1.14 (R132). -/
def mixSample (ws : List (Int × Int)) (xs : List (Int × Int)) : Int × Int :=
  (ws.zip xs).foldl (fun y p => (y.1 + (p.1.1 * p.2.1 - p.1.2 * p.2.2) / 16384, y.2 + (p.1.1 * p.2.2 + p.1.2 * p.2.1) / 16384)) (0, 0)

/-- A level in 1/256 dBm at the coupler, as 1/256 dBFS in a range (R116). -/
def dbfsIn (range : Nat) (dbm : Int) : Int := dbm - 9216 + 3072 * range

/-- The highest range a chain may take: a WEAK one keeps to the ranges that did not overrange in its training (R120). -/
def Rx.highest (r : Rx) : Nat := if r.weak then min 3 r.top else 3

/-- The range at the opening of a window (R124, R127): fixed, or the highest in which the residual lies below -12 dBFS. -/
def Rx.openRange (r : Rx) (gain : Nat) : Nat :=
  if gain ≠ 0 then gain - 1
  else ((List.range (r.highest + 1)).reverse.find? fun k => decide (dbfsIn k r.resid < -3072)).getD 0

/-- A chain as a window opens on it: the loop's last values, no change counted yet, its range (R122 to R125). -/
def State.openChain (gain v : Nat) (s : State) : State :=
  let s := s.when (!(s.inListen v)) fun s => (s.loopStep v).modRx v fun r => { r with counted := [] }
  s.setRange v ((s.rx v).openRange gain) s.tb.cc

/-- The listen window opens; `ref` is the frame end, or the start of a LISTEN (R61). -/
def State.openWindow (t ref : Nat) (s : State) : State :=
  let tr := s.track t
  let g := tr.cur
  let l := tr.lset
  let ins := s.listenInputs t
  let dropped : List Bool := ins.map fun p => decide (g.comb ≠ 0) && !(s.connected p.2)
  let outs := if g.comb = 0 then ins.map (·.2) else tr.comb.outs
  let weights := if g.comb = 0 then [[(0x4000, 0)]] else (List.range outs.length).map fun o => combWeights tr.data.comb o dropped
  let s := s.each (ins.map (·.1)) (State.openChain l.gain)
  let used := (ins.zip dropped).filterMap fun p => if p.2 then none else some p.1.1
  let w : Window := {
    ref := ref, close := (ref + max (g.winm * 2 ^ g.wine) g.fdtmin) % 2 ^ 48, inputs := ins, weights := weights, outs := outs,
    decs := l.decs, allsof := l.allsof, amp := l.amp, maxlen := l.maxlen, gain := l.gain, dropped := dropped.any id,
    marks := ins.filterMap fun p => (s.rx p.1).mark.map fun m => { chain := p.1, bin := m.bin, fromCc := m.cc, endCc := none },
    cweak := used.any fun v => !(s.rx v).trained || (s.rx v).weak, ranges := ins.map fun p => (s.rx p.1).range }
  let s := s.when (decide (g.comb ≠ 0) && decide (tr.comb.sgen ≠ s.calib.gen)) fun s =>
    s.modChain t fun c => { c with sstale := true }
  s.modTrack t fun tr => { tr with win := some w, phase := .listen, st := if tr.st = 6 then 6 else 2 }

/-- The members' chains modulate, or stop modulating (R108); the floor of their feeders' impulse detectors stood still
meanwhile (R135). -/
def State.modulate (t : Nat) (on : Bool) (s : State) : State :=
  let ms := (s.track t).members
  let cc := (s.track t).markCc
  let s := s.each (ms.map (·.chain)) fun x => State.modChain x fun c =>
    if on then (if c.st = 2 then { c with st := 3 } else c) else (if c.st = 3 then { c with st := 2 } else c)
  if on then s else s.each (ms.map (feederOf ·.ca)) fun v => State.modRx v fun r =>
    { r with floorCc := (r.floorCc + s.since cc) % 2 ^ 48 }

/-- The frame that a track's stage puts on the air, by the profile it took when it began (R145). -/
def Track.frame (tr : Track) (data : List Byte) : List AirSym := codeFrame (fieldLE tr.data.profile 1 1) tr.data.bits data

/-- The frame of an EMIT or EXCHANGE starts: every member modulates with the same profile (R108). The buffer is read now,
at the length checked when the stage began (R71, R498); an uncorrectable error in it stops the track (R59). MODTYPE 0
emits nothing, and its frame end is its start (R104). -/
def State.emitFrame (t : Nat) (s : State) : State :=
  let tr := s.track t
  let g := tr.cur
  let a := slotAddr (s.fbuf t g)
  let n := (tr.data.bits + 7) / 8
  if fieldLE tr.data.profile 0 1 = 0 then
    let s := s.modTrack t fun tr => { tr with st := if tr.st = 6 then 6 else 2, startCc := s.tb.cc, sent := none }
    if g.kind = 2 then s.endSimple t 0 else s.openWindow t s.tb.cc
  else if s.eccBad a (4 + n) then s.fetchStop t a 3
  else
    let data := s.readBytes (a + 4) n
    let s := s.modTrack t fun tr =>
      { tr with st := if tr.st = 6 then 6 else 2, startCc := s.tb.cc, sent := some (tr.data.bits, data) }
    let s := s.each (tr.members.map (·.chain)) fun x s =>
      let code := ampCode (s.chain x).power
      s.emit (.airFrame x g.wave (tr.frame data) (edgeCodes tr.data.profile true code) (edgeCodes tr.data.profile false code))
    (s.modulate t true).modTrack t fun tr => { tr with phase := if g.kind = 2 then .emit else .exchangeEmit, markCc := s.tb.cc }

/-- A listening stage whose chains are ready starts its action (R62, R121). -/
def State.airGo (t : Nat) (s : State) : State :=
  let s := s.modTrack t fun tr => { tr with startCc := s.tb.cc }
  if (s.track t).cur.kind = 3 then s.openWindow t s.tb.cc else s.emitFrame t

/-- A listening stage waits for chains in training, for one whose training itself waits (log 97), or under a receive calibration
step (R123), then trains the combiner
inputs that need it (R121), then starts. -/
def State.prepareListen (t : Nat) (s : State) : State :=
  let g := (s.track t).cur
  let vs := (s.listenInputs t).map (·.1)
  if vs.any fun v => (s.rx v).training || (s.rx v).trwait || (s.rx v).calib then
    s.modTrack t fun tr => { tr with phase := .inputWait }
  else
    let need := if g.comb = 0 then [] else vs.filter s.needsTraining
    if need = [] then s.airGo t else (s.each need State.startTraining).awaitTraining t need

/-- The track's own chain is lent, so it cannot begin an air stage (R63). -/
def State.ownLent (s : State) (t : Nat) : Bool := (s.chain t).lentTo.isSome

/-- An air stage on a lent chain waits (R63), or goes on. -/
def State.unlessLent (t : Nat) (f : State → State) (s : State) : State :=
  if s.ownLent t then s.modTrack t fun tr => { tr with phase := .lentWait } else f s

/-- EMIT (R62): its checks, then its frame. -/
def execEmit (t : Fin 9) (s : State) : Result :=
  .next (s.beginStage t 2 true (fun g s => s.emitCheck t g) fun _ s => s.unlessLent t (State.emitFrame t))

/-- LISTEN (R62): its checks, then its window. -/
def execListen (t : Fin 9) (s : State) : Result :=
  .next (s.beginStage t 3 true (fun g s => s.listenCheck t g) fun _ s => s.unlessLent t (State.prepareListen t))

/-- EXCHANGE (R62): the checks of both, then its frame. -/
def execExchange (t : Fin 9) (s : State) : Result :=
  .next (s.beginStage t 4 true (fun g s => match s.emitCheck t g with | .good => s.listenCheck t g | c => c) fun _ s =>
    s.unlessLent t (State.prepareListen t))

/-- The emitted frame ends, `dur` ct after its start, as long as its code lasts (R149): an EMIT ends OK, an EXCHANGE opens its
window. At another time there is no frame end (log 2). -/
def execFrameEnd (t : Fin 9) (dur : Nat) (s : State) : Result :=
  let tr := s.track t
  let fin (s : State) : State := (s.advanceTo ((tr.markCc + dur) % 2 ^ 48)).modulate t false
  if dur ≠ frameCt tr.data.profile (tr.frame ((tr.sent.map (·.2)).getD [])) then .next s
  else if tr.phase = .emit then .next ((fin s).endSimple t 0)
  else if tr.phase = .exchangeEmit then .next ((fin s).openWindow t (fin s).tb.cc)
  else .next s

end Sys2Proof.Machine
end

