-- ==== Sys2Proof/Machine/Units.lean ====
section
/-!
DEFINITION. LDP units on their way out (R306, R307): segments on SPI, answers that a mirroring lead holds back, the journal
streamer, and the observers (R310, R324, R325, R353, R354, R365).
-/

namespace Sys2Proof.Machine

open Sys2Proof

/-! ### Units (R306, R353) -/

/-- The bytes of a unit (R306). -/
def unitBytes (utype rid : Nat) (body : List Byte) : List Byte :=
  [1, b8 utype] ++ natLE 2 rid ++ natLE 2 body.length ++ [0, 0] ++ body

/-- A unit cut into segments of at most `n` bytes, with START on the first and END on the last (R353). -/
def segments (n : Nat) (u : List Byte) : List (List Byte × Bool × Bool) :=
  let k := (u.length + n - 1) / n
  (List.range k).map fun i => ((u.drop (n * i)).take n, decide (i = 0), decide (i + 1 = k))

/-- ATTN is asserted while a segment is queued on an enabled port outside the sleep states (R354, R357). -/
def State.attnSet (s : State) : State :=
  { s with spi := { s.spi with attn := (decide (s.spi.e0.outq ≠ []) || decide (s.spi.e1.outq ≠ [])) && s.objBool 0x8800 0x0C &&
                                       !s.power.hostAsleep } }

/-- An endpoint of the port. -/
def Spi.endp (p : Spi) (k : Sel) : SpiEnd := match k with | .sel0 => p.e0 | .sel1 => p.e1
def Spi.setEnd (k : Sel) (e : SpiEnd) (p : Spi) : Spi := match k with | .sel0 => { p with e0 := e } | .sel1 => { p with e1 := e }

/-- Payload bytes of a frame of an endpoint (R349). -/
def selRoom (k : Sel) : Nat := match k with | .sel0 => 40 | .sel1 => 512

/-- A unit is queued on an SPI endpoint (R353). -/
def State.spiQueue (k : Sel) (u : List Byte) (s : State) : State :=
  let e := s.spi.endp k
  ({ s with spi := s.spi.setEnd k { e with outq := e.outq ++ segments (selRoom k) u } }).attnSet

/-- The select that carries a unit type (R306, R353). -/
def unitSel (utype : Nat) : Sel := if utype = 0x20 ∨ utype = 0x21 ∨ utype = 0x22 then .sel1 else .sel0

/-- The address a unit leaves from (R341): the units that the module originates from the service address while it is active, an
answer from the address that the peer sent to. -/
def State.unitSource (p : Peer) (utype : Nat) (s : State) : Nat :=
  let own := decide (utype = 0x11 ∨ utype = 0x20 ∨ utype = 0x22)
  if s.ring.service ∧ (own ∨ s.ring.asked.contains p) then s.objNat 0x8006 1 else s.ring.ip

/-- A unit leaves for a peer. -/
def State.sendUnit (p : Peer) (u : List Byte) (s : State) : State :=
  match p with
  | .ring _ _ => s.emit (.unit p (s.unitSource p (fieldLE u 1 1)) u)
  | .spi => s.spiQueue (unitSel (fieldLE u 1 1)) u

/-! ### Answers (R308, R365) -/

/-- Remember an answer for 2 s (R308). -/
def State.remember (p : Peer) (req resp : List Byte) (s : State) : State :=
  let a : Answered := { peer := p, unit := req, resp := resp, ts := s.tb.ts }
  { s with recent := (s.recent.filter fun x => decide (s.tb.ts ≤ x.ts + 2000000) && decide (x.peer ≠ p ∨ x.unit ≠ req)) ++ [a] }

/-- An answer leaves. -/
def State.reply (r : Reply) (s : State) : State :=
  match r with
  | .unit p req bytes => (if p = .spi then s else s.remember p req bytes).sendUnit p bytes
  | .status idx sub code => s.emit (.status idx sub code)
  | .porter typ body => s.send .porterField typ body

/-- The response unit to a dictionary request (R307). -/
def dictUnit (rid : Nat) (q : DictReq) (status : Nat) (val : List Byte) : List Byte :=
  match q with
  | .read idx sub => unitBytes 0x81 rid (natLE 2 idx ++ [b8 sub, b8 status] ++ val)
  | .write idx sub _ => unitBytes 0x82 rid (natLE 2 idx ++ [b8 sub, b8 status])

/-- The front end proxies a request over the Porter, and holds it until its answer returns (R22, R23). -/
def State.proxy (p : Proxied) (s : State) : State :=
  let s : State := { s with proxied := s.proxied ++ [p] }
  match p.q with
  | some q => s.send .porterHost 0x10 (.dictReq p.peer p.rid q)
  | none => s.send .porterHost 0x12 (.cmdReq { peer := p.peer, rid := p.rid, body := p.unit.drop 8 })

/-- An answer returns over the Porter: the oldest request of that sender and identifier is answered by a unit (R23); an
answer to no request held goes nowhere. -/
def State.proxyAnswer (peer : Peer) (rid : Nat) (q : Option DictReq) (resp : List Byte) (s : State) : State :=
  match s.proxied.find? fun p => decide (p.peer = peer ∧ p.rid = rid ∧ p.q = q) with
  | some p => ({ s with proxied := s.proxied.erase p }).reply (.unit peer p.unit resp)
  | none => s

/-- A mirror message has not been acknowledged. -/
def State.unmirrored (s : State) (p : Payload) : Bool :=
  s.linkT.window.any (fun m => decide (m.body = p)) || s.linkT.queue.any fun q => decide (q.2 = p)

/-- An answer that a lead holds back until the mirror message named is acknowledged (R365). -/
def State.replyAfter (key : Option Payload) (r : Reply) (s : State) : State :=
  match key with
  | some p => if s.mirrors ∧ s.unmirrored p then { s with twin := { s.twin with heldResp := s.twin.heldResp ++ [(p, r)] } } else s.reply r
  | none => s.reply r

/-! ### The journal streamer (R324, R325) -/

/-- Records in groups of at most `n`. -/
def groupsOf {α : Type} (n : Nat) (l : List α) : List (List α) :=
  (List.range ((l.length + n - 1) / n)).map fun i => (l.drop (n * i)).take n

/-- Where a store's units go (R324). -/
def State.storePeer (s : State) (k : Nat) : Peer :=
  if s.objNat (0xD010 + k) 2 = 1 then .spi else .ring (s.objNat (0xD010 + k) 3) (s.objNat (0xD010 + k) 4)

/-- JOURNAL units carry records to a store (R307). -/
def State.sendRecords (k : Nat) (rs : List JRec) (s : State) : State :=
  (groupsOf 16 rs).foldl (fun s g =>
    s.sendUnit (s.storePeer k) (unitBytes 0x20 0 ([b8 k, b8 g.length, 0, 0] ++ (g.map jrecBytes).flatten))) s

/-- Records that the host side holds and that the ring still holds (R324, R326). -/
def State.heldRecords (s : State) : List JRec := s.journal.stream.filter fun r => !(offBelow r.off s.oldestHeld)

/-- The distance from one journal offset to another (R320). -/
def offDist (a b : Nat) : Nat := (b + 2 ^ 48 - a % 2 ^ 48) % 2 ^ 48

/-- Records are sent in offset order from the send offset, within the window beyond A (R324). A second streams nothing (R364). -/
def State.streamOut (k : Nat) (s : State) : State :=
  if ¬ storeEnabled s k ∨ ¬ s.serving ∨ s.twin.role = 2 then s
  else
    let st := s.store k
    let win := 64 * s.objNat (0xD010 + k) 6
    let rs := s.heldRecords.filter fun r => !(offBelow r.off st.send) && decide (offDist st.ack r.off < win)
    match rs.getLast? with
    | none => s
    | some l => (s.modStore k fun x => { x with send := (l.off + 64) % 2 ^ 48 }).sendRecords k rs

def State.streamAll (s : State) : State := s.each (List.range 4) State.streamOut

/-- Records sent again from A to the send offset: each is counted (R325). -/
def State.resendStore (k : Nat) (s : State) : State :=
  let st := s.store k
  if ¬ storeEnabled s k ∨ st.send = st.ack then s
  else
    let again := s.heldRecords.filter fun r => !(offBelow r.off st.ack) && offBelow r.off st.send
    let s : State := { s with journal := { s.journal with resent := s.journal.resent + again.length } }
    (s.modStore k fun x => { x with send := x.ack }).streamOut k

/-- A repair request (R325, R328): its held part is sent, and a range no longer held is answered by JOURNAL_GONE. -/
def State.repair (k start count : Nat) (s : State) : State :=
  if count = 0 then s
  else
    let rs := s.heldRecords.filter fun r => !(offBelow r.off start) && decide (offDist start r.off < 64 * count)
    let s := s.sendRecords k rs
    if offBelow start s.oldestHeld then
      s.sendUnit (s.storePeer k) (unitBytes 0x22 0 ([b8 k, 0, 0, 0] ++ natLE 8 s.oldestHeld))
    else s

/-! ### Observers (R39, R310) -/

/-- EVENT units with at most 16 records each, while the ports serve; DROPPED stands in the first (R307, R310). A second
sends none (R364). -/
def State.sendEvents (p : Peer) (dropped resent : Bool) (rs : List JRec) (s : State) : State :=
  ((groupsOf 16 rs).zipIdx).foldl (fun s g =>
    if ¬ s.serving ∨ s.twin.role = 2 then s else s.sendUnit p (unitBytes 0x11 0 ([b8 g.1.length, b8 (bit (dropped && decide (g.2 = 0)) + 2 * bit resent), 0, 0] ++ (g.1.map jrecBytes).flatten))) s

/-- An event is held for an observer, at most 256; the oldest is discarded (R310). -/
def Observer.hold (o : Observer) (r : JRec) : Observer :=
  if o.unacked.length < 256 then { o with unacked := o.unacked ++ [r] }
  else { o with unacked := o.unacked.drop 1 ++ [r], dropped := true }

/-- An observer's subscription selects a record by its group (R310). -/
def Observer.wants (o : Observer) (r : JRec) : Bool := decide (1 ≤ r.group ∧ r.group ≤ 9) && decide (bitsOf o.mask r.group 1 = 1)

/-- New events reach an observer (R310). -/
def State.notify (rs : List JRec) (o : Observer) (s : State) : State :=
  let mine := rs.filter o.wants
  if mine = [] then s
  else
    let o' := mine.foldl Observer.hold o
    let lost := o.unacked.length + mine.length - o'.unacked.length
    let s : State := { s with journal := { s.journal with evDropped := s.journal.evDropped + lost },
                              observers := s.observers.map fun (x : Observer) => if x.peer = o.peer then { o' with dropped := o'.dropped && !s.serving } else x }
    s.sendEvents o.peer o'.dropped false mine

/-- Events received from the field side are held for every observer, and sent (R39, R310). -/
def State.notifyAll (rs : List JRec) (s : State) : State := s.observers.foldl (fun s o => s.notify rs o) s

/-- The unacknowledged events of an observer are sent again, in units with RESENT set (R310). -/
def State.resendEvents (p : Peer) (s : State) : State :=
  match s.observers.find? fun o => decide (o.peer = p) with
  | none => s
  | some o =>
    if ¬ s.serving ∨ s.twin.role = 2 then s
    else
      ({ s with observers := s.observers.map fun (x : Observer) => if x.peer = p then { x with dropped := false } else x }).sendEvents p o.dropped true o.unacked

end Sys2Proof.Machine
end

