-- ==== Sys2Proof/Machine/LinkOps.lean ====
section
/-!
DEFINITION. The receiver of a message link: frames, the checks of R26 with the catalogues of R25 and R361, drops,
deliveries, acknowledgement and resynchronisation (R24 to R30, R361).
-/

namespace Sys2Proof.Machine

open Sys2Proof

/-! ### Frames (R24) -/

def frameType (f : List Byte) : Nat := fieldLE f 0 1
def frameFlags (f : List Byte) : Nat := fieldLE f 1 1
def frameSeq (f : List Byte) : Nat := fieldLE f 2 2
def frameLen (f : List Byte) : Nat := fieldLE f 4 2
def framePayload (f : List Byte) : List Byte := sliceBytes f 8 (frameLen f)

/-- A payload number of `n` bytes at `off`. -/
def payloadLE (f : List Byte) (off n : Nat) : Nat := fieldLE f (8 + off) n

/-- A journal record's 64 bytes read (R320). -/
def jrecOfBytes (b : List Byte) : JRec :=
  { esn := fieldLE b 0 8, ts := fieldLE b 8 8, off := fieldLE b 16 6, typ := fieldLE b 22 1, group := fieldLE b 23 1,
    data := sliceBytes b 24 32, rmac := sliceBytes b 56 8 }

/-- The records behind the 8-byte header of JOURNAL and M_JOURNAL (R25, R361). -/
def frameRecords (f : List Byte) : List JRec :=
  (List.range ((frameLen f - 8) / 64)).map fun i => jrecOfBytes (sliceBytes f (16 + 64 * i) 64)

/-! ### The checks of R26 -/

/-- The types an end receives (R25, R361): a second takes the lead's, a lead takes FIELD_QUERY. -/
def typePermitted (e : LinkEnd) (role typ : Nat) : Bool :=
  let both := [1, 2, 3, 0x7F].contains typ
  match e with
  | .porterField => both || [0x10, 0x12, 0x21, 0x31, 0x40, 0x60].contains typ
  | .porterHost => both || [0x11, 0x13, 0x20, 0x30, 0x40, 0x41, 0x50, 0x60].contains typ
  | .twin => both || [0x90, 0x93, 0x95].contains typ || (decide (role = 1) && decide (typ = 0x91)) ||
      (decide (role = 2) && (decide (0x80 ≤ typ ∧ typ ≤ 0x8A) || [0x92, 0x94, 0xA0].contains typ))

/-- The payload lengths of a type (R25, R361). -/
def lengthPermitted (typ len : Nat) : Bool :=
  let (lo, hi, step) := payloadRange typ
  decide (lo ≤ len ∧ len ≤ hi) && decide ((len - lo) % step = 0)

/-- What the receiver makes of a frame: the number of the check that fails (R26), or 0. -/
def frameCheck (e : LinkEnd) (role expRx : Nat) (f : List Byte) : Nat :=
  let len := frameLen f
  if f.length ≠ 12 + len ∨ fieldLE f (8 + len) 4 ≠ crc32c (f.take (8 + len)) then 1
  else if frameFlags f / 2 ≠ 0 ∨ fieldLE f 6 2 ≠ 0 ∨ len % 4 ≠ 0 ∨ len > 520 then 2
  else if typePermitted e role (frameType f) = false then 3
  else if lengthPermitted (frameType f) len = false then 4
  else if unsequenced e (frameType f) = false ∧ frameSeq f ≠ expRx then 5
  else 0

/-- The counter of a failed check (R26). -/
def Link.drop (check : Nat) (l : Link) : Link :=
  match check with
  | 1 => { l with badCrc := l.badCrc + 1 }
  | 2 => { l with badHeader := l.badHeader + 1 }
  | 3 => { l with badType := l.badType + 1 }
  | 4 => { l with badLength := l.badLength + 1 }
  | _ => { l with outOfSeq := l.outOfSeq + 1 }

/-! ### Link control (R28, R30, R362) -/

/-- LINK_ACK with the next expected SEQ (R28). -/
def State.sendAck (e : LinkEnd) (s : State) : State :=
  (s.modLink e fun l => { l with owe := false }).send e 2 (.ack (s.link e).expRx)

/-- The die of an end runs its link: not stopped by sleep, reset or power loss (R18, R409); a module that runs alone
ignores the TWIN connector (R363). -/
def State.endRuns (s : State) (e : LinkEnd) : Bool :=
  match e with
  | .porterHost => s.power.hostReady && !s.power.hostReset && !s.power.hostAsleep
  | .porterField => decide (s.power.state = 0)
  | .twin => decide (s.power.state = 0) && decide (s.twin.state ≠ 0)

/-- LINK_RESYNC with the next transmit SEQ and the next expected SEQ (R30). -/
def State.sendResync (e : LinkEnd) (s : State) : State := s.send e 3 (.resync (s.link e).nextTx (s.link e).expRx)

/-- A link comes up with the first message that passes check 1: LINK_RESYNC, and over the twin link LINK_HELLO with a new
random nonce (R30, R362). -/
def State.linkUps (e : LinkEnd) (s : State) : State :=
  if (s.link e).up then s
  else
    let s := s.modLink e fun l => { l with up := true, lastAck := none }
    let s := s.sendResync e
    if e = .twin then
      let s : State := { s with twin := { s.twin with nonce := padTo 8 (Config.randomBytes s.fresh 8), peerNonce := [], posBad := false } }
      s.draw.sendHello .twin
    else s

/-- A message arrives at an end as the message of type `typ`: a frame that fails a check is dropped, counted and answered by
LINK_ACK (R26, R28); one that passes is delivered (R26). A passing frame of another type is no such message. -/
def State.receive (e : LinkEnd) (typ : Nat) (f : List Byte) (deliver : State → State) (s : State) : State :=
  if ¬ s.endRuns e then s
  else
    let check := frameCheck e s.twin.role (s.link e).expRx f
    let s1 := if check = 1 then s else s.linkUps e
    if check ≠ 0 then (s1.modLink e (Link.drop check)).sendAck e
    else if frameType f ≠ typ then s
    else if unsequenced e typ then deliver s1
    else deliver (s1.modLink e fun l => { l with expRx := (l.expRx + 1) % 65536, owe := true })

/-- Every unacknowledged message is sent again in order, with RETX set (R28). -/
def State.retransmit (e : LinkEnd) (s : State) : State :=
  let w := (s.link e).window
  let s := s.modLink e fun l => { l with retrans := l.retrans + w.length }
  w.foldl (fun s m => s.emit (sentMessage e m.typ m.seq true m.body)) s

/-- How many messages of a window a next expected SEQ acknowledges (R28). -/
def ackedCount (w : List LinkMsg) (next : Nat) : Nat :=
  match w with
  | [] => 0
  | m :: _ =>
    let k := (next + 65536 - m.seq) % 65536
    if k ≤ w.length then k else 0

/-- An ECHO of the loop-back M-ECHO returned, or one to be returned (R476). -/
def State.echoBack (e : LinkEnd) (f : List Byte) (s : State) : State := s.send e 0x7F (.echo (framePayload f))

end Sys2Proof.Machine
end

