-- ==== Sys2Proof/Machine/Operands.lean ====
section
/-!
DEFINITION. The Kenier core's register operands: windows, house registers, the Bare-mode distances and the product
registers (R244 to R247, R253, R255, R256).
-/

namespace Sys2Proof.Machine

open Sys2Proof

/-- The windowed register, 0 to 255, that a number below 24 names in window `w` (R244, R245). -/
def windowed (w : BitVec 4) (r : RegNo) : Nat := ((2 * w.toNat + r.toNat / 8) % 32) * 8 + r.toNat % 8

/-- The physical register of a number: windowed registers 0 to 255, house registers 256 + n. -/
def Kenier.phys (c : Kenier) (r : RegNo) : Nat := if r.toNat < 24 then windowed c.wnow r else 256 + r.toNat % 8

/-- The value that stands in a register (R244): H0 reads 0. -/
def Kenier.value (c : Kenier) (r : RegNo) : Word :=
  if r.toNat < 24 then Tab.get 0 c.win (windowed c.wnow r) else if r.toNat = 24 then 0 else Tab.get 0 c.house (r.toNat % 8)

/-- A register as an instruction reads it: in Bare mode, too close to its producer, the value before it (R255). -/
def Kenier.reg (c : Kenier) (r : RegNo) : Word :=
  if r.toNat = 24 then 0
  else match if c.bare then c.stale.find? (fun x => decide (x.reg = c.phys r)) else none with
    | some x => x.old
    | none => c.value r

/-- Write a register; writes to H0 are ignored (R244). `dist` is the distance its consumers keep in Bare mode (R255). -/
def Kenier.setReg (r : RegNo) (v : Word) (dist : Nat) (c : Kenier) : Kenier :=
  if r.toNat = 24 then c
  else
    let st : List Stale := if c.bare then { reg := c.phys r, old := c.value r, left := dist + 1 } :: c.stale else c.stale
    if r.toNat < 24 then { c with win := Tab.set 0 c.win (windowed c.wnow r) v, stale := st }
    else { c with house := Tab.set 0 c.house (r.toNat % 8) v, stale := st }

/-- The oldest product reaches PH:PL (R253). -/
def Kenier.arrive (c : Kenier) : Kenier :=
  match c.products with
  | [] => c
  | p :: ps =>
    let v := if p.accumulate then (c.ph ++ c.pl) + p.value else p.value
    { c with products := ps, ph := v.extractLsb' 32 32, pl := v.extractLsb' 0 32 }

/-- Every pending product reaches PH:PL, oldest first. -/
def Kenier.arriveAll : Nat → Kenier → Kenier
  | 0, c => c
  | n + 1, c => Kenier.arriveAll n c.arrive

/-- Trap entry and RFE complete every earlier instruction (R255). -/
def Kenier.complete (c : Kenier) : Kenier := { c.arriveAll c.products.length with stale := [] }

/-- One instruction has issued and completed: products older by one write after their third, and Bare distances shrink
(R253, R255). -/
def Kenier.age (c : Kenier) : Kenier :=
  let ps := c.products.map fun p => { p with age := p.age + 1 }
  let n := (ps.filter fun p => decide (p.age ≥ 4)).length
  let c := { c with products := ps }.arriveAll n
  { c with stale := (c.stale.map fun x => { x with left := x.left - 1 }).filter fun x => decide (x.left ≠ 0) }

/-- Multiply: the product is on its way (R253). -/
def Kenier.startProduct (v : BitVec 64) (acc : Bool) (c : Kenier) : Kenier :=
  { c with products := c.products ++ [{ value := v, accumulate := acc }] }

/-- The live windows (R245). -/
def Kenier.live (c : Kenier) : Nat := (c.wnow - c.wold).toNat + 1

end Sys2Proof.Machine
end

