-- ==== Sys2Proof/Machine/Flags.lean ====
section
/-!
DEFINITION. The Kenier core's status words and system registers (R254, R262, R266), its comparisons and its shifts
(R249, R250). No arithmetic instruction sets a flag.
-/

namespace Sys2Proof.Machine

open Sys2Proof

/-- KSTAT as read (R262). -/
def Kenier.kstat (c : Kenier) : Word :=
  BitVec.ofNat 32 (bit c.ie + 2 * bit c.trp + 4 * bit c.bare + 8 * bit c.guest + 16 * bit c.lock)

/-- KSTAT := TSTAT at RFE (R251, R254). -/
def Kenier.loadStat (w : Word) (c : Kenier) : Kenier :=
  let n := w.toNat
  let lock := decide (bitsOf n 4 1 = 1)
  { c with ie := bitsOf n 0 1 = 1, trp := bitsOf n 1 1 = 1, bare := bitsOf n 2 1 = 1, guest := bitsOf n 3 1 = 1, lock := lock,
           lockCt := if c.lock then c.lockCt else 0, lockCycles := if c.lock then c.lockCycles else 0 }

/-- A comparison's result (R249, R250). -/
def flagWord (b : Bool) : Word := if b then 1 else 0

/-- A receive slot of the door-link radio holds a packet (R457, R266). -/
def State.packetHeld (s : State) : Bool :=
  (List.range 8).any fun i => decide (Tab.get (0 : Byte) s.pktMem (0x1000 + 0xA00 * (8 + i)) = 1)

/-- The levels of the interrupt sources (R266). -/
def State.irqPend (s : State) (k : Die) : Word :=
  let c := s.core k
  match k with
  | .host => c.irq ||| BitVec.ofNat 32 (8192 * bit (decide (s.fltH.queue ≠ [])))
  | .field =>
    let card := s.sense.coils.any fun p => p.2.latched
    c.irq ||| BitVec.ofNat 32 (1024 * bit card + 2048 * bit (s.packetHeld) + 4096 * bit s.power.warning + 8192 * bit (decide (s.fltF.queue ≠ [])))

/-- Some enabled interrupt is pending (R251, R266). -/
def State.irqReady (s : State) (k : Die) : Bool := decide (s.irqPend k &&& (s.core k).irqen ≠ 0)

/-- WINSTAT as read (R262). -/
def Kenier.winstat (c : Kenier) : Word := BitVec.ofNat 32 (c.wnow.toNat + 16 * c.wold.toNat + 256 * c.live)

/-- A system register as RDSR reads it (R262). -/
def State.readSr (s : State) (k : Die) (sr : Nat) : Word :=
  let c := s.core k
  match sr with
  | 0 => c.kstat
  | 1 => c.tstat
  | 2 => c.tpc.zeroExtend 32
  | 3 => c.tcause
  | 4 => c.taddr.zeroExtend 32
  | 5 => c.tvec
  | 6 => c.winstat
  | 7 => BitVec.ofNat 32 (c.pc.toNat / 65536)
  | 8 => c.dbk.zeroExtend 32
  | 9 => c.abk.zeroExtend 32
  | 10 => c.irqen
  | 11 => s.irqPend k
  | 12 => BitVec.ofNat 32 c.cycle
  | 13 => c.cych
  | 14 => c.fetchct
  | _ => c.squashct

/-- A system register as WRSR writes it (R247, R262). -/
def Kenier.writeSr (sr : Nat) (v : Word) (c : Kenier) : Kenier :=
  match sr with
  | 0 => { c with ie := bitsOf v.toNat 0 1 = 1 }
  | 1 => { c with tstat := v &&& 0x11F }
  | 2 => { c with tpc := v.truncate 25 }
  | 4 => { c with taddr := v.truncate 25 }
  | 5 => { c with tvec := v &&& 0x1FFFC00 }
  | 6 => if c.trp then { c with wnow := v.truncate 4, wold := (v >>> 4).truncate 4 } else c
  | 8 => { c with dbk := v.truncate 9 }
  | 9 => { c with abk := v.truncate 9 }
  | 10 => { c with irqen := v &&& 0xFFFF }
  | _ => c

end Sys2Proof.Machine
end

