-- ==== Sys2Proof/Machine/Protocols.lean ====
section
/-!
DEFINITION. The firmware's exchanges (R152 to R161, R163, R184): windows by FWT rounding, the requests it sends, Type A
anticollision, and the rounds that identify the tags on a coil. The command bytes are those of the standards that R144
names (log 101).
-/

namespace Sys2Proof.Machine

open Sys2Proof

/-! ### Windows (R60, R152, R167) -/

/-- The least k from `k` on with n not above 2^k. -/
def log2Up (n : Nat) : Nat → Nat → Nat
  | 0, k => k
  | fuel + 1, k => if n ≤ 2 ^ k then k else log2Up n fuel (k + 1)

/-- The window by FWT rounding of a frame waiting time in ct (R152). -/
def fwtWindow (fwt : Nat) : Nat := min 134184960 (2 ^ log2Up (fwt + 49152) 28 0)

/-- The frame waiting time of an FWI; 15 is used as 4 (R153, R155). -/
def fwtOf (fwi : Nat) : Nat := 4096 * 2 ^ (if fwi ≥ 15 then 4 else fwi)

/-- The least exponent with which a 12-bit mantissa can hold a window. -/
def winExp (n : Nat) : Nat → Nat → Nat
  | 0, e => e
  | fuel + 1, e => if n ≤ 4095 * 2 ^ e then e else winExp n fuel (e + 1)

/-- The next window that `WINM` and `WINE` can hold (R167). -/
def windowUp (n : Nat) : Nat :=
  let e := winExp n 15 0
  min 134184960 (((n + 2 ^ e - 1) / 2 ^ e) * 2 ^ e)

/-! ### Requests (R153 to R161) -/

/-- The bits of bytes, least significant first. -/
def bitsOfBytes (b : List Byte) : List Bool := b.flatMap fun x => (List.range 8).map fun i => x.toNat.testBit i

/-- The byte of up to eight bits. -/
def byteOfBits (l : List Bool) : Byte := BitVec.ofNat 8 (l.foldr (fun x n => (if x then 1 else 0) + 2 * n) 0)

/-- Bits as bytes, the last one filled with zeros. -/
def bytesOfBits : Nat → List Bool → List Byte
  | 0, _ => []
  | fuel + 1, l => if l = [] then [] else byteOfBits (l.take 8) :: bytesOfBits fuel (l.drop 8)

/-- A number as a byte of a frame. -/
def fb (n : Nat) : Byte := BitVec.ofNat 8 n

/-- A whole-byte frame with its timing (R159). -/
def ask (frame : List Byte) (fdtMin window gap retry : Nat) : Request :=
  { frame := frame, bits := 8 * frame.length, fdtMin := fdtMin, window := window, gap := gap, retry := retry }

/-- REQA, and WUPA before a session: short frames of 7 bits, 7,000 ct from the last one (R153). -/
def reqA (wake : Bool) (gap : Nat) : Request :=
  { frame := [fb (if wake then 0x52 else 0x26)], bits := 7, fdtMin := 1108, window := 1300, gap := gap, retry := 2 }

/-- The select code of a cascade level, 0 to 2. -/
def selOf (level : Nat) : Nat := 0x93 + 2 * level

/-- ANTICOLLISION with the known bits (R154): NVB counts bytes with SEL and NVB in its upper nibble, further bits below. -/
def anticollision (level : Nat) (known : List Bool) : Request :=
  let n := known.length
  { frame := [fb (selOf level), fb (16 * (2 + n / 8) + n % 8)] ++ bytesOfBits 5 known, bits := 16 + n, fdtMin := 1108,
    window := 1300, gap := 1200, retry := 2 }

/-- The block check of four bytes (R154). -/
def bccOf (b : List Byte) : Byte := (b.take 4).foldl (· ^^^ ·) 0

/-- SELECT of a level's four UID bytes (R154). -/
def selectA (level : Nat) (uid : List Byte) : Request :=
  ask ([fb (selOf level), 0x70] ++ uid.take 4 ++ [bccOf uid]) 1108 1300 1200 2

/-- HLTA: no answer means halted (R153, R159). -/
def hltA : Request := ask [0x50, 0x00] 1108 13560 1200 0

/-- REQB or WUPB with N slots, and a slot MARKER (R155, R159). -/
def reqB (wake : Bool) (n gap : Nat) : Request :=
  ask [0x05, 0x00, fb ((if wake then 8 else 0) + log2Up n 5 0)] 960 8192 gap 0
def markerB (slot : Nat) : Request := ask [fb (16 * slot + 5)] 960 8192 1800 0

/-- HLTB of an identified PICC (R156). -/
def hltB (pupi : List Byte) : Request := ask (0x50 :: pupi) 960 (fwtWindow (fwtOf 4)) 1800 0

/-- A 15693 INVENTORY of 1 or 16 slots at a data rate, with the mask as slot numbers, the first extension first (R157, R184). -/
def inventoryV (high many : Bool) (mask : List Nat) (gap : Nat) : Request :=
  let bits := mask.flatMap fun s => (List.range 4).map fun i => s.testBit i
  ask ([fb ((if high then 2 else 0) + 4 + (if many then 0 else 0x20)), 0x01, fb (4 * mask.length)] ++ bytesOfBits 8 bits)
    4320 4608 gap (if many then 0 else 2)

/-- An EOF alone, which opens the next slot (R159, R160): after a slot that stayed silent 544 or 2,848 ct later, else 4,200. -/
def eofV (high silent : Bool) : Request :=
  { fdtMin := 4320, window := 4608, gap := if silent then (if high then 544 else 2848) else 4200 }

/-- The duration of an 18092 frame from first to last modulation edge in ct at 212 kbit/s, its length byte included (R161). -/
def frameFCt (len : Nat) : Nat := 64 * (48 + 16 + 8 * len + 16)

/-- SENSF_REQ with a TSN (R161): a one-track MEET, the EXCHANGE of slot 0, and a LISTEN per further slot. -/
def sensF (tsn gap : Nat) : List Request :=
  { kind := 4, gap := gap } ::
  ask [0x06, 0x00, 0xFF, 0xFF, 0x00, fb tsn] 32512 48896 0 0 ::
  (List.range tsn).map fun j =>
    { kind := 3, window := 16384, gap := 1 + frameFCt 6 + 32768 + 16384 * (j + 1) - 256 }

/-! ### The answers of stages -/

/-- A stage whose answers are used up got none. -/
def noAnswer : SlotObs := { outcome := .silent, bits := 0, data := [], data1 := [], out := 0 }

/-- A fault that a stage's retries repeat (R163): CORRUPT or IMPULSE. -/
def slotFaulty (a : SlotObs) : Bool := decide (a.outcome = .corrupt) || decide (a.outcome = .impulse)

/-- The answer of a stage with up to `n` retries, and the answers that follow (R66, R163). -/
def retried (bad : SlotObs → Bool) : Nat → List SlotObs → SlotObs × List SlotObs
  | _, [] => (noAnswer, [])
  | 0, a :: as => (a, as)
  | n + 1, a :: as => if bad a then retried bad n as else (a, as)

/-- What the rounds on a coil have found so far: answers still to come, requests made, identifications with the combiner
output that each came from, and whether a request's retries ran out (R173) or anticollision stayed incomplete (R184). -/
structure Hunt where
  answers : List SlotObs
  sent : List Request := []
  found : List (Nat × TagId) := []
  failed : Bool := false
  incomplete : Bool := false
  deriving DecidableEq, Repr

def Hunt.send (r : Request) (h : Hunt) : Hunt := { h with sent := h.sent ++ [r] }
def Hunt.find_ (out : Nat) (t : TagId) (h : Hunt) : Hunt := { h with found := h.found ++ [(out, t)] }

/-- The identifications of an answer (R134, R184): a SPLIT yields both frames, each from its own output. -/
def slotTags (tag : List Byte → Option TagId) (a : SlotObs) : List (Nat × TagId) :=
  let first := (tag a.data).toList.map fun t => (a.out, t)
  match a.outcome with
  | .ok => first
  | .split => first ++ (tag a.data1).toList.map fun t => (1 - a.out, t)
  | _ => []

/-- The tag of an INVENTORY response, an ATQB and a SENSF_RES (R172). -/
def tagV (d : List Byte) : Option TagId := if d.length = 10 then some { proto := 3, uid := d.drop 2 } else none
def tagB (d : List Byte) : Option TagId := if d.length ≥ 11 then some { proto := 2, uid := sliceBytes d 1 4 } else none
def tagF (d : List Byte) : Option TagId := if d.length ≥ 18 then some { proto := 4, uid := sliceBytes d 2 8 } else none

/-! ### ISO/IEC 15693 (R184) -/

/-- A round still to run: its slots and the slot numbers of its mask. -/
structure VRound where
  many : Bool
  mask : List Nat
  deriving DecidableEq, Repr

/-- The requests of a 16-slot round: the INVENTORY, and an EOF after each slot but the last. -/
def roundRequests (high : Bool) (mask : List Nat) (gap : Nat) (xs : List SlotObs) : List Request :=
  inventoryV high true mask gap :: (xs.take 15).map fun a => eofV high (decide (a.outcome = .silent))

/-- The rounds of R184, depth first in ascending slot order: at most 64, and no mask above 64 bits. -/
def roundsV (high : Bool) : Nat → Nat → List VRound → Hunt → Hunt
  | _, _, [], h => h
  | 0, _, _ :: _, h => { h with incomplete := true }
  | fuel + 1, gap, r :: todo, h =>
    if r.many then
      let xs := (List.range 16).map fun i => h.answers.getD i noAnswer
      let hit := (List.range 16).filter fun i => decide ((xs.getD i noAnswer).outcome = .collided)
      let deep := decide (r.mask.length ≥ 16) && decide (hit ≠ [])
      let more : List VRound := if deep then [] else hit.map fun i => { many := true, mask := r.mask ++ [i] }
      roundsV high fuel 4200 (more ++ todo)
        { h with answers := h.answers.drop 16, sent := h.sent ++ roundRequests high r.mask gap xs,
                 found := h.found ++ xs.flatMap (slotTags tagV), incomplete := h.incomplete || deep }
    else
      let (a, rest) := retried slotFaulty 2 h.answers
      let more : List VRound := if a.outcome = .collided then [{ many := true, mask := r.mask }] else []
      roundsV high fuel 4200 (more ++ todo)
        { h with answers := rest, sent := h.sent ++ [inventoryV high false r.mask gap],
                 found := h.found ++ slotTags tagV a, failed := h.failed || slotFaulty a }

/-! ### ISO/IEC 14443 Type A (R153, R154, R184) -/

/-- The response bits of an ANTICOLLISION with `n` known bits: the first is stored at bit n mod 8 (R147). -/
def responseBits (n bits : Nat) (data : List Byte) : List Bool := ((bitsOfBytes data).drop (n % 8)).take bits

/-- The 40 bits of a level when the answer completes them: four UID bytes whose block check matches (R154). -/
def levelBytes (known : List Bool) (bits : Nat) (data : List Byte) : Option (List Byte) :=
  let all := known ++ responseBits known.length bits data
  let b := bytesOfBits 5 all
  if all.length = 40 ∧ b.getD 4 0 = bccOf b then some (b.take 4) else none

/-- An anticollision answer counts as CORRUPT when it does not complete the level (R154). -/
def levelBad (known : List Bool) (a : SlotObs) : Bool :=
  slotFaulty a || ((decide (a.outcome = .ok) || decide (a.outcome = .split)) && (levelBytes known a.bits a.data).isNone)

/-- Resolve one cascade level (R154): at a collision the first colliding bit is set to 1 and the known bits go out again.
Answers the level's UID bytes, if they were found, and the frame 1 of a SPLIT. -/
def levelA (level : Nat) : Nat → List Bool → Hunt → Option (List Byte × Nat × Option (List Byte)) × Hunt
  | 0, _, h => (none, { h with failed := true })
  | fuel + 1, known, h =>
    let (a, rest) := retried (levelBad known) 2 h.answers
    let h := { (h.send (anticollision level known)) with answers := rest }
    if a.outcome = .collided then
      let known := known ++ responseBits known.length a.bits a.data ++ [true]
      if known.length < 40 then levelA level fuel known h else (none, { h with failed := true })
    else if levelBad known a then (none, { h with failed := true })
    else match levelBytes known a.bits a.data with
      | some u =>
        let other := if a.outcome = .split then levelBytes known a.bits a.data1 else none
        (some (u, a.out, other), h)
      | none => (none, h)

/-- One PICC, level by level (R154): the cascade tag leads the bytes of a level that SAK bit 2 shows incomplete. Answers the
PICC's UID, its output and its SAK. -/
def piccA : Nat → List Byte → Hunt → Option (List Byte × Nat × Nat) × Hunt
  | 0, _, h => (none, h)
  | fuel + 1, uid, h =>
    let level := uid.length / 3
    match levelA level 41 [] h with
    | (none, h) => (none, h)
    | (some (u, out, other), h) =>
      let h := match other with
        | some w => if w.head? ≠ some 0x88 then h.find_ (1 - out) { proto := 1, uid := uid ++ w } else h
        | none => h
      let (a, rest) := retried slotFaulty 2 h.answers
      let h := { (h.send (selectA level u)) with answers := rest, failed := h.failed || slotFaulty a }
      if a.outcome ≠ .ok then (none, h)
      else
        let sak := fieldLE a.data 0 1
        if sak.testBit 2 then piccA fuel (uid ++ u.drop 1) h else (some (uid ++ u, out, sak), h)

/-- The rounds of Type A (R184): REQA until SILENT, each identified PICC halted; 32 PICCs or 64 rounds leave it incomplete. -/
def roundsA : Nat → Nat → Hunt → Hunt
  | 0, _, h => { h with incomplete := true }
  | fuel + 1, gap, h =>
    if h.found.length ≥ 32 then { h with incomplete := true }
    else
      let (a, rest) := retried slotFaulty 2 h.answers
      let h := { (h.send (reqA false gap)) with answers := rest, failed := h.failed || slotFaulty a }
      if a.outcome = .silent ∨ slotFaulty a then h
      else match piccA 3 [] h with
        | (some (uid, out, _), h) => roundsA fuel 7000 ((h.find_ out { proto := 1, uid := uid }).send hltA)
        | (none, h) => if h.failed then h else roundsA fuel 7000 h

/-! ### Type B and ISO/IEC 18092 (R156, R161, R184) -/

/-- The slots of successive rounds: 1, 2, 4, 8, then at most eight rounds of 16 (R156, R184). -/
def slotRounds : List Nat := [1, 2, 4, 8] ++ List.replicate 8 16

/-- Rounds of Type B, or of ISO/IEC 18092: a slot that ends CORRUPT is counted as collided, and a round with one is repeated
with more slots; for Type B each identified PICC is halted first (R156). -/
def roundsSlot (typeB : Bool) : List Nat → Nat → Hunt → Hunt
  | [], _, h => { h with incomplete := true }
  | n :: ns, gap, h =>
    let xs := (List.range n).map fun i => h.answers.getD i noAnswer
    let got := xs.flatMap (slotTags (if typeB then tagB else tagF))
    let asks := if typeB then reqB false n gap :: (List.range (n - 1)).map (fun i => markerB (i + 1)) else sensF (n - 1) gap
    let h := { h with answers := h.answers.drop n, sent := h.sent ++ asks, found := h.found ++ got }
    if xs.any fun a => slotFaulty a || decide (a.outcome = .collided) then
      let h := if typeB then { h with sent := h.sent ++ got.map fun p => hltB p.2.uid } else h
      roundsSlot typeB ns (if typeB then 1800 else 4200) h
    else h

/-! ### A coil -/

/-- The rounds of one protocol of a plan on a coil (R184, R201): 15693 at high and at low rate, Type A, Type B, 18092; the
first request keeps the field-on guard (R153 to R158). -/
def huntOne (proto guard : Nat) (answers : List SlotObs) : Hunt :=
  match proto with
  | 0 => roundsV true 64 guard [{ many := false, mask := [] }] { answers := answers }
  | 1 => roundsV false 64 guard [{ many := false, mask := [] }] { answers := answers }
  | 2 => roundsA 64 guard { answers := answers }
  | 3 => roundsSlot true slotRounds guard { answers := answers }
  | _ => roundsSlot false slotRounds guard { answers := answers }

/-- The object that holds a protocol's field-on guard (R171). -/
def guardSub (proto : Nat) : Nat := if proto ≤ 1 then 7 else if proto ≤ 3 then 6 else 8

/-- What the protocols of a mask find on a coil. -/
def huntAll (mask : Nat) (guard : Nat → Nat) (answers : List (List SlotObs)) : Hunt :=
  ((List.range 5).filter fun b => mask.testBit b).foldl (fun h b =>
    let k := huntOne b (guard b) (answers.getD b [])
    { h with sent := h.sent ++ k.sent, found := h.found ++ k.found, failed := h.failed || k.failed,
             incomplete := h.incomplete || k.incomplete }) { answers := [] }

end Sys2Proof.Machine
end

