-- ==== Sys2Proof/Machine/Part4.lean ====
section
/-!
DEFINITION. The ISO/IEC 14443-4 transport (R153, R155, R164, R165): activation of a PICC, blocks with chaining and their
recovery. Block and command bytes are those of the standard (log 101).
-/

namespace Sys2Proof.Machine

open Sys2Proof

/-! ### Parameters (R153, R155, R171) -/

/-- The frame size of an FSCI; one above 8 is used as 8 (R153). -/
def fscOf (fsci : Nat) : Nat := [16, 24, 32, 40, 48, 64, 96, 128, 256].getD (min 8 fsci) 256

/-- The wait after an ATS (R153). -/
def sfgt (sfgi : Nat) : Nat := if 1 ≤ sfgi ∧ sfgi ≤ 14 then (4096 + 384) * 2 ^ sfgi else 0

/-- The highest rate code up to `limit` that three bits of a capability byte announce, 0 for 106 kbit/s. -/
def rateUpTo (limit mask : Nat) : Nat := (List.range 4).foldl (fun r k => if k ≤ limit ∧ 1 ≤ k ∧ mask.testBit (k - 1) then k else r) 0

/-- The rates of both directions under a capability byte (R153, R155): separate, unless it asks for the same divisor. -/
def ratesOf (limit cap : Nat) : Nat × Nat :=
  if cap.testBit 7 then (let r := rateUpTo limit (cap &&& (cap / 16)); (r, r)) else (rateUpTo limit cap, rateUpTo limit (cap / 16))

/-! ### A run of the transport -/

/-- An exchange under way: answers to come, requests made, the session, and the happenings that R165 counts. -/
structure Part4 where
  answers : List SlotObs
  session : Session
  sent : List Request := []
  recoveries : Nat := 0
  extensions : Nat := 0
  ppsFailures : Nat := 0
  deriving DecidableEq, Repr

/-- A request with one answer. -/
def Part4.ask_ (r : Request) (p : Part4) : SlotObs × Part4 :=
  (p.answers.headD noAnswer, { p with answers := p.answers.drop 1, sent := p.sent ++ [r] })

/-- A request of anticollision or select, with its two retries (R163). -/
def Part4.askRetried (r : Request) (p : Part4) : SlotObs × Part4 :=
  let (a, rest) := retried slotFaulty r.retry p.answers
  (a, { p with answers := rest, sent := p.sent ++ [r] })

/-- A block (R153, R155, R159): its window from the frame waiting time, extended by `mult`. -/
def Part4.block (b : List Byte) (mult gap : Nat) (p : Part4) : SlotObs × Part4 :=
  let fdt := if p.session.typeB then 960 else 1108
  let least := if p.session.typeB then 1800 else 1200
  p.ask_ (ask b fdt (fwtWindow (fwtOf p.session.fwi * mult)) (max least gap) 0)

/-! ### Blocks (R164, R165) -/

/-- What an answer is as a block. -/
inductive Block where
  | info (more : Bool) (num : Nat) (inf : List Byte)
  | ack (num : Nat)
  | wtx (m : Nat)
  | deselect
  | bad
  deriving DecidableEq, Repr

/-- Read a block (R165): CID 0 is assigned and no NAD is used, so that another CID, a NAD or an unknown PCB is no block. -/
def blockOf (a : SlotObs) : Block :=
  let pcb := fieldLE a.data 0 1
  let cid := pcb.testBit 3
  let inf := a.data.drop (if cid then 2 else 1)
  if a.outcome ≠ .ok ∨ a.data = [] ∨ (cid ∧ (a.data.length < 2 ∨ fieldLE a.data 1 1 % 16 ≠ 0)) then .bad
  else if pcb &&& 0xE6 = 0x02 then .info (pcb.testBit 4) (pcb % 2) inf
  else if pcb &&& 0xF6 = 0xA2 then .ack (pcb % 2)
  else if pcb &&& 0xF7 = 0xF2 then (let m := fieldLE inf 0 1 % 64; if 1 ≤ m ∧ m ≤ 59 then .wtx m else .bad)
  else if pcb &&& 0xF7 = 0xC2 then .deselect
  else .bad

def infoBlock (num : Nat) (more : Bool) (inf : List Byte) : List Byte := fb (0x02 + num + if more then 0x10 else 0) :: inf
def ackBlock (num : Nat) : List Byte := [fb (0xA2 + num)]
def nakBlock (num : Nat) : List Byte := [fb (0xB2 + num)]
def wtxBlock (m : Nat) : List Byte := [0xF2, fb m]
def deselectBlock : List Byte := [0xC2]

/-- S(DESELECT), once; unanswered, the field of the coil goes off for 5 ms (R165). -/
def Part4.deselect (p : Part4) : Part4 :=
  let (a, p) := p.block deselectBlock 1 0
  if blockOf a = .deselect then p else { p with sent := p.sent ++ [{ kind := 5, gap := 67800 }] }

/-- Where a block exchange stands: the block last sent anew and whether it is an I-block, failures on it, the command's
further parts, and the response so far. -/
structure Turn where
  cur : List Byte
  isInfo : Bool
  fails : Nat := 0
  todo : List (List Byte)
  resp : List Byte := []
  deriving DecidableEq, Repr

/-- The blocks of an APDU (R164, R165): what goes out now with a window extension, and its answer. Answers the status of
0x6140.06 and the response. -/
def blocks (attempts : Nat) : Nat → List Byte → Nat → Nat → Turn → Part4 → Nat × List Byte × Part4
  | 0, _, _, _, _, p => (3, [], p.deselect)
  | fuel + 1, out, mult, gap, t, p =>
    let (a, p) := p.block out mult gap
    let n := p.session.num
    let fault (p : Part4) (count : Nat) (again : List Byte) : Nat × List Byte × Part4 :=
      let p := { p with recoveries := p.recoveries + count }
      if t.fails + 1 ≥ attempts then (3, [], p.deselect)
      else blocks attempts fuel again 1 0 { t with fails := t.fails + 1 } p
    let recover : Nat × List Byte × Part4 := fault p 1 (if t.isInfo then nakBlock n else t.cur)
    match blockOf a with
    | .wtx m => blocks attempts fuel (wtxBlock m) m 0 t { p with extensions := p.extensions + 1 }
    | .info more num inf =>
      if num ≠ n ∨ t.todo ≠ [] then recover
      else
        let p := { p with session := { p.session with num := 1 - n } }
        let resp := t.resp ++ inf
        if resp.length > 2048 then (4, [], p.deselect)
        else if more then blocks attempts fuel (ackBlock (1 - n)) 1 0 { cur := ackBlock (1 - n), isInfo := false, todo := [], resp := resp } p
        else (2, resp, p)
    | .ack num =>
      if ¬ t.isInfo then recover
      else if num ≠ n then fault p 0 t.cur
      else match t.todo with
        | [] => recover
        | c :: rest =>
          let b := infoBlock (1 - n) (decide (rest ≠ [])) c
          blocks attempts fuel b 1 0 { cur := b, isInfo := true, todo := rest } { p with session := { p.session with num := 1 - n } }
    | _ => recover

/-- Bytes in parts of at most `n`. -/
def partsOf (n : Nat) : Nat → List Byte → List (List Byte)
  | 0, _ => []
  | fuel + 1, l => if l = [] then [] else l.take n :: partsOf n fuel (l.drop n)

/-- An APDU over an open session (R164): I-blocks of at most FSC − 3 bytes. -/
def runApdu (cfg : Part4Cfg) (gap : Nat) (cmd : List Byte) (p : Part4) : Nat × List Byte × Part4 :=
  match partsOf (p.session.fsc - 3) cmd.length cmd with
  | [] => (2, [], p)
  | c :: rest =>
    let b := infoBlock p.session.num (decide (rest ≠ [])) c
    blocks cfg.attempts (p.answers.length + 8) b 1 gap { cur := b, isInfo := true, todo := rest } p

/-! ### Activation (R153 to R155, R166) -/

/-- The four bytes that select each cascade level of a UID (R154). -/
def cascade (uid : List Byte) : List (List Byte) :=
  match uid.length with
  | 7 => [0x88 :: uid.take 3, uid.drop 3]
  | 10 => [0x88 :: uid.take 3, 0x88 :: sliceBytes uid 3 3, uid.drop 6]
  | _ => [uid]

/-- Select a known PICC level by level; answers its last SAK. -/
def selectLevels : Nat → List (List Byte) → Option Nat → Part4 → Option Nat × Part4
  | _, [], sak, p => (sak, p)
  | level, u :: us, _, p =>
    match p.askRetried (selectA level u) with
    | (a, p) => if a.outcome = .ok then selectLevels (level + 1) us (some (fieldLE a.data 0 1)) p else (none, p)

/-- What an ATS announces (R153): FSCI, capability byte TA, FWI, SFGI, each at its default where the ATS leaves it out. -/
def readAts (d : List Byte) : Nat × Nat × Nat × Nat :=
  let t0 := if d.length ≥ 2 then fieldLE d 1 1 else 2
  let hasA := t0.testBit 4
  let hasB := t0.testBit 5
  let ta := if hasA then fieldLE d 2 1 else 0
  let tb := if hasB then fieldLE d (2 + if hasA then 1 else 0) 1 else 0x40
  (t0 % 16, ta, tb / 16, tb % 16)

/-- Activation by RATS, and PPS where a rate above 106 kbit/s is allowed (R153, R165). Answers 2, or the status that ends the
exchange, and the wait before the first block. -/
def activateA (cfg : Part4Cfg) (uid : List Byte) (p : Part4) : Nat × Nat × Part4 :=
  let (a, p) := p.askRetried (reqA true 7000)
  if a.outcome = .silent ∨ slotFaulty a then (3, 0, p)
  else match selectLevels 0 (cascade uid) none p with
    | (none, p) => (3, 0, p)
    | (some sak, p) =>
      if sak.testBit 5 = false then (6, 0, p)
      else
        let (a, p) := p.ask_ (ask [0xE0, fb (16 * cfg.fsdi)] 1108 (fwtWindow 71680) 1200 0)
        if a.outcome ≠ .ok then (3, 0, p)
        else
          let (fsci, ta, fwi, sfgi) := readAts a.data
          let p := { p with session := { p.session with fsc := fscOf fsci, fwi := fwi, num := 0 } }
          let (dr, ds) := ratesOf cfg.rateA ta
          if dr = 0 ∧ ds = 0 then (2, sfgt sfgi, p)
          else
            let (a, p) := p.ask_ (ask [0xD0, 0x11, fb (4 * ds + dr)] 1108 (fwtWindow (fwtOf fwi)) (max 1200 (sfgt sfgi)) 0)
            if a.outcome = .ok ∧ a.data = [0xD0] then (2, 0, { p with session := { p.session with dr := dr, ds := ds } })
            else (2, 0, { p with ppsFailures := p.ppsFailures + 1 })

/-- Activation by ATTRIB, with FSD and rates in it (R155). -/
def activateB (cfg : Part4Cfg) (uid : List Byte) (p : Part4) : Nat × Nat × Part4 :=
  let (a, p) := p.ask_ (reqB true 1 1800)
  if a.outcome ≠ .ok ∨ (tagB a.data).map (·.uid) ≠ some uid then (3, 0, p)
  else if (fieldLE a.data 10 1).testBit 0 = false then (6, 0, p)
  else
    let fwi := fieldLE a.data 11 1 / 16
    let (dr, ds) := ratesOf cfg.rateB (fieldLE a.data 9 1)
    let p := { p with session := { p.session with fsc := fscOf (fieldLE a.data 10 1 / 16), fwi := fwi, num := 0 } }
    let (a, p) := p.ask_ (ask (0x1D :: uid ++ [0, fb (cfg.fsdi + 16 * dr + 64 * ds), 1, 0]) 960 (fwtWindow (fwtOf fwi)) 1800 0)
    if a.outcome ≠ .ok then (3, 0, p) else (2, 0, { p with session := { p.session with dr := dr, ds := ds } })

/-- A whole APDU exchange (R166): on the open session, or after an activation. -/
def runExchange (cfg : Part4Cfg) (uid cmd : List Byte) (opened : Bool) (p : Part4) : Nat × List Byte × Part4 :=
  if opened then runApdu cfg 0 cmd p
  else
    match (if p.session.typeB then activateB cfg uid p else activateA cfg uid p) with
    | (2, gap, p) => runApdu cfg gap cmd p
    | (st, _, p) => (st, [], p)

end Sys2Proof.Machine
end

