-- ==== Sys2Proof/Machine/FieldEngine.lean ====
section
/-!
DEFINITION. The field engine: SELECT and SHAPE with their waits, the selector, ramps, training, feeder faults, the power
budget and heat (R82 to R112, R118 to R121).
-/

namespace Sys2Proof.Machine

open Sys2Proof

/-! ### Power (R97, R98, R107, R109) -/

/-- The level of a coil in A/m (R98). -/
def State.fieldLevel (s : State) (ca level : Nat) : Rat := s.objQ (0x2200 + ca) (2 + level)

/-- The commanded power of a coil in W (R97). -/
def State.coilPower (s : State) (ca level : Nat) : Rat := (s.fieldLevel ca level / (s.cal ca).k) ^ 2

/-- A chain's locked cap in W (R98). -/
def State.chainCap (s : State) (x : Nat) : Rat := s.objQ (0x2100 + x) 4

/-- The commanded sum S (R109). -/
def State.powerSum (s : State) : Rat :=
  (List.range 8).foldl (fun p x => if (s.chain x).st = 0 then p else p + (s.chain x).power) 0

/-- The derated continuous budget (R109). -/
def State.derated (s : State) : Rat := max 0 (if s.budget.amb > 50 then 16 - 2 / 5 * (s.budget.amb - 50 : Int) else 16)

/-- B_c and B_p (R109, R112). -/
def State.bc (s : State) : Rat := if s.budget.throttled then min 8 s.derated else s.derated
def State.bp (s : State) : Rat := if s.budget.throttled then min 8 s.derated else s.derated + 16

/-- PBTIME.USED (R110). -/
def State.peakUsed (s : State) : Nat := s.budget.ticks.length

/-- S has risen: note whether it exceeds B_c within the running tick (R110). -/
def State.noteSum (s : State) : State :=
  if s.powerSum > s.bc then { s with budget := { s.budget with exceeded := true } } else s

/-- A field-power sum in units of 10 mW; between two units it falls as the implementation rounds (log 12). -/
def tenMw (p : Rat) : Nat := roundCode (p * 100)

/-! ### Members (R95, R105 to R107) -/

/-- The member of a SELECT, at its coil's level and no more than its chain's cap (R98). -/
def State.selectMember (s : State) (t ca level : Nat) : Member :=
  let p := s.coilPower ca level
  { chain := t, ca := ca, phase := 0, power := min p (s.chainCap t), clamp := decide (p > s.chainCap t) }

def setAddr (n : Nat) : Nat := airAddr (0x4000 + 32 * n)

/-- The members of a shaping set with their relative amplitudes (R105): chain, coil, AMP, PHASE. -/
def setMembers (b : List Byte) (t : Nat) : List (Nat × Nat × Nat × Nat) :=
  (List.range (min 4 (fieldLE b 0 1))).map fun m =>
    if m = 0 then (t, fieldLE b 8 1, 0x800, 0)
    else (fieldLE b (9 + 6 * m) 1, fieldLE b (8 + 6 * m) 1, fieldLE b (10 + 6 * m) 2 % 4096, fieldLE b (12 + 6 * m) 2)

/-- The checks of R106; a chain number above 7 names no chain (log 21). -/
def setOk (b : List Byte) (t : Nat) : Bool :=
  let ms := setMembers b t
  let n := fieldLE b 0 1
  decide (bitsOf (fieldLE b 2 1) 0 1 = 1) && decide (1 ≤ n ∧ n ≤ 4) && decide (ms.map (feederOf ·.2.1)).Nodup &&
  decide (ms.map (·.1)).Nodup && ms.all fun m => decide (m.1 < 8)

/-- The members with their powers: the target's at its level, the others in proportion, all scaled by one factor when a
member would exceed its cap (R107). -/
def State.shapeMembers (s : State) (t level : Nat) (b : List Byte) : List Member :=
  let raw := setMembers b t
  let p0 := match raw with | [] => 0 | m :: _ => s.coilPower m.2.1 level
  let ps : List (Nat × Nat × Nat × Rat) := raw.map fun m => (m.1, m.2.1, m.2.2.2, p0 * ((m.2.2.1 : Rat) / 2048) ^ 2)
  let f : Rat := ps.foldl (fun f m => if m.2.2.2 > s.chainCap m.1 then min f (s.chainCap m.1 / m.2.2.2) else f) 1
  ps.map fun m => { chain := m.1, ca := m.2.1, phase := m.2.2.1, power := m.2.2.2 * f,
                    clamp := decide (f < 1) && decide (m.2.2.2 * f = s.chainCap m.1) }

/-! ### SELECT and SHAPE (R62, R63, R93 to R95, R106, R107) -/

/-- The end of a SELECT or SHAPE; after OK its target is the selected coil (R61). -/
def State.endSelect (t out : Nat) (s : State) : State :=
  let ca := match (s.track t).members with | [] => 0 | m :: _ => m.ca
  let s := s.when (decide (out = 0)) fun s => s.modTrack t fun tr => { tr with coil := some ca }
  s.endAir t out false { ca := ca } []

/-- The select word of R86 with CLAIM 1 (R92). -/
def selectWord (coil tune : Nat) : Nat :=
  let w := 256 * (coil % 16) + 4 * (tune % 64) + 2
  let ones := ((List.range 12).filter fun i => decide (bitsOf w i 1 = 1)).length
  w + (1 - ones % 2)

/-- The bias levels of a word's half cells from the idle high level on, most significant bit first: a change at the start of
each cell, and one at mid-cell for a 1; a low line returns to high at the end (R87). -/
def biphase (word : Nat) : List Bool :=
  let go := fun (a : List Bool × Bool) (i : Nat) =>
    let first := !a.2
    let second := if word.testBit (11 - i) then !first else first
    (a.1 ++ [first, second], second)
  let r := (List.range 12).foldl go (([] : List Bool), true)
  if r.2 then r.1 else r.1 ++ [true]

/-- A select word leaves for a coil, which is not acknowledged yet (R86 to R88). -/
def State.sendWord (ca : Nat) (s : State) : State :=
  let w := selectWord ca (s.cal ca).tune
  (s.modFeeder (feederOf ca) fun x => { x with acked := false, ack := false }).emit (.selectWord (feederOf ca) w (biphase w))

/-- Send the select words of feeders and coils and await the settle (R87, R90). -/
def State.sendWords (t tries : Nat) (cas : List Nat) (s : State) : State :=
  let s := s.each cas State.sendWord
  s.modTrack t fun tr => { tr with phase := .word tries, markCc := s.tb.cc, st := if tr.st = 6 then 6 else 2 }

/-- The module sends select words: it is no twin second, and a yield has not blocked the word path (R92, R364, R374). -/
def State.wordsAllowed (s : State) : Bool := decide (s.twin.role ≠ 2) && !s.twin.blocked

/-- RF of a chain outside a track's set is on a feeder of the set: an unrouted chain still ramps down there (R87). -/
def State.rfOn (s : State) (t : Nat) : Bool :=
  let ms := (s.track t).members
  ms.any fun m => (List.range 8).any fun y =>
    decide ((s.chain y).st ≠ 0) && decide ((s.chain y).feeder = feederOf m.ca) && !(ms.any fun n => decide (n.chain = y))

/-- The words go out once no RF is on their feeders (R87). -/
def State.wordGo (t : Nat) (s : State) : State :=
  if s.rfOn t then s.modTrack t fun tr => { tr with phase := .rfWait } else s.sendWords t 1 ((s.track t).members.map (·.ca))

/-- With every member chain at zero, each is routed to its feeder, and the words are sent (R93 to R95). A feeder that
another chain owns makes the stage illegal (R94); a disabled coil or a feeder not OK ends it without a word (R83, R114). -/
def State.routeAndSend (t : Nat) (s : State) : State :=
  let ms := (s.track t).members
  let owned := ms.any fun m => (List.range 8).any fun y =>
    decide ((s.chain y).routed) && decide ((s.chain y).feeder = feederOf m.ca) && !(ms.any fun n => decide (n.chain = y))
  if owned then (s.illegal t).raiseFault .field 10 2 2 (natLE 4 t)
  else
    let s := ms.foldl (fun s m => s.modChain m.chain fun c => { c with routed := true, feeder := feederOf m.ca }) s
    let bad := ms.any fun m => !(s.objBool (0x2200 + m.ca) 1) || decide ((s.feeder (feederOf m.ca)).status ≠ 1)
    if bad ∨ ¬ s.wordsAllowed then s.endSelect t 6 else s.wordGo t

/-- A track's chain is free for another track's shaping set (R63). -/
def State.chainFree (s : State) (t m : Nat) : Bool :=
  let tr := s.track m
  let waits := decide (tr.st = 0 ∨ tr.st = 3 ∨ tr.st = 4) ||
    (decide (tr.st = 1) && decide ((Stage.ofBytes (s.readBytes (stageAddr tr.stage) 32)).kind = 5))
  let c := s.chain m
  waits && decide (c.st = 0) && decide (c.lentTo = none ∨ c.lentTo = some t)

/-- The ramp settings that a SELECT or SHAPE takes from the executing chain's objects when it begins (R99). -/
def State.takeRamps (t : Nat) (s : State) : State :=
  s.modChain t fun c => { c with onUs := s.objNat (0x2100 + t) 1, offUs := s.objNat (0x2100 + t) 2, shape := s.objNat (0x2100 + t) 3 }

/-- A chain is lent to a track and ramps over the executing chain's time (R63, R107). -/
def State.lend (t x : Nat) (s : State) : State :=
  let own := s.chain t
  s.modChain x fun c => { c with lentTo := some t, onUs := own.onUs, offUs := own.offUs, shape := own.shape }

/-- The waits of a SELECT or SHAPE before it acts: its chain lent, a member chain not free, a chain under calibration
(R63, R466); then the chain goes to zero if it is not there, and is routed (R95). -/
def State.selectGo (t : Nat) (s : State) : State :=
  let ms := (s.track t).members
  let others := (ms.map (·.chain)).filter (· ≠ t)
  if s.ownLent t then s.modTrack t fun tr => { tr with phase := .lentWait }
  else if others.any fun m => !(s.chainFree t m) then s.modTrack t fun tr => { tr with phase := .lentWait }
  else if ms.any fun m => (s.chain m.chain).calib then s.modTrack t fun tr => { tr with phase := .calibWait }
  else
    let s := (s.when (decide ((s.track t).phase = .lentWait)) (State.takeRamps t)).each others (State.lend t)
    let s := s.modTrack t fun tr => { tr with st := if tr.st = 6 then 6 else 2, startCc := s.tb.cc }
    if (s.chain t).st ≠ 0 then s.modTrack t fun tr => { tr with phase := .rampDown } else s.routeAndSend t

/-- A SELECT or SHAPE begins: the previous feeder, lent chains and reduced level are given up, and the chain's off-ramp
starts (R63, R93, R95, R111). New ramp settings hold from here (R99). -/
def State.beginSelect (t : Nat) (ms : List Member) (s : State) : State :=
  let lent := s.ownLent t
  let s := s.each (s.lentChains t) State.dropChain
  let s := s.when (!lent) fun s => (s.takeRamps t).dropChain t
  (s.modTrack t fun tr => { tr with members := ms }).selectGo t

def execSelect (t : Fin 9) (s : State) : Result :=
  .next (s.beginStage t 0 true (fun _ _ => .good) fun g s => s.beginSelect t [s.selectMember t g.target g.level])

/-- SHAPE validates its set (R106), notes an older survey generation (R105), and runs as SELECT on every member (R107). -/
def execShape (t : Fin 9) (s : State) : Result :=
  .next (s.beginStage t 1 true (fun g s =>
      s.readable (setAddr g.target) 32 (if setOk (s.readBytes (setAddr g.target) 32) t then .good else .illegal))
    fun g s =>
      let b := s.readBytes (setAddr g.target) 32
      let s := s.when (decide (fieldLE b 3 1 ≠ s.calib.gen)) fun s => s.modChain t fun c => { c with sstale := true }
      s.beginSelect t (s.shapeMembers t g.level b))

/-- A length of time in ns as ct, the next whole one. -/
def nsCt (ns : Nat) : Nat := (ns * 1356 + 99999) / 100000

/-- A pulse `ma` above the mean current, from `start` ns after word end for `len` ns, is an acknowledge (R89): at least 25 mA
for at least 2 µs within the window from 2 to 10 µs. -/
def ackPulse (ma start len : Nat) : Bool := decide (ma ≥ 25) && decide (min (start + len) 10000 ≥ max start 2000 + 2000)

/-- The word that is out on a feeder: its coil, and the start of its first cell. -/
def State.wordOut (s : State) (f : Nat) : Option (Nat × Nat) :=
  let scan := match s.sense.word with
    | some (ca, _, cc) => if feederOf ca = f then some (ca, cc) else none
    | none => none
  scan <|> (List.range 9).findSome? fun t =>
    match (s.track t).phase with
    | .word _ => ((s.track t).members.find? fun m => decide (feederOf m.ca = f)).map fun m => (m.ca, (s.track t).markCc)
    | _ => none

/-- A word is acknowledged: its coil is connected with its tuning, and the feeder's run of failures ends (R88, R90). -/
def State.ackWord (f ca : Nat) (s : State) : State :=
  s.modFeeder f fun x => { x with acked := true, ack := true, conn := true, coil := ca % 16, tune := (s.cal ca).tune, run := 0 }

/-- A pulse of bias current on a feeder whose word is out, 48 µs long: an acknowledge within R89's limits, and otherwise
none (R88 to R90). -/
def execAcknowledgePulse (p : AckPulse) (s : State) : Result :=
  match s.wordOut p.feeder with
  | some (ca, cc) =>
    let s := s.advanceTo ((cc + usCt 48 + nsCt (p.startNs + min p.lenNs 2000)) % 2 ^ 48)
    .next (if ackPulse p.ma p.startNs p.lenNs then s.ackWord p.feeder ca else s)
  | none => .next s

/-! ### Admission and ramps (R95, R99, R109) -/

/-- The on-ramps of an admitted stage start together (R95, R107). -/
def State.startRamps (t : Nat) (s : State) : State :=
  let ms := (s.track t).members
  let base := (s.chain t).phase
  let s := ms.foldl (fun s m => s.modChain m.chain fun c =>
    { c with st := 1, up := true, rampCc := s.tb.cc, power := m.power, budgetWait := false,
             phase := if m.chain = t then base else (base + m.phase) % 65536,
             clamp := c.clamp || m.clamp, clamps := c.clamps + bit m.clamp }) s
  let s := ms.foldl (fun s m => s.modCal m.ca fun c => { c with estimate := 0 }) s
  (s.modTrack t fun tr => { tr with phase := .rampUp, markCc := s.tb.cc }).noteSum

/-- The power a track's stage adds to S. -/
def State.newPower (s : State) (t : Nat) : Rat := (s.track t).members.foldl (fun p m => p + m.power) 0

/-- The new sum meets the budget (R109, R110). -/
def State.fits (s : State) (t : Nat) : Bool :=
  let n := s.powerSum + s.newPower t
  decide (n ≤ s.bc) || (decide (n ≤ s.bp) && decide (s.peakUsed ≤ 9900))

/-- The waiters with a track that begins to wait now: last, but before a higher track that began in the same ct (R109). -/
def State.queueWaiter (s : State) (t : Nat) : List Nat :=
  let before (u : Nat) : Bool := decide ((s.track u).markCc ≠ s.tb.cc ∨ u < t)
  s.budget.waiters.takeWhile before ++ [t] ++ s.budget.waiters.dropWhile before

/-- Budget admission at the end of the settle; level 0 ends OK there with the chain at zero, untrained (R98, R109, R121). -/
def State.admission (t : Nat) (s : State) : State :=
  let ms := (s.track t).members
  if s.newPower t = 0 then
    (s.each (ms.map (feederOf ·.ca)) fun v => State.modRx v fun r => { r with trained := false, ci := 0, cq := 0 }).endSelect t 0
  else if s.budget.waiters = [] ∧ s.fits t then s.startRamps t
  else
    let s := (s.modChain t fun c => { c with budgetWait := true }).modTrack t fun tr => { tr with phase := .budget, markCc := s.tb.cc }
    { s with budget := { s.budget with waiters := s.queueWaiter t, waits := s.budget.waits + 1 } }

/-- Some receive chain is in listen, so that no burst starts (R234). -/
def State.anyListen (s : State) : Bool := (List.range 16).any s.inListen

/-- The coil's door group reads closed (R227). -/
def State.doorClosed (s : State) (ca : Nat) : Bool :=
  let g := s.objNat (0x2500 + ca) 4
  decide (g < 64) && s.objBool 0x2401 (g + 1)

/-- The bursts of a sense begin at once unless some chain listens, with the baselines then in use (R227, R234). -/
def State.beginBursts (t : Nat) (ms : List Member) (s : State) : State :=
  let shut := (ms.map (·.ca)).filter s.doorClosed
  s.modTrack t fun tr => { tr with phase := .sense, members := ms, markCc := s.tb.cc, burst := if s.anyListen then none else some shut }

/-- An unacknowledged repeat ends the stage TIMEOUT; the third in a row on a feeder raises a fault (R90). -/
def State.noAck (t : Nat) (fs : List Nat) (s : State) : State :=
  let s := s.endSelect t 6
  s.each fs fun f s =>
    let n := (s.feeder f).run + 1
    let s := s.modFeeder f fun x => { x with run := if n ≥ 3 then 0 else n }
    s.when (decide (n ≥ 3)) (State.raiseFault .field 4 4 2 [b8 f, b8 (s.feeder f).ibias])

/-- The coils whose words have not been acknowledged; a sense sends a word only where another coil is connected (R225). -/
def State.unacked (s : State) (t : Nat) : List Nat :=
  let tr := s.track t
  (tr.members.map (·.ca)).filter fun ca =>
    if tr.cur.kind ≤ 1 then !(s.feeder (feederOf ca)).acked else !(s.connected ca)

/-- After the settle: a SELECT or SHAPE seeks admission, or ends after a second failure; a sense goes on with the coils
that are connected, the others being skipped (R90, R95, R225). -/
def State.settled (t tries : Nat) (un : List Nat) (s : State) : State :=
  let tr := s.track t
  if un = [] then (if tr.cur.kind ≤ 1 then s.admission t else s.beginBursts t tr.members)
  else if tries = 1 then s.sendWords t 2 un
  else if tr.cur.kind ≤ 1 then s.noAck t (un.map feederOf)
  else s.beginBursts t (tr.members.filter fun m => !(un.contains m.ca))

/-- 12 µs after the word end (R89, R90): 48 µs of word and 12 µs of settle after its first cell. -/
def execSelectorSettle (t : Fin 9) (s : State) : Result :=
  match (s.track t).phase with
  | .word tries =>
    let s := s.advanceTo (((s.track t).markCc + usCt 60) % 2 ^ 48)
    let un := s.unacked t
    let s := s.each un fun ca => State.modFeeder (feederOf ca) fun x => { x with unacked := x.unacked + 1 }
    .next (s.settled t tries un)
  | _ => .next s

/-- Waiting stages are admitted strictly in the order in which they began waiting (R109). -/
def State.admitWaiters : Nat → State → State
  | 0, s => s
  | fuel + 1, s =>
    match s.budget.waiters with
    | [] => s
    | t :: ts =>
      if s.fits t then State.admitWaiters fuel (({ s with budget := { s.budget with waiters := ts } }).startRamps t) else s

def execBudgetAdmission (s : State) : Result := .next (s.admitWaiters 9)

/-- The ct of a chain's ramp in progress, by the settings of its newest SELECT or SHAPE (R99, R107). -/
def State.rampCt (s : State) (x : Nat) : Nat :=
  let c := s.chain x
  usCt (if c.up then c.onUs else c.offUs)

/-- The trainings of a SELECT or SHAPE whose chains have reached their level (R95, R121). -/
def State.trainMembers (t : Nat) (s : State) : State :=
  let vs := (s.track t).members.map (feederOf ·.ca)
  (s.each vs State.startTraining).awaitTraining t vs

/-- A chain is at its level, with forward and reflected powers that the outside fixes, free values (log 8): training follows
once every member of its stage is there (R95, R99). -/
def State.upEnd (x t : Nat) (s : State) : State :=
  let n := s.fresh
  let s := s.draw.draw.modChain x fun c => { c with st := 2, up := false, fwd := Config.freeNat n % 65536, refl := Config.freeNat (n + 1) % 65536 }
  let up := (s.track t).members.all fun m => decide ((s.chain m.chain).st = 2)
  if (s.track t).phase = .rampUp ∧ up = true then s.trainMembers t else s

/-- A transmit chain at zero takes its whole correction at once (R467). -/
def State.landCorrections (x : Nat) (s : State) : State :=
  let mine := s.calib.corrections.filter fun k => !k.rx && decide (k.index = x)
  let rest := s.calib.corrections.filter fun k => k.rx || decide (k.index ≠ x)
  { s with calib := { s.calib with corrections := rest, present := mine.foldl (fun p k => Tab.set (0, 0) p x (k.amp, k.phase)) s.calib.present } }

/-- A chain is at zero: corrections land at once (R467), and the stage that waited for zero goes on, or ends DEFERRED
after a timeout (R68, R95). Words that waited for its feeder to be without RF go out (R87). -/
def State.downEnd (x t : Nat) (s : State) : State :=
  let s := s.modChain x fun c => { c with st := 0, power := 0, fwd := 0, refl := 0 }
  let s := s.landCorrections x
  let down := (s.track t).members.all fun m => decide ((s.chain m.chain).st = 0)
  let s := if (s.track t).phase = .rampDown ∧ x = t then s.routeAndSend t
    else if (s.track t).phase = .deferRamp ∧ down = true then s.endSelect t 7
    else s
  s.each ((List.range 8).filter fun u => decide ((s.track u).phase = .rfWait)) State.wordGo

/-- A ramp ends, one ramp time after its start (R99); each end is a level change (R121). -/
def State.rampEnd (x : Nat) (s : State) : State :=
  let c := s.chain x
  if c.st ≠ 1 then s
  else
    let s := s.advanceTo ((c.rampCc + s.rampCt x) % 2 ^ 48)
    let s : State := { s with budget := { s.budget with levelCc := s.tb.cc } }
    if c.up then s.upEnd x (c.lentTo.getD x) else s.downEnd x (c.lentTo.getD x)

def execRampEnd (x : Fin 8) (s : State) : Result := .next (s.rampEnd x)

/-! ### Training (R119 to R121) -/

/-- The receive chains whose training a track's stage awaits. -/
def State.trainSet (s : State) (t : Nat) : List Nat :=
  let tr := s.track t
  if tr.cur.kind ≤ 1 then tr.members.map (feederOf ·.ca) else (s.listenInputs t).map (·.1)

/-- A stage whose trainings are all complete goes on: a SELECT or SHAPE ends OK, a listening stage starts (R95, R121). -/
def State.afterTraining (t : Nat) (s : State) : State :=
  if (s.track t).phase = .train ∧ ¬ s.anyTraining (s.trainSet t) then
    (if (s.track t).cur.kind ≤ 1 then s.endSelect t 0 else s.airGo t)
  else s

/-- Training ends 52 µs after its start and is classified (R119, R120). -/
def State.trainingComplete (f depth range ci cq : Nat) (s : State) : State :=
  if ¬ (s.rx f).training then s
  else
    let s := s.advanceTo (((s.rx f).trainFrom + usCt 52) % 2 ^ 48)
    let r := s.rx f
    let run := if depth < 40 then r.run + 1 else 0
    let weak := decide (depth < 50)
    let n := s.fresh
    let s := s.draw.setRx f { r with training := false, depth := depth, ci := ci, cq := cq, trained := decide (depth ≥ 40),
                                     weak := weak, top := range, resid := freeLevel n, trainCc := some s.tb.cc,
                                     trainings := r.trainings + 1, weakCt := r.weakCt + bit weak, run := run }
    let s := s.setRange f range s.tb.cc
    let s := s.when weak (if run ≥ 3 then State.raiseFault .field 5 2 2 [b8 f, b8 depth] else State.raiseFault .field 5 1 1 [b8 f, b8 depth])
    s.each (List.range 8) State.afterTraining

def execTrainingComplete (f : Fin 16) (depth : Nat) (range : Fin 4) (ci cq : BitVec 16) (s : State) : Result :=
  .next (s.trainingComplete f depth range ci.toNat cq.toNat)

/-- A resource wait ends (R68): the stage looks again at what it waited for, and starts its action late if it is free. -/
def State.resourceWaitEnd (t : Nat) (s : State) : State :=
  let tr := s.track t
  match tr.phase with
  | .calibWait => if tr.cur.kind ≤ 1 then s.selectGo t else s
  | .lentWait => if tr.cur.kind ≤ 1 then s.selectGo t else if s.ownLent t then s
      else if tr.cur.kind = 2 then s.emitFrame t else s.prepareListen t
  | .inputWait => s.prepareListen t
  | .trainWait =>
    let vs := s.trainSet t
    let s := s.each vs fun v s => if (s.rx v).trwait ∧ ¬ s.inListen v then s.startTraining v else s
    (s.awaitTraining t vs).afterTraining t
  | _ => s

/-! ### Feeder faults (R83, R85) -/

/-- A feeder takes a faulty status and raises its fault; SHORT and FENCED await an acknowledgement, and SHORT switches the
bias off (R83). -/
def State.feederFault (f status cause level ma : Nat) (s : State) : State :=
  (s.modFeeder f fun x => { x with status := status, ibias := ma, biasOn := x.biasOn && decide (status ≠ 3),
                                   conn := x.conn && decide (status ≠ 3),
                                   held := if status = 3 ∨ status = 4 then status else x.held }).raiseFault
    .field 4 cause level [b8 f, b8 ma]

def State.feederOn (s : State) (f : Nat) : Bool := s.objBool (0x2010 + f) 1

/-- Quiescent current below 0.5 mA: ABSENT with a Note; SHORT and FENCED stand until acknowledged (R83). -/
def execFeederAbsent (f : Fin 16) (ma : Nat) (s : State) : Result :=
  let x := s.feeder f
  .next (if s.feederOn f ∧ ma = 0 ∧ x.status ≠ 2 ∧ x.held = 0 then s.feederFault f 2 1 1 ma else s)

/-- Current at the limit for 1 ms: SHORT, bias off, a Degrade (R83). -/
def execFeederShort (f : Fin 16) (s : State) : Result :=
  .next (if s.feederOn f ∧ (s.feeder f).held ≠ 3 then s.feederFault f 3 2 2 150 else s)

/-- Current above 100 mA and below the limit for 100 ms: OVERLOAD (R83). -/
def execFeederOverload (f : Fin 16) (ma : Nat) (s : State) : Result :=
  let x := s.feeder f
  .next (if s.feederOn f ∧ 100 < ma ∧ ma < 150 ∧ x.held = 0 ∧ x.status ≠ 5 then s.feederFault f 5 5 2 ma else s)

/-- Reflected power above 25 % of a forward power above 100 mW: the chain ramps to zero, its track is aborted, and the
feeder is fenced (R85). -/
def execFeederFenced (f : Fin 16) (fwd refl : Nat) (s : State) : Result :=
  match (List.range 8).find? fun x => (s.chain x).routed && decide ((s.chain x).feeder = f) with
  | none => .next s
  | some x =>
    if fwd ≤ 100 ∨ refl * 4 ≤ fwd ∨ (s.feeder f).held = 4 then .next s
    else
      let s := s.modChain x fun c => { c with fwd := fwd, refl := refl }
      let s := (s.rampDown x).abortTrack 3 ((s.chain x).lentTo.getD x)
      .next (s.feederFault f 4 3 2 (s.feeder f).ibias)

/-- The current is in range (R83): an ABSENT or OVERLOAD feeder returns to OK, a SHORT or FENCED one only once acknowledged,
and an enabled feeder is measured for the first time. -/
def execFeederRecovery (f : Fin 16) (ma : Nat) (s : State) : Result :=
  let x := s.feeder f
  .next (if s.feederOn f ∧ 1 ≤ ma ∧ ma ≤ 100 ∧ x.status ≠ 1 ∧ x.held = 0 then
      s.modFeeder f fun x => { x with status := 1, ibias := ma, biasOn := true }
    else s)

/-! ### Forward power (R101) -/

/-- Forward power more than 0.5 dB above the cap: a transmit-chain Fence (R101, R386). -/
def execAboveCap (x : Fin 8) (mw : Nat) (s : State) : Result :=
  if (mw : Rat) / 1000 > s.chainCap x * (1122018454 / 1000000000) then
    .next ((s.modChain x fun c => { c with fwd := mw }).raiseFault .field 3 1 3 ([b8 x] ++ natLE 2 mw))
  else .next s

/-- More than 50 mW from a chain whose commanded amplitude is zero: a transmit-chain Fence (R101). -/
def execPowerAtZero (x : Fin 8) (mw : Nat) (s : State) : Result :=
  if (s.chain x).power = 0 ∧ mw > 50 then
    .next ((s.modChain x fun c => { c with fwd := mw }).raiseFault .field 3 2 3 ([b8 x] ++ natLE 2 mw))
  else .next s

/-! ### Peak time and heat (R110 to R112) -/

/-- Every chain at level is scaled to bring S down to a limit (R111, R112): power by limit/S over a ramp of `us` µs,
journalled and counted. S takes the new powers at the start of the ramp, as R109 does for an on-ramp (log 98). -/
def State.reduceTo (limit : Rat) (cause us : Nat) (s : State) : State :=
  let sum := s.powerSum
  let xs := (List.range 8).filter fun x => decide ((s.chain x).st ≥ 2)
  let s := s.each xs fun x => State.modChain x fun c =>
    { c with power := c.power * limit / sum, reduced := true, cutFrom := ampCode c.power, cutCc := s.tb.cc, cutCt := usCt us }
  let s : State := { s with budget := { s.budget with reductions := s.budget.reductions + 1, levelCc := s.tb.cc } }
  s.commit 6 7 (natLE 2 (tenMw sum) ++ natLE 2 (tenMw limit) ++ [b8 (xs.foldl (fun m x => m + 2 ^ x) 0), b8 cause])

/-- The 1 ms tick: it counts when S exceeded B_c within it, old ticks leave, and at 10,000 ms the chains are reduced
(R110, R111). -/
def execPeakTimeTick (s : State) : Result :=
  let s := s.advanceTo ((s.tb.cc / 13560 + 1) * 13560 % 2 ^ 48)
  let b := s.budget
  let kept := b.ticks.filter fun n => decide (n + 60000 > b.ms)
  let ticks := if b.exceeded ∧ kept.length < 10000 then kept ++ [b.ms] else kept
  let s : State := { s with budget := { b with ms := b.ms + 1, ticks := ticks, exceeded := false } }
  let sum := s.powerSum
  let s := if ticks.length ≥ 10000 ∧ sum > s.bc then
      (s.reduceTo s.bc 0 1000).raiseFault .field 3 3 1 (natLE 2 (tenMw sum))
    else s
  .next s.noteSum

/-- The 1 ms heatsink sample (R112): at 105 °C the safe state, at 95 °C the throttle, at 90 °C both conditions end. Under the
throttle every sample that finds S above the limit reduces it. A condition that stands after an acknowledgement is raised
again (R385). A sample that meets both rows at once raises the cause-5 Fence alone (log 98). -/
def execHeatsinkSample (sink amb : Int) (s : State) : Result :=
  let hot := decide (sink ≥ 105) || (s.budget.hot && decide (sink > 90))
  let thr := decide (sink ≥ 95) || (s.budget.throttled && decide (sink > 90))
  let newHot := hot && !s.budget.hot
  let newThr := thr && !s.budget.throttled
  let s : State := { s with budget := { s.budget with sink := sink, amb := amb, hot := hot, throttled := thr } }
  let clear := decide (s.fltF.level 3 = 0)
  let s := s.when (thr && decide (s.powerSum > s.bc)) fun s => s.reduceTo s.bc 1 10000
  let s := s.when (thr && !hot && (newThr || clear)) (State.raiseFault .field 3 4 2 [b8 (codeOf 8 sink)])
  let s := s.when (hot && (newHot || clear)) (State.raiseFault .field 3 5 3 [b8 (codeOf 8 sink)])
  .next s.noteSum

end Sys2Proof.Machine
end

