-- ==== Sys2Proof/Machine/Receive.lean ====
section
/-!
DEFINITION. Receiving: start of frame, the judgement of a frame, the stage-result packet, impulses and the mains map,
sample capture, TOUT and RESOURCE_WAIT_END (R68, R129 to R148, R162).
-/

namespace Sys2Proof.Machine

open Sys2Proof

/-! ### Start of frame (R129, R130) -/

/-- The ct from the window reference to its close. -/
def Window.span (w : Window) : Nat := (w.close + 2 ^ 48 - w.ref) % 2 ^ 48

/-- An SOF instant falls in the window: from FDTMIN to the close; a window that closes at FDTMIN accepts the 4 ct sample that
holds it (R61, R150). -/
def Window.takes (w : Window) (fdtmin ct : Nat) : Bool :=
  if w.span ≤ fdtmin then decide (ct / 4 = fdtmin / 4) else decide (fdtmin ≤ ct ∧ ct ≤ w.span)

/-- An SOF lies before everything that its window accepts (R130). -/
def Window.tooEarly (w : Window) (fdtmin ct : Nat) : Bool :=
  decide (ct < fdtmin) && !(w.takes fdtmin ct)

/-- The winning SOF of an output: the earliest 4 ct sample, then the lower listen-set entry (R129). -/
def winner (decs : List Nat) (sofs : List (Nat × Nat × Nat)) (out : Nat) : Option (Nat × Nat) :=
  let key (p : Nat × Nat × Nat) : Nat := p.2.2 / 4 * 8 + decs.idxOf p.2.1
  match sofs.filter fun p => decide (p.1 = out) with
  | [] => none
  | p :: ps => some (ps.foldl (fun m q => if key q < key m then q else m) p).2

/-- What a decoder takes for an SOF (R155, R158, R162): on Type B a lead-in of 1,024 ct or more, on ISO/IEC 18092 the sync
word. -/
def sofValid (dec lead : Nat) : Bool :=
  if dec = 5 then decide (lead ≥ 1024) else if dec ≥ 10 then decide (lead = 0xB24D) else true

/-- An output carries a signal: some input has a weight (R132, R133). -/
def Window.live (w : Window) (out : Nat) : Bool := (w.weights.getD out []).any fun p => decide (p ≠ (0, 0))

/-- A decoder's SOF on output `out` (R129, R130, R149). -/
def execSof (t : Fin 9) (out dec : Nat) (m : SofMark) (s : State) : Result :=
  let ct := m.ct
  let tr := s.track t
  match tr.win with
  | none => .next s
  | some w =>
    if tr.phase ≠ .listen ∨ out ≥ w.outs.length ∨ ¬ w.decs.contains dec ∨ ¬ sofValid dec m.lead ∨ ¬ w.live out then .next s
    else
      let s := s.advanceTo ((w.ref + ct) % 2 ^ 48)
      let won := winner w.decs w.sofs out
      let later := match won with
        | some p => decide (ct / 4 > p.2 / 4)
        | none => false
      let w' : Window :=
        if w.tooEarly tr.cur.fdtmin ct then { w with early := true }
        else if w.takes tr.cur.fdtmin ct = false ∨ (later && !w.allsof) = true then w
        else { w with sofs := w.sofs ++ [(out, dec, ct)] }
      .next (s.setTrack t { tr with win := some w' })

/-! ### Gain ranges (R124, R125) -/

/-- The symbol length of a decoder in ct (R125). -/
def symbolCt (dec : Nat) : Nat :=
  match dec with
  | 2 => 64
  | 3 => 32
  | 4 => 16
  | 6 => 512
  | 7 => 512
  | 8 => 2048
  | 9 => 2048
  | 10 => 64
  | 11 => 32
  | _ => 128

/-- The range after a symbol (R124): down by one when it exceeded -3 dBFS, up by one when the peaks of the last four lay below
-27 dBFS, each in the range in which it was received. -/
def agcStep (highest range : Nat) (lastFour : List Int) : Nat :=
  if (lastFour.headD 0) > -768 ∧ range > 0 then range - 1
  else if lastFour.length = 4 ∧ (lastFour.all fun p => decide (p < -6912)) ∧ range < highest then range + 1
  else range

/-- The ranges after each symbol of a frame, from the peaks at the coupler (R124). -/
def agcRanges (highest : Nat) : Nat → List Int → List Int → List Nat
  | _, _, [] => []
  | range, last, p :: ps =>
    let last := (dbfsIn range p :: last).take 4
    let next := agcStep highest range last
    next :: agcRanges highest next last ps

/-- The gain control of one chain over a frame: range at the SOF, and the changes after it with their CCs. -/
structure AgcTrace where
  sof : Nat
  changes : List (Nat × Nat)
  deriving DecidableEq, Repr

def AgcTrace.fin (a : AgcTrace) : Nat := (a.changes.getLast?.map (·.2)).getD a.sof

/-- The gain control of an input chain over its frame (R124): nothing moves under a fixed range. -/
def agcTrace (gain highest start sofCc sym : Nat) (r : AgcRun) : AgcTrace :=
  if gain ≠ 0 then { sof := gain - 1, changes := [] }
  else
    let sof := start - r.overs
    let rs := agcRanges highest sof [] r.peaks
    let changed := (List.range rs.length).filter fun i => decide (rs.getD i 0 ≠ (if i = 0 then sof else rs.getD (i - 1) 0))
    { sof := sof, changes := changed.map fun i => ((sofCc + sym * (i + 1)) % 2 ^ 48, rs.getD i 0) }

/-- A chain takes its range changes; one that another listen has brought already counts once (R125). -/
def State.countChanges (v : Nat) (a : AgcTrace) (s : State) : State :=
  let new := a.changes.filter fun c => !((s.rx v).counted.contains c.1)
  let s := if (s.rx v).counted = [] then s.setRange v a.sof s.tb.cc else s
  new.foldl (fun s c => (s.setRange v c.2 c.1).modRx v fun r => { r with counted := r.counted ++ [c.1], rchanges := r.rchanges + 1 }) s

/-! ### Judging a frame (R131, R145 to R148, R162) -/

/-- The standard by which a response is checked: 1 Type A, 2 Type B, 3 ISO/IEC 15693, 4 ISO/IEC 18092 (R145). -/
def standardOf (exchange : Bool) (coding dec : Nat) : Nat :=
  if dec = 1 then 1 else if dec = 5 then 2
  else if dec ≤ 4 then (if exchange ∧ coding = 0 then 1 else 2)
  else if dec ≤ 9 then 3 else 4

/-- The Type A row of R145 that governs: whether the response carries CRC_A, and how many bits of its first byte the
emitted frame has already sent (R146). A frame of one byte 0x93, 0x95 or 0x97 has no second byte, so it is no anticollision
frame; a frame of another standard that an A106 decoder answers is judged by its own bits as well (log 83). -/
def typeARow (emitted : Option (Nat × List Byte)) : Bool × Nat :=
  match emitted with
  | none => (false, 0)
  | some (bits, data) =>
    if bits = 7 then (false, 0) else if bits % 8 ≠ 0 then (false, bits % 8)
    else if isAnticollision bits data then (false, 0) else (true, 0)

/-- A judged frame: outcome, stored length in bits, stored data. -/
structure Judged where
  out : Nat
  len : Nat
  data : List Byte
  deriving DecidableEq, Repr

/-- The first `n` bits of data, the rest zero (R148). -/
def cutBits (data : List Byte) (n : Nat) : List Byte :=
  (List.range ((n + 7) / 8)).map fun i => BitVec.ofNat 8 ((data.getD i 0).toNat % 2 ^ (min 8 (n - 8 * i)))

/-- Data whose first bit is stored at bit `off` of byte 0, the bits below it 0 (R147). -/
def shiftBits (off : Nat) (data : List Byte) (len : Nat) : List Byte :=
  if len = 0 then [] else natLE ((len + off + 7) / 8) (leNat data % 2 ^ len * 2 ^ off)

/-- The data bit at which a Type A collision is reported: a bit of the air, every parity bit counted, with `off` bits of
the first byte sent before. A parity bit stands for the data bit that follows it (R148). -/
def dataBit (off i : Nat) : Nat :=
  let first := 8 - off
  if i ≤ first then i else first + 8 * ((i - first - 1) / 9) + min 8 ((i - first - 1) % 9)

/-- The framing of a Type B response lies within R155. -/
def framingGood (f : BFraming) : Bool :=
  decide (1280 ≤ f.sofLow ∧ f.sofLow ≤ 1408) && decide (256 ≤ f.sofHigh ∧ f.sofHigh ≤ 384) && decide (1280 ≤ f.eof ∧ f.eof ≤ 1408) &&
  decide (f.egt ≤ 256) && !f.stopMissing

/-- A response frame is judged (R131, R145 to R148, R162): `crcA?` whether CRC_A is expected, `off` the bits already sent of
its first byte, `marked` and `bitMarked` whether a mark overlaps the frame and the colliding bit. A frame ends at MAXLEN
(R130), so what lies beyond is not judged; an expected CRC's 16 bits are removed. -/
def judge (std dec maxlen off : Nat) (crcA? marked bitMarked : Bool) (f : RxFrame) : Judged :=
  let hasCrc := decide (std ≠ 1) || (crcA? && decide (f.bits ≥ 24))
  let bytes := f.bits / 8
  let body := if hasCrc then f.bits - 16 else f.bits
  let most := 8 * maxlen
  let collides := decide (dec = 1) || decide (std = 3)
  let crcGood := match std with
    | 1 => decide (fieldLE f.data (bytes - 2) 2 = crcA (f.data.take (bytes - 2)))
    | 2 => decide (fieldLE f.data (bytes - 2) 2 = crcB (f.data.take (bytes - 2)))
    | 3 => decide (fieldLE f.data (bytes - 2) 2 = crcB (f.data.take (bytes - 2)))
    | _ => decide (256 * fieldLE f.data (bytes - 2) 1 + fieldLE f.data (bytes - 1) 1 = crcF (f.data.take (bytes - 2)))
  let long := decide (body > most)
  let partialByte := decide ((f.bits + off) % 8 ≠ 0) && (decide (std ≠ 1) || decide (f.bits + off > 8))
  let short := (decide (std = 2) && decide (bytes < 3)) || (decide (std ≥ 3) && decide (bytes < 2))
  let badLen := decide (std = 4) && decide (fieldLE f.data 0 1 < 2 ∨ fieldLE f.data 0 1 ≠ bytes - 2)
  let framing := (decide (std = 2) && !(framingGood f.framing)) || (decide (std = 3) && f.eofAbsent)
  let bad := f.symbolErr || framing || long || partialByte || short || badLen || (hasCrc && !crcGood)
  let bitOf (c : Nat) : Nat := if std = 1 then dataBit off c else c
  let parity : Option Nat := f.parityErr.map fun i => if i = 0 then 0 else 8 * i - off
  let corrupt (len : Nat) : Judged := { out := 3, len := min len most, data := shiftBits off f.data (min len most) }
  match f.collision.map bitOf, parity with
  | some c, p =>
    if collides ∧ ¬ bitMarked ∧ c < most then { out := 2, len := c, data := shiftBits off f.data c }
    else corrupt (min body (p.getD body))
  | none, some l => corrupt (min body l)
  | none, none =>
    if bad then corrupt body
    else { out := if marked then 4 else 0, len := body, data := shiftBits off f.data body }

/-! ### Packets (R139, R140) -/

/-- The amplitude descriptor (R139), with the gain control of IN0's chain (R125). -/
def amplitudeDesc (f : RxFrame) (agc : AgcTrace) (sof : Nat) : Nat × List Byte :=
  (9, [b8 (agc.sof % 4 + 4 * (agc.fin % 4) + 16 * min 15 agc.changes.length)] ++ natLE 2 f.dbfs ++ natLE 2 f.dbc ++
      natLE 2 f.residual ++ natLE 2 f.phase ++ natLE 2 (min 0xFFFF sof))

def outcomeCode (o : Outcome) : Nat :=
  match o with
  | .ok => 0 | .silent => 1 | .collided => 2 | .corrupt => 3 | .impulse => 4 | .split => 5 | .timeout => 6 | .deferred => 7

/-- The alternate-decoder descriptor (R139). -/
def altDesc (dec bits sof outcome : Nat) : Nat × List Byte :=
  (11, [b8 dec] ++ natLE 2 bits ++ natLE 2 (min 0xFFFF sof) ++ [b8 outcome])

/-- The split header (R139). -/
def splitDesc (ca dec len sof dbc : Nat) : Nat × List Byte :=
  (8, [b8 ca, b8 dec] ++ natLE 2 len ++ natLE 2 (min 0xFFFF sof) ++ natLE 2 dbc)

/-- Frame data descriptors of 15 bytes each (R139). -/
def dataDescs (typ : Nat) (d : List Byte) : List (Nat × List Byte) :=
  (List.range ((d.length + 14) / 15)).map fun i => (typ, sliceBytes d (15 * i) 15)

/-- What a listen found on one output. -/
structure OutFrame where
  j : Judged
  dec : Nat
  sof : Nat
  f : RxFrame
  deriving DecidableEq, Repr

/-- A frame passed every check: its output is OK or IMPULSE. -/
def OutFrame.good (o : OutFrame) : Bool := decide (o.j.out = 0 ∨ o.j.out = 4)

/-- The end of a listen with two outputs (R134): outcome, attributed coil, frame 0 and, for a split, frame 1. Of identical
frames of equal amplitude, and of two collided or two corrupt frames, the first output's counts (log 83). -/
def combine (outs : List Nat) (a b : Option OutFrame) : Nat × Nat × Option OutFrame × Option OutFrame :=
  let c0 := outs.getD 0 0
  let c1 := outs.getD 1 0
  let good (o : Option OutFrame) : Bool := match o with | some x => x.good | none => false
  let has (o : Option OutFrame) (k : Nat) : Bool := match o with | some x => decide (x.j.out = k) | none => false
  match a, b with
  | some x, some y =>
    if x.good ∧ y.good then
      if x.j.data ≠ y.j.data ∨ x.j.len ≠ y.j.len then (5, c0, some x, some y)
      else if signedOf 16 y.f.dbfs > signedOf 16 x.f.dbfs then (y.j.out, c1, some y, none) else (x.j.out, c0, some x, none)
    else if x.good then (x.j.out, c0, some x, none)
    else if y.good then (y.j.out, c1, some y, none)
    else if x.j.out = 2 then (2, c0, some x, none)
    else if y.j.out = 2 then (2, c0, some y, none)
    else (3, c0, some x, none)
  | _, _ =>
    if good a then ((a.map (·.j.out)).getD 0, c0, a, none)
    else if good b then ((b.map (·.j.out)).getD 0, c1, b, none)
    else if has a 2 then (2, c0, a, none) else if has b 2 then (2, c0, b, none)
    else if has a 3 then (3, c0, a, none) else if has b 3 then (3, c0, b, none)
    else (1, c0, none, none)

/-- Store a received frame in its slots (R60, R140). -/
def State.storeFrame (slot : Nat) (j : Judged) (s : State) : State :=
  s.writeBytes (slotAddr slot) (natLE 2 j.len ++ [0, 0] ++ j.data.take 280)

/-- A mark overlaps a stretch of CCs from `a` to `b` (R131); one still running has no end. -/
def WindowMark.overlaps (m : WindowMark) (a b : Nat) : Bool :=
  let before (x y : Nat) : Bool := decide ((y + 2 ^ 48 - x % 2 ^ 48) % 2 ^ 48 < 2 ^ 47)
  before m.fromCc b && match m.endCc with | some e => before a e | none => true

/-- The frames counters of the bins in which a mark over the frame began (R137). -/
def State.countFrames (bins : List Nat) (s : State) : State :=
  if s.tb.src = 2 then s else s.each bins.eraseDups fun b => State.modBin b fun x => { x with frames := satAdd 16 x.frames 1 }

/-- Other decoders with a valid SOF, reported in the order of the outputs and the listen set (R129): what each made of its
frame, free where the outside does not say (log 8). -/
def Window.alternates (w : Window) (alts : List AltFrame) (n : Nat) : List (Nat × List Byte) :=
  (List.range w.outs.length).flatMap fun o =>
    let won := (winner w.decs w.sofs o).map (·.1)
    w.decs.flatMap fun d =>
      match w.sofs.find? fun p => decide (p.1 = o) && decide (p.2.1 = d) with
      | none => []
      | some p =>
        if won = some d then []
        else match alts.find? fun a => decide (a.out = o) && decide (a.dec = d) with
          | some a => [altDesc d a.bits p.2.2 (outcomeCode a.outcome)]
          | none => [altDesc d (Config.freeNat n % 65536) p.2.2 (Config.freeNat (n + 1) % 5)]

/-- The listen of a track ends with an outcome, a coil and at most two frames: counters, stored frames, packet and successor
(R33, R125, R131, R137 to R140). A listen without a frame posts no amplitude descriptor (log 83). -/
def State.endListen (t : Nat) (w : Window) (out ca : Nat) (a b : Option OutFrame) (alts : List AltFrame) (agc : List AgcTrace)
    (s : State) : State :=
  let g := (s.track t).cur
  let overlap := fun (x : OutFrame) => w.marks.filter fun m => m.overlaps (w.ref + x.sof) s.tb.cc
  let n := s.fresh
  let s := s.draw.draw
  let hit := (a.toList ++ b.toList).flatMap overlap
  let in0 := agc.head?
  let range := match in0 with | some x => x.fin | none => (w.ranges.headD 0)
  let s := s.when (decide (out = 3)) (State.bump 0x6101 1)
  let s := s.when (decide (out = 3 ∨ out = 4)) (State.countFrames (hit.map (·.bin)))
  let s := match a with
    | some x => s.when (decide (g.rbuf ≠ 0xFFF)) (State.storeFrame g.rbuf x.j)
    | none => s
  let s := match b with
    | some y => s.when (decide (g.rbuf ≠ 0xFFF)) (State.storeFrame (g.rbuf + 5) y.j)
    | none => s
  let split := match b with
    | some y => [splitDesc (w.outs.getD 1 0) y.dec y.j.len y.sof y.f.dbc]
    | none => []
  let amp := match a with
    | some x => if w.amp then [amplitudeDesc x.f (in0.getD { sof := range, changes := [] }) x.sof] else []
    | none => []
  let alt := if w.allsof then w.alternates alts n else []
  let datas := if g.rbuf = 0xFFF then
      (match a with | some x => dataDescs 6 x.j.data | none => []) ++ (match b with | some y => dataDescs 7 y.j.data | none => [])
    else []
  let rest := split ++ amp ++ alt ++ datas
  let dtrunc := decide (datas ≠ []) && decide (rest.length > 3)
  s.endAir t out dtrunc { rchg := agc.any fun x => decide (x.changes ≠ []), imark := decide (w.marks ≠ []), cweak := w.cweak, ca := ca,
                          dec := (a.map (·.dec)).getD 0, range := range, early := w.early, cdrop := w.dropped, len := (a.map (·.j.len)).getD 0 } rest

/-- Judge the frame of one output, if it had a valid SOF (R131, R145); a mark is taken by the time it ran. -/
def State.judgeOut (s : State) (t : Nat) (w : Window) (out : Nat) (f : RxFrame) : Option OutFrame :=
  let tr := s.track t
  match winner w.decs w.sofs out with
  | none => none
  | some (dec, ct) =>
    let ex := decide (tr.cur.kind = 4)
    let std := standardOf ex (fieldLE tr.data.profile 1 1) dec
    let row := if std = 1 then typeARow (if ex then tr.sent else none) else (false, 0)
    let marked := w.marks.any fun m => m.overlaps (w.ref + ct) s.tb.cc
    let bit0 := w.ref + f.collisionCt
    let bitMarked := w.marks.any fun m => m.overlaps bit0 (bit0 + symbolCt dec)
    some { j := judge std dec w.maxlen row.2 row.1 marked bitMarked f, dec := dec, sof := ct, f := f }

/-- The gain control of every input chain of a listen, on the symbols of the winning decoder (R124, R125). -/
def State.agcTraces (s : State) (w : Window) (runs : List AgcRun) : List (Nat × AgcTrace) :=
  let won := match winner w.decs w.sofs 0 with | some p => some p | none => winner w.decs w.sofs 1
  match won with
  | none => []
  | some (dec, ct) => (List.range w.inputs.length).map fun i =>
      let v := (w.inputs.getD i (0, 0)).1
      (v, agcTrace w.gain (s.rx v).highest (w.ranges.getD i 0) ((w.ref + ct) % 2 ^ 48) (symbolCt dec) (runs.getD i { overs := 0, peaks := [] }))

/-- A received frame ends: the outcome is judged, the ranges follow, the frame is stored, the packet
posted and the successor chosen (R124, R131, R134, R140). -/
def execFrameReceived (t : Fin 9) (r0 : RxFrame) (r1 : Option RxFrame) (alts : List AltFrame) (e : FrameTail) (s : State) : Result :=
  let tr := s.track t
  match tr.win with
  | none => .next s
  | some w =>
    if tr.phase ≠ .listen ∨ w.sofs = [] then .next s
    else
      let s := s.advance e.after
      let a := s.judgeOut t w 0 r0
      let b := match r1 with
        | some f => s.judgeOut t w 1 f
        | none => none
      if a = none ∧ b = none then .next s
      else
        let (out, ca, x, y) := combine w.outs a b
        let traces := s.agcTraces w e.agc
        let s := traces.foldl (fun s p => s.countChanges p.1 p.2) s
        .next (s.endListen t w out ca x y alts (traces.map (·.2)))

/-- The window closes without a valid SOF: SILENT (R61, R131). -/
def execWindowClose (t : Fin 9) (s : State) : Result :=
  let tr := s.track t
  match tr.win with
  | none => .next s
  | some w =>
    if tr.phase ≠ .listen ∨ w.sofs ≠ [] then .next s
    else .next ((s.advanceTo w.close).endListen t w 1 (w.outs.getD 0 0) none none [] [])

/-! ### TOUT and resource waits (R63, R68, R69, R72, R123, R464) -/

/-- Trainings that the stage awaited no longer wait for a window. -/
def State.dropWaits (t : Nat) (s : State) : State :=
  s.each (s.trainSet t) fun v => State.modRx v fun r => { r with trwait := false }

/-- A stage's TOUT expires (R68): a waiting air stage ends DEFERRED, a MEET or DEFER leaves with TIMEOUT, a waiting CALIB
ends TIMEOUT; an action that has started is not cut. -/
def State.timeout (t : Nat) (s : State) : State :=
  let tr := s.track t
  match tr.phase with
  | .calibWait => if tr.cur.kind = 14 then s.endSimple t 6 else s.endSelect t 7
  | .lentWait => if tr.cur.kind ≤ 1 then s.endSelect t 7 else s.endSimple t 7
  | .inputWait => s.endSimple t 7
  | .budget =>
    let s : State := { s with budget := { s.budget with waiters := s.budget.waiters.filter (· ≠ t) } }
    (s.modChain t fun c => { c with budgetWait := false }).endSelect t 7
  | .trainWait =>
    let s := s.dropWaits t
    if tr.cur.kind ≤ 1 then
      (s.each (tr.members.map (·.chain)) State.rampDown).modTrack t fun tr => { tr with phase := .deferRamp }
    else s.endSimple t 7
  | .none =>
    if tr.st = 4 then (s.modTrack t fun tr => { tr with meetMask := 0 }).endPlain t 6
    else if tr.st = 3 then s.endPlain t 6
    else s
  | _ => s

def execTout (t : Fin 9) (s : State) : Result :=
  match (s.track t).toutCc with
  | none => .next s
  | some cc =>
    let ph := (s.track t).phase
    if ph = .none ∧ (s.track t).st ≠ 3 ∧ (s.track t).st ≠ 4 then .next s
    else .next ((s.advanceTo cc).timeout t)

/-! ### Impulses and the map (R135 to R137) -/

/-- The chain routed to a feeder modulates, so the feeder's impulse detector is blind (R135). -/
def State.blind (s : State) (f : Nat) : Bool :=
  (List.range 8).any fun x => (s.chain x).routed && decide ((s.chain x).feeder = f) && decide ((s.chain x).st = 3)

/-- The tracked floor follows the out-of-band energy `e` up to now with a time constant in ms (R135): how far it has come is
an exponential, which the implementation computes (log 99). -/
def State.followFloor (v : Nat) (e : Int) (ms : Nat) (s : State) : State :=
  s.modRx v fun r =>
    { r with floor := r.floor + ((e : Rat) - r.floor) * Config.settledPart (s.since r.floorCc) (13560 * ms), floorCc := s.tb.cc }

/-- Out-of-band energy for four samples (R135): the floor has followed the quiet energy until now, and a mark begins when the
burst stands more than the threshold above it. It is counted per chain, and noted in every window that listens on the
chain (R131) and in a capture of it (R141). -/
def execImpulseMark (m : ImpulseObs) (s : State) : Result :=
  let f := m.chain
  if s.blind f ∨ (s.rx f).mark.isSome then .next s
  else
    let s := s.followFloor f m.quiet 20
    if (m.energy : Rat) ≤ (s.rx f).floor + (s.objNat (0x3010 + f) 1 : Nat) then .next s
    else
      let b := s.binNow
      let s := s.modRx f fun r =>
        { r with mark := some { bin := b, fromBin := b, cc := s.tb.cc, energy := m.energy }, imark := true, marks := r.marks + 1 }
      let s := if (s.capture.state = 1 ∨ s.capture.state = 2) ∧ s.capture.chains.contains f.val then
          { s with capture := { s.capture with marks := s.capture.marks ++ [(f.val, s.tb.cc)] } }
        else s
      .next (s.each (List.range 8) fun t => State.modTrack t fun tr =>
        match tr.win with
        | some w => if w.inputs.any fun p => decide (p.1 = f) then
            { tr with win := some { w with marks := w.marks ++ [{ chain := f, bin := b, fromCc := s.tb.cc, endCc := none }] } } else tr
        | none => tr)

/-- A mark ends 2 µs after the last sample that held it, which is now (R135): the floor has followed it at the slow rate, and
every bin that its span overlapped in this cycle scores a hit (R136). -/
def execMarkEnd (f : Fin 16) (s : State) : Result :=
  match (s.rx f).mark with
  | none => .next s
  | some _ =>
    let s := s.advance (usCt 2)
    match (s.rx f).mark with
    | none => .next s
    | some m =>
      let s := (s.followFloor f m.energy 640).hitBins m.fromBin s.binNow
      let s := s.modRx f fun r => { r with mark := none }
      .next (s.each (List.range 8) fun t => State.modTrack t fun tr =>
        match tr.win with
        | some w => { tr with win := some { w with marks := w.marks.map fun k =>
            if k.chain = f.val ∧ k.endCc = none then { k with endCc := some s.tb.cc } else k } }
        | none => tr)

/-! ### Capture (R141) -/

/-- The CCs since arm at which what capture is triggered by has happened (R141, R143): 1 a stage begins, at the selected index
alone, 2 a mark begins, 3 a stage ends with an outcome that is not OK (log 94). -/
def State.triggers (s : State) : List Nat :=
  let all := match s.objNat 0x3200 2 with
    | 1 => (List.range 9).filterMap fun t => (s.track t).began.bind fun p => if p.1 = s.objNat 0x3200 3 then some p.2 else none
    | 2 => (List.range 16).filterMap fun f => (s.rx f).mark.map RunMark.cc
    | 3 => (List.range 9).filterMap fun t => (s.track t).notOk
    | _ => []
  all.filter fun cc => decide (s.since cc ≤ s.since s.capture.armCc)

/-- The earliest of some CCs. -/
def State.earliest (s : State) : List Nat → Option Nat
  | [] => none
  | cc :: ccs =>
    match s.earliest ccs with
    | some b => if s.since cc < s.since b then some b else some cc
    | none => some cc

/-- The selected trigger has happened while capture is armed (R141). -/
def execCaptureTrigger (s : State) : Result :=
  if s.capture.state ≠ 1 then .next s
  else match s.earliest s.triggers with
    | some cc => .next { s with capture := { s.capture with state := 2, trigCc := cc, pre := s.objNat 0x3200 4 } }
    | none => .next s

/-- After the trigger a further 32,768 blocks less the pre-trigger blocks are written; then capture is done (R141). -/
def execCaptureDone (s : State) : Result :=
  let c := s.capture
  if c.state = 2 then
    let n := max 1 c.chains.length
    let s := s.advanceTo ((c.trigCc + 60 * ((32768 - c.pre + n - 1) / n)) % 2 ^ 48)
    .next { s with capture := { c with state := 3, final := s.captureBlocks } }
  else .next s

end Sys2Proof.Machine
end

