-- ==== Sys2Proof/Machine/Sweeps.lean ====
section
/-!
DEFINITION. Sweep plans and waves (R172, R173, R176 to R183): requests, the planner, the tracks that service exchanges
take, and wave boundaries.
-/

namespace Sys2Proof.Machine

open Sys2Proof

/-! ### Roster access (R186, R187) -/

/-- The handle of an entry (R186). -/
def handleOf (i : Nat) (e : Entry) : Nat := i + 131072 * e.igen

/-- The index that a handle names, while its entry holds that handle (R187). -/
def State.indexOf (s : State) (h : Nat) : Option Nat :=
  let i := h % 131072
  let e := s.entry i
  if e.pres ≠ 0 ∧ e.igen = h / 131072 then some i else none

/-! ### Requests (R182) -/

/-- A request enters the queue in arrival order; among those that one instant raised the lower plan comes first (R182). -/
def enterQueue (p : Nat) (at_ : Option Nat) (q : List (Nat × Option Nat)) : List (Nat × Option Nat) :=
  let n := (q.reverse.takeWhile fun x => at_.isSome && decide (x.2 = at_) && decide (p < x.1)).length
  q.take (q.length - n) ++ (p, at_) :: q.drop (q.length - n)

/-- A start request for a plan, by a write (none) or by a happening at an instant of TS: it merges with one in the queue,
and an invalid plan takes none (R181, R182). -/
def State.requestSweep (p : Nat) (at_ : Option Nat) (s : State) : State :=
  if (s.plan p).invalid then s
  else if s.sweeps.queue.any (fun q => decide (q.1 = p)) then s.modPlan p fun x => { x with merged := x.merged + 1 }
  else { s with sweeps := { s.sweeps with queue := enterQueue p at_ s.sweeps.queue } }

/-! ### The planner (R176 to R180) -/

/-- The combiner and shaping set that sweeps use on a coil (R201). -/
def State.sweepComb (s : State) (ca : Nat) : Nat := s.objNat (0x4200 + ca) 1
def State.sweepSet (s : State) (ca : Nat) : Nat := s.objNat (0x4200 + ca) 2

/-- A coupling of MAG stands at or above -db dB (R176): its 20th power against ten to the power -db, in integers. -/
def couplingAtLeast (mag db : Nat) : Bool := decide (mag ^ 20 * 10 ^ db ≥ 65536 ^ 20)

/-- Two coils are survey neighbours (R176). -/
def State.neighbours (s : State) (a b : Nat) : Bool :=
  let db := s.objNat 0x4001 3
  let one (x y : Nat) : Bool := (Tab.get [] s.calib.survey x).any fun c => decide (c.victim = y) && couplingAtLeast c.mag db
  one a b || one b a

/-- The need of a coil of a plan; before a survey no combiner and no shaping set is used (R180). -/
def State.coilNeed (s : State) (coils : List Nat) (ca : Nat) : CoilNeed :=
  let surveyed := decide (s.calib.gen ≠ 0)
  let set := if surveyed ∧ s.sweepSet ca ≠ 0xFFFF then setMembers (s.readBytes (setAddr (s.sweepSet ca)) 32) 0 else []
  let cs := set.map (·.2.1)
  let comb := decide (surveyed ∧ s.sweepComb ca ≠ 0)
  let c := s.comb (s.sweepComb ca)
  let ins := if comb then c.ins else [ca]
  { ca := ca, energises := if cs = [] then [feederOf ca] else cs.map feederOf, inputs := ins.map feederOf,
    chains := (set.drop 1).map (·.1), members := cs, ins := ins, outs := if comb then c.outs else [ca],
    near := coils.filter fun x => s.neighbours ca x }

/-- The plan key of a coil (R178). -/
def planKey (ca : Nat) : Nat := 16 * (ca % 16) + ca / 16

/-- Insertion by a numeric key, before the first larger key. -/
def insertBy {α : Type} (key : α → Nat) (x : α) : List α → List α
  | [] => [x]
  | y :: ys => if key x < key y then x :: y :: ys else y :: insertBy key x ys

/-- A stable sort by a numeric key. -/
def sortBy {α : Type} (key : α → Nat) (l : List α) : List α := l.foldl (fun acc x => insertBy key x acc) []

/-- The chains that the shaping sets of a wave borrow (R63, R177). -/
def borrowed (w : List CoilNeed) : List Nat := w.flatMap (·.chains)

/-- A coil may join a wave over the tracks available (R177, R178): its set borrows no chain that another set borrows, and
enough tracks keep their own chain. -/
def joins (tracks : List Nat) (w : List CoilNeed) (c : CoilNeed) : Bool :=
  let lit := w.flatMap (·.energises)
  let heard := w.flatMap (·.inputs)
  let taken := borrowed w ++ c.chains
  !((c.energises ++ c.inputs).any lit.contains) && !(c.energises.any heard.contains) &&
  !(w.any fun d => d.near.contains c.ca && !(c.members.contains d.ca || d.members.contains c.ca)) &&
  !(c.chains.any fun x => (borrowed w).contains x) &&
  decide (w.length + 1 ≤ (tracks.filter fun t => !(taken.contains t)).length)

/-- One wave from the remaining coils in order, over the tracks available (R178). -/
def takeWave (tracks : List Nat) (cs : List CoilNeed) : List CoilNeed :=
  cs.foldl (fun w c => if w.length ≥ tracks.length ∨ joins tracks w c = false then w else w ++ [c]) []

/-- The waves of the remaining coils; none where a coil can join no wave (R178). -/
def buildWaves (tracks : List Nat) : Nat → List CoilNeed → List (List CoilNeed)
  | 0, _ => []
  | fuel + 1, cs =>
    let w := takeWave tracks cs
    if w = [] then [] else w :: buildWaves tracks fuel (cs.filter fun c => !(w.any fun d => decide (d.ca = c.ca)))

/-- The waves of coils over the available tracks; one coil a wave before a survey (R180). -/
def planWaves (surveyed : Bool) (needs : List CoilNeed) (tracks : List Nat) : List (List CoilNeed) :=
  let cs := sortBy (fun c : CoilNeed => planKey c.ca) needs
  if surveyed then buildWaves tracks cs.length cs else if tracks = [] then [] else cs.map fun c => [c]

/-- The coils of a wave go to the tracks in ascending feeder and track order (R178): track, coil. A track whose chain a set of
the wave borrows takes none. -/
def assignWave (tracks : List Nat) (w : List CoilNeed) : List (Nat × Nat) :=
  (tracks.filter fun t => !((borrowed w).contains t)).zip (sortBy (fun ca => ca) (w.map (·.ca)))

/-- The connects that a wave needs from a set of connected coils (R179). -/
def waveConnects (conn : List Nat) (w : List CoilNeed) : List Nat :=
  let lit := w.map (·.ca) ++ w.flatMap (·.members)
  (w.flatMap (·.ins)).filter fun x => !(lit.contains x) && !(conn.contains x)

/-- Every coil that a plan's connects name, with nothing known to be connected before its first wave (R179). -/
def planConnects : List Nat → List (List CoilNeed) → List Nat
  | _, [] => []
  | conn, w :: ws =>
    let new := waveConnects conn w
    let now := new ++ w.map (·.ca) ++ w.flatMap (·.members)
    new ++ planConnects (now ++ conn.filter fun x => !(now.any fun y => decide (feederOf y = feederOf x))) ws

/-- The coils and the tracks of a plan (R201). -/
def State.planCoils (s : State) (p : Nat) : List Nat :=
  let m := s.objNat (0x4010 + p) 1
  (List.range 256).filter fun ca => decide (bitsOf m ca 1 = 1)
def State.planTracks (s : State) (p : Nat) : List Nat :=
  let m := s.objNat (0x4010 + p) 3
  (List.range 8).filter fun t => decide (bitsOf m t 1 = 1)

/-- A combiner or shaping set that a coil of a plan names passes R133 or R106, with a chain that the set does not name
as its executing chain. -/
def State.namedTablesOk (s : State) (ca : Nat) : Bool :=
  let set := s.readBytes (setAddr (s.sweepSet ca)) 32
  let t := ((List.range 8).find? fun x => !((setMembers set 8).any fun m => decide (m.1 = x))).getD 0
  (decide (s.sweepComb ca = 0) || combOk (s.readBytes (combAddr (s.sweepComb ca)) 64)) &&
  (decide (s.sweepSet ca = 0xFFFF) || setOk set t)

/-- Compile a plan: its validity and its count of waves (R181). -/
def State.compilePlan (p : Nat) (s : State) : State :=
  let coils := s.planCoils p
  let tracks := s.planTracks p
  let waves := planWaves (decide (s.calib.gen ≠ 0)) (coils.map (s.coilNeed coils)) tracks
  let ok := decide (tracks ≠ []) && coils.all (fun ca => s.objBool (0x2200 + ca) 1 && s.namedTablesOk ca) &&
    (planConnects [] waves).all fun ca => decide (s.objNat (0x2200 + ca) 9 = 0)
  s.modPlan p fun x => { x with invalid := !ok, waves := if ok then waves.length else 0 }

/-- A write to a plan object, or to a sweep choice of a coil, compiles the plans it bears on (R181). -/
def State.compileFor (idx : Nat) (s : State) : State :=
  if 0x4010 ≤ idx ∧ idx < 0x4020 then s.compilePlan (idx - 0x4010)
  else if 0x4200 ≤ idx ∧ idx < 0x4300 then
    s.each ((List.range 16).filter fun p => (s.planCoils p).contains (idx - 0x4200)) State.compilePlan
  else s

/-! ### Service exchanges (R183) -/

/-- The tracks that service exchanges hold, those of credential reads among them. -/
def State.serviceTracks (s : State) : List Nat :=
  s.template.track.toList ++ s.apdu.track.toList ++ s.keys.track.toList ++
  (List.range 8).filter fun t => (s.track t).service.isSome && (s.track t).running

/-- The tracks of the running sweep. -/
def State.sweepTracks (s : State) : List Nat := match s.sweeps.running with | some r => r.tracks | none => []

/-- The track a new service exchange takes: the highest free one outside the running sweep's set, else the highest of the
set that no exchange holds. -/
def State.pickTrack (s : State) : Option Nat :=
  let free := ((List.range 8).reverse).filter fun t => !(s.serviceTracks.contains t)
  match free.find? fun t => !(s.sweepTracks.contains t) with
  | some t => some t
  | none => free.head?

/-- No service exchange is open. -/
def State.noService (s : State) : Bool :=
  decide (s.template.status ≠ 1) && decide (s.apdu.status ≠ 1) && s.keys.running.isNone &&
  !((List.range 8).any fun t => (s.track t).service.isSome && (s.track t).running)

/-! ### Running a sweep (R172, R173, R177 to R183) -/

/-- The tracks the running sweep may use now. -/
def Running.avail (s : State) (r : Running) : List Nat := r.tracks.filter fun t => !(s.serviceTracks.contains t)

/-- The coils whose wave has not begun. -/
def Running.remaining (r : Running) : List Nat :=
  r.coils.filter fun ca => !(r.current.any fun p => decide (p.2 = ca)) && !(r.results.any fun x => x.own && decide (x.ca = ca))

/-- What the coils of a wave take. -/
def Running.needsOf (r : Running) (cas : List Nat) : List CoilNeed := r.needs.filter fun c => cas.contains c.ca

/-- Plan the remaining coils over the tracks available now (R178, R183). -/
def Running.plan_ (s : State) (r : Running) : Running :=
  let ts := r.avail s
  { r with waves := (planWaves r.surveyed (r.needsOf r.remaining) ts).map (assignWave ts), away := r.tracks.filter fun t => s.serviceTracks.contains t }

/-- The connects of a wave from what is connected now: to the owner of each feeder, the others in turn (R179). -/
def State.connectsOf (s : State) (r : Running) (w : List (Nat × Nat)) : List (Nat × Nat) :=
  let conn := ((List.range 16).filter fun f => (s.feeder f).conn).map fun f => 16 * f + (s.feeder f).coil
  let cs := sortBy (fun ca => ca) (waveConnects conn (r.needsOf (w.map (·.2)))).eraseDups
  let owner (ca : Nat) : Option Nat :=
    (List.range 8).find? fun x => (s.chain x).routed && decide ((s.chain x).feeder = feederOf ca)
  let owned := cs.filterMap fun ca => (owner ca).map fun x => (x, ca)
  let free := cs.filter fun ca => (owner ca).isNone
  let ts := sortBy (fun t => t) (w.map (·.1))
  owned ++ if ts = [] then [] else (List.range free.length).map fun k => (ts.getD (k % ts.length) 0, free.getD k 0)

/-- The field-on guard of a protocol, in ct (R153 to R158, R171). -/
def State.fieldGuard (s : State) (proto : Nat) : Nat := 13560 * s.objNat 0x6100 (guardSub proto)

/-- What a reading found on a coil (R173, R184): its own result, then what it attributes to other coils. The feeder's status
is the one it has now. -/
def State.judgeCoil (s : State) (mask : Nat) (need : CoilNeed) (o : CoilObs) : List CoilResult × List Request :=
  let h := huntAll mask s.fieldGuard (if o.aborted then [] else o.answers)
  let found := h.found.map fun p => (need.outs.getD p.1 o.ca, p.2)
  let tags := ((found.filter fun p => decide (p.1 = o.ca)).map (·.2)).eraseDups
  let bad := decide ((s.feeder (feederOf o.ca)).status ≠ 1)
  let (st, why) := if h.failed then (3, 1) else if o.selectFailed then (3, 2) else if bad then (3, 4)
    else if o.aborted then (3, 5) else if h.incomplete then (2, 6) else if tags ≠ [] then (1, 0) else (0, 0)
  ({ ca := o.ca, status := st, reason := why, own := true, tags := tags } ::
    (found.filter fun p => decide (p.1 ≠ o.ca)).map fun p => { ca := p.1, status := 1, reason := 0, own := false, tags := [p.2] },
   h.sent)

/-- The results of a sweep's coils from its readings and attributions, in CA order (R172 to R174): the status is the strongest,
the tags are all that were attributed. A coil without a reading is what `missing` makes of it. -/
def mergeResults (coils : List Nat) (missing : Nat → CoilResult) (rs : List CoilResult) : List CoilResult :=
  coils.map fun ca =>
    let mine := rs.filter fun x => decide (x.ca = ca)
    let own := (mine.find? (·.own)).getD (missing ca)
    let tags := (own.tags ++ mine.flatMap (·.tags)).eraseDups
    { own with status := if own.status = 0 ∧ tags ≠ [] then 1 else own.status, tags := tags }

/-- What a wave found enters the sweep's results (R172): a coil of the wave without an observation gave no answer, and
attributions outside the coil set are discarded and counted. -/
def State.enterResults (obs : List CoilObs) (s : State) : State :=
  match s.sweeps.running with
  | none => s
  | some r =>
    let cas := (r.current.map (·.2)).filter fun ca => !(r.results.any fun x => x.own && decide (x.ca = ca))
    let judged := cas.map fun ca =>
      let o := (obs.find? fun o => decide (o.ca = ca)).getD { ca := ca, selectFailed := false, aborted := false, answers := [] }
      let need := ((r.needsOf [ca]).head?).getD { ca := ca, energises := [], inputs := [], chains := [], members := [], ins := [], outs := [ca], near := [] }
      (ca, s.judgeCoil r.protocols need o)
    let all := judged.flatMap fun p => p.2.1
    let new := all.filter fun x => r.coils.contains x.ca
    let n := (all.filter fun x => !(r.coils.contains x.ca)).length
    let s := judged.foldl (fun s p => p.2.2.foldl (fun s q => s.emit (.request p.1 q)) s) s
    let s : State := { s with sweeps := { s.sweeps with running := some { r with results := r.results ++ new, current := [] } },
                              roster := { s.roster with outside := s.roster.outside + n } }
    if r.current = [] then s else (waveEnd new).foldl (fun s m => s.mirror 0x81 (.mWave m)) s

/-- The next wave begins (R177): its coils, tracks and connects, mirrored by a lead (R365). -/
def State.nextWave (s : State) : State :=
  match s.sweeps.running with
  | none => s
  | some r =>
    match r.waves with
    | [] => s
    | w :: ws =>
      let r := { r with waves := ws, current := w, connects := s.connectsOf r w, wave := r.wave + 1 }
      let s : State := { s with sweeps := { s.sweeps with running := some r } }
      s.mirror 0x81 (.mWave (.start r.plan s.roster.gen r.wave (w.map (·.2))))

/-- Release or regain tracks for service exchanges, replanning when the set changes (R183). -/
def State.replan (s : State) : State :=
  match s.sweeps.running with
  | none => s
  | some r =>
    if r.tracks.filter (fun t => s.serviceTracks.contains t) = r.away then s
    else
      let s : State := { s with sweeps := { s.sweeps with running := some (r.plan_ s) } }
      s.modPlan r.plan fun x => { x with replans := x.replans + 1 }

/-- A wave boundary of the running sweep, at the release of a MEET of its track set: the wave in progress ends with its
results, and unless the sweep is stopped the next one begins (R177, R183). -/
def State.waveBoundary (obs : List CoilObs) (s : State) : State :=
  let s := s.enterResults obs
  match s.sweeps.running with
  | none => s
  | some r => if r.stopped then s else s.replan.nextWave

/-- A MEET mask is the track set of the running sweep without the tracks it has released. -/
def State.isSweepMeet (s : State) (mask : Nat) : Bool :=
  match s.sweeps.running with
  | none => false
  | some r =>
    let ts := r.tracks.filter fun t => !(r.away.contains t)
    decide (mask = ts.foldl (fun m t => m + 2 ^ t) 0) && decide (ts ≠ [])

/-- A service exchange ends: its track is free, and a sweep left without any track plans again at once (R183). -/
def State.afterService (s : State) : State :=
  match s.sweeps.running with
  | none => s
  | some r => if r.tracks.all (fun t => r.away.contains t) ∧ ¬ r.stopped then s.replan else s

/-- The next queued sweep may start: none runs, fewer than four results are held behind a close that waits, and the module sweeps (R182, R188, R364,
R388, R411). -/
def State.maySweep (s : State) : Bool :=
  s.sweeps.running.isNone && decide (s.sweeps.held.length < 4) && !s.fltF.safe && decide (s.twin.role ≠ 2) &&
  decide (s.power.state = 0) && !s.power.doomed

/-- A sweep over the plan as it stands now, which it keeps to its end (R181, R201). -/
def State.newRunning (s : State) (p : Nat) (coils : List Nat) : Running :=
  { plan := p, coils := coils, tracks := s.planTracks p, protocols := s.objNat (0x4010 + p) 2, waves := [],
    needs := coils.map (s.coilNeed coils), surveyed := decide (s.calib.gen ≠ 0) }

/-- A queued request starts its sweep with the plan compiled now; a plan that its compilation finds invalid takes none
(R181, R182, R472). -/
def State.sweepBegin (s : State) : State :=
  match s.sweeps.queue with
  | [] => s
  | (p, _) :: rest =>
    if ¬ s.maySweep then s
    else
      let s := ({ s with sweeps := { s.sweeps with queue := rest } } : State).compilePlan p
      if (s.plan p).invalid then s
      else
        let s : State := { s with sweeps := { s.sweeps with running := some ((s.newRunning p (s.planCoils p)).plan_ s) } }
        s.modPlan p fun x => { x with started := some s.tb.ts }

def execSweepBegin (s : State) : Result := .next s.sweepBegin

/-- The period of a plan, counted from the start of its previous sweep, queues a request (R182). -/
def execSweepPeriod (p : Fin 16) (s : State) : Result :=
  let ms := s.objNat (0x4010 + p.val) 4
  match (s.plan p).started with
  | none => .next s
  | some ts =>
    if ms = 0 then .next s
    else
      let s := s.advanceTs (ts + 1000 * ms)
      .next (s.requestSweep p (some s.tb.ts))

/-! ### Tracks started and stopped beside a sweep (R79, R183) -/

/-- START; a track of the running sweep that is started serves a credential read, from which the sweep releases it (R183). -/
def execStart (t : Fin 9) (entry : BitVec 15) (s : State) : Result :=
  let began := decide ((s.track t).st = 0) && !s.fltF.safe && s.sweepTracks.contains t.val
  let s := s.startTrack t entry.toNat
  if began then
    let g := Stage.ofBytes (s.readBytes (stageAddr entry.toNat) 32)
    .next ((s.modTrack t fun tr => { tr with service := some (g.target, entry.toNat) }).mirror 0x86
      (.mService { opened := true, kind := 4, handle := 0, ca := g.target, what := entry.toNat }))
  else .next s

/-- STOP; of a track that runs for a sweep it stops the sweep too, which ends at its current wave (R79, R183). -/
def execStop (t : Fin 9) (s : State) : Result :=
  let mine := s.sweepTracks.contains t.val && (s.track t).service.isNone
  .next ((s.when mine State.sweepStop).stopStage t)

end Sys2Proof.Machine
end

