-- ==== Sys2Proof/Machine/Exchange.lean ====
section
/-!
DEFINITION. Custom command templates, guest calls on their responses, and APDU exchanges (R165 to R170, R270 to R272).
-/

namespace Sys2Proof.Machine

open Sys2Proof

/-! ### Templates (R167, R168) -/

/-- A template's fields (R167). -/
structure Template where
  proto : Nat
  flags : Nat
  cmd : Byte
  mfgc : Byte
  tclass : Nat
  wave : Nat
  lset : Nat
  pmin : Nat
  pmax : Nat
  rmin : Nat
  rmax : Nat
  guest : Nat
  retry : Nat
  xfdt : Nat
  xwin : Nat
  deriving DecidableEq, Repr

def Template.ofBytes (b : List Byte) : Template :=
  let f (i : Nat) : Nat := fieldLE b i 1
  { proto := f 0, flags := f 1, cmd := b.getD 2 0, mfgc := b.getD 3 0, tclass := f 4, wave := f 5, lset := f 6,
    pmin := f 8, pmax := f 9, rmin := f 10, rmax := f 11, guest := f 12, retry := f 7, xfdt := fieldLE b 16 2, xwin := fieldLE b 20 4 }

def Template.flag (x : Template) (i : Nat) : Bool := decide (bitsOf x.flags i 1 = 1)

/-- The flags of TFLAGS: VALID, ADDR, MFG, WRITES, OPTF in bits 0 to 4. -/
def Template.valid (x : Template) : Bool := x.flag 0

/-- The checks of R168, with the ranges that R167 names, on a template's bytes. -/
def templateOk (b : List Byte) : Bool :=
  let x := Template.ofBytes b
  decide (x.flags < 32) && decide (sliceBytes b 13 3 = zeros 3) && decide (sliceBytes b 18 2 = zeros 2) &&
  decide (sliceBytes b 24 8 = zeros 8) && !(x.valid && decide (x.proto = 0)) && decide (x.proto ≤ 4) &&
  decide (fieldLE b 7 1 ≤ 15) && decide (x.pmax ≤ 32) && decide (x.pmin ≤ x.pmax) && decide (x.rmin ≤ x.rmax) &&
  decide (x.rmax ≤ 32) && !(decide (x.rmax = 0) && x.valid) && decide (x.tclass ≤ 3) &&
  !(decide (x.tclass = 1 ∨ x.tclass = 2) && decide (x.proto ≠ 3)) && !(decide (x.tclass = 2) && !(x.flag 4)) &&
  !(decide (x.tclass = 3) && decide (x.xwin = 0)) && decide (x.xwin ≤ 134184960) &&
  decide (x.guest ≤ 31 ∨ x.guest = 0xFF)

/-- Template `t` as written. -/
def State.templateBytes (s : State) (t : Nat) : List Byte := s.obj 0x6110 (t + 1)
def State.template_ (s : State) (t : Nat) : Template := Template.ofBytes (s.templateBytes t)

/-- A template write: refused with its previous content kept, or stored with its copy in the air tables (R167, R168). -/
def State.writeTemplate (t : Nat) (v : List Byte) (s : State) : Status × State :=
  if templateOk v then (.ok, (s.setObj 0x6110 (t + 1) v).writeBytes (airAddr (0xB000 + 32 * t)) v) else (.valueRange, s)

/-! ### Exchanges in common (R183, R202, R365) -/

/-- A service exchange opens or closes: mirrored, with its in-flight change where it changes tag state. -/
def State.serviceMsg (opened : Bool) (kind handle ca what : Nat) (changes : Bool) (s : State) : State :=
  let m : ChangeMsg := { opened := opened, kind := kind, handle := handle, ca := ca, what := what }
  (s.mirror 0x86 (.mService m)).when changes fun s => s.mirror 0x85 (.mInflight m)

/-- A failed exchange on a tag, or a lost session, clears SECURED at the next close, also one that waits for it (R202, R203). -/
def State.clearSecured (handle : Nat) (s : State) : State :=
  let waits := s.keys.changes.any fun c => decide (c.handle = handle) && decide (c.typ = 1)
  match s.indexOf handle with
  | none => s
  | some i => if (s.entry i).secured || waits then
      { s with keys := { s.keys with changes := s.keys.changes ++ [{ handle := handle, typ := 2, profile := 0xFF, status := 3, slot := 0 }] } }
    else s

/-- A counter rises by `n`. -/
def State.bumpBy (n idx sub : Nat) (s : State) : State :=
  { s with counts := Tab.set 0 s.counts (objKey idx sub) (s.count idx sub + n) }

/-! ### Running a template (R169, R170) -/

/-- The frame of R169: a 15693 flags byte carries the high rate, the addressed bit and the option bit. -/
def templateFrame (x : Template) (uid params : List Byte) (high : Bool) : List Byte :=
  let addr := if x.flag 1 then uid else []
  match x.proto with
  | 3 => b8 (2 * bit high + 32 * bit (x.flag 1) + 64 * bit (x.flag 4)) :: x.cmd :: (if x.flag 2 then [x.mfgc] else []) ++ addr ++ params
  | 4 =>
    let body := x.cmd :: addr ++ params
    b8 (body.length + 1) :: body
  | _ => x.cmd :: params

/-- FDTMIN and window of a template's class (R159, R167): an explicit window is rounded up to one that the stage can hold. -/
def templateTiming (x : Template) : Nat × Nat :=
  if x.tclass = 3 then (x.xfdt, windowUp x.xwin)
  else match x.proto with
    | 1 => (1108, fwtWindow (fwtOf 4))
    | 2 => (960, fwtWindow (fwtOf 4))
    | 3 => (4320, if x.tclass = 1 then 271232 else 4608)
    | _ => (512, fwtWindow 0)

/-- The spacing before a frame of a protocol (R153 to R158). -/
def frameGap (proto : Nat) : Nat :=
  match proto with
  | 1 => 1200
  | 2 => 1800
  | _ => 4200

/-- The stages of a template's exchange (R159, R160): a write-alike command with option flag 1 is emitted, and answered after
the EOF of a second exchange. -/
def templateRequests (x : Template) (frame : List Byte) : List Request :=
  let (fdt, win) := templateTiming x
  if x.tclass = 2 then
    [{ ask frame 0 0 (frameGap 3) 0 with kind := 1 }, { kind := 2, gap := 271200 }, { fdtMin := fdt, window := win }]
  else [ask frame fdt win (frameGap x.proto) (if x.flag 3 then 0 else x.retry)]

/-- An ISO/IEC 15693 write or lock command, whose effect a read back shows (R373). -/
def readsBack (x : Template) : Bool := decide (x.proto = 3) && [0x21, 0x24, 0x27, 0x29, 0x22, 0x28, 0x2A].contains x.cmd.toNat

/-- The request that reads back what a write or lock command changed (R163, R373). -/
def readBackRequest (x : Template) (uid params : List Byte) (high : Bool) : Request :=
  let cmd : List Byte := match x.cmd.toNat with
    | 0x21 => 0x20 :: params.take 1
    | 0x24 => 0x23 :: params.take 2
    | 0x22 => 0x2C :: params.take 1 ++ [0]
    | _ => [0x2B]
  let y := { x with flags := x.flags % 16, cmd := cmd.headD 0, mfgc := 0 }
  ask (templateFrame { y with flags := y.flags - 4 * bit (y.flag 2) } uid (cmd.drop 1) high) 4320 4608 4200 2

/-- What was read back shows the change (R373): data as written, the field as written, or the lock set. -/
def readBackMatches (x : Template) (params data : List Byte) : Bool :=
  let info := fieldLE data 1 1
  match x.cmd.toNat with
  | 0x21 => decide (data.drop 1 = params.drop 1)
  | 0x24 => decide (data.drop 1 = params.drop 2)
  | 0x27 => info.testBit 1 && decide (data.getD (10 + info % 2) 0 = params.getD 0 0)
  | 0x29 => info.testBit 0 && decide (data.getD 10 0 = params.getD 0 0)
  | _ => info.testBit 0

/-- A template's exchange on its answers (R163, R167, R373): a command that changes nothing is retried; one that changes tag
state is read back first, and runs again only where the read back shows it not applied. Answers the frame that came, or
whether the change was found applied, and the requests made. -/
def runTemplate (x : Template) (frame uid params : List Byte) (high : Bool) : Nat → Bool → List SlotObs → (Option SlotObs × Bool) × List Request
  | 0, _, _ => ((none, false), [])
  | fuel + 1, verify, answers =>
    let lost (a : SlotObs) : Bool := decide (a.outcome ≠ .ok) && decide (a.outcome ≠ .split)
    let back (answers : List SlotObs) (sent : List Request) : (Option SlotObs × Bool) × List Request :=
      let (a, rest) := retried lost 2 answers
      let sent := sent ++ [readBackRequest x uid params high]
      if lost a then ((none, false), sent)
      else if readBackMatches x params a.data then ((none, true), sent)
      else
        let (o, more) := runTemplate x frame uid params high fuel false rest
        (o, sent ++ more)
    if verify then back answers []
    else if ¬ x.flag 3 then
      let (a, _) := retried lost x.retry answers
      ((if lost a then none else some a, false), templateRequests x frame)
    else
      let a := answers.headD noAnswer
      if ¬ lost a then ((some a, false), templateRequests x frame)
      else if readsBack x then back (answers.drop 1) (templateRequests x frame)
      else ((none, false), templateRequests x frame)

/-- A template request cannot run (R168, R270): not valid, another protocol, too few or too many parameters, a profile or
listen set that breaks its checks, or a handler that is not active. -/
def State.templateRefused (s : State) (x : Template) (e : Entry) (params : List Byte) : Bool :=
  !x.valid || decide (x.proto ≠ e.proto) || decide (params.length < x.pmin ∨ params.length > x.pmax) ||
  !(profileOk (s.profile x.wave)) || !(lsetOk (s.readBytes (lsetAddr x.lset) 16) false) ||
  (decide (x.guest ≠ 0xFF) && decide (s.guest.state ≠ 2))

/-- The request ends: its result is committed before the status leaves busy (R170). -/
def State.endTemplate (status : Nat) (resp : List Byte) (s : State) : State :=
  let t := s.template
  let s := s.commit 8 1 ([b8 t.template, b8 status, b8 t.ca, b8 resp.length] ++ natLE 4 t.handle ++ padTo 24 resp)
  let s : State := { s with template := { t with status := status, resp := resp, track := none } }
  let s := s.when (decide (3 ≤ status ∧ status ≤ 5)) (State.clearSecured t.handle)
  let sent := t.track.isSome
  (s.when sent (State.serviceMsg false 1 t.handle t.ca t.template ((Template.ofBytes t.tmpl).flag 3))).afterService

/-- A template exchange on an entry with the values that it keeps (R171). -/
def State.templateService (s : State) (n h : Nat) (e : Entry) (params : List Byte) : Service :=
  { status := 1, handle := h, ca := e.ca, template := n, esn := s.journal.esn, tmpl := s.templateBytes n, params := params,
    uid := e.uid, proto := e.proto, frame := templateFrame (s.template_ n) e.uid params (s.objBool 0x6100 9), track := s.pickTrack }

/-- A start of the template request in 0x6120 (R170). -/
def State.startTemplate (s : State) : Status × State :=
  if s.template.status = 1 then (.busy, s)
  else
    let n := s.objNat 0x6120 1
    let h := s.objNat 0x6120 2
    let params := s.obj 0x6120 3
    let x := s.template_ n
    let sv : Service := { status := 1, handle := h, template := n, esn := s.journal.esn }
    match s.indexOf h with
    | none => (.ok, { s with template := sv }.endTemplate 6 [])
    | some i =>
      let e := s.entry i
      if s.templateRefused x e params then (.ok, { s with template := { sv with ca := e.ca } }.endTemplate 7 [])
      else (.ok, { s with template := s.templateService n h e params }.serviceMsg true 1 h e.ca n (x.flag 3))

/-! ### Guest handlers (R269 to R272) -/

/-- The exchange area in bank 0x03F (R269). -/
def exchangeArea : Nat := addrOf 0x3F 0xF000

/-- The entry of a handler (R269). -/
def State.guestEntry (s : State) (h : Nat) : Nat := leNat (s.readBytes (addrOf 0x20 (8 + 4 * h)) 4)

/-- Firmware calls a handler (R271): its arguments, Guarded mode, GUEST 1, and the response in the exchange area. -/
def State.callGuest (h status : Nat) (resp : List Byte) (s : State) : State :=
  let t := s.template.template
  let s := s.writeBytes exchangeArea resp
  let c := s.coreF.complete
  let c := { c with bare := false, guest := true, trp := false, dbk := 0x3F, abk := 0x3F, pc := BitVec.ofNat 25 (s.guestEntry h),
                    slot := none, past := false, waiting := false }
  let c := (((c.setReg 0 0xF000 0).setReg 1 (BitVec.ofNat 32 resp.length) 0).setReg 2 (BitVec.ofNat 32 status) 0).setReg 3
    (BitVec.ofNat 32 t) 0
  { s with coreF := c, guest := { s.guest with calls := s.guest.calls + 1, running := some (h, t), cycles := 0, saved := s.coreF.house } }

/-- A handler returned: its status and length are taken, or the request ends REFUSED (R271). -/
def State.guestReturned (status len : Nat) (resp : List Byte) (s : State) : State :=
  let s : State := { s with guest := { s.guest with running := none }, coreF := { s.coreF with guest := false, house := s.guest.saved } }
  if 2 ≤ status ∧ status ≤ 5 ∧ len ≤ 32 then s.endTemplate status (resp.take len) else s.endTemplate 7 []

/-- The traces of a guest stop (R272); the request ends REFUSED. -/
def State.guestStop (a : Nat) (s : State) : State :=
  match s.guest.running with
  | none => s
  | some (h, t) =>
    let n := s.guest.cycles
    let s : State := { s with guest := { s.guest with running := none, stops := s.guest.stops + 1, lastAddr := a },
                              coreF := { s.coreF with house := s.guest.saved } }
    let s := s.commit 8 5 ([b8 h, b8 t, 0, 0] ++ natLE 4 a ++ natLE 4 n)
    (s.raiseFault .field 10 5 1 (natLE 4 a)).endTemplate 7 []

/-! ### Results (R165, R166, R169) -/

/-- A template's answer is judged (R169): for ISO/IEC 15693 its flags byte leads, and bit 0 of it is the error flag. A
change that a read back found applied is OK (R373); without an answer the status is 4. -/
def judgeTemplate (x : Template) (a : Option SlotObs) (applied : Bool) : Nat × List Byte :=
  match a with
  | none => (if applied then 2 else 4, [])
  | some a =>
    let body := if x.proto = 3 then a.data.drop 1 else a.data
    if x.proto = 3 ∧ (a.data.getD 0 0).toNat % 2 = 1 then (3, body.take 32)
    else if body.length < x.rmin ∨ body.length > x.rmax then (5, body.take 32) else (2, body)

/-- Requests that the firmware makes on a coil (R159). -/
def State.requests (ca : Nat) (rs : List Request) (s : State) : State := rs.foldl (fun s r => s.emit (.request ca r)) s

/-- A template exchange with the values it has kept, on its answers: status, response, requests. -/
def Service.run (t : Service) (answers : List SlotObs) : (Nat × List Byte) × List Request :=
  let x := Template.ofBytes t.tmpl
  let ((a, applied), rs) := runTemplate x t.frame t.uid t.params ((fieldLE t.frame 0 1).testBit 1) (if t.verify then 2 else x.retry + 1) t.verify answers
  (judgeTemplate x a applied, rs)

/-- The template exchange ends (R169): judged, given to its guest handler, and committed. A handler that has not returned
by then runs on the core until TRAP code 0 or a guest stop. -/
def execTemplateResult (answers : List SlotObs) (g : Option GuestReturn) (s : State) : Result :=
  if s.template.status ≠ 1 ∨ s.guest.running.isSome then .next s
  else
    let x := Template.ofBytes s.template.tmpl
    let ((st, resp), rs) := s.template.run answers
    let s := s.requests s.template.ca rs
    if x.guest = 0xFF ∨ s.guest.state ≠ 2 then .next (s.endTemplate st resp)
    else
      let s := s.callGuest x.guest st resp
      match g with
      | some q => .next (s.guestReturned q.status q.len q.resp)
      | none => .next s

/-! ### APDU exchanges (R164 to R166) -/

/-- The exchange ends: its result is committed before the status leaves busy (R166); a lost session is journalled and
clears SECURED (R165, R202). -/
def State.endApdu (status : Nat) (resp : List Byte) (s : State) : State :=
  let a := s.apdu
  let s := s.commit 8 2 ([b8 status, b8 a.ca] ++ natLE 2 resp.length ++ natLE 4 a.handle ++ sliceBytes (zeros 2 ++ resp) resp.length 2)
  let s := if status = 3 ∨ status = 4 then
      ((s.when (decide (status = 3)) (State.bump 0x6101 3)).commit 8 4 ([b8 status, b8 a.ca, 0, 0] ++ natLE 4 a.handle)).clearSecured a.handle
    else s
  let i := a.handle % 131072
  let ses := if status = 3 ∨ status = 4 then s.roster.sessions.filter (fun x => decide (x.idx ≠ i)) else s.roster.sessions
  let s : State := { s with apdu := { a with status := status, resp := resp, track := none },
                            roster := { s.roster with sessions := ses } }
  (s.when a.track.isSome (State.serviceMsg false 2 a.handle a.ca 0 true)).afterService

/-- An APDU exchange on an entry with the values that it keeps (R171). -/
def State.apduService (s : State) (h n : Nat) (e : Entry) : Service :=
  { s.apdu with status := 1, handle := h, ca := e.ca, resp := [], esn := s.journal.esn, frame := sliceBytes s.apdu.cmd 0 n,
                uid := e.uid, proto := e.proto, track := s.pickTrack,
                cfg := { fsdi := s.objNat 0x6100 1, rateA := s.objNat 0x6100 2, rateB := s.objNat 0x6100 3, attempts := s.objNat 0x6100 4 } }

/-- A start of the APDU exchange in 0x6140 (R166). -/
def State.startApdu (s : State) : Status × State :=
  if s.apdu.status = 1 then (.busy, s)
  else
    let h := s.objNat 0x6140 1
    let n := s.objNat 0x6140 2
    let sv : Service := { s.apdu with status := 1, handle := h, ca := 0, resp := [], esn := s.journal.esn, track := none }
    match s.indexOf h with
    | none => (.ok, { s with apdu := sv }.endApdu 5 [])
    | some i =>
      let e := s.entry i
      let sv := { sv with ca := e.ca }
      if e.proto ≥ 3 then (.ok, { s with apdu := sv }.endApdu 6 [])
      else if n = 0 then (.ok, { s with apdu := sv }.endApdu 7 [])
      else (.ok, { s with apdu := s.apduService h n e }.serviceMsg true 2 h e.ca 0 true)

/-- The command APDU page that 0x6140.03 selects is written (R166). -/
def State.writeApduPage (v : List Byte) (s : State) : State :=
  let p := 256 * s.objNat 0x6140 3
  let c := padTo 2048 s.apdu.cmd
  { s with apdu := { s.apdu with cmd := c.take p ++ v ++ c.drop (p + v.length) } }

/-- The APDU exchange on its answers (R164 to R166): on the entry's session, or after an activation, which ends with status 6
where SAK or ATQB announces no part 4. Happenings are counted, and the session goes on from where it stands. -/
def execApduResult (answers : List SlotObs) (s : State) : Result :=
  let v := s.apdu
  if v.status ≠ 1 then .next s
  else
    let i := v.handle % 131072
    let old := s.roster.sessions.find? fun x => decide (x.idx = i)
    let ses : Session := old.getD { idx := i, typeB := decide (v.proto = 2) }
    let (st, resp, p) := runExchange v.cfg v.uid v.frame old.isSome { answers := answers, session := ses }
    let s := (((s.requests v.ca p.sent).bumpBy p.recoveries 0x6101 2).bumpBy p.extensions 0x6101 4).bumpBy p.ppsFailures 0x6101 5
    let rest := s.roster.sessions.filter fun x => decide (x.idx ≠ i)
    let s : State := { s with roster := { s.roster with sessions := if st = 2 then rest ++ [p.session] else rest } }
    .next (s.endApdu st resp)

end Sys2Proof.Machine
end

