-- ==== Sys2Proof/Machine/Security.lean ====
section
/-!
DEFINITION. Tag security (R202 to R223): key slots, profiles, the attempt budget, password exchanges, handshakes and
origin verification.
-/

namespace Sys2Proof.Machine

open Sys2Proof

/-! ### The key store (R205 to R209) -/

/-- How many slots a kind has (R205). -/
def keySlots (kind : Nat) : Nat :=
  match kind with
  | 0 => 16
  | 1 => 4
  | 2 => 64
  | 3 => 64
  | 4 => 32
  | _ => 0

/-- A check value as the U32 of R206. -/
def kcvWord (key : List Byte) : Nat := if key = [] then 0 else leNat (keyCheckValue key)

/-- The check value that 0x5001 shows for a slot (R206): a password's is computed under command-key slot 0. -/
def State.checkValue (s : State) (kind slot : Nat) : Nat :=
  let m := s.key kind slot
  if m = [] then 0
  else if kind ≠ 2 then kcvWord m
  else if s.key 0 0 = [] then 0 else leNat ((cmac (s.key 0 0) (5 :: padTo 16 m)).take 3)

/-- Key material as it crosses the twin link: its length, and its wrap under the twin key (R362). -/
def State.wrapped (s : State) (m : List Byte) : List Byte := if m = [] then [] else b8 m.length :: keyWrap s.twin.key m

/-- What a wrap under this module's twin key holds; nothing where its check fails. -/
def State.unwrapped (s : State) (w : List Byte) : Option (List Byte) :=
  if w = [] then some [] else (keyUnwrap s.twin.key (w.drop 1)).map fun m => m.take (fieldLE w 0 1)

/-- The erase-intent protection of a write to the key store (R209, R285): which of its sectors a kind stands in is the
model's (log 71). -/
def State.keySector (kind : Nat) (s : State) : State :=
  let sec := 0x340 + kind
  { s with nvm := (((s.nvm.recycle s.journal.esn).intent sec s.journal.esn).recycle s.journal.esn).complete sec }

/-- Put material into a slot; a change of command-key slot 15 is preceded by CHAIN_KEY (R321). -/
def State.putKey (kind slot : Nat) (m : List Byte) (s : State) : State :=
  let s := s.when (decide (kind = 0) && decide (slot = 15)) fun s => s.commit 0 3 (natLE 4 (kcvWord m))
  let s : State := { s with keys := { s.keys with store := Tab.set [] s.keys.store (256 * kind + slot) m } }
  (s.keySector kind).mirror 0x87 (.mKeys (.key kind slot (s.wrapped m)))

/-- The transport key of a slot: slot 0 is the factory's until it is replaced, which it never is (R205, R207). -/
def State.transportKey (s : State) (t : Nat) : List Byte := if t = 0 then Config.transportKey0 else s.key 1 t

/-- The refusals of R207, in the order range, lock, key, wrap; or the material. -/
def State.unwrapKey (s : State) (kind slot tslot len : Nat) (w : List Byte) : Status × List Byte :=
  let lenOk := if kind = 2 then decide (1 ≤ len ∧ len ≤ 16) else decide (len = 16)
  if kind > 3 ∨ slot ≥ keySlots kind ∨ tslot > 3 ∨ lenOk = false then (.valueRange, [])
  else if kind = 1 ∧ slot = 0 then (.locked, [])
  else if s.transportKey tslot = [] then (.noKey, [])
  else match keyUnwrap (s.transportKey tslot) w with
    | none => (.unwrap, [])
    | some m => if m.drop len ≠ zeros (16 - len) then (.valueRange, []) else (.ok, m.take len)

/-- Load a wrapped key (R207, R318): a command key starts its counter again and reserves block 0. -/
def State.loadKey (p : List Byte) (s : State) : Status × State :=
  let kind := fieldLE p 0 1
  let slot := fieldLE p 1 1
  match s.unwrapKey kind slot (fieldLE p 2 1) (fieldLE p 3 1) (sliceBytes p 4 24) with
  | (.ok, m) =>
    let s := s.putKey kind slot m
    if kind = 0 then
      (.ok, (s.modCmdSlot slot fun c => { c with last := 0, reserved := max c.reserved 4096 }).logEntry 4 slot 0)
    else (.ok, s)
  | (st, _) => (st, { s with keys := { s.keys with refused := s.keys.refused + 1 } })

/-- Entries that an issuer slot verified lose ORIGIN at the next close, those whose result waits for it among them (R221). -/
def State.dropOrigins (slot : Nat) (s : State) : State :=
  let es := s.keys.verified.filter fun p => decide (p.2 = slot + 1)
  let ch : List SecChange := es.map fun p =>
    { handle := handleOf p.1 (s.entry p.1), typ := 4, profile := 0xFF, status := 0, slot := slot }
  let waiting := (s.keys.changes.filter fun c => decide (c.typ = 3) && decide (c.slot = slot)).map fun c => { c with typ := 4, profile := 0xFF, status := 0 }
  { s with keys := { s.keys with changes := s.keys.changes ++ ch ++ waiting } }

/-- The length of a coordinate of a curve in bytes (R208). -/
def curveLen (curve : Nat) : Nat :=
  match curve with
  | 1 => 16
  | 2 => 28
  | 3 => 32
  | _ => 0

/-- A big-endian number. -/
def beNat (b : List Byte) : Nat := leNat b.reverse

/-- Load an issuer public key (R208). -/
def State.loadIssuer (p : List Byte) (s : State) : Status × State :=
  let slot := fieldLE p 0 1
  let curve := fieldLE p 1 1
  let n := curveLen curve
  let x := beNat (sliceBytes p 9 n)
  let y := beNat (sliceBytes p (9 + n) n)
  let on := match curveOf curve with | some c => c.on x y | none => false
  if slot > 31 ∨ n = 0 ∨ p.length ≠ 9 + 2 * n ∨ fieldLE p 2 1 > 4 ∨ fieldLE p 3 1 ≠ 0 ∨ fieldLE p 8 1 ≠ 4 ∨ on = false then (.valueRange, s)
  else
    let is : Issuer := { curve := curve, proto := fieldLE p 2 1, pfx := fieldLE p 4 2, mask := fieldLE p 6 2, x := x, y := y }
    let s := s.dropOrigins slot
    let s : State := { s with keys := { s.keys with issuers := Tab.set {} s.keys.issuers slot is } }
    (.ok, (s.keySector 4).mirror 0x87 (.mKeys (.key 4 slot p)))

/-- Erase one slot (R209). -/
def State.eraseKey (p : List Byte) (s : State) : Status × State :=
  let kind := fieldLE p 0 1
  let slot := fieldLE p 1 1
  if slot ≥ keySlots kind then (.valueRange, s)
  else if kind = 1 ∧ slot = 0 then (.locked, s)
  else if kind = 4 then
    let s := s.dropOrigins slot
    let s : State := { s with keys := { s.keys with issuers := Tab.set {} s.keys.issuers slot {} } }
    (.ok, (s.keySector 4).mirror 0x87 (.mKeys (.key 4 slot [])))
  else (.ok, s.putKey kind slot [])

/-! ### The attempt log and the quarantine list (R213 to R217) -/

def State.attempt (s : State) (t : TagId) : Option Attempt := s.keys.attempts.find? fun a => decide (a.tag = t)

/-- Replace a tag's entry of the attempt log; an entry without failures and pending record leaves it. -/
def State.setAttempt (a : Attempt) (s : State) : State :=
  let rest := s.keys.attempts.filter fun b => decide (b.tag ≠ a.tag)
  { s with keys := { s.keys with attempts := if a.fails = [] ∧ ¬ a.pending then rest else rest ++ [a] } }

/-- A tag's entry of the attempt log is mirrored (R365). -/
def State.mirrorAttempt (t : TagId) (s : State) : State :=
  match s.attempt t with
  | some a => s.mirror 0x87 (.mKeys (.attempt t a.fails a.pending))
  | none => s.mirror 0x87 (.mKeys (.attempt t [] false))

/-- The window of the attempt budget in microseconds (R215). -/
def State.budgetWindow (s : State) : Nat := s.objNat 0x5003 2 * 3600000000

/-- Failures of a tag that stand in the window (R215). -/
def State.failCount (s : State) (t : TagId) : Nat :=
  match s.attempt t with
  | some a => (a.fails.filter fun f => decide (f + s.budgetWindow > s.tb.ts)).length
  | none => 0

/-- Release a UID from quarantine, with its attempt history (R217). -/
def State.releaseTag (p : List Byte) (s : State) : Status × State :=
  let t : TagId := { proto := fieldLE p 0 1, uid := sliceBytes p 2 (min 10 (fieldLE p 1 1)) }
  if s.keys.quarantine.contains t then
    let s : State := { s with keys := { s.keys with quarantine := s.keys.quarantine.filter (· ≠ t),
                                                    attempts := s.keys.attempts.filter fun a => decide (a.tag ≠ t) } }
    (.ok, (s.mirror 0x87 (.mKeys (.quarantine t false))).mirrorAttempt t)
  else (.notFound, s)

/-- Failures of a tag have all left the window, which moves on to that instant (R216). -/
def execFailuresLeaveWindow (tag : TagId) (s : State) : Result :=
  match s.attempt tag with
  | none => .next s
  | some a =>
    if a.pending then .next s
    else
      let last := a.fails.foldl max 0
      let s := s.advanceTs (last + s.budgetWindow)
      .next { s with keys := { s.keys with attempts := s.keys.attempts.filter fun b => decide (b.tag ≠ tag) } }

/-! ### Profiles (R210, R211) -/

def Entry.tag (e : Entry) : TagId := { proto := e.proto, uid := e.uid }

/-- Objects of a profile. -/
def State.prof (s : State) (p sub : Nat) : Nat := s.objNat (0x5010 + p) sub

/-- The profile that an entry takes (R210). -/
def State.profileOf (s : State) (e : Entry) : Option Nat :=
  let u := fieldLE e.uid 0 2
  (List.range 16).find? fun p => decide (s.prof p 1 ≠ 0) && decide (s.prof p 1 = e.proto) &&
    decide (u &&& s.prof p 3 = s.prof p 2 &&& s.prof p 3)

/-- A template of a profile is VALID and of its protocol. -/
def State.profTemplateOk (s : State) (p t : Nat) : Bool := (s.template_ t).valid && decide ((s.template_ t).proto = s.prof p 1)

/-- A profile passes the checks of R211; a signature template counts among its templates while origin verification is on. -/
def State.profileValid (s : State) (p : Nat) : Bool :=
  let m := s.prof p 4
  let pw := s.key 2 (s.prof p 5)
  let x := s.template_ (s.prof p 6)
  let n := (s.obj (0x5010 + p) 7).length + pw.length
  decide (s.prof p 1 ≠ 0) &&
  (decide (m ≠ 1) || (decide (pw ≠ []) && s.profTemplateOk p (s.prof p 6) && decide (x.pmin ≤ n ∧ n ≤ x.pmax))) &&
  (decide (m < 2) || decide (s.key 3 (s.prof p 5) ≠ [])) &&
  (decide (s.prof p 8 = 0) || (s.profTemplateOk p (s.prof p 9) &&
    (decide (s.prof p 0x0B = 0xFF) || s.profTemplateOk p (s.prof p 0x0B))))

/-! ### Records of entries (R196, R203) -/

/-- A report record of an entry (R196). -/
def reportRec (i : Nat) (e : Entry) (change prev : Nat) : ReportRec :=
  let b := e.bytes i
  [b8 e.ca, b.getD 12 0, b.getD 10 0, b8 change] ++ natLE 4 (handleOf i e) ++ padTo 10 e.uid ++ [b8 prev, 0] ++ natLE 4 e.glast

/-- Commit a security record about an entry as it stands (R499, group 2 types 7 to 9). -/
def State.securityRecord (typ handle profile status : Nat) (s : State) : State :=
  match s.indexOf handle with
  | none => s
  | some i => s.commit 2 typ (reportRec i (s.entry i) 0 (s.entry i).ca ++ [b8 profile, b8 status])

/-! ### Security actions (R203, R204, R212 to R219) -/

/-- An action that does not run, or has run, ends with a status; the host's own shows it in 0x5020.04. -/
def State.secDone (a : SecAction) (status : Nat) (s : State) : State :=
  if a.fromHost then { s with keys := { s.keys with status := status } } else s

/-- A UID enters the quarantine list: its queued actions end (R204, R222), and when the list is full then, a security Degrade
is raised (R215, R217). -/
def State.quarantine (t : TagId) (s : State) : State :=
  if s.keys.quarantine.contains t ∨ s.keys.quarantine.length ≥ 2048 then s
  else
    let of (a : SecAction) : Bool := match s.indexOf a.handle with | some i => decide ((s.entry i).tag = t) | none => false
    let ended := s.keys.queue.filter of
    let s : State := { s with keys := { s.keys with quarantine := s.keys.quarantine ++ [t], queue := s.keys.queue.filter fun a => !(of a) } }
    let s := ended.foldl (fun s a => s.secDone a 6) s
    let s := s.mirror 0x87 (.mKeys (.quarantine t true))
    if s.keys.quarantine.length ≥ 2048 then s.raiseFault .field 11 2 2 [] else s

/-- The action's exchange begins with what it keeps (R183, R209, R365). -/
def State.secRun (a : SecAction) (i : Nat) (k : SecHeld) (s : State) : State :=
  let e := s.entry i
  let k := { k with tag := e.tag, ca := e.ca, high := s.objBool 0x6100 9 }
  let s : State := { s with keys := { s.keys with running := some a, kept := k, track := s.pickTrack, esn := s.journal.esn } }
  s.serviceMsg true 3 a.handle e.ca a.action true

/-- Origin verification follows a possession action of a profile that asks for it, however that action ended (R219). -/
def State.thenOrigin (a : SecAction) (s : State) : State :=
  match s.indexOf a.handle with
  | none => s
  | some i =>
    if s.prof a.profile 8 = 1 ∧ ¬ (s.entry i).origin then
      { s with keys := { s.keys with queue := { handle := a.handle, profile := a.profile, action := 2, fromHost := false } :: s.keys.queue } }
    else s

/-- The frame of a template with parameters for an entry (R169). -/
def State.secFrame (s : State) (t : Nat) (e : Entry) (params : List Byte) : List Byte :=
  templateFrame (s.template_ t) e.uid params (s.objBool 0x6100 9)

/-- The parameters of a password exchange (R212): the bytes of .07, then the password. -/
def State.passwordParams (s : State) (p : Nat) : List Byte := s.obj (0x5010 + p) 7 ++ s.key 2 (s.prof p 5)

/-- What a password exchange or handshake keeps (R209, R212, R218): the field side puts the password into the frame, and
draws the challenge. -/
def State.possession (s : State) (p : Nat) (e : Entry) : SecHeld :=
  let m := s.prof p 4
  let t := s.prof p 6
  let c := padTo 10 (Config.randomBytes s.fresh 10)
  if m = 1 then
    { method := m, key := s.key 2 (s.prof p 5), tmpl := s.templateBytes t, frame := s.secFrame t e (s.passwordParams p) }
  else
    { method := m, key := s.key 3 (s.prof p 5), challenge := c,
      frame := [b8 (0x20 + 2 * bit (s.objBool 0x6100 9)), 0x35] ++ e.uid ++ [0, b8 (m - 2)] ++ c }

/-- A password exchange or handshake begins, or ends at once (R211, R213, R216, R217); origin verification follows all the
same (R219). -/
def State.secAttempt (a : SecAction) (i : Nat) (s : State) : State :=
  let e := s.entry i
  let t := e.tag
  let m := s.prof a.profile 4
  let out (st : Nat) (s : State) : State := (s.thenOrigin a).secDone a st
  if m = 0 then s.secDone a 5
  else if s.profileValid a.profile = false then out 7 (s.securityRecord 9 a.handle a.profile 7)
  else if m ≥ 2 ∧ e.proto ≠ 3 then out 7 s
  else if s.keys.quarantine.length ≥ 2048 then out 9 s
  else if s.failCount t ≥ s.objNat 0x5003 1 then out 4 (s.quarantine t)
  else if (s.attempt t).isNone ∧ s.keys.attempts.length ≥ 1024 then
    out 8 { s with keys := { s.keys with logFull := s.keys.logFull + 1 } }
  else if m = 1 ∧ s.templateRefused (s.template_ (s.prof a.profile 6)) e (s.passwordParams a.profile) then out 7 s
  else
    let old := ((s.attempt t).map (·.fails)).getD []
    let k := s.possession a.profile e
    let s := (s.setAttempt { tag := t, fails := old, pending := true }).when (decide (m ≥ 2)) State.draw
    (s.mirrorAttempt t).secRun a i k

/-- An origin verification begins with its templates and the issuer slots of now (R209, R219), unless one cannot run. -/
def State.secOrigin (a : SecAction) (i : Nat) (s : State) : State :=
  let e := s.entry i
  let t1 := s.prof a.profile 9
  let t2 := s.prof a.profile 0x0B
  if s.templateRefused (s.template_ t1) e [] ∨ (t2 ≠ 0xFF ∧ s.templateRefused (s.template_ t2) e []) then s.secDone a 7
  else
    let two := decide (t2 ≠ 0xFF)
    s.secRun a i { tmpl := s.templateBytes t1, frame := s.secFrame t1 e [], tmpl2 := if two then s.templateBytes t2 else [],
                   frame2 := if two then s.secFrame t2 e [] else [], issuers := s.keys.issuers }

/-- An action starts if its entry qualifies: present or moving, and not in quarantine (R204). -/
def State.secStart (a : SecAction) (s : State) : State :=
  match s.indexOf a.handle with
  | none => s.secDone a 6
  | some i =>
    let e := s.entry i
    if ¬ (e.pres = 2 ∨ e.pres = 4) ∨ s.keys.quarantine.contains e.tag then s.secDone a 6
    else if a.action = 1 then s.secAttempt a i
    else if s.prof a.profile 8 = 0 then s.secDone a 5
    else if s.profileValid a.profile = false then (s.securityRecord 9 a.handle a.profile 7).secDone a 7
    else s.secOrigin a i

/-- The next queued actions start until one runs. -/
def State.secNext : Nat → State → State
  | 0, s => s
  | fuel + 1, s =>
    if s.keys.running.isSome then s
    else match s.keys.queue with
      | [] => s
      | a :: rest => State.secNext fuel (({ s with keys := { s.keys with queue := rest } } : State).secStart a)

/-- Queue an action, and start it if none runs. -/
def State.secQueue (a : SecAction) (s : State) : State :=
  let s : State := { s with keys := { s.keys with queue := s.keys.queue ++ [a] } }
  s.secNext (2 * s.keys.queue.length)

/-- A start of the security action in 0x5020 (R204, R223). A release of SECURED is applied at the next close (R202). -/
def State.startSecurity (s : State) : Status × State :=
  if s.keys.status = 1 then (.busy, s)
  else
    let h := s.objNat 0x5020 1
    let act := s.objNat 0x5020 2
    match s.indexOf h with
    | none => (.ok, { s with keys := { s.keys with status := 6 } })
    | some i =>
      if act = 3 then
        let ch : SecChange := { handle := h, typ := 2, profile := (s.profileOf (s.entry i)).getD 0xFF, status := 2, slot := 0 }
        (.ok, { s with keys := { s.keys with status := 2, changes := s.keys.changes ++ [ch] } })
      else match s.profileOf (s.entry i) with
        | none => (.ok, { s with keys := { s.keys with status := 5 } })
        | some p =>
          (.ok, { s with keys := { s.keys with status := 1 } }.secQueue { handle := h, profile := p, action := act, fromHost := true })

/-- The running action ends with a status: its track is free, its change is closed, naming the slot of a verified origin
(R221), and the next one starts. -/
def State.secEnd (a : SecAction) (status slot : Nat) (s : State) : State :=
  let ca := s.keys.kept.ca
  let s : State := { s with keys := { s.keys with running := none, kept := {}, track := none } }
  let s := ((s.secDone a status).serviceMsg false 3 a.handle ca (a.action + 256 * slot) true).afterService
  s.secNext (2 * s.keys.queue.length)

/-- A security result waits for the next close (R203). -/
def State.secChange (c : SecChange) (s : State) : State := { s with keys := { s.keys with changes := s.keys.changes ++ [c] } }

/-- An attempt failed (R213 to R215): counted, SECURE_FAILED committed, and the UID quarantined at the budget. -/
def State.secFailed (a : SecAction) (t : TagId) (s : State) : State :=
  let old := ((s.attempt t).map (·.fails)).getD []
  let s := s.setAttempt { tag := t, fails := old ++ [s.tb.ts], pending := false }
  let s : State := { s with keys := { s.keys with failed := s.keys.failed + 1 } }
  let s := (s.mirrorAttempt t).securityRecord 7 a.handle a.profile 3
  let s := s.clearSecured a.handle
  s.when (decide (s.failCount t ≥ s.objNat 0x5003 1)) (State.quarantine t)

/-- A password exchange or handshake ends (R213, R214): the budget counts for the tag that the attempt began with. -/
def State.attemptResult (a : SecAction) (ok : Bool) (s : State) : State :=
  let t := s.keys.kept.tag
  let old := ((s.attempt t).map (·.fails)).getD []
  if ok then
    let s := (s.setAttempt { tag := t, fails := old, pending := false }).mirrorAttempt t
    let s := s.secChange { handle := a.handle, typ := 1, profile := a.profile, status := 2, slot := 0 }
    (s.thenOrigin a).secEnd a 2 0
  else ((s.secFailed a t).thenOrigin a).secEnd a 3 0

/-- The issuer slots that verify a signature over a UID, ascending (R219). -/
def verifyingSlot (issuers : Tab Issuer) (t : TagId) (sig : List Byte) : Option Nat :=
  let n := sig.length / 2
  let u := fieldLE t.uid 0 2
  (List.range 32).find? fun k =>
    let is := Tab.get {} issuers k
    match curveOf is.curve with
    | none => false
    | some c =>
      decide (sig.length = 2 * curveLen is.curve) && decide (is.proto = 0 ∨ is.proto = t.proto) &&
      decide (u &&& is.mask = is.pfx &&& is.mask) &&
      ecdsaVerify c is.x is.y (beNat t.uid) (beNat (sig.take n)) (beNat (sig.drop n))

/-- An origin verification ends (R219): a missing or wrong answer gives no signature. -/
def State.originResult (a : SecAction) (sig : List Byte) (s : State) : State :=
  match verifyingSlot s.keys.kept.issuers s.keys.kept.tag sig with
  | some k => (s.secChange { handle := a.handle, typ := 3, profile := a.profile, status := 2, slot := k }).secEnd a 2 (k + 1)
  | none => (s.securityRecord 8 a.handle a.profile 3).secEnd a 3 0

/-- A template of a security action on its answers: status, response, requests. -/
def SecHeld.run (k : SecHeld) (tmpl frame : List Byte) (answers : List SlotObs) : (Nat × List Byte) × List Request :=
  let sv : Service := { tmpl := tmpl, frame := frame, uid := k.tag.uid, proto := k.tag.proto }
  sv.run answers

/-- A handshake proves the key (R218): every answer came, and together they are what the crypto suite asks for. Mutual
authentication takes two answers. -/
def SecHeld.proves (k : SecHeld) (answers : List SlotObs) : Bool :=
  let as := (List.range (k.method - 1)).map fun i => answers.getD i noAnswer
  as.all (fun a => decide (a.outcome = .ok)) && Config.handshakeOk k.method k.key k.challenge (as.flatMap (·.data))

/-- The running security action ends (R212 to R214, R218, R219). -/
def execSecurityResult (r : SecurityEnd) (s : State) : Result :=
  match s.keys.running with
  | none => .next s
  | some a =>
    let k := s.keys.kept
    if a.action ≠ 1 then
      let ((st1, sig1), rs1) := k.run k.tmpl k.frame r.answers
      let ((st2, sig2), rs2) := if k.tmpl2 = [] then ((2, []), []) else k.run k.tmpl2 k.frame2 r.answers2
      .next (((s.requests k.ca rs1).requests k.ca rs2).originResult a (if st1 = 2 ∧ st2 = 2 then sig1 ++ sig2 else []))
    else if k.method = 1 then
      let ((st, _), rs) := k.run k.tmpl k.frame r.answers
      .next ((s.requests k.ca (rs.map fun q => { q with frame := [] })).attemptResult a (decide (st = 2)))
    else .next ((s.requests k.ca [ask k.frame 4320 271232 4200 0]).attemptResult a (k.proves r.answers))

end Sys2Proof.Machine
end

