-- ==== Sys2Proof/Machine/Roster.lean ====
section
/-!
DEFINITION. The roster (R174, R175, R186 to R199, R202, R203, R221): closes, index allocation, presence, security changes,
events and reports.
-/

namespace Sys2Proof.Machine

open Sys2Proof

/-! ### Canonical order (R195) -/

/-- The canonical key of a tag at a coil: CA, protocol, UID length, UID bytes from byte 0 upward. -/
def canonKey (ca : Nat) (t : TagId) : Nat :=
  ((ca * 16 + t.proto) * 16 + t.uid.length) * 2 ^ 80 + beNat (padTo 10 t.uid)

/-- The canonical key of a report record. -/
def recKey (r : ReportRec) : Nat :=
  ((fieldLE r 0 1 * 16 + fieldLE r 2 1 % 16) * 16 + fieldLE r 2 1 / 16) * 2 ^ 80 + beNat (sliceBytes r 8 10)

/-! ### Indexes (R187, R188, R198, R199) -/

/-- Free indexes (R198): those never used since the roster was emptied, and the other released ones. -/
def Roster.free (r : Roster) : Nat := (131072 - r.fresh) + (r.released.filter fun p => decide (p.1 < r.fresh)).length

/-- The next index generation (R187). -/
def nextIgen (g : Nat) : Nat := if g ≥ 32767 then 1 else g + 1

/-- An entry is released: its index enters the tail of the list with its TS (R188). -/
def State.releaseEntry (i : Nat) (s : State) : State :=
  let s := s.setEntry i {}
  { s with roster := { s.roster with released := s.roster.released ++ [(i, s.tb.ts)], sessions := s.roster.sessions.filter fun x => decide (x.idx ≠ i) },
           keys := { s.keys with verified := Tab.set 0 s.keys.verified i 0 } }

/-- What a new entry finds: an index, a wait for the quarantine of the head, or none. -/
inductive Alloc where
  | got (i : Nat) (s : State)
  | wait
  | none_

/-- An index with its next index generation (R187), no longer among the released ones. -/
def Roster.take (i : Nat) (r : Roster) : Roster :=
  { r with igens := Tab.set 0 r.igens i (nextIgen (Tab.get 0 r.igens i)), released := r.released.filter fun p => decide (p.1 ≠ i) }

/-- Allocate an index (R188): the lowest never used since the roster was emptied, else the head of the released list after
its 10 s. -/
def State.allocate (s : State) : Alloc :=
  let r := s.roster
  if r.fresh < 131072 then
    .got r.fresh { s with roster := { r.take r.fresh with fresh := r.fresh + 1 } }
  else match r.released with
    | [] => .none_
    | (i, ts) :: _ => if s.tb.ts ≥ ts + 10000000 then .got i { s with roster := r.take i } else .wait

/-- Add an event to a close. -/
def Closing.add (e : CloseEvent) (c : Closing) : Closing := { c with events := c.events ++ [e] }

/-- A released entry that held ORIGIN loses it (R202). -/
def Closing.addOriginLost (i : Nat) (e : Entry) (c : Closing) : Closing :=
  if e.origin then
    c.add { group := 2, typ := 4, record := reportRec i { e with origin := false } 4 e.ca, profile := 0xFF, status := 0 }
  else c

/-- Evict absent entries, oldest first, until 1,024 indexes are free (R198). -/
def State.evict : Nat → Closing → State → Closing × State
  | 0, c, s => (c, s)
  | fuel + 1, c, s =>
    let absent := s.roster.entries.filter fun p => decide (p.2.pres = 3)
    let older (a b : Nat × Entry) : Bool := decide (b.2.glast < a.2.glast) ||
      (decide (b.2.glast = a.2.glast) && decide (canonKey b.2.ca b.2.tag < canonKey a.2.ca a.2.tag))
    match absent with
    | [] => (c, s)
    | p :: ps =>
      if s.roster.free ≥ 1024 then (c, s)
      else
        let (i, e) := ps.foldl (fun m q => if older m q then q else m) p
        let c := c.add { group := 1, typ := 5, record := reportRec i e 5 e.ca, profile := 0, status := 0 }
        State.evict fuel (c.addOriginLost i e) (s.releaseEntry i)

/-! ### Presence (R191) -/

/-- An entry as a candidate at a coil with one confirmation; present at once if N = 1. -/
def Entry.candidate (n b : Nat) (e : Entry) : Entry :=
  { e with pres := if n ≤ 1 then 2 else 1, ca := b, pca := 0, confirms := 1, misses := 0 }

/-- The transition of a tag seen at coil `b`: the entry, the event (0 none, 1 ARRIVED, 3 MOVED) and the previous coil. -/
def Entry.seenAt (n b : Nat) (e : Entry) : Entry × Nat × Nat :=
  let arrived := if n ≤ 1 then 1 else 0
  match e.pres with
  | 1 =>
    if b = e.ca then
      let k := min 15 (e.confirms + 1)
      if e.confirms + 1 ≥ n then ({ e with pres := 2, confirms := k, misses := 0 }, 1, e.ca) else ({ e with confirms := k }, 0, e.ca)
    else ({ e with ca := b, confirms := 1 }, 0, b)
  | 2 => if b = e.ca then ({ e with misses := 0 }, 0, b) else ({ e with pres := 4, pca := b, confirms := 1, misses := 0 }, 0, e.ca)
  | 4 =>
    if b = e.ca then ({ e with pres := 2, pca := 0, misses := 0 }, 0, b)
    else if b = e.pca then
      let k := min 15 (e.confirms + 1)
      if e.confirms + 1 ≥ n then ({ e with pres := 2, ca := b, pca := 0, confirms := k }, 3, e.ca) else ({ e with confirms := k }, 0, e.ca)
    else ({ e with pca := b, confirms := 1 }, 0, e.ca)
  | _ => (e.candidate n b, arrived, b)

/-- The transition of an entry covered, not seen and counted: released (none), or the entry and whether it departed. -/
def Entry.missed (m : Nat) (e : Entry) : Option (Entry × Bool) :=
  let gone := decide (e.misses + 1 ≥ m)
  let k := min 15 (e.misses + 1)
  match e.pres with
  | 1 => none
  | 2 => some ({ e with misses := k, pres := if gone then 3 else 2 }, gone)
  | 4 => some ({ e with misses := k, pres := if gone then 3 else 2, pca := 0 }, gone)
  | _ => some (e, false)

/-- Every coil result of a sweep at a coil is READ or EMPTY (R191). -/
def SweepResult.counted (r : SweepResult) (ca : Nat) : Bool := r.results.all fun x => decide (x.ca ≠ ca) || decide (x.status ≤ 1)

/-- An entry becomes absent or moves: SECURED clears (R202), which is a security event of its own (R203). -/
def dropSecured (i : Nat) (e : Entry) (c : Closing) : Entry × Closing :=
  if e.secured then
    let e := { e with secured := false }
    (e, c.add { group := 2, typ := 2, record := reportRec i e 4 e.ca, profile := 0xFF, status := 0 })
  else (e, c)

/-- The entry that holds a tag (R186). -/
def State.findTag (s : State) (t : TagId) : Option (Nat × Entry) := s.roster.entries.find? fun p => decide (p.2.tag = t)

/-- Sightings of a tag update GLAST, SEEN and AMBIG (R191). -/
def Entry.sighted (g : Nat) (amb : Bool) (e : Entry) : Entry := { e with glast := g, seen := satAdd 16 e.seen 1, ambig := amb }

/-- A seen tag that has an entry (R191, R202). -/
def applySeen (n g i b : Nat) (amb : Bool) (e : Entry) (c : Closing) (s : State) : Closing × State :=
  let (e, ev, prev) := e.seenAt n b
  let e := e.sighted g amb
  let (e', c') := if ev = 3 then dropSecured i e c else (e, c)
  let c' := if ev = 0 then c' else
    c'.add { group := 1, typ := ev, record := reportRec i e' ev prev, profile := 0, status := 0 }
  (c', s.setEntry i e')

/-- A newly seen tag takes an index (R188, R199); the close must wait where none is out of quarantine, with what was evicted
for it. An entry whose tag stands in the quarantine list begins with QUAR (R202). Answers whether the change is done. -/
def applyNew (n g b : Nat) (amb : Bool) (t : TagId) (c : Closing) (s : State) : Bool × Closing × State :=
  let (c, s) := if s.roster.free = 0 then State.evict 1 c s else (c, s)
  match s.allocate with
  | .wait => (false, c, s)
  | .none_ => (true, { c with lost := c.lost + 1 }, { s with roster := { s.roster with overflowed := s.roster.overflowed + 1 } })
  | .got i s =>
    let e0 : Entry := { uid := t.uid, proto := t.proto, igen := Tab.get 0 s.roster.igens i, gfirst := g,
                        quar := s.keys.quarantine.contains t }
    let e := (e0.candidate n b).sighted g amb
    let c := if n ≤ 1 then c.add { group := 1, typ := 1, record := reportRec i e 1 b, profile := 0, status := 0 } else c
    (true, c, s.setEntry i e)

/-- An entry covered and not seen (R191). -/
def applyMissed (m i : Nat) (e : Entry) (c : Closing) (s : State) : Closing × State :=
  if c.result.counted e.ca = false then (c, s)
  else match e.missed m with
    | none => (c.addOriginLost i e, s.releaseEntry i)
    | some (e, gone) =>
      if gone then
        let (e', c') := dropSecured i e c
        (c'.add { group := 1, typ := 2, record := reportRec i e' 2 e'.ca, profile := 0, status := 0 }, s.setEntry i e')
      else (c, s.setEntry i e)

/-- One change of a close, with N and M as they stood when it began (R193). Answers whether it is done, or must wait for a
released index (R188). -/
def State.closeItem (it : CloseItem) (c : Closing) (s : State) : Bool × Closing × State :=
  let g := (s.roster.gen + 1) % 2 ^ 32
  match it.seen, s.findTag it.tag with
  | [], none => (true, c, s)
  | [], some (i, e) => (true, applyMissed c.miss i e c s)
  | b :: bs, some (i, e) => (true, applySeen c.confirm g i b (decide (bs ≠ [])) e c s)
  | b :: bs, none => applyNew c.confirm g b (decide (bs ≠ [])) it.tag c s

/-- The changes of a close, until one must wait. -/
def State.closeItems : List CloseItem → Closing → State → Closing × State
  | [], c, s => ({ c with todo := [] }, s)
  | it :: rest, c, s =>
    match s.closeItem it c with
    | (true, c, s) => State.closeItems rest c s
    | (false, c, s) => ({ c with todo := it :: rest }, s)

/-! ### Security at the close (R202, R203, R221) -/

/-- One queued security change, if its entry still stands and the bit changes. -/
def State.applySec (x : SecChange) (c : Closing) (s : State) : Closing × State :=
  match s.indexOf x.handle with
  | none => (c, s)
  | some i =>
    let e := s.entry i
    let e' := match x.typ with
      | 1 => { e with secured := true }
      | 2 => { e with secured := false }
      | 3 => { e with origin := true }
      | _ => { e with origin := false }
    let s : State := if x.typ = 3 then { s with keys := { s.keys with verified := Tab.set 0 s.keys.verified i (x.slot + 1) } }
      else if x.typ = 4 then { s with keys := { s.keys with verified := Tab.set 0 s.keys.verified i 0 } } else s
    if e' = e then (c, s)
    else
      (c.add { group := 2, typ := x.typ, record := reportRec i e' 4 e'.ca, profile := x.profile, status := x.status }, s.setEntry i e')

/-- QUAR follows the quarantine list (R202). -/
def State.applyQuar (i : Nat) (c : Closing) (s : State) : Closing × State :=
  let e := s.entry i
  let q := s.keys.quarantine.contains e.tag
  if e.quar = q then (c, s)
  else
    let e' := { e with quar := q }
    (c.add { group := 2, typ := if q then 5 else 6, record := reportRec i e' 4 e'.ca, profile := (s.profileOf e).getD 0xFF,
             status := if q then 4 else 0 }, s.setEntry i e')

/-- The security changes of a close, in canonical order of their entries; a release that the host asked for comes after the
others of its entry, and waits for a handshake that runs (R203, R222). -/
def State.closeSecurity (c : Closing) (s : State) : Closing × State :=
  let release (x : SecChange) : Bool := decide (x.typ = 2) && decide (x.status = 2)
  let waits (x : SecChange) : Bool := release x && s.keys.running.any fun a => decide (a.handle = x.handle) && decide (a.action = 1)
  let key (x : SecChange) : Nat := (let e := s.entry (x.handle % 131072); 2 * canonKey e.ca e.tag + bit (release x))
  let xs := sortBy key (s.keys.changes.filter fun x => !(waits x))
  let s : State := { s with keys := { s.keys with changes := s.keys.changes.filter waits } }
  let (c, s) := xs.foldl (fun p x => p.2.applySec x p.1) (c, s)
  (s.roster.entries.map (·.1)).foldl (fun p i => p.2.applyQuar i p.1) (c, s)

/-! ### Reports (R196, R197) -/

/-- A report's bytes: header, records, trailer. -/
def reportBytes (kind flags first last gen : Nat) (recs : List ReportRec) : List Byte :=
  let body := [b8 kind, b8 flags, b8 first, b8 last] ++ natLE 4 gen ++ natLE 4 recs.length ++ zeros 4 ++ recs.flatten
  body ++ natLE 8 (crc64 body)

/-- The digest of a report (R197). -/
def reportDigest (b : List Byte) : Nat := fieldLE b (b.length - 8) 8

/-- RFLAGS of the roster as it stands (R196). -/
def Roster.flags (r : Roster) : Nat := bit r.full + 2 * bit r.overflowGen

/-- The entries as the last close left them: while the next one waits, those from before it (R194, R197). -/
def State.closedEntries (s : State) : Tab Entry :=
  match s.sweeps.closing with
  | some c => c.before
  | none => s.roster.entries

/-- The entries of a report of kind 1 or 2 in canonical order. -/
def State.entryRecs (s : State) (kind first last : Nat) : List ReportRec :=
  let es := s.closedEntries.filter fun p =>
    decide (first ≤ p.2.ca ∧ p.2.ca ≤ last) && (decide (kind = 2) || decide (p.2.pres = 2))
  sortBy recKey (es.map fun p => reportRec p.1 p.2 0 p.2.ca)

/-! ### The end of a close (R175, R190, R192, R197, R199, R366) -/

/-- Commit an event of a close (R192, R203). -/
def State.commitClose (e : CloseEvent) (s : State) : State :=
  s.commit e.group e.typ (if e.group = 1 then e.record else e.record ++ [b8 e.profile, b8 e.status])

/-- Coils of a sweep with a status. -/
def SweepResult.countOf (r : SweepResult) (st : Nat) : Nat := (r.results.filter fun x => decide (x.status = st)).length

/-- The journal record of a FAILED coil result (R175). -/
def State.journalFailed (plan gen : Nat) (x : CoilResult) (s : State) : State :=
  if x.status = 3 then s.commit 9 1 ([b8 x.ca, b8 x.status, b8 x.reason, b8 plan] ++ natLE 4 gen) else s

/-- An entry that has arrived starts the action of its profile (R210, R219, R223); a second acts on no tag (R364). -/
def State.onArrival (e : CloseEvent) (s : State) : State :=
  if e.group ≠ 1 ∨ e.typ ≠ 1 ∨ s.twin.role = 2 then s
  else
    let h := fieldLE e.record 4 4
    match s.indexOf h with
    | none => s
    | some i =>
      match s.profileOf (s.entry i) with
      | none => s
      | some p =>
        if s.prof p 0x0C ≠ 1 then s
        else if s.prof p 4 ≠ 0 then s.secQueue { handle := h, profile := p, action := 1, fromHost := false }
        else if s.prof p 8 = 1 ∧ ¬ (s.entry i).origin then s.secQueue { handle := h, profile := p, action := 2, fromHost := false }
        else s

/-- The generation closes: security changes, kind-3 records, events in canonical order, journal, push and mirror. -/
def State.finishClose (c : Closing) (s : State) : State :=
  let g := (s.roster.gen + 1) % 2 ^ 32
  let r := c.result
  let (c, s) := s.closeSecurity c
  let ev1 := sortBy (fun e : CloseEvent => recKey e.record) (c.events.filter fun e => decide (e.group = 1))
  let ev2 := sortBy (fun e : CloseEvent => recKey e.record) (c.events.filter fun e => decide (e.group = 2))
  let recs := sortBy recKey ((ev1 ++ ev2).map (·.record))
  let full := decide (c.lost ≠ 0) || (s.roster.full && decide (s.roster.free = 0))
  let flags := bit full + 2 * bit (decide (c.lost ≠ 0))
  let kind3 := reportBytes 3 flags 0 255 g recs
  let ro := { s.roster with gen := g, full := full, overflowGen := decide (c.lost ≠ 0), digest := reportDigest kind3,
                            changes := (s.roster.changes ++ [(g, flags, recs)]).drop ((s.roster.changes.length + 1) - 64) }
  let s : State := { s with roster := ro, sweeps := { s.sweeps with closing := none } }
  let s := s.modPlan r.plan fun x => { x with lastGen := g, failed := r.countOf 3, unresolved := r.countOf 2 }
  let s := r.results.foldl (fun s x => s.journalFailed r.plan g x) s
  let s := (ev1 ++ ev2).foldl (fun s e => s.commitClose e) s
  let s := s.when (decide (c.lost ≠ 0)) fun s => s.commit 9 3 (natLE 4 g ++ natLE 4 c.lost)
  let s := s.commit 9 2 ([b8 r.plan, 0, 0, 0] ++ natLE 4 g ++ natLE 2 (r.countOf 0) ++ natLE 2 (r.countOf 1) ++
    natLE 2 (r.countOf 2) ++ natLE 2 (r.countOf 3))
  let s := s.when (s.objBool 0x4100 0x0B && decide (s.twin.role ≠ 2)) fun s =>
    (reportParts (kind3.length / 512 + 1) kind3).foldl (fun s b => s.send .porterField 0x50 (.report b)) s
  let s := s.mirror 0x82 (.mClose g (reportDigest kind3))
  ev1.foldl (fun s e => s.onArrival e) s

/-! ### Closes in order (R188, R190) -/

/-- The changes of a sweep's close: each seen tag at its lowest coil, and each covered entry not seen at its own, in
canonical order (R174, R190, R191). -/
def State.closeTodo (s : State) (r : SweepResult) : List CloseItem :=
  let tags := (r.results.flatMap (·.tags)).eraseDups
  let seen : List CloseItem := tags.map fun t =>
    let cs := sortBy (fun c => c) ((r.results.filter fun x => x.tags.contains t).map (·.ca)).eraseDups
    { tag := t, seen := cs, ca := cs.headD 0 }
  let missed : List CloseItem := (s.roster.entries.filter fun p =>
      !(tags.contains p.2.tag) && (r.coils.contains p.2.ca || (decide (p.2.pres = 4) && r.coils.contains p.2.pca))).map
    fun p => { tag := p.2.tag, seen := [], ca := p.2.ca }
  sortBy (fun it : CloseItem => canonKey it.ca it.tag) (seen ++ missed)

/-- Work on the close in progress: it ends, or waits for a quarantined index and is counted once (R188). -/
def State.closeWork (c : Closing) (s : State) : State :=
  let (c, s) := s.closeItems c.todo c
  if c.todo = [] then s.finishClose c
  else
    let w := if c.waited then 0 else 1
    { s with roster := { s.roster with waits := s.roster.waits + w }, sweeps := { s.sweeps with closing := some { c with waited := true } } }

/-- Begin the close of the oldest held result: evictions first (R198), then its changes. -/
def State.closeBegin (r : SweepResult) (s : State) : State :=
  let (c, s) := State.evict 1024 { result := r, todo := s.closeTodo r, confirm := s.objNat 0x4001 1, miss := s.objNat 0x4001 2,
                                   before := s.roster.entries } s
  s.closeWork c

/-- Held results close in order until one waits. -/
def State.closeHeld : Nat → State → State
  | 0, s => s
  | fuel + 1, s =>
    if s.sweeps.closing.isSome then s
    else match s.sweeps.held with
      | [] => s
      | r :: rest => State.closeHeld fuel (({ s with sweeps := { s.sweeps with held := rest } } : State).closeBegin r)

/-- A coil that a stopped sweep has not read: FAILED, reason ABORTED, or FEEDER where its feeder is not OK (R173, R183). -/
def State.abortedCoil (s : State) (ca : Nat) : CoilResult :=
  let bad := decide ((s.feeder (feederOf ca)).status ≠ 1)
  { ca := ca, status := 3, reason := if bad then 4 else 5, own := true, tags := [] }

/-- The last coil result of the running sweep exists: the sweep ends and its results go to the close (R183, R190). -/
def State.sweepClose (obs : List CoilObs) (s : State) : State :=
  let s := s.enterResults obs
  match s.sweeps.running with
  | none => s
  | some r =>
    if r.remaining ≠ [] ∧ ¬ r.stopped then s
    else
      let res : SweepResult := { plan := r.plan, coils := r.coils, results := mergeResults r.coils s.abortedCoil r.results }
      let s : State := { s with sweeps := { s.sweeps with running := none, held := s.sweeps.held ++ [res] } }
      s.closeHeld 8

def execSweepClose (obs : List CoilObs) (s : State) : Result := .next (s.sweepClose obs)

/-- The quarantine of the head index ends, and the waiting close goes on (R188). -/
def execCloseWaitEnd (s : State) : Result :=
  match s.sweeps.closing with
  | none => .next s
  | some c =>
    let s := match s.roster.released with
      | [] => s
      | p :: _ => s.advanceTs (p.2 + 10000000)
    .next ((({ s with sweeps := { s.sweeps with closing := none } } : State).closeWork c).closeHeld 8)

/-- An entry that is emptied loses its security state, which is journalled as a change of its own (R189, R203). -/
def State.emptyEntry (i : Nat) (s : State) : State :=
  let e := s.entry i
  let rec_ := fun (x : Entry) => reportRec i x 4 e.ca
  let s := s.when e.secured fun s => s.commit 2 2 (rec_ { e with secured := false } ++ [0xFF, 0])
  let s := s.when e.origin fun s => s.commit 2 4 (rec_ { e with secured := false, origin := false } ++ [0xFF, 0])
  s.releaseEntry i

/-- Empty the roster (R188, R189): every entry released in index order, no index used since, generation 0, earlier reports
discarded. A close that waits begins again on the empty roster. -/
def State.emptyRoster (s : State) : State :=
  let waiting := s.sweeps.closing
  let s := s.each (s.roster.entries.map (·.1)) State.emptyEntry
  let s : State := { s with roster := { s.roster with gen := 0, fresh := 0, changes := [], digest := 0, overflowGen := false },
                            sweeps := { s.sweeps with closing := none } }
  let s : State := { s with report := {} }
  match waiting with
  | some c => (s.closeBegin c.result).closeHeld 8
  | none => s.closeHeld 8

/-- Build a report (R197, R201): the build starts, and a start while it is building restarts it. -/
def State.reportBuild (s : State) : State := { s with report := { s.report with status := 1 } }

/-- The build completes: kinds 1 and 2 show the roster, kind 3 the changes of a held generation (R197). -/
def execReportReady (s : State) : Result :=
  if s.report.status ≠ 1 then .next s
  else
    let kind := s.objNat 0x4100 1
    let first := s.objNat 0x4100 3
    let last := s.objNat 0x4100 4
    let want := s.objNat 0x4100 2
    let done (flags gen : Nat) (recs : List ReportRec) : State :=
      let b := reportBytes kind flags first last gen recs
      { s with report := { status := 2, bytes := b, nrec := recs.length, digest := reportDigest b } }
    if kind ≠ 3 then .next (done s.roster.flags s.roster.gen (s.entryRecs kind first last))
    else
      let g := if want = 0 then s.roster.gen else want
      match s.roster.changes.find? fun x => decide (x.1 = g) with
      | some (g, flags, recs) =>
        .next (done flags g (recs.filter fun r => decide (first ≤ fieldLE r 0 1 ∧ fieldLE r 0 1 ≤ last)))
      | none => .next { s with report := { s.report with status := 3 } }

end Sys2Proof.Machine
end

