-- ==== Sys2Proof/Machine/CardDetect.lean ====
section
/-!
DEFINITION. Card detection (R224 to R239): SENSE stages, the judgement of bursts, detects, hold-offs, door groups and the
Lantern scanner.
-/

namespace Sys2Proof.Machine

open Sys2Proof

/-! ### Profiles (R226) -/

def senseAddr (p : Nat) : Nat := airAddr (0xB800 + 16 * p)

/-- The bytes of a sense profile. -/
def State.senseProfile (s : State) (p : Nat) : List Byte := s.readBytes (senseAddr p) 16

/-- The table of R226. -/
def senseOk (b : List Byte) : Bool :=
  let pw := signedOf 8 (fieldLE b 0 1)
  let len := fieldLE b 1 1
  decide (-30 ≤ pw ∧ pw ≤ 0) && decide (2 ≤ len ∧ len ≤ 20) && decide (fieldLE b 2 1 < 2) && decide (fieldLE b 3 1 = 0) &&
  decide (sliceBytes b 6 10 = zeros 10)

/-! ### Which coils a sense drives (R225, R233, R234) -/

/-- A feeder is skipped: owned by a chain, in the running sweep's current wave, or under calibration (R233); a feeder that
is not OK, a disabled coil and a module that sends no word are skipped as well. -/
def State.senseSkips (s : State) (ca : Nat) : Bool :=
  let f := feederOf ca
  let owned := (List.range 8).any fun x => ((s.chain x).routed || decide ((s.chain x).st ≠ 0)) && decide ((s.chain x).feeder = f)
  let wave := match s.sweeps.running with
    | some r => (r.needsOf (r.current.map (·.2))).any fun c => c.energises.contains f || c.inputs.contains f
    | none => false
  owned || wave || (s.rx f).calib || decide ((s.feeder f).status ≠ 1) || !(s.objBool (0x2200 + ca) 1) ||
  (!(s.connected ca) && !s.wordsAllowed)

/-- The coils that a SENSE names with its profile (R233). -/
def senseCoils (p : List Byte) (g : Stage) : List Nat :=
  if g.tsel then
    let m := fieldLE p 4 2
    ((List.range 16).filter fun f => decide (bitsOf m f 1 = 1)).map fun f => 16 * f + g.target % 16
  else [g.target]

/-- The words and bursts of a sense over coils (R225, R233). -/
def State.senseOver (t : Nat) (cas : List Nat) (s : State) : State :=
  let cas := cas.filter fun ca => !(s.senseSkips ca)
  let ms : List Member := cas.map fun ca => { chain := t, ca := ca, phase := 0, power := 0, clamp := false }
  let s := s.modTrack t fun tr => { tr with members := ms, st := if tr.st = 6 then 6 else 2 }
  let need := cas.filter fun ca => !(s.connected ca)
  if need = [] then s.beginBursts t ms else s.sendWords t 1 need

/-- The stage of a firmware's row sense: SENSE with TSEL 1, no packet (R236). -/
def rowStage (row p : Nat) : List Byte := natLE 4 13 ++ natLE 4 0 ++ natLE 4 (row * 65536 + 2 ^ 24) ++ natLE 4 p ++ zeros 16

/-- The firmware's row sense (R236): on TS while that stands stopped in Run and a Run rate is set, over the coils of the Run set in
the next row that holds any, with the Run profile. When each becomes due is the queue's; log 106. -/
def State.senseRow (s : State) : State :=
  let p := s.objNat 0x2400 3
  let prof := s.senseProfile p
  let on (row f : Nat) : Bool := s.objBool (0x2500 + (16 * f + row)) 1
  let rows := ((List.range 16).map fun i => (s.sense.row + i) % 16).filter fun r => (List.range 16).any (on r)
  match rows with
  | [] => s
  | r :: _ =>
    if s.objNat 0x2400 2 = 0 ∨ s.power.state ≠ 0 ∨ (s.track 8).st ≠ 0 ∨ senseOk prof = false then s
    else
      let mask := ((List.range 16).filter (on r)).foldl (fun m f => m + 2 ^ f) 0
      let s : State := { s with sense := { s.sense with row := (r + 1) % 16 } }
      let s := s.modTrack 8 fun tr => { tr with raw := rowStage r p, rowSense := true, startCc := s.tb.cc, dueCc := s.tb.cc,
                                                data := { sense := sliceBytes prof 0 4 ++ natLE 2 mask ++ zeros 10 } }
      s.senseOver 8 (senseCoils (s.track 8).data.sense (s.track 8).cur)

/-- SENSE (R233): words where another coil is connected, then the bursts. On TS with no stage to begin it is the firmware's row
sense (R236). -/
def execSense (t : Fin 9) (s : State) : Result :=
  .next (if t = 8 ∧ (s.track t).st = 0 then s.senseRow else s.beginStage t 13 true (fun g s => s.readable (senseAddr g.wave) 16 (if senseOk (s.senseProfile g.wave) then .good else .illegal))
    fun g s => s.senseOver t (senseCoils (s.track t).data.sense g))

/-! ### Judging a burst (R227 to R230) -/

/-- The baseline in use: I, Q, learned. -/
def SenseCoil.base (c : SenseCoil) (closed : Bool) : Int × Int × Bool :=
  if closed then (c.closedI, c.closedQ, c.closedSet) else (c.openI, c.openQ, c.openSet)
def SenseCoil.setBase (closed : Bool) (i q : Int) (c : SenseCoil) : SenseCoil :=
  if closed then { c with closedI := i, closedQ := q, closedSet := true } else { c with openI := i, openQ := q, openSet := true }

/-- What a burst's judgement shows (R228, R235). -/
structure Judgement where
  out : Nat := 1
  skip : Bool := false
  hold : Bool := false
  closed : Bool := false
  init : Bool := false
  i : Int := 0
  q : Int := 0
  dev : Nat := 0
  latched : Bool := false
  deriving DecidableEq, Repr

/-- The mean of at most four values; a code between two values falls as the implementation rounds (log 12). -/
def meanOf (l : List Int) : Int :=
  if l = [] then 0
  else
    let m : Rat := ((l.foldl (· + ·) 0 : Int) : Rat) / (l.length : Rat)
    if Config.roundUp m then m.ceil else m.floor

/-- A detection hold-off ends: the baseline in use becomes the mean of the last four bursts judged (R230). -/
def State.holdEnd (ca : Nat) (s : State) : State :=
  let closed := s.doorClosed ca
  s.modSense ca fun c =>
    let c := { c with hold := false }
    if c.last = [] then c else c.setBase closed (meanOf (c.last.map (·.1))) (meanOf (c.last.map (·.2)))

/-- A detect (R230): the latch, the hold-off, over at once where its time is 0, the event and the start request; in Lantern, with the cores off, the event
and the request wait. -/
def State.detect (ca dev profile : Nat) (closed : Bool) (s : State) : State :=
  let c := s.coilSense ca
  let (bi, bq, _) := c.base closed
  let rec_ := [b8 ca] ++ natLE 2 dev ++ [b8 (bit closed)] ++ natLE 2 (codeOf 16 bi) ++ natLE 2 (codeOf 16 bq) ++ [b8 profile]
  let s := s.modSense ca fun c => { c with latched := true, hold := true, detects := c.detects + 1 }
  let s := s.when (decide (s.objNat (0x2500 + ca) 6 = 0)) (State.holdEnd ca)
  let p := s.objNat (0x2500 + ca) 5
  if s.power.state = 1 then { s with sense := { s.sense with late := s.sense.late ++ [(rec_, p)] } }
  else
    let s := s.commit 3 1 rec_
    if p < 16 then s.requestSweep p none else s

/-- Detects of Lantern take their event and request once the cores run. -/
def State.lateDetects (s : State) : State :=
  let l := s.sense.late
  let s : State := { s with sense := { s.sense with late := [] } }
  l.foldl (fun s x => let s := s.commit 3 1 x.1; if x.2 < 16 then s.requestSweep x.2 (some s.tb.ts) else s) s

/-- Out-of-band energy during a burst stands above the feeder's impulse threshold over its floor (R228, R135). -/
def State.noisy (s : State) (b : Burst) : Bool :=
  decide ((b.energy : Rat) > (s.rx (feederOf b.ca)).floor + (s.objNat (0x3010 + feederOf b.ca) 1 : Nat))

/-- One burst is judged by the first row of R228 that applies; `closed` is the baseline set in use at its start. -/
def State.judgeBurst (b : Burst) (profile : Nat) (closed noadapt : Bool) (s : State) : Judgement × State :=
  let c := s.coilSense b.ca
  let (bi, bq, set) := c.base closed
  let dev := min 65535 ((b.i - bi).natAbs + (b.q - bq).natAbs)
  let j : Judgement := { closed := closed, i := b.i, q := b.q, dev := dev }
  let seen (s : State) : State := s.modSense b.ca fun c => { c with dev := dev, last := (b.i, b.q) :: c.last.take 3 }
  if s.noisy b then ({ j with out := 4 }, s)
  else if ¬ set then ({ j with init := true }, s.modSense b.ca fun c => { c.setBase closed b.i b.q with dev := dev })
  else if c.hold ∨ c.doorHold then ({ j with hold := true }, seen s)
  else if dev ≥ s.objNat (0x2500 + b.ca) 2 then ({ j with out := 0, latched := true }, (seen s).detect b.ca dev profile closed)
  else if noadapt then (j, seen s)
  else
    let k := s.objNat 0x2400 1
    let ad (x m : Int) : Int := x + (m - x) / (2 ^ k : Nat)
    (j, (seen s).modSense b.ca fun c => c.setBase closed (ad bi b.i) (ad bq b.q))

/-- A skipped coil (R228, row 1): its measured fields are no measurement, and free. -/
def State.skipJudgement (ca : Nat) (s : State) : Judgement × State :=
  let n := s.fresh
  let j : Judgement := { skip := true, closed := s.doorClosed ca, i := signedOf 16 (Config.freeNat n), q := signedOf 16 (Config.freeNat (n + 1)),
                         dev := Config.freeNat (n + 2) % 65536 }
  (j, { s.draw.draw.draw with sense := { s.sense with skipped := s.sense.skipped + 1 } })

/-- The bursts of a sense, in CA order, with each coil's judgement against the baseline set of its burst's start (R227). -/
def State.judgeBursts (profile : Nat) (shut : List Nat) (noadapt : Bool) : List Burst → State → List (Nat × Judgement) × State
  | [], s => ([], s)
  | b :: bs, s =>
    let (j, s) := s.judgeBurst b profile (shut.contains b.ca) noadapt
    let (js, s) := State.judgeBursts profile shut noadapt bs s
    ((b.ca, j) :: js, s)

/-- The sense-result packet (R235). -/
def sensePacket (tr : Track) (ca profile cc : Nat) (j : Judgement) : List (List Byte) :=
  mkPacket [(10, [b8 (j.out + 8 * bit j.skip + 16 * bit j.hold + 32 * bit j.closed + 64 * bit j.init)] ++ natLE 2 tr.stage ++
    [b8 ca] ++ natLE 2 (codeOf 16 j.i) ++ natLE 2 (codeOf 16 j.q) ++ natLE 2 j.dev ++ [b8 profile] ++ natLE 4 cc)]

/-- A SENSE stage ends with its result on a coil (R66, R233). -/
def State.endSense (t ca out : Nat) (j : Judgement) (cc : Nat) (s : State) : State :=
  let s := s.modTrack t fun tr => { tr with lout := out, notOk := if out = 0 then tr.notOk else some s.tb.cc, predEnd := s.tb.cc, phase := .none, members := [] }
  let s := s.choose t out
  let tr := s.track t
  if tr.rowSense then s.setTrack t { tr.stopped with rowSense := false }
  else if tr.cur.posts out then
    s.post t (sensePacket tr ca tr.cur.wave cc { j with out := out }) (if tr.st = 6 then 2 else 1) tr.cur.pirq
  else s.goOn t

/-- The outcome of a sense (R233): OK if a coil latched, else IMPULSE if one gave it, else SILENT. -/
def senseOutcome (js : List (Nat × Judgement)) : Nat :=
  if js.any (·.2.latched) then 0 else if js.any (fun p => decide (p.2.out = 4)) then 4 else 1

/-- The packet is of the lowest coil that latched, or else of the lowest one sensed (R233). -/
def senseShown (js : List (Nat × Judgement)) : Option (Nat × Judgement) :=
  match js.find? fun p => p.2.latched with
  | some p => some p
  | none => js.head?

/-- The bursts of a SENSE stage end, SLEN after their start (R226, R228, R233); coils without a burst are skipped. -/
def State.trackBursts (t : Nat) (bs : List Burst) (s : State) : State :=
  let tr := s.track t
  let g := tr.cur
  let cas := tr.members.map (·.ca)
  let p := tr.data.sense
  let start := if tr.burst.isSome then tr.markCc else s.tb.cc
  let shut := tr.burst.getD (cas.filter s.doorClosed)
  let bs := sortBy (fun b : Burst => b.ca) (bs.filter fun b => cas.contains b.ca)
  let s := if bs = [] then s else s.advanceTo ((start + usCt (fieldLE p 1 1)) % 2 ^ 48)
  let skipped := (senseCoils p g).filter fun ca => !(bs.any fun b => decide (b.ca = ca))
  let (js, s) := s.judgeBursts g.wave shut (decide (bitsOf (fieldLE p 2 1) 0 1 = 1)) bs
  let (ks, s) := skipped.foldl (fun (a : List (Nat × Judgement) × State) ca =>
    let (j, s) := a.2.skipJudgement ca; (a.1 ++ [(ca, j)], s)) ([], s)
  let s := bs.foldl (fun s b => s.emit (.senseBurst b.ca (signedOf 8 (fieldLE p 0 1)) (fieldLE p 1 1))) s
  match senseShown js, ks.head? with
  | some (ca, j), _ => s.endSense t ca (senseOutcome js) j start
  | none, some (ca, j) => s.endSense t ca 1 j start
  | none, none => s.endSense t g.target 1 { skip := true } start

/-- The scanner goes to the first coil left in its scan (R225, R237): its word is sent where another coil is connected. -/
def State.lanternNext (s : State) : State :=
  match s.sense.scanCoils with
  | [] => { s with sense := { s.sense with word := none } }
  | ca :: _ =>
    if s.connected ca ∨ ¬ s.wordsAllowed then { s with sense := { s.sense with word := none } }
    else (s.sendWord ca).when true fun s => { s with sense := { s.sense with word := some (ca, 1, s.tb.cc) } }

/-- The scanner's coil is left, and the next one follows. -/
def State.lanternLeave (ca : Nat) (s : State) : State :=
  ({ s with sense := { s.sense with scanCoils := s.sense.scanCoils.filter (· ≠ ca), repeating := false, word := none } }).lanternNext

/-- The scanner's word has had its 48 µs and the settle (R90, R225): acknowledged, the burst may follow; if not it is counted,
and sent once more or given up. -/
def State.lanternSettle (s : State) : State :=
  match s.sense.word with
  | none => s
  | some (ca, tries, cc) =>
    let s := s.advanceTo ((cc + usCt 60) % 2 ^ 48)
    if (s.feeder (feederOf ca)).acked then { s with sense := { s.sense with word := none } }
    else
      let s := s.modFeeder (feederOf ca) fun x => { x with unacked := x.unacked + 1 }
      if tries = 1 then
        let s := s.sendWord ca
        { s with sense := { s.sense with word := some (ca, 2, s.tb.cc) } }
      else ((s.skipJudgement ca).2).lanternLeave ca

/-- The Lantern scanner's burst on the coil that it is at, once that is connected (R237): its power is at most −6 dBm; on
IMPULSE it repeats once, a second IMPULSE leaves the coil. -/
def State.lanternBurst (b : Burst) (s : State) : State :=
  let s := s.lanternSettle
  if s.sense.scanCoils.head? ≠ some b.ca ∨ s.connected b.ca = false then s
  else
    let p := s.objNat 0x2400 5
    let q := s.senseProfile p
    let closed := s.doorClosed b.ca
    let s := (s.advance (usCt (fieldLE q 1 1))).emit (.senseBurst b.ca (min (-6) (signedOf 8 (fieldLE q 0 1))) (fieldLE q 1 1))
    let (j, s) := s.judgeBurst b p closed (decide (bitsOf (fieldLE q 2 1) 0 1 = 1))
    let again := decide (j.out = 4) && !s.sense.repeating
    ({ s with sense := { s.sense with repeatCa := if again then some b.ca else none } }).lanternLeave b.ca

/-- A burst ends (R228): of a track's SENSE stage, while no receive chain listens (R234), or of the Lantern scanner. -/
def execBurstEnd (by_ : SenseBy) (bs : List Burst) (s : State) : Result :=
  match by_ with
  | .track t => if (s.track t).phase = .sense ∧ ((s.track t).burst.isSome ∨ s.anyListen = false) then .next (s.trackBursts t bs) else .next s
  | .lantern => if s.power.state ≠ 1 then .next s else .next (bs.foldl (fun s b => s.lanternBurst b) s)

/-- A sense that waited more than 1 ms for listens to end is skipped (R234); a Lantern coil whose word stays
unacknowledged after its repeat as well (R225). -/
def execSenseSkipped (by_ : SenseBy) (s : State) : Result :=
  match by_ with
  | .track t =>
    let tr := s.track t
    if tr.phase = .sense ∧ tr.burst.isNone ∧ s.anyListen then
      .next ((s.advanceTo ((tr.markCc + usCt 1000) % 2 ^ 48)).trackBursts t [])
    else .next s
  | .lantern =>
    match s.sense.scanCoils with
    | [] => .next s
    | ca :: _ =>
      let s := s.lanternSettle.lanternSettle
      if s.sense.scanCoils.head? = some ca then .next (((s.skipJudgement ca).2).lanternLeave ca) else .next s

/-! ### Hold-offs and doors (R230, R232) -/

/-- HOLD_OFF_END (R230). -/
def execHoldOffEnd (ca : BitVec 8) (s : State) : Result :=
  .next (if (s.coilSense ca.toNat).hold then s.holdEnd ca.toNat else s)

/-- A write to a door group starts the door hold-off on every coil of the group (R232). -/
def State.writeDoorGroup (g : Nat) (v : List Byte) (s : State) : State :=
  let s := s.setObj 0x2401 (g + 1) v
  let cas := (List.range 256).filter fun ca => decide (s.objNat (0x2500 + ca) 4 = g)
  if s.objNat 0x2400 6 = 0 then s
  else s.each cas fun ca => State.modSense ca fun c => { c with doorHold := true }

/-- A door hold-off ends, with no relearning (R232). -/
def execDoorHoldOffEnd (ca : BitVec 8) (s : State) : Result :=
  .next (s.modSense ca.toNat fun c => { c with doorHold := false })

/-- A relearn clears both learned flags of every coil (R241). -/
def State.relearn (s : State) : State :=
  s.each (s.sense.coils.map (·.1)) fun ca => State.modSense ca fun c => { c with openSet := false, closedSet := false }

/-! ### Lantern (R237) -/

/-- The coils of the Lantern set, in CA order. -/
def State.lanternSet (s : State) : List Nat := (List.range 256).filter fun ca => s.objBool (0x2500 + ca) 3

/-- The limits of R237 on the set and the period. -/
def State.lanternLimits (s : State) : Bool :=
  let n := s.lanternSet.length
  let ms := s.objNat 0x2400 4
  decide (n ≤ 32) && decide (n * 1000 ≤ 128 * ms)

/-- Each Lantern period the scanner senses its set in ascending CA order (R237); a feeder that is not OK is skipped. The word of
the first coil goes out where it needs one (R225). -/
def execLanternScan (s : State) : Result :=
  if s.power.state ≠ 1 ∨ ¬ s.sense.scanner ∨ senseOk (s.senseProfile (s.objNat 0x2400 5)) = false then .next s
  else
    let all := s.lanternSet
    let out := all.filter fun ca => decide ((s.feeder (feederOf ca)).status ≠ 1) || !(s.objBool (0x2200 + ca) 1)
    let s := s.each out fun ca s => (s.skipJudgement ca).2
    let go := all.filter fun ca => !(out.contains ca)
    .next ({ s with sense := { s.sense with scanCoils := go, repeatCa := none, repeating := false, word := none } }).lanternNext

/-- 2 ms after an IMPULSE the scanner repeats that burst once (R237). -/
def execImpulseRepeat (s : State) : Result :=
  match s.sense.repeatCa with
  | none => .next s
  | some ca =>
    if s.power.state ≠ 1 then .next s
    else
      let s := s.advance (usCt 2000)
      .next ({ s with sense := { s.sense with scanCoils := ca :: s.sense.scanCoils, repeatCa := none, repeating := true, word := none } }).lanternNext

/-- Card-detect latches set (R240). -/
def State.latches (s : State) : List Nat := (s.sense.coils.filter fun p => p.2.latched).map (·.1)

end Sys2Proof.Machine
end

