-- ==== Sys2Proof/Machine/KenierCore.lean ====
section
/-!
DEFINITION. How a Kenier core issues an instruction: traps, delay slots, locked sequences, guest rules (R246, R247, R251,
R252, R257 to R266, R272, R276), as shared operations.
-/

namespace Sys2Proof.Machine

open Sys2Proof

/-! ### Traps (R263 to R265) -/

/-- The capture of an access that a BUS trap or a faulting debug access carries, without a record (R395). -/
def State.captureAccess (d : Die) (acc : Access) (s : State) : State :=
  let c := s.collector d
  if c.cap.frozen then s
  else s.setCollector d { c with cap := { frozen := true, adr := acc.adr, master := acc.master, typ := acc.typ, ts := s.tb.ts,
                                          cc := (match d with | .field => s.tb.cc | .host => 0) } }

/-- Trap entry on a core (R263). A synchronous trap while TRP is 1 is a double trap (R265). `tpc` is the resume address
outside a delay slot; in a slot the branch is named. -/
def State.trap (k : Die) (cause code : Nat) (tpc : BitVec 25) (s : State) : State :=
  let c := (s.core k).complete
  let s : State := if k = .field then { s with dbg := { s.dbg with stepping := false } } else s
  if c.trp ∧ cause ≠ 16 then
    (s.setCore k { c with stopped := true }).raiseFault k 10 4 4 (natLE 4 tpc.toNat)
  else
    let back : BitVec 25 := match c.slot with | some x => BitVec.ofNat 25 x.branch | none => tpc
    let tv := c.tvec.toNat
    s.setCore k { c with
      tstat := c.kstat ||| BitVec.ofNat 32 (256 * bit c.slot.isSome), tpc := back, trp := true, ie := false, guest := false,
      tcause := BitVec.ofNat 32 (cause + 32 * code), slot := none, past := false,
      pc := BitVec.ofNat 25 (tv / 65536 * 65536 + (tv + 32 * cause) % 65536) }

/-- A trap of the instruction at the core's own address. -/
def State.trapHere (k : Die) (cause : Nat) (s : State) : State := s.trap k cause 0 (s.core k).pc

/-- A BUS trap: TADDR holds the address (R258), and the access is captured (R395). -/
def State.trapBus (k : Die) (a typ : Nat) (s : State) : State :=
  let s := s.captureAccess k { adr := a, master := 0, typ := typ }
  (s.modCore k fun c => { c with taddr := BitVec.ofNat 25 a }).trapHere k 3

/-- A guest rule is broken (R272): trap GUEST, and firmware stops the handler. -/
def State.trapGuest (k : Die) (s : State) : State :=
  let a := (s.core k).pc.toNat
  (s.trapHere k 9).guestStop a

/-! ### Locks (R260, R261, R268, R276) -/

/-- A debug halt is served (R276). -/
def State.halted (s : State) : State :=
  { s with dbg := { s.dbg with halted := true, defer := false, stepping := false, halts := s.dbg.halts + 1 } }

/-- A performance-level transition begins: the cores stop for 40 us (R268, R407). -/
def State.startTransition (level : Nat) (s : State) : State :=
  { s with power := { s.power with trans := true, reqLevel := level, deferredLevel := none } }

/-- A level request: none for the level in use; in a lock or a transition it waits (R268). -/
def State.requestLevel (l : Nat) (s : State) : State :=
  if s.coreF.lock ∨ s.power.trans then { s with power := { s.power with deferredLevel := some l } }
  else if l = s.power.level then { s with power := { s.power with reqLevel := l } }
  else s.startTransition l

/-- The requests that a lock deferred are served once it has ended (R260, R261). -/
def State.serveDeferred (k : Die) (s : State) : State :=
  match k with
  | .host => s
  | .field =>
    let s := s.when s.dbg.defer State.halted
    match s.power.deferredLevel with
    | some l => s.startTransition l
    | none => s

/-- The lock ends. -/
def State.unlock (k : Die) (s : State) : State :=
  (s.modCore k fun c => { c with lock := false, lockCt := 0, lockCycles := 0 }).serveDeferred k

/-- A broken lock (R261): LOCK clears, trap LOCKOVR names the instruction not executed, a firmware Degrade is raised, and
deferred requests are served. -/
def State.breakLock (k : Die) (s : State) : State :=
  let a := (s.core k).pc
  let s := s.modCore k fun c => { c with lock := false, lockCt := 0, lockCycles := 0 }
  ((s.trapHere k 8).raiseFault k 10 3 2 (natLE 4 a.toNat)).serveDeferred k

/-- ILLEGAL inside a locked sequence by one of the instructions of R260 ends the lock. -/
def State.trapIllegalEnd (k : Die) (s : State) : State :=
  let lock := (s.core k).lock
  let s := s.modCore k fun c => { c with lock := false, lockCt := 0, lockCycles := 0 }
  (s.trapHere k 1).when lock (State.serveDeferred k)

/-! ### Check bits of the words a core reads (R281, R282, R297) -/

/-- A word of the host side's SRAM has an uncorrectable error. -/
def State.hostEccBad (s : State) (a : Nat) : Bool := decide (bankOf a < 0x20) && decide (Tab.get 0 s.ecc.hostBad (a / 8) = 2)

/-- Single-bit errors of the host word are corrected (R297). -/
def State.hostEccFix (a : Nat) (s : State) : State :=
  if bankOf a < 0x20 ∧ Tab.get 0 s.ecc.hostBad (a / 8) = 1 then
    { s with ecc := { s.ecc with hostBad := s.ecc.hostBad.erase (a / 8), hostCorrected := s.ecc.hostCorrected + 1 } }
  else s

/-- What a load finds of its word's check bits: none, or an uncorrectable error (R281, R282). -/
def State.wordBad (s : State) (k : Die) (a : Nat) : Bool :=
  match k with
  | .field => decide (bankOf a < 0x100) && s.eccBad a 1
  | .host => s.hostEccBad a

def State.wordFix (k : Die) (a : Nat) (s : State) : State := match k with | .field => s.eccFix a 1 | .host => s.hostEccFix a

/-- The fault of an uncorrectable word met by a core (R282, R297). -/
def State.wordFault (k : Die) (a typ : Nat) (s : State) : State :=
  match k with
  | .field => s.eccFault a 0 typ
  | .host => s.raiseFaultAt .host 1 2 (eccLevel (bankOf a)) (natLE 4 a) (some { adr := a, master := 0, typ := typ })

/-! ### Issue and completion -/

/-- The kinds of instruction that the slot, lock and guest rules tell apart (R252, R260, R272): whether it may stand in a
delay slot, in a locked sequence, and in guest code. -/
structure IssueRule where
  inSlot : Bool := true
  inLock : Bool := true
  inGuest : Bool := true
  /-- It is ULK, which closes a lock in its ninth place. -/
  closes : Bool := false
  deriving DecidableEq, Repr

/-- A core executes: it is not stopped, halted, in transition, in reset or without power (R265, R268, R276, R390, R409). -/
def State.coreRuns (s : State) (k : Die) : Bool :=
  !(s.core k).stopped &&
  (match k with
   | .field => decide (s.power.state = 0) && !s.power.trans && (!s.dbg.halted || s.dbg.stepping)
   | .host => decide (s.power.state ≠ 3) && !s.power.hostAsleep && !s.power.hostReset)

/-- The bank of an address may be fetched from (R258, R272). -/
def fetchable (guest : Bool) (bank : Nat) : Bool :=
  if guest then decide (0x20 ≤ bank ∧ bank < 0x40) else decide (bank < 0x40 ∨ bank = 0x1C0)

/-- Core cycles pass: they count in CYCLEL, in a lock, and in guest mode against the handler's budget (R261, R262, R272). -/
def State.cycles (k : Die) (n : Nat) (s : State) : State :=
  let guest := decide (k = .field) && (s.core k).guest
  let s := s.modCore k fun c => { c with cycle := (c.cycle + n) % 2 ^ 64, lockCycles := if c.lock then c.lockCycles + n else c.lockCycles }
  s.when guest fun s => { s with guest := { s.guest with cycles := s.guest.cycles + n } }

/-- The core cycles of one instruction: one, and the wait states and interlocks that no rule fixes (R255). -/
def State.spend (k : Die) (s : State) : State := s.draw.cycles k (1 + Config.stallCycles s.fresh)

/-- A guest handler has run its cycle budget (R272). -/
def State.guestSpent (s : State) (k : Die) : Bool :=
  decide (k = .field) && s.coreF.guest && s.guest.running.isSome && decide (s.guest.cycles ≥ s.objNat 0x6130 3)

/-- The checks before an instruction acts, in order: a broken lock, a guest budget run out, fetch past the end of a bank, the fetch itself, the
slot and lock rules, the guest rules; then the instruction. A core that does not execute ignores it; one in WAIT goes on
only with an enabled interrupt pending (R251). -/
def State.issue (k : Die) (r : IssueRule) (act : State → State) (s : State) : State :=
  let c := s.core k
  if s.coreRuns k = false ∨ (c.waiting ∧ s.irqReady k = false) then s
  else
    let s := s.modCore k fun c => { c with waiting := false }
    let a := c.pc.toNat
    if c.lock ∧ (c.lockCycles ≥ 32 ∨ (c.lockCt ≥ 8 ∧ ¬ r.closes)) then s.breakLock k
    else if s.guestSpent k ∧ c.slot = none then s.trapGuest k
    else if c.past then s.trapHere k 10
    else if a % 4 ≠ 0 then s.trapHere k 2
    else if fetchable c.guest (bankOf a) = false then (if c.guest then s.trapGuest k else s.trapBus k a 2)
    else if s.wordBad k a then (s.wordFault k a 2).trapBus k a 2
    else if c.lock ∧ ¬ r.inLock then s.trapIllegalEnd k
    else if c.slot.isSome ∧ ¬ r.inSlot then s.trapHere k 1
    else if c.guest ∧ ¬ r.inGuest then s.trapGuest k
    else act (s.wordFix k a)

/-- The address after a core's instruction; at offset 0xFFFC the next sequential fetch traps (R258). -/
def Kenier.step (c : Kenier) : Kenier :=
  if c.pc.toNat % 65536 = 0xFFFC then { c with past := true } else { c with pc := c.pc + 4 }

/-- The next address of a completed instruction: after a delay slot the transfer and its window change take place. -/
def Kenier.advance (c : Kenier) : Kenier :=
  match c.slot with
  | none => c.step
  | some x =>
    if x.window = 3 then { c with slot := none }.step
    else
      let w := if x.window = 1 then c.wnow + 1 else if x.window = 2 then c.wnow - 1 else c.wnow
      { c with slot := none, past := false, pc := BitVec.ofNat 25 x.target, wnow := w }

/-- A single step is over, and a halt request served, once no slot and no lock is open (R276). -/
def State.stepDone (k : Die) (s : State) : State :=
  if k = .field ∧ s.dbg.defer ∧ s.coreF.slot = none ∧ s.coreF.lock = false then s.halted
  else if k = .field ∧ s.dbg.stepping ∧ s.coreF.slot = none ∧ s.coreF.lock = false then
    { s with dbg := { s.dbg with stepping := false } }
  else s

/-- An instruction completes: time, product and distance accounts, lock count, next address. -/
def State.retire (k : Die) (s : State) : State :=
  let s := s.spend k
  (s.modCore k fun c => { c with lockCt := if c.lock then c.lockCt + 1 else 0 }.age.advance).stepDone k

/-- An instruction that writes one register. -/
def State.writeBack (k : Die) (rd : RegNo) (v : Word) (dist : Nat) (s : State) : State :=
  (s.modCore k (Kenier.setReg rd v dist)).retire k

/-- A plain register instruction: issue, compute from the core's registers, write back. -/
def State.alu (k : Die) (rd : RegNo) (f : Kenier → Word) (s : State) : State :=
  s.issue k {} fun s => s.writeBack k rd (f (s.core k)) 1

/-- A transfer with one delay slot: the instruction completes and its slot executes next (R252). -/
def State.transfer (k : Die) (target window : Nat) (s : State) : State :=
  let b := (s.core k).pc.toNat
  let s := s.spend k
  s.modCore k fun c =>
    let c := { c with lockCt := if c.lock then c.lockCt + 1 else 0 }.age.step
    { c with slot := some { branch := b, target := target % 2 ^ 25, window := window } }

/-- The target of a B- or J-format transfer (R250). -/
def Kenier.target (c : Kenier) (disp : BitVec 16) : Nat :=
  let a := c.pc.toNat
  a / 65536 * 65536 + ((((a % 65536 + 4 : Nat) : Int) + 4 * disp.toInt) % 65536).toNat

end Sys2Proof.Machine
end

