-- ==== Sys2Proof/Machine/KenierAlu.lean ====
section
/-!
DEFINITION. The Kenier core's register instructions, multiplier and transfers (R246, R247, R249, R250, R253, R259).
-/

namespace Sys2Proof.Machine

open Sys2Proof

/-! ### R format (R249) -/

def execAdd (k : Die) (rd ra rb : RegNo) (s : State) : Result := .next (s.alu k rd fun c => c.reg ra + c.reg rb)
def execSub (k : Die) (rd ra rb : RegNo) (s : State) : Result := .next (s.alu k rd fun c => c.reg ra - c.reg rb)
def execAnd (k : Die) (rd ra rb : RegNo) (s : State) : Result := .next (s.alu k rd fun c => c.reg ra &&& c.reg rb)
def execOr (k : Die) (rd ra rb : RegNo) (s : State) : Result := .next (s.alu k rd fun c => c.reg ra ||| c.reg rb)
def execXor (k : Die) (rd ra rb : RegNo) (s : State) : Result := .next (s.alu k rd fun c => c.reg ra ^^^ c.reg rb)
def execAndn (k : Die) (rd ra rb : RegNo) (s : State) : Result := .next (s.alu k rd fun c => c.reg ra &&& ~~~(c.reg rb))
def execClt (k : Die) (rd ra rb : RegNo) (s : State) : Result :=
  .next (s.alu k rd fun c => flagWord ((c.reg ra).slt (c.reg rb)))
def execCltu (k : Die) (rd ra rb : RegNo) (s : State) : Result :=
  .next (s.alu k rd fun c => flagWord ((c.reg ra).ult (c.reg rb)))
def execShl (k : Die) (rd ra : RegNo) (sh : BitVec 5) (s : State) : Result := .next (s.alu k rd fun c => c.reg ra <<< sh.toNat)
def execShr (k : Die) (rd ra : RegNo) (sh : BitVec 5) (s : State) : Result := .next (s.alu k rd fun c => c.reg ra >>> sh.toNat)
def execShra (k : Die) (rd ra : RegNo) (sh : BitVec 5) (s : State) : Result :=
  .next (s.alu k rd fun c => (c.reg ra).sshiftRight sh.toNat)
def execShlr (k : Die) (rd ra rb : RegNo) (s : State) : Result :=
  .next (s.alu k rd fun c => c.reg ra <<< ((c.reg rb).toNat % 32))
def execShrr (k : Die) (rd ra rb : RegNo) (s : State) : Result :=
  .next (s.alu k rd fun c => c.reg ra >>> ((c.reg rb).toNat % 32))
def execShrar (k : Die) (rd ra rb : RegNo) (s : State) : Result :=
  .next (s.alu k rd fun c => (c.reg ra).sshiftRight ((c.reg rb).toNat % 32))

/-! ### The multiplier (R253, R256) -/

/-- The product of two words, signed or unsigned, in 64 bits. -/
def product (signed : Bool) (a b : Word) : BitVec 64 :=
  if signed then a.signExtend 64 * b.signExtend 64 else a.zeroExtend 64 * b.zeroExtend 64

/-- A multiply starts; its product arrives at the end of the third cycle. -/
def State.multiply (k : Die) (signed acc : Bool) (ra rb : RegNo) (s : State) : State :=
  s.issue k {} fun s =>
    let v := product signed ((s.core k).reg ra) ((s.core k).reg rb)
    (s.modCore k (Kenier.startProduct v acc)).retire k

def execMul (k : Die) (ra rb : RegNo) (s : State) : Result := .next (s.multiply k true false ra rb)
def execMulu (k : Die) (ra rb : RegNo) (s : State) : Result := .next (s.multiply k false false ra rb)
def execMac (k : Die) (ra rb : RegNo) (s : State) : Result := .next (s.multiply k true true ra rb)
def execMacu (k : Die) (ra rb : RegNo) (s : State) : Result := .next (s.multiply k false true ra rb)

/-- The product that stands at the end of its third cycle reaches PH and PL (R253). In Bare mode, while the core executes, that
end is counted in instructions (R255), and is not before it. -/
def execProductWrite (k : Die) (s : State) : Result :=
  let c := s.core k
  .next (if c.bare ∧ s.coreRuns k ∧ ¬ c.waiting then s else s.modCore k Kenier.arrive)

/-- In Guarded mode an access to PH:PL too close to a multiply may find the product arrived (R256): a free choice. -/
def State.settleProducts (k : Die) (s : State) : State :=
  let c := s.core k
  if c.bare ∨ c.products = [] then s
  else
    let n := s.fresh
    let s := s.draw
    if Config.productArrived n then s.modCore k (Kenier.arriveAll c.products.length) else s

def execRdph (k : Die) (rd : RegNo) (s : State) : Result :=
  .next (s.issue k {} fun s => let s := s.settleProducts k; s.writeBack k rd (s.core k).ph 1)
def execRdpl (k : Die) (rd : RegNo) (s : State) : Result :=
  .next (s.issue k {} fun s => let s := s.settleProducts k; s.writeBack k rd (s.core k).pl 1)
def execWrph (k : Die) (ra : RegNo) (s : State) : Result :=
  .next (s.issue k {} fun s => ((s.settleProducts k).modCore k fun c => { c with ph := c.reg ra }).retire k)
def execWrpl (k : Die) (ra : RegNo) (s : State) : Result :=
  .next (s.issue k {} fun s => ((s.settleProducts k).modCore k fun c => { c with pl := c.reg ra }).retire k)

/-! ### I format without memory (R250) -/

def execAddi (k : Die) (rd ra : RegNo) (imm : BitVec 16) (s : State) : Result :=
  .next (s.alu k rd fun c => c.reg ra + imm.signExtend 32)
def execAndi (k : Die) (rd ra : RegNo) (imm : BitVec 16) (s : State) : Result :=
  .next (s.alu k rd fun c => c.reg ra &&& imm.zeroExtend 32)
def execOri (k : Die) (rd ra : RegNo) (imm : BitVec 16) (s : State) : Result :=
  .next (s.alu k rd fun c => c.reg ra ||| imm.zeroExtend 32)
def execXori (k : Die) (rd ra : RegNo) (imm : BitVec 16) (s : State) : Result :=
  .next (s.alu k rd fun c => c.reg ra ^^^ imm.zeroExtend 32)
def execClti (k : Die) (rd ra : RegNo) (imm : BitVec 16) (s : State) : Result :=
  .next (s.alu k rd fun c => flagWord ((c.reg ra).slt (imm.signExtend 32)))
def execCltiu (k : Die) (rd ra : RegNo) (imm : BitVec 16) (s : State) : Result :=
  .next (s.alu k rd fun c => flagWord ((c.reg ra).ult (imm.signExtend 32)))
def execLdhi (k : Die) (rd : RegNo) (imm : BitVec 16) (s : State) : Result :=
  .next (s.alu k rd fun _ => imm.zeroExtend 32 <<< 16)

/-! ### Jumps, calls and returns (R246, R247, R249) -/

/-- A transfer whose target is read from a register stalls fetch for one cycle (R259). -/
def State.transferBy (k : Die) (target window : Nat) (s : State) : State := (s.cycles k 1).transfer k target window

/-- A transfer may not stand in a delay slot (R252). -/
def jumpRule : IssueRule := { inSlot := false }
/-- Calls, RET and JMPF may not stand in a locked sequence either (R260). -/
def callRule : IssueRule := { inSlot := false, inLock := false }

def execJmpr (k : Die) (ra : RegNo) (s : State) : Result :=
  .next (s.issue k jumpRule fun s =>
    let c := s.core k
    s.transferBy k (c.pc.toNat / 65536 * 65536 + (c.reg ra).toNat % 65536) 0)

def execJmpf (k : Die) (ra : RegNo) (s : State) : Result :=
  .next (s.issue k callRule fun s => s.transferBy k (((s.core k).reg ra).toNat % 2 ^ 25) 0)

/-- A call (R246): WFULL with 15 live windows, else the return word goes to D7 and the window advances after the slot. -/
def State.call (k : Die) (target : Nat) (s : State) : State :=
  let c := s.core k
  if c.live ≥ 15 then s.trapHere k 4
  else
    let a := c.pc.toNat
    (s.modCore k (Kenier.setReg 23 (BitVec.ofNat 32 (a / 65536 * 65536 ||| (a % 65536 + 8))) 1)).transfer k target 1

def execCallr (k : Die) (ra : RegNo) (s : State) : Result :=
  .next (s.issue k callRule fun s => (s.cycles k 1).call k (((s.core k).reg ra).toNat % 2 ^ 25))

/-- RET (R246): WEMPTY with one live window, else to the word in A7, the window going back after the slot. -/
def execRet (k : Die) (s : State) : Result :=
  .next (s.issue k callRule fun s =>
    let c := s.core k
    if c.live ≤ 1 then s.trapHere k 5 else s.transferBy k ((c.reg 7).toNat % 2 ^ 25) 2)

def execJmp (k : Die) (disp : BitVec 16) (s : State) : Result :=
  .next (s.issue k jumpRule fun s => s.transfer k ((s.core k).target disp) 0)
def execCall (k : Die) (disp : BitVec 16) (s : State) : Result :=
  .next (s.issue k callRule fun s => s.call k ((s.core k).target disp))

/-! ### Branches (R250, R259) -/

/-- A branch predicted wrong costs two cycles, in which it fetches at most two instructions that are squashed (R259). -/
def State.mispredict (k : Die) (s : State) : State :=
  let f := (Config.wrongPath s.fresh).val
  let q := min f (Config.wrongPath (s.fresh + 1)).val
  (s.draw.draw.cycles k 2).modCore k fun c =>
    { c with fetchct := c.fetchct + BitVec.ofNat 32 f, squashct := c.squashct + BitVec.ofNat 32 q }

/-- A branch (R250): backward ones are predicted taken (R259); its slot executes whether or not it is taken. -/
def State.branch (k : Die) (taken : Kenier → Bool) (disp : BitVec 16) (s : State) : State :=
  s.issue k jumpRule fun s =>
    let c := s.core k
    let go := taken c
    let s := s.when (go != disp.msb) (State.mispredict k)
    if go then s.transfer k (c.target disp) 0 else s.transfer k 0 3

def execBeq (k : Die) (ra rb : RegNo) (disp : BitVec 16) (s : State) : Result :=
  .next (s.branch k (fun c => c.reg ra == c.reg rb) disp)
def execBne (k : Die) (ra rb : RegNo) (disp : BitVec 16) (s : State) : Result :=
  .next (s.branch k (fun c => c.reg ra != c.reg rb) disp)
def execBlt (k : Die) (ra rb : RegNo) (disp : BitVec 16) (s : State) : Result :=
  .next (s.branch k (fun c => (c.reg ra).slt (c.reg rb)) disp)
def execBge (k : Die) (ra rb : RegNo) (disp : BitVec 16) (s : State) : Result :=
  .next (s.branch k (fun c => !(c.reg ra).slt (c.reg rb)) disp)
def execBltu (k : Die) (ra rb : RegNo) (disp : BitVec 16) (s : State) : Result :=
  .next (s.branch k (fun c => (c.reg ra).ult (c.reg rb)) disp)
def execBgeu (k : Die) (ra rb : RegNo) (disp : BitVec 16) (s : State) : Result :=
  .next (s.branch k (fun c => !(c.reg ra).ult (c.reg rb)) disp)

end Sys2Proof.Machine
end

