-- ==== Sys2Proof/Machine/KenierSystem.lean ====
section
/-!
DEFINITION. The Kenier core's system instructions, interrupts, unassigned words, lockstep, halts and steps (R248, R251,
R252, R260 to R267, R276).
-/

namespace Sys2Proof.Machine

open Sys2Proof

/-- RDSR (R251, R262): a reserved number is ILLEGAL; guest code may read only CYCLEL and CYCLEH (R272); a read of CYCLEL
latches CYCLEH. -/
def execRdsr (k : Die) (rd : RegNo) (sr : BitVec 5) (s : State) : Result :=
  let n := sr.toNat
  .next (s.issue k { inGuest := decide (n = 12 ∨ n = 13) } fun s =>
    if n > 15 then s.trapHere k 1
    else
      let v := s.readSr k n
      let s := if n = 12 then s.modCore k fun c => { c with cych := BitVec.ofNat 32 (c.cycle / 2 ^ 32) } else s
      s.writeBack k rd v 1)

/-- Guest code may write only DBK and ABK, and only banks of its own, or the timebase bank to ABK (R272). -/
def guestMayWrite (sr bank : Nat) : Bool :=
  (decide (sr = 8 ∨ sr = 9) && decide (0x20 ≤ bank ∧ bank < 0x40)) || (decide (sr = 9) && decide (bank = 0x190))

/-- WRSR (R251, R252, R262). -/
def execWrsr (k : Die) (ra : RegNo) (sr : BitVec 5) (s : State) : Result :=
  let n := sr.toNat
  let v := (s.core k).reg ra
  .next (s.issue k { inGuest := guestMayWrite n (v.toNat % 512) } fun s =>
    if n = 7 ∨ n ≥ 11 then s.trapHere k 1 else (s.modCore k (Kenier.writeSr n v)).retire k)

/-- Instructions that may stand neither in a slot, nor in a lock, nor in guest code (R252, R260, R272). -/
def systemRule : IssueRule := { inSlot := false, inLock := false, inGuest := false }

/-- LCK opens a locked sequence (R260). -/
def execLck (k : Die) (s : State) : Result :=
  .next (s.issue k systemRule fun s =>
    let s := (s.modCore k fun c => { c with lock := true, lockCt := 0, lockCycles := 0 }).retire k
    s.modCore k fun c => { c with lockCt := 0 })

/-- ULK closes the locked sequence; without one it has no effect (R251, R260). -/
def execUlk (k : Die) (s : State) : Result :=
  .next (s.issue k { inSlot := false, inGuest := false, closes := true } fun s =>
    let lock := (s.core k).lock
    let s := s.modCore k fun c => { c with lock := false, lockCt := 0, lockCycles := 0 }
    (s.retire k).when lock (State.serveDeferred k))

/-- A lock reaches its limit without ULK (R261). -/
def execLockovr (k : Die) (s : State) : Result :=
  .next (if s.coreRuns k ∧ (s.core k).lock then s.breakLock k else s)

/-- An instruction that ends in a trap or a halt: it completes, and the next address is where the program goes on. -/
def State.passOn (k : Die) (s : State) : State :=
  let s := s.spend k
  s.modCore k fun c => c.age

/-- TRAP (R251): cause 6 with its code. In guest code, code 0 returns from the handler with its status in A0 and its
length in A1 (R271); another code breaks the guest rules (R272). -/
def execTrap (k : Die) (code : BitVec 5) (s : State) : Result :=
  .next (s.issue k { inSlot := false, inLock := false, inGuest := decide (code = 0) } fun s =>
    let c := s.core k
    let guest := c.guest && decide (k = .field) && s.guest.running.isSome
    let s := (s.passOn k).trap k 6 code.toNat (c.pc + 4)
    s.when guest fun s =>
      s.guestReturned (c.reg 0).toNat (c.reg 1).toNat (s.readBytes exchangeArea 32))

/-- RFE (R251): KSTAT := TSTAT, on at TPC, every earlier instruction complete (R255). -/
def execRfe (k : Die) (s : State) : Result :=
  .next (s.issue k systemRule fun s =>
    let s := s.passOn k
    (s.modCore k fun c =>
      let c := c.complete.loadStat c.tstat
      { c with pc := c.tpc, past := false, slot := none }).stepDone k)

/-- WAIT halts until an enabled interrupt is pending, whatever IE is (R251). -/
def execWait (k : Die) (s : State) : Result :=
  .next (s.issue k { inLock := false, inGuest := false } fun s =>
    let s := s.retire k
    if s.irqReady k then s else s.modCore k fun c => { c with waiting := true })

/-- Core debug is enabled (R274). -/
def State.debugOn (s : State) : Bool := decide (s.dbg.minutes ≠ 0)

/-- BRK: a debug halt of the pair when debug is enabled, else trap cause 7 (R251, R276). -/
def execBrk (k : Die) (s : State) : Result :=
  .next (s.issue k systemRule fun s =>
    if k = .field ∧ s.debugOn then (s.retire k).halted
    else
      let a := (s.core k).pc
      (s.passOn k).trap k 7 0 (a + 4))

/-- An enabled pending interrupt is taken at an instruction boundary as cause 16 (R263, R266). -/
def execInterrupt (k : Die) (s : State) : Result :=
  let c := s.core k
  .next (if s.coreRuns k ∧ c.ie ∧ ¬ c.trp ∧ ¬ c.lock ∧ s.irqReady k ∧ c.slot = none ∧ ¬ c.past then
      (s.modCore k fun c => { c with waiting := false }).trap k 16 0 c.pc
    else s)

/-! ### Unassigned words (R248, R252) -/

/-- The unused fields of an R-format function are zero: rd, ra, rb, sh. -/
def rWordOk (fn rd ra rb sh : Nat) : Bool :=
  if fn ≤ 7 ∨ (11 ≤ fn ∧ fn ≤ 13) then decide (sh = 0)
  else if fn ≤ 10 then decide (rb = 0)
  else if 0x10 ≤ fn ∧ fn ≤ 0x13 then decide (rd = 0 ∧ sh = 0)
  else if fn = 0x14 ∨ fn = 0x15 then decide (ra = 0 ∧ rb = 0 ∧ sh = 0)
  else if 0x16 ≤ fn ∧ fn ≤ 0x1A then decide (rd = 0 ∧ rb = 0 ∧ sh = 0)
  else if fn = 0x1B then decide (rd = 0 ∧ ra = 0 ∧ rb = 0 ∧ sh = 0)
  else false

/-- The fields of an S-format function: rd, ra, sr, code. -/
def sWordOk (fn rd ra sr code : Nat) : Bool :=
  match fn with
  | 0 => decide (ra = 0 ∧ code = 0 ∧ sr ≤ 15)
  | 1 => decide (rd = 0 ∧ code = 0 ∧ sr ≤ 10 ∧ sr ≠ 7)
  | 4 => decide (rd = 0 ∧ ra = 0 ∧ sr = 0)
  | 2 => decide (rd = 0 ∧ ra = 0 ∧ sr = 0 ∧ code = 0)
  | 3 => decide (rd = 0 ∧ ra = 0 ∧ sr = 0 ∧ code = 0)
  | 5 => decide (rd = 0 ∧ ra = 0 ∧ sr = 0 ∧ code = 0)
  | 6 => decide (rd = 0 ∧ ra = 0 ∧ sr = 0 ∧ code = 0)
  | 7 => decide (rd = 0 ∧ ra = 0 ∧ sr = 0 ∧ code = 0)
  | _ => false

/-- A word is a legal instruction: an assigned opcode, fn and sr with every unused field zero (R248 to R252). -/
def legalWord (w : Word) : Bool :=
  let n := w.toNat
  let f (lo k : Nat) : Nat := bitsOf n lo k
  let m := f 0 6
  if m = 1 then rWordOk (f 26 6) (f 6 5) (f 11 5) (f 16 5) (f 21 5)
  else if m = 0x3E then sWordOk (f 26 6) (f 6 5) (f 11 5) (f 16 5) (f 21 5)
  else if m = 0x0A then decide (f 11 5 = 0)
  else if m = 0x28 ∨ m = 0x29 then decide (f 6 10 = 0)
  else (4 ≤ m && m ≤ 9) || (0x10 ≤ m && m ≤ 0x14) || (0x18 ≤ m && m ≤ 0x1A) || m == 0x1C || m == 0x1D || (0x20 ≤ m && m ≤ 0x25)

/-- A word that is no legal instruction takes ILLEGAL without effect (R252). -/
def execUnassignedOpcode (k : Die) (w : Word) (s : State) : Result :=
  .next (if legalWord w then s else s.issue k {} fun s => s.trapHere k 1)

/-! ### Lockstep, halts and steps (R267, R276) -/

/-- The lockstep checker finds a mismatch: a bus Halt (R267, R395). -/
def execLockstepMismatch (a : BitVec 25) (s : State) : Result :=
  .next (s.raiseFaultAt .field 2 1 4 (natLE 4 a.toNat) (some { adr := a.toNat, master := 0, typ := 0 }))

/-- A halt request stops the pair at an instruction boundary; a lock defers it (R276). -/
def execDebugHalt (s : State) : Result :=
  .next (if ¬ s.debugOn ∨ s.dbg.halted then s
    else if s.coreF.lock ∨ s.coreF.slot.isSome then { s with dbg := { s.dbg with defer := true } } else s.halted)

def execResume (s : State) : Result := .next { s with dbg := { s.dbg with halted := false, stepping := false } }

/-- A step lets the halted pair execute one instruction, a branch with its slot, or LCK through ULK (R276). -/
def execStep (s : State) : Result :=
  .next (if s.dbg.halted ∧ s.debugOn then { s with dbg := { s.dbg with stepping := true } } else s)

/-- Debug is disabled, and a halted pair runs on (R274). -/
def State.debugOff (s : State) : State :=
  { s with dbg := { s.dbg with minutes := 0, halted := false, defer := false, stepping := false } }

/-- The debug enable duration runs out (R274). -/
def execDebugExpiry (s : State) : Result := .next s.debugOff

/-- A guest handler is stopped at a boundary as though by trap GUEST (R272). -/
def execGuestStop (s : State) : Result :=
  if s.guest.running.isSome ∧ s.coreF.guest ∧ s.coreF.slot = none then .next (s.trapGuest .field)
  else .next s

end Sys2Proof.Machine
end

