-- ==== Sys2Proof/Machine/TimebaseCommands.lean ====
section
/-!
DEFINITION. The timebase commands: counters, frequency reference and mains phase (R44 to R55).
-/

namespace Sys2Proof.Machine

open Sys2Proof

/-- What a read of TBCCL latches (R48). -/
def State.latchShadow (s : State) : State :=
  { s with tb := { s.tb with shadow := { cch := s.tb.cc / 2 ^ 32, mp := s.tb.mp.floor.toNat, msrc := s.tb.src,
                                         mcc := s.tb.mcc, ts := s.tb.ts } } }

/-- A read of TBCCL latches the other quantities in the same fabric cycle (R48). -/
def execTbcclRead (s : State) : Result := .next s.latchShadow

/-- The periodic TS save to the counter log, type 5 (R47, R285). -/
def State.saveTs (s : State) : State := s.logEntry 5 0 s.tb.ts

def execTsSave (s : State) : Result := .next s.saveTs

/-- The code of a reference (0x6002.02). -/
def refCode : RefSrc → Nat
  | .crystal => 0
  | .refin10 => 1
  | .refin27 => 2

/-- The reference changes without a step and is journalled; a REFIN lost while in use is a clock Note (R49, R50). With
0x6002.01 FALSE only the crystal can be in use. -/
def execReferenceChange (r : RefSrc) (s : State) : Result :=
  if r = s.tb.ref ∨ (r ≠ .crystal ∧ ¬ s.objBool 0x6002 1) then .next s
  else
    let old := s.tb.ref
    let s : State := { s with tb := { s.tb with ref := r } }
    let s := s.commit 6 6 [b8 (refCode r), b8 (refCode old)]
    .next (if r = .crystal ∧ s.objBool 0x6002 1 then s.raiseFault .field 6 1 1 [] else s)

/-- With 0x6002.01 FALSE the crystal is the reference, from the write or load that makes it so (R49, R50). -/
def State.refSetting (s : State) : State :=
  if s.tb.ref = .crystal ∨ s.objBool 0x6002 1 then s
  else
    let old := s.tb.ref
    ({ s with tb := { s.tb with ref := .crystal } }).commit 6 6 [b8 0, b8 (refCode old)]

/-- mp as a signed distance from the nearest zero crossing. -/
def State.phaseError (s : State) : Int :=
  let m : Int := s.tb.mp.floor
  if m < 32768 then m else m - 65536

/-- The source becomes locked: mp steps once to the measured phase, journalled with its size and counted (R54). -/
def State.lockMains (s : State) : State :=
  let step : Int := -s.phaseError
  let old := s.tb.src
  let s := s.each (List.range 16) State.splitMark
  let s : State := { s with tb := { s.tb with src := 0, mp := 0, slew := 0, steps := s.tb.steps + 1 } }
  s.commit 6 5 (natLE 2 (codeOf 16 step) ++ [b8 old, 0] ++ natLE 4 s.tb.mcc)

/-- An accepted edge: the period measured, the phase error to slew out, and after the fourth in a row the lock (R51, R52). -/
def State.acceptEdge (period : Nat) (s : State) : State :=
  let run := s.tb.edgeRun + 1
  let inBand := decide (1587 * 1356 ≤ period * 10 ∧ period * 10 ≤ 2128 * 1356)
  let hzNow : Rat := if inBand then 13560000 / (period : Rat) else s.tb.measured
  let slew : Int := if s.tb.src = 0 then -s.phaseError else s.tb.slew
  let tb : Timebase := { s.tb with edgeRun := run, missed := 0, edged := true, refEdge := some s.tb.cc, measured := hzNow, slew := slew }
  let s : State := { s with tb := tb }
  if tb.src ≠ 0 ∧ run ≥ 4 then s.lockMains else s

/-- A rejected edge (R52). -/
def State.rejectEdge (s : State) : State :=
  { s with tb := { s.tb with edgeRun := 0, rejected := s.tb.rejected + 1,
                             refEdge := if s.tb.src = 0 then s.tb.refEdge else some s.tb.cc } }

/-- A zero-cross edge `after` ct from now (R52): locked, it is accepted within 2,048 mp of the predicted crossing;
otherwise by its period from the reference edge. -/
def execZeroCrossEdge (after : Nat) (s : State) : Result :=
  let s := s.advance after
  if s.power.state ≥ 2 then .next s
  else
    match s.tb.refEdge with
    | none => .next { s with tb := { s.tb with refEdge := some s.tb.cc } }
    | some ref =>
      let period := (s.tb.cc + 2 ^ 48 - ref) % 2 ^ 48
      let ok := if s.tb.src = 0 then decide (-2048 ≤ s.phaseError ∧ s.phaseError ≤ 2048)
        else decide (1587 * 1356 ≤ period * 10 ∧ period * 10 ≤ 2128 * 1356)
      .next (if ok then s.acceptEdge period else s.rejectEdge)

/-- Eight cycles without an accepted edge while mains is present: free-running at the last measured frequency (R51). -/
def execFreeRunning (s : State) : Result :=
  if s.tb.src = 0 ∧ s.tb.missed ≥ 8 ∧ s.tb.present then
    .next { s with tb := { s.tb with src := 1, edgeRun := 0, slew := 0 } }
  else .next s

/-- Mains absent on AUX: virtual phase at the nominal frequency, the map frozen (R51). -/
def State.goVirtual (s : State) : State :=
  if ¬ s.tb.present ∧ s.power.source = 1 then { s with tb := { s.tb with src := 2, edgeRun := 0, slew := 0, missed := 0 } } else s

/-- The power stage's mains report (R51, R53). -/
def execMainsReport (present : Bool) (s : State) : Result :=
  if present then
    let tb : Timebase := { s.tb with present := true, refEdge := if s.tb.present then s.tb.refEdge else none }
    .next { s with tb := if tb.src = 2 then { tb with src := 1, edgeRun := 0, missed := 0 } else tb }
  else .next { s with tb := { s.tb with present := false } }.goVirtual

/-- mp passes from 65,535 to 0 (R44, R45): time runs to that fabric cycle, whose effects `advance` gives. -/
def execMainsCycleEnd (s : State) : Result := .next (s.advance s.ctToWrap)

end Sys2Proof.Machine
end

