-- ==== Sys2Proof/Machine/MemorySettings.lean ====
section
/-!
DEFINITION. Memory, non-volatile storage and settings (R279 to R299), the guest image (R269, R270), and the reset and
start-up of the field side (R406).
-/

namespace Sys2Proof.Machine

open Sys2Proof

/-! ### Scrubbing (R281, R282, R297) -/

/-- The end of a scrub pass: a memory Note for every bank whose corrected count rose (R282). -/
def State.scrubPass (s : State) : State :=
  let cs := s.ecc.counts
  let s : State := { s with ecc := { s.ecc with counts := [] } }
  cs.foldl (fun s p => ({ s with ecc := { s.ecc with corrected := s.ecc.corrected + p.2 } }).raiseFault .field 1 1 1
    (natLE 2 p.1 ++ natLE 4 p.2)) s

/-- The scrubber reads one word of the field side (R281). -/
def State.scrubField (s : State) : State :=
  let w := s.ecc.pos
  let s : State := { s with ecc := { s.ecc with pos := (w + 1) % 2097152 } }
  let s := match Tab.get 0 s.ecc.bad w with
    | 1 => s.eccFix (8 * w) 8
    | 2 => s.eccFault (8 * w) 11 0
    | _ => s
  if s.ecc.pos = 0 then s.scrubPass else s

/-- The scrubber reads one word of the host side (R297). -/
def State.scrubHost (s : State) : State :=
  let w := s.ecc.hostPos
  let s : State := { s with ecc := { s.ecc with hostPos := (w + 1) % 262144 } }
  match Tab.get 0 s.ecc.hostBad w with
  | 1 => { s with ecc := { s.ecc with hostBad := s.ecc.hostBad.erase w, hostCorrected := s.ecc.hostCorrected + 1 } }
  | 2 => s.raiseFaultAt .host 1 2 (eccLevel (bankOf (8 * w))) (natLE 4 (8 * w)) (some { adr := 8 * w, master := 11, typ := 0 })
  | _ => s

/-- SCRUB (R281): in Run only. -/
def execScrub (s : State) : Result := if s.power.state = 0 then .next s.scrubField.scrubHost else .next s

/-! ### The NVM controller (R284, R285) -/

/-- An operation may start now: under the power-fail warning no erase and nothing of priority 4 to 6 (R284). -/
def State.nvmMay (s : State) (o : NvmOp) : Bool := !s.power.warning || (decide (o.prio ≤ 3) && !o.erase)

/-- The settings copy in a slot is lost once a sector of it is being erased (R283, R291). -/
def State.slotErased (sec : Nat) (s : State) : State :=
  if settingsSector sec then
    { s with settings := { s.settings with fieldCopies := s.settings.fieldCopies.filter fun c => decide (c.slot ≠ (sec - 0x300) / 8) } }
  else s

/-- An operation starts; an erase programs its intent first (R285). -/
def State.nvmStart (o : NvmOp) (s : State) : State :=
  let s : State := { s with nvm := { s.nvm with busy := some o } }
  if o.erase then ({ s with nvm := (s.nvm.recycle s.journal.esn).intent o.sector s.journal.esn }).slotErased o.sector else s

/-- The next operation is served by priority: requests of priority 1 to 3, then a suspended erase, then the rest (R284). -/
def State.nvmServe (s : State) : State :=
  if s.nvm.busy.isSome then s else
  let best := (s.nvm.queue.filter s.nvmMay).foldl (fun m o => min m o.prio) 9
  let i := s.nvm.queue.findIdx fun o => decide (o.prio = best) && s.nvmMay o
  match s.nvm.suspended, decide (best > 3) && !s.power.warning with
  | e :: es, true => { s with nvm := { s.nvm with busy := some e, suspended := es } }
  | _, _ =>
    match s.nvm.queue[i]? with
    | some o => State.nvmStart o { s with nvm := { s.nvm with queue := s.nvm.queue.eraseIdx i } }
    | none => s

/-- A request reaches the controller; one of priority 1 to 3 suspends an erase in progress (R284). -/
def State.nvmSubmit (o : NvmOp) (s : State) : State :=
  let s : State := { s with nvm := { s.nvm with queue := s.nvm.queue ++ [o] } }
  let s : State := match s.nvm.busy with
    | some b => if b.erase ∧ o.prio ≤ 3 then { s with nvm := { s.nvm with busy := none, suspended := b :: s.nvm.suspended } } else s
    | none => s
  s.nvmServe

/-- Bytes programmed into NVM. -/
def State.program : Nat → List Byte → State → State
  | _, [], s => s
  | a, b :: bs, s => State.program (a + 1) bs { s with mem := Memory.set s.mem a b }

/-- NVM_PROGRAM_DONE (R284). -/
def execNvmProgramDone (s : State) : Result :=
  match s.nvm.busy with
  | some o => if o.erase then .next s else
      .next ({ (s.program o.addr o.data) with nvm := { s.nvm with busy := none } }).nvmServe
  | none => .next s

/-- Operations of a priority that wait or are suspended. -/
def Nvm.waits (n : Nvm) (prio : Nat) : Bool :=
  n.queue.any (fun o => decide (o.prio = prio)) || n.suspended.any fun o => decide (o.prio = prio)

/-- Drop the waiting operations of a priority. -/
def Nvm.dropPrio (prio : Nat) (n : Nvm) : Nvm :=
  { n with queue := n.queue.filter (fun o => decide (o.prio ≠ prio)), suspended := n.suspended.filter fun o => decide (o.prio ≠ prio) }

/-- The last erase of a kind of work has verified: the last-gasp slot is armed (R295), a calibration commit is written
(R474). -/
def State.erased (prio : Nat) (s : State) : State :=
  if s.nvm.waits prio then s
  else if prio = 1 then { s with nvm := { s.nvm with armed := true } }
  else if prio = 4 then
    match s.calib.commit with
    | some c => { s with calib := { s.calib with saved := some c, commit := none, seq := s.calib.seq + 1, dirty := false } }
    | none => s
  else s

/-- An erase that does not verify (R394, memory causes 5 and 6); the work it belonged to is given up. -/
def State.eraseFailed (o : NvmOp) (s : State) : State :=
  let s : State := { s with nvm := s.nvm.dropPrio o.prio }
  let s : State := if o.prio = 4 then { s with calib := { s.calib with commit := none } } else s
  if o.prio ≤ 3 then s.raiseFault .field 1 5 3 (natLE 2 o.sector) else s.raiseFault .field 1 6 2 (natLE 2 o.sector)

/-- NVM_ERASE_DONE (R285). -/
def execNvmEraseDone (verified : Bool) (s : State) : Result :=
  match s.nvm.busy with
  | some o => if ¬ o.erase then .next s else
      let s : State := { s with nvm := { s.nvm with busy := none } }
      if verified then
        .next (State.erased o.prio { s with nvm := (s.nvm.recycle s.journal.esn).complete o.sector }).nvmServe
      else .next (s.eraseFailed o).nvmServe
  | none => .next s

/-! ### Firmware and guest images (R269, R270, R286) -/

/-- The first bank of image A or B. -/
def imageBank (img : Nat) : Nat := if img = 2 then 0x118 else 0x100

/-- The listed bytes of an image, by offset. -/
def State.imageCells (s : State) (img : Nat) : List (Nat × Byte) :=
  let a := addrOf (imageBank img) 0
  (s.mem.filter fun c => decide (a ≤ c.1 ∧ c.1 < a + 24 * 65536)).map fun c => (c.1 - a, c.2)

/-- An image is valid (R286). -/
def State.imageValid (s : State) (img : Nat) : Bool :=
  Config.imageGood (s.imageCells img) && decide (Config.imageVersion (s.imageCells img) ≥ Config.minImageVersion)

/-- The image that the boot ROM loads: the valid one of higher version, A when equal; 0 in recovery (R286). -/
def State.bootImage (s : State) : Nat :=
  let a := s.imageValid 1
  let b := s.imageValid 2
  if a && b then (if Config.imageVersion (s.imageCells 2) > Config.imageVersion (s.imageCells 1) then 2 else 1)
  else if a then 1 else if b then 2 else 0

/-- The image that a new one is written into (R286). -/
def State.newImage (s : State) : Nat := if s.nvm.image = 1 then 2 else 1

/-- A page of the new image (R286). -/
def State.imagePage (v : List Byte) (s : State) : State :=
  s.nvmSubmit { prio := 6, erase := false, sector := 0, addr := addrOf (imageBank s.newImage) 0 + 256 * s.objNat 0x1F21 1, data := v }

/-- The pages of a new image that still wait are programmed before its check reads it (R284). -/
def State.settleImage (s : State) : State :=
  let ops := (s.nvm.busy.toList ++ s.nvm.queue).filter fun o => decide (o.prio = 6)
  let s := ops.foldl (fun s o => s.program o.addr o.data) s
  let n := s.nvm.dropPrio 6
  ({ s with nvm := { n with busy := n.busy.filter fun o => decide (o.prio ≠ 6) } }).nvmServe

/-- Check the new image (R286): length and CRC-32C, signature and version. -/
def State.checkImage (p : List Byte) (s : State) : Status × State :=
  let s := s.settleImage
  let img := s.newImage
  if Config.imageMatches (s.imageCells img) (fieldLE p 0 4) (fieldLE p 4 4) && s.imageValid img then (.ok, s) else (.invalid, s)

/-- Address of the guest image. -/
def guestBase : Nat := addrOf 0x20 0

/-- A page of the guest image; an active or rejected image returns to loading (R270). -/
def State.guestPage (v : List Byte) (s : State) : State :=
  let s := s.writeBytes (guestBase + 256 * s.objNat 0x6131 1) v
  { s with guest := { s.guest with state := 1 } }

/-- A handler's entry lies in banks 0x020 to 0x03F and is aligned (R270). -/
def guestEntryOk (e : Nat) : Bool := decide (0x20 ≤ e / 65536 ∧ e / 65536 < 0x40) && decide (e % 4 = 0)

/-- The checks of R270 on the guest image in memory. -/
def State.guestOk (s : State) (len crc : Nat) : Bool :=
  let n := leNat (s.readBytes (guestBase + 6) 2)
  decide (leNat (s.readBytes guestBase 4) = 0x4B475354) && decide (1 ≤ n ∧ n ≤ 32) &&
  ((List.range n).all fun h => guestEntryOk (s.guestEntry h)) &&
  decide (len ≤ 31 * 65536) && decide (crc32c (s.readBytes guestBase len) = crc)

/-- Activate the guest image, or reject it (R270). -/
def State.guestActivate (p : List Byte) (s : State) : Status × State :=
  if s.guestOk (fieldLE p 0 4) (fieldLE p 4 4) then (.ok, { s with guest := { s.guest with state := 2 } })
  else (.invalid, { s with guest := { s.guest with state := 3 } })

/-! ### Settings and STORE (R289 to R294) -/

/-- An object served by the field side (R22). -/
def fieldIndex (idx : Nat) : Bool :=
  decide (0x1F00 ≤ idx ∧ idx < 0x8000) || decide (0x9000 ≤ idx ∧ idx < 0xA000) || decide (0xC000 ≤ idx ∧ idx < 0xD000) ||
  decide (0xE000 ≤ idx ∧ idx < 0xF000)

def onField (p : Nat × List Byte) : Bool := fieldIndex (p.1 / 256)

/-- A listed dictionary value that is a setting (R289). -/
def isSetting (p : Nat × List Byte) : Bool :=
  match findObj (p.1 / 256) (p.1 % 256) with
  | some o => decide (o.access = .rws)
  | none => false

/-- Wear of a side's settings sectors in per cent (R292). -/
def wearOf (erases : Tab Nat) (base n : Nat) : Nat :=
  ((List.range n).foldl (fun m i => max m (Tab.get 0 erases (base + i))) 0) * 100 / 10000
def State.fieldWear (s : State) : Nat := wearOf s.nvm.erases 0x300 64
def State.hostWear (s : State) : Nat := wearOf s.nvm.hostErases 0x60 32

/-- The slot and the sequence number that the next copy takes (R291). -/
def nextSlot (cs : List SettingsCopy) : Nat := match cs with | c :: _ => (c.slot + 1) % 8 | [] => 0
def seqInUse (cs : List SettingsCopy) : Nat := match cs with | c :: _ => c.seq | [] => 0
def nextSeq (cs : List SettingsCopy) : Nat := (seqInUse cs + 1) % 2 ^ 32

/-- A STORE request (R290, R291); a lead mirrors it (R365). -/
def State.storeSettings (s : State) : Status × State :=
  let soon := match s.settings.lastStore with | some t => decide (s.tb.ts < t + 10000000) | none => false
  if s.settings.state = 1 ∨ s.power.entering ≠ 0 then (.busy, s)
  else if soon then (.tooSoon, s)
  else if s.fieldWear ≥ 100 ∨ s.hostWear ≥ 100 then (.worn, s)
  else if s.power.warning then (.powerFail, s)
  else if ¬ s.linkH.up then (.porterDown, s)
  else
    let st := s.settings
    let s : State := { s with settings := { st with state := 1, lastStore := some s.tb.ts, snapshot := s.dict.filter isSetting,
                                                    beforeF := st.changedF, beforeH := st.changedH, changedF := false, changedH := false } }
    let base := 0x300 + 8 * nextSlot st.fieldCopies
    let s := s.each (List.range 8) fun i => State.nvmSubmit { prio := 5, erase := true, sector := base + i, addr := 0, data := [] }
    (.ok, s.mirror 0x88 (.mDict .store))

/-- A side's wear has reached 80 %: journalled, with a memory Note (R292). -/
def State.wearNote (d : Die) (before now : Nat) (s : State) : State :=
  if before < 80 ∧ 80 ≤ now then
    let die := match d with | .field => 0 | .host => 1
    (s.commit 6 3 [b8 die, b8 now]).raiseFault d 1 4 1 [b8 die, b8 now]
  else s

/-- The field side's part of a completed STORE: sectors not yet erased are, and the copy stands if it verified (R291). -/
def State.storeField (ok : Bool) (s : State) : State :=
  let w := s.fieldWear
  let left := ((s.nvm.busy.toList ++ s.nvm.suspended ++ s.nvm.queue).filter fun o => decide (o.prio = 5))
  let n := s.nvm.dropPrio 5
  let s : State := { s with nvm := { n with busy := n.busy.filter fun o => decide (o.prio ≠ 5) } }
  if ok then
    let begun := s.nvm.log.filter fun e => decide (e.typ = 1)
    let s := left.foldl (fun s o =>
      let open_ := begun.any fun e => decide (e.ref = o.sector) && !(s.nvm.log.any fun c => decide (c.typ = 2) && decide (c.ref = o.sector) && decide (c.val = Tab.get 0 s.nvm.erases o.sector))
      let s : State := if open_ then s else { s with nvm := (s.nvm.recycle s.journal.esn).intent o.sector s.journal.esn }
      { s with nvm := s.nvm.complete o.sector }) s
    let cs := s.settings.fieldCopies
    let c : SettingsCopy := { slot := nextSlot cs, seq := nextSeq cs, vals := s.settings.snapshot.filter onField }
    let s : State := { s with settings := { s.settings with fieldCopies := c :: cs.filter fun x => decide (x.slot ≠ c.slot) } }
    s.wearNote .field w s.fieldWear
  else { s with settings := { s.settings with changedF := s.settings.changedF || s.settings.beforeF } }

/-- The host side's part of a completed STORE (R291, R297). -/
def State.storeHost (ok : Bool) (s : State) : State :=
  let w := s.hostWear
  let cs := s.settings.hostCopies
  let base := 0x60 + 4 * nextSlot cs
  let s := s.each (List.range 4) fun i s => { s with nvm := s.nvm.hostErase (base + i) s.journal.esn }
  if ok then
    let c : SettingsCopy := { slot := nextSlot cs, seq := nextSeq cs, vals := s.settings.snapshot.filter fun p => !(onField p) }
    let s : State := { s with settings := { s.settings with hostCopies := c :: cs.filter fun x => decide (x.slot ≠ c.slot) } }
    s.wearNote .host w s.hostWear
  else { s with settings := { s.settings with changedH := s.settings.changedH || s.settings.beforeH } }

/-- The record of a STORE's result (R291, R294, R499). -/
def State.storeRecord (result fseq hseq : Nat) (s : State) : State :=
  s.commit 6 1 ([b8 result, 0, 0, 0] ++ natLE 4 fseq ++ natLE 4 hseq)

/-- A STORE's result is shown and journalled with both sequence numbers (R291). -/
def State.storeShow (r : Nat) (s : State) : State :=
  { s with settings := { s.settings with state := r, waitResult := none, snapshot := [] } }.storeRecord r
    (seqInUse s.settings.fieldCopies) (seqInUse s.settings.hostCopies)

/-- STORE_COMPLETE (R291): with the Porter lost the combined result waits for the resync (R294). -/
def execStoreComplete (fieldOk hostOk : Bool) (s : State) : Result :=
  if s.settings.state ≠ 1 ∨ s.settings.waitResult.isSome then .next s else
  let r := if ¬ fieldOk then 3 else if ¬ hostOk then 4 else 2
  let s := ((s.storeField fieldOk).storeHost hostOk).nvmServe
  if s.linkH.up then .next (s.storeShow r) else .next { s with settings := { s.settings with waitResult := some r } }

/-- A running STORE is abandoned: the copies in use stay (R294). -/
def State.storeAbandon (s : State) : State :=
  if s.settings.state ≠ 1 then s else
  { s with nvm := s.nvm.dropPrio 5, settings := { s.settings with snapshot := [], waitResult := none } }

/-- JOURNAL_CHECKPOINT (R327). -/
def execJournalCheckpoint (s : State) : Result := .next s.checkpoint

/-! ### The field side's reset and start-up (R406) -/

/-- Sectors with an erase intent and no later completion (R285). -/
def halfErased (log : List LogEntry) : List Nat :=
  log.foldl (fun acc e => if e.typ = 1 then acc.filter (· ≠ e.ref) ++ [e.ref] else if e.typ = 2 then acc.filter (· ≠ e.ref) else acc) []

/-- A sector is erased again under a new intent and completion (R285). -/
def State.eraseAgain (sec : Nat) (s : State) : State :=
  let n := ((s.nvm.recycle s.journal.esn).intent sec s.journal.esn).complete sec
  ({ s with nvm := { n with recovered := n.recovered + 1 } }).slotErased sec

/-- The journal record of a sector found half-erased (R285). -/
def State.journalErased (sec : Nat) (s : State) : State :=
  s.commit 6 4 ([0, 0] ++ natLE 2 sec ++ natLE 4 (Tab.get 0 s.nvm.erases sec))

/-- The last-gasp image that start-up applies: the newest, if its consumed word is erased (R296). -/
def State.gaspToApply (s : State) : Option Gasp := s.nvm.gasps.getLast?.filter fun g => !g.consumed

/-- A clean scan of the journal ring's banks (R406). -/
def State.ringClean (s : State) : Bool :=
  !(s.ecc.bad.any fun p => decide (0x80 ≤ p.1 * 8 / 65536 ∧ p.1 * 8 / 65536 < 0xC0) && decide (p.2 = 2))

/-- The timebase after a reset: CC and mp start at 0 in the virtual source (R46, R53); at Curfew wake CC, mp and MCC go on
from their held values and the source restarts in state 1 (R409). -/
def Timebase.reset (curfew : Bool) (tb : Timebase) : Timebase :=
  if curfew then { tb with src := 1, edgeRun := 0, missed := 0, refEdge := none, slew := 0 }
  else { ts := tb.ts, tsAcc := tb.tsAcc, present := tb.present, ref := tb.ref }

/-- Registers, memories and queues of the field side lose their content, but for what the cause of the reset keeps
(R390, R406, R410) and what non-volatile and always-on memory hold. -/
def State.fieldHw (cause : Nat) (s : State) : State :=
  let wake := decide (cause = 2 ∨ cause = 5)
  let halt := decide (cause = 3)
  let fltF : Collector := if halt then { s.fltF with halting := false, safe := !s.fltF.calm } else {}
  let s : State := { s with
    tb := s.tb.reset (decide (cause = 5)), tracks := [], chains := [], feeders := [], coilCal := [], rxs := [], bins := [], capture := {},
    budget := { amb := s.budget.amb, sink := s.budget.sink }, template := {}, apdu := {}, sweeps := {}, report := {}, sense := {},
    coreF := {}, guest := {}, dbg := {}, mem := s.mem.filter fun c => decide (bankOf c.1 ≥ 0x100),
    ecc := { s.ecc with bad := if wake then s.ecc.bad.filter (fun p => decide (0x40 ≤ p.1 * 8 / 65536 ∧ p.1 * 8 / 65536 < 0xC0)) else [],
                        pos := 0, counts := [], corrected := 0, uncorrectable := 0 },
    roster := if wake then { s.roster with sessions := [] } else {}, fltF := fltF, linkF := {}, linkT := {} }
  let s : State := { s with
    keys := { store := s.keys.store, issuers := s.keys.issuers, attempts := s.keys.attempts, quarantine := s.keys.quarantine,
              verified := if wake then s.keys.verified else [], changes := if wake then s.keys.changes else [] },
    nvm := { s.nvm with busy := none, suspended := [], queue := [], armed := false, recovered := 0 },
    dict := s.dict.filter (fun p => !(onField p)), counts := s.counts.filter (fun p => !(fieldIndex (p.1 / 256))),
    twin := { posA := s.twin.posA, roleIn := s.twin.roleIn, haltIn := s.twin.haltIn, key := s.twin.key },
    radio := { temp := s.radio.temp, calPend := true }, pktMem := [], nodes := [],
    calib := { saved := s.calib.saved, seq := s.calib.seq } }
  { s with power := { s.power with level := 1, reqLevel := 1, trans := false, deferredLevel := none, doomed := false, state := 0, entering := 0,
                                   window := false, padlat := if wake then s.power.padlat else 0, wakeen := 0xFE, kicked := false,
                                   missedKicks := 0, unstarted := false } }

/-- The field side's settings from its newest valid slot, or the defaults (R289). -/
def State.loadField (s : State) : State :=
  match s.settings.fieldCopies with
  | c :: _ =>
    let s : State := { s with dict := c.vals.foldl (fun d p => d.insert p.1 p.2) s.dict }
    let s := c.vals.foldl (fun s p => if p.1 / 256 = 0x6110 then s.writeBytes (airAddr (0xB000 + 32 * (p.1 % 256 - 1))) p.2 else s) s
    s.each ((List.range 16).filter fun p => c.vals.any fun q => decide (q.1 / 256 = 0x4010 + p)) State.compilePlan
  | [] => s

/-- The calibration's newest valid copy, or the defaults (R474). -/
def State.loadCal (s : State) : State :=
  match s.calib.saved with
  | some c => { s with coilCal := c.coils.map fun p => (p.1, { p.2 with impedance := 0, estimate := 0 }),
                       calib := { s.calib with survey := c.survey, unsurveyed := c.unsurveyed, gen := c.gen, paGain := c.paGain } }
  | none => { s with calib := { s.calib with fromDefaults := true } }

/-- Command counters after a reset: the last of the newest reserved block, or the last-gasp image's value if above (R318). -/
def CmdSlot.resume (next : Nat) (k : CmdSlot) : CmdSlot :=
  let l := k.reserved - 1
  { last := if next > l + 1 then next - 1 else l, reserved := k.reserved, rights := k.rights }

def State.resumeCounters (g : Option Gasp) (s : State) : State :=
  let next := fun k => match g with | some g => g.counters.getD k 1 | none => 1
  let s : State := { s with cmds := { slots := s.cmds.slots } }
  s.each (List.range 16) fun k => State.modCmdSlot k (CmdSlot.resume (next k))

/-- TS at a restart (R47): from the image plus 1 s, else from the last save plus 60 s, and never lower than it stands. -/
def State.resumeTs (g : Option Gasp) (s : State) : State :=
  let save := (s.nvm.log.filter fun e => decide (e.typ = 5)).getLast?
  let t := match g, save with
    | some g, _ => g.ts + 1000000
    | none, some e => e.val + 60000000
    | none, none => 0
  { s with tb := { s.tb with ts := max s.tb.ts t } }

/-- ESNs go on with the next unused block, which is reserved (R38). -/
def State.resumeEsn (s : State) : State :=
  let first := s.journal.esn = 1 ∧ ¬ (s.nvm.log.any fun e => decide (e.typ = 3))
  let b := if first then 0 else s.journal.esnLimit
  { s with journal := { s.journal with esn := max 1 b, esnLimit := b + 65536 } }.logEntry 3 0 b

/-- Where journal output resumes (R327): the ring, flags of RUN_START, ESN of the last record recovered, lost records. -/
structure Resume where
  flags : Nat
  lastEsn : Nat
  lostFrom : Nat
  lost : Nat
  deriving DecidableEq, Repr

def State.resumeJournal (kept : Bool) (g : Option Gasp) (s : State) : Resume × State :=
  let j := s.journal
  let applied := if g.isSome then 2 else 0
  let tail := match g with | some g => g.tail | none => []
  if kept then
    ({ flags := applied, lastEsn := match j.ring.getLast? with | some r => r.esn | none => 0, lostFrom := 0, lost := 0 }, s)
  else
    match tail.head?, tail.getLast? with
    | some f, some l =>
      let lost := if offBelow j.checkpoint f.off then ((f.off + 2 ^ 48 - j.checkpoint) % 2 ^ 48) / 64 else 0
      ({ flags := applied, lastEsn := l.esn, lostFrom := j.checkpoint, lost := lost },
        { s with journal := { j with ring := tail, next := (l.off + 64) % 2 ^ 48, chain := l.rmac, backpressure := false } })
    | _, _ =>
      if j.next = 0 ∧ j.ring = [] ∧ j.checkpoint = 0 then ({ flags := applied, lastEsn := 0, lostFrom := 0, lost := 0 }, s)
      else
        ({ flags := applied + 1, lastEsn := 0, lostFrom := j.checkpoint, lost := ((j.offLimit + 2 ^ 48 - j.checkpoint) % 2 ^ 48) / 64 },
          { s with journal := { j with ring := [], next := j.offLimit % 2 ^ 48, chain := zeros 8, backpressure := false } })

/-- RUN_START, then the loss marker, then the exchanges whose outcome is unknown (R296, R323, R327). -/
def State.runStart (cause : Nat) (r : Resume) (periodic : Bool) (g : Option Gasp) (s : State) : State :=
  let s := s.append 0 1 ([b8 cause, b8 (r.flags + 4 * bit periodic), b8 s.nvm.image, 0] ++ natLE 8 r.lastEsn ++ natLE 4 r.lost)
  let s := if r.lost = 0 then s else
    ({ s with journal := { s.journal with markers := s.journal.markers + 1, dropped := s.journal.dropped + r.lost } }).append 0 2
      (natLE 6 r.lostFrom ++ natLE 4 r.lost ++ zeros 10 ++ zeros 8)
  let fl := match g with | some g => g.flight | none => []
  fl.foldl (fun s x => s.commit 8 6 (natLE 4 x.1 ++ [b8 x.2.1, b8 x.2.2.1, 0, 0] ++ natLE 8 x.2.2.2)) s

/-- Pending attempt records become failures (R213). -/
def State.settleAttempts (s : State) : State :=
  let ts := (s.keys.attempts.filter fun a => a.pending).map (·.tag)
  ts.foldl (fun s t =>
    let old := ((s.attempt t).map (·.fails)).getD []
    let s := s.setAttempt { tag := t, fails := old ++ [s.tb.ts], pending := false }
    let s : State := { s with keys := { s.keys with failed := s.keys.failed + 1 } }
    s.when (decide (s.failCount t ≥ s.objNat 0x5003 1)) (State.quarantine t)) s

/-- Records of a start-up that follow RUN_START: recovered sectors, settings and calibration from defaults, an abandoned
STORE (R285, R289, R294, R474). -/
def State.startRecords (half : List Nat) (stored : Bool) (s : State) : State :=
  let s := s.each half State.journalErased
  let s := s.when stored fun s => ({ s with settings := { s.settings with state := 5 } }).storeRecord 5
    (nextSeq s.settings.fieldCopies) (nextSeq s.settings.hostCopies)
  let s := s.when s.settings.defaultsF fun s => (s.commit 6 2 [0]).raiseFault .field 1 3 1 [0]
  let s := s.when s.settings.noteH fun s => ({ s with settings := { s.settings with noteH := false } }).commit 6 2 [1]
  s.when s.calib.fromDefaults (State.commit 6 11 [])

/-- A last-gasp image that was applied is marked consumed, and the next slot is erased and armed; with none applied the
slot armed before is still erased (R295, R296). -/
def State.armNext (g : Option Gasp) (s : State) : State :=
  if g.isSome then
    let sec := 0x360 + 2 * (s.nvm.gaspSeq % 16)
    let s : State := { s with nvm := { s.nvm with gasps := s.nvm.gasps.map fun x => { x with consumed := true } } }
    s.each [sec, sec + 1] fun k => State.nvmSubmit { prio := 1, erase := true, sector := k, addr := 0, data := [] }
  else { s with nvm := { s.nvm with armed := true } }

/-- The running image in banks 0x000 to 0x01F (R286). -/
def State.loadImage (s : State) : State :=
  let img := s.bootImage
  let cells := if img = 0 then [] else Config.imageLoaded (s.imageCells img)
  let s : State := { s with nvm := { s.nvm with image := img }, power := { s.power with recovery := decide (img = 0) } }
  cells.foldl (fun s c => if c.1 < 0x200000 then { s with mem := Memory.set s.mem c.1 c.2 } else s) s

/-- The start-up of the field side after a reset whose journal ring was kept or not (R38, R47, R296, R318, R327, R406). -/
def State.fieldBoot (cause0 : Option Nat) (kept : Bool) (s : State) : State :=
  let g := s.gaspToApply
  let cause := cause0.getD (bit g.isSome)
  let half := halfErased s.nvm.log
  let s := s.each half State.eraseAgain
  let periodic := g.isNone && (s.nvm.log.any fun e => decide (e.typ = 5)) && decide (cause ≠ 5)
  let s := s.when (decide (cause ≠ 5)) (State.resumeTs g)
  let stored := decide (s.settings.state = 1) || (match g with | some g => g.storing | none => false)
  let s : State := { s with settings := { s.settings with changedF := false, lastStore := none, snapshot := [], waitResult := none,
                                                          state := if s.settings.state = 1 then 5 else s.settings.state,
                                                          defaultsF := decide (s.settings.fieldCopies = []) } }
  let s := (((s.loadImage.loadCal).loadField).resumeCounters g).resumeEsn
  let s : State := { s with radio := { s.radio with channel := s.objNat 0x7010 1, vio := s.objNat 0x7010 5 }, twin := { s.twin with state := bit (s.objBool 0x9000 1) } }
  let (r, s) := s.resumeJournal kept g
  let s : State := { s with power := { s.power with cause := cause } }
  let s := ((((s.runStart cause r periodic g).settleAttempts).startRecords half stored).refSetting).armNext g
  let fixed := s.objNat 0xB001 1
  s.when (decide (fixed < 4)) (State.requestLevel fixed)

/-- A reset of the field side with a cause; none is a power-up, whose cause depends on the last-gasp image (R406, R424). -/
def State.fieldReset (cause : Option Nat) (s : State) : State :=
  let kept := match cause with
    | none => false
    | some 1 => false
    | some 2 => true
    | some 5 => true
    | some _ => s.ringClean
  (s.fieldHw (cause.getD 0)).fieldBoot cause kept

/-- FIELD_RESET (R406): the power-up of a field side that has not started since power was applied, and otherwise a debug
reset. -/
def execFieldReset (s : State) : Result :=
  .next (s.fieldReset (if s.power.unstarted then none else some 4))

end Sys2Proof.Machine
end

