-- ==== Sys2Proof/Machine/HostReset.lean ====
section
/-!
DEFINITION. The Host Controller's reset and start-up, and the ring relay that follows them (R337, R338, R357, R390).
-/

namespace Sys2Proof.Machine

open Sys2Proof

/-! ### The ring's ports (R330, R331) -/

def Ring.port (r : Ring) (p : Port) : RingPort := match p with | .a => r.a | .b => r.b
def Ring.setPort (p : Port) (x : RingPort) (r : Ring) : Ring := match p with | .a => { r with a := x } | .b => { r with b := x }
def otherPort (p : Port) : Port := match p with | .a => .b | .b => .a

def State.modPort (p : Port) (f : RingPort → RingPort) (s : State) : State :=
  { s with ring := s.ring.setPort p (f (s.ring.port p)) }

/-- A port that sends a frame leaves low-power idle (R331). -/
def State.portAwake (p : Port) (s : State) : State := s.modPort p fun x => if x.link = 2 then { x with link := 1 } else x

/-- Something is sent on a port whose link is up. -/
def State.portSend (p : Port) (o : Output) (s : State) : State := if (s.ring.port p).link = 0 then s else (s.portAwake p).emit o

/-! ### The relay and the host side (R337) -/

/-- The relay's state as 0x8005.01 shows it (R337). -/
def State.relayState (s : State) : Nat :=
  if ¬ s.power.hostReady ∨ s.power.hostReset ∨ s.ring.loop = 1 then 0
  else if s.ring.a.link ≠ 0 ∨ s.ring.b.link ≠ 0 then 1 else 2

/-- A port's link goes down, which is counted if it was up (R330). -/
def RingPort.down (p : RingPort) : RingPort := if p.link = 0 then p else { p with link := 0, losses := p.losses + 1 }

/-- The relay follows its conditions; closing it disconnects both PHYs; each change is counted (R337). -/
def State.relaySet (s : State) : State :=
  let new := s.relayState
  let moved := decide ((new = 0) ≠ (s.ring.relay = 0))
  let s : State := { s with ring := { s.ring with relay := new, relayOps := s.ring.relayOps + bit moved } }
  if new = 0 then { s with ring := { s.ring with a := s.ring.a.down, b := s.ring.b.down } } else s

/-- The Host Controller is held in reset: its registers, memories, tables and queues lose their content (R337, R357). A
reset after a Halt keeps the collector (R390). -/
def State.hostHold (s : State) : State :=
  let halt := s.fltH.halting
  let s : State := { s with
    coreH := {}, hostMem := [], ecc := { s.ecc with hostBad := [], hostPos := 0, hostCorrected := 0 },
    fltH := if halt then { s.fltH with halting := false } else {}, records := [], spi := {}, linkH := {}, observers := [], recent := [], proxied := [],
    ring := { relay := s.ring.relay, relayOps := s.ring.relayOps },
    journal := { s.journal with stores := (s.journal.stores.map fun p => (p.1, ({ known := p.2.known } : Store))).filter (fun p => p.2 ≠ {}),
                                stream := [], seen := 0, resent := 0, ignored := 0, evDropped := 0 },
    hostTs := 0, carried := [], carrying := [],
    dict := s.dict.filter onField, counts := s.counts.filter fun p => fieldIndex (p.1 / 256) }
  let s : State := { s with
    settings := { s.settings with changedH := false, noteH := false },
    power := { s.power with hostReset := true, hostReady := false, hostFenced := false, hostPadlat := 0, hostWakeen := 0xFE } }
  s.relaySet

/-- The address and port that the settings give come into use; with none, a link-local address is taken (R340). -/
def State.useAddress (s : State) : State :=
  let a := s.objNat 0x8001 1
  let s1 : State := { s with ring := { s.ring with newAddr := false, udp := s.objNat 0x8001 5, ip := if a ≠ 0 then a else Config.linkLocal s.fresh } }
  if a ≠ 0 then s1 else s1.draw

/-- The host side becomes ready: settings loaded, tables cleared, the relay opens (R289, R337). A field restart that waited
for it runs (R397). -/
def State.hostBoot (s : State) : State :=
  let s : State := { s with power := { s.power with hostReset := false, hostReady := true, state := if s.power.state = 3 then 0 else s.power.state } }
  let s : State := match s.settings.hostCopies with
    | c :: _ => { s with dict := c.vals.foldl (fun d p => d.insert p.1 p.2) s.dict, settings := { s.settings with defaultsH := false } }
    | [] => { s with settings := { s.settings with defaultsH := true, noteH := true } }
  let s := s.each (List.range 4) State.restartStore
  let s := s.useAddress.relaySet
  let s := s.when s.settings.defaultsH (State.raiseFault .host 1 3 1 [1])
  let s := s.when (s.settings.noteH && !s.power.unstarted) fun s =>
    ({ s with settings := { s.settings with noteH := false } }).commit 6 2 [1]
  let s := s.drainHost
  if s.power.restartWaits then ({ s with power := { s.power with restartWaits := false } }).fieldReset (some 3) else s

/-- HOST_RESET (R337). -/
def execHostReset (s : State) : Result := .next s.hostHold

/-- HOST_READY (R337): has no effect on a host side that is ready. -/
def execHostReady (s : State) : Result := if s.power.hostReady then .next s else .next s.hostBoot

end Sys2Proof.Machine
end

