-- ==== Sys2Proof/Machine/FaultCommands.lean ====
section
/-!
DEFINITION. Fault commands: acknowledgement, first-error capture, the record queue, restart, monitors, watchdog
(R385 to R398).
-/

namespace Sys2Proof.Machine

open Sys2Proof

/-! ### Acknowledgement (R385, R389, R396) -/

/-- A named class stands at level 3 or 4 on either die (R385). -/
def State.anyHigh (s : State) (mask : Nat) : Bool :=
  (List.range 13).any fun c => decide (bitsOf mask c 1 = 1) && (decide (s.fltF.level c ≥ 3) || decide (s.fltH.level c ≥ 3))

/-- A class mask names classes 1 to 12 only; its other bits are reserved (R9, R381). -/
def classMaskOk (mask : Nat) : Bool := decide (mask % 2 = 0) && decide (mask < 8192)

/-- A class mask written to 0xA001.01 (R9, R385). -/
def State.ackBoth (mask : Nat) (s : State) : Status × State :=
  if classMaskOk mask = false then (.valueRange, s)
  else if s.anyHigh mask then (.authRequired, s) else (.ok, (s.ackDie .field mask).ackDie .host mask)

/-- The class A command 0xA002.01 (R385, R399). -/
def State.ackAny (p : List Byte) (s : State) : Status × State :=
  let die := fieldLE p 0 1
  let mask := fieldLE p 1 2
  if die > 2 ∨ classMaskOk mask = false ∨ fieldLE p 3 1 ≠ 0 then (.valueRange, s)
  else
    let s := s.when (decide (die ≠ 1)) (State.ackDie .field mask)
    (.ok, s.when (decide (die ≠ 0)) (State.ackDie .host mask))

/-- ACK (R396): an FLTACK write by the Kenier pair; bit *i* of the field names class *i* + 1. -/
def execAck (mask : BitVec 12) (s : State) : Result := .next (s.ackDie .field (2 * mask.toNat))

/-! ### First-error capture (R395) -/

def State.releaseCapture (d : Die) (s : State) : State :=
  s.setCollector d { s.collector d with cap := { (s.collector d).cap with frozen := false } }

/-- CAPREL (R396). -/
def execCaprel (s : State) : Result := .next (s.releaseCapture .field)

/-! ### The record queue (R388, R393) -/

/-- A Note whose record is committed acknowledges its class while 0xA001.02 is TRUE and nothing above a Note is
outstanding in it (R385). -/
def State.autoAck (d : Die) (cls level : Nat) (s : State) : State :=
  if s.objBool 0xA001 2 ∧ level = 1 ∧ (s.collector d).level cls = 1 then
    match d with
    | .field => s.ackDie .field (2 ^ cls)
    | .host => s.ackDie .host (2 ^ cls)
  else s

/-- A fault record is journalled (R391, R393). -/
def State.journalFault (d : Die) (fr : List Byte) (s : State) : State :=
  let s' := s.commit 5 1 fr
  if s'.journal.esn = s.journal.esn then s' else s'.autoAck d (fieldLE fr 0 1) (fieldLE fr 1 1 % 8)

/-- Firmware takes the head record: it journals it and sends it to the host side; the safe-state entry is journalled
first (R388 step 4, R393). -/
def State.takeRecord (s : State) : State :=
  match s.fltF.queue with
  | [] => s
  | fr :: q =>
    let s : State := { s with fltF := { s.fltF with queue := q } }
    let s := match s.fltF.safeRec with
      | some r => ({ s with fltF := { s.fltF with safeRec := none } }).commit 5 2 r
      | none => s
    (s.journalFault .field fr).send .porterField 0x60 (.fault fr)

/-- FLTQ_CONSUME (R396). -/
def execFltqConsume (s : State) : Result := .next s.takeRecord

/-! ### Restart (R390, R397) -/

/-- RESTART_DELAY (R390): a field restart waits for a host side that restarts too (R397). -/
def execRestartDelay (d : Die) (s : State) : Result :=
  match d with
  | .field =>
    if ¬ s.fltF.halting then .next s
    else if s.fltH.halting ∨ s.power.hostReset then .next { s with power := { s.power with restartWaits := true } }
    else .next (s.fieldReset (some 3))
  | .host => if s.fltH.halting then .next s.hostHold else .next s

/-! ### Monitors (R386) -/

/-- CARRIER_OUT_OF_TOLERANCE (R386). -/
def execCarrierOutOfTolerance (ppm : BitVec 16) (s : State) : Result := .next (s.raiseFault .field 6 2 3 (natLE 2 ppm.toNat))

/-- PLL_UNLOCK (R386). -/
def execPllUnlock (s : State) : Result := .next (s.raiseFault .field 6 3 4 [])

/-- RAIL_OUT_OF_RANGE (R386). -/
def execRailOutOfRange (rail : Nat) (mv : Nat) (s : State) : Result := .next (s.raiseFault .field 7 1 3 (b8 rail :: natLE 2 mv))

/-- COLLECTOR_PARITY_ERROR (R394). -/
def execCollectorParityError (s : State) : Result := .next (s.raiseFault .field 2 3 4 [])

/-! ### The watchdog (R386) -/

/-- A write to WDKICK: any value but the kick counts as a missed kick (R386). -/
def State.wdkick (v : Nat) (s : State) : State :=
  if v = 0xA5C3 then { s with power := { s.power with kicked := true } }
  else { s with power := { s.power with missedKicks := s.power.missedKicks + 1 } }

/-- WDKICK (R386). -/
def execWdkick (v : Word) (s : State) : Result := .next (s.wdkick v.toNat)

/-- WATCHDOG (R386): paused while the pair is halted by debug. -/
def execWatchdog (s : State) : Result :=
  if s.dbg.halted then .next s
  else .next (({ s with power := { s.power with kicked := false } }).raiseFault .field 10 6 4 [])

end Sys2Proof.Machine
end

