-- ==== Sys2Proof/Machine/RadioPhy.lean ====
section
/-!
DEFINITION. How an extended packet's payload is coded and loaded (R449, R451 to R453): maps, encoder, bit slots, and the
reading back of the slots.
-/

namespace Sys2Proof.Machine

open Sys2Proof

/-! ### Maps (R452) -/

/-- The code of a map's data sub-carrier (R452). -/
def mapCode (m : List Byte) (d : Nat) : Nat := bitsOf ((m.getD (d / 4) 0).toNat) (2 * (d % 4)) 2
def codeBits (c : Nat) : Nat := match c with | 0 => 0 | 1 => 1 | 2 => 2 | _ => 4
def mapBits (m : List Byte) : Nat := (List.range 96).foldl (fun n d => n + codeBits (mapCode m d)) 0

/-- A valid map (R452). -/
def mapValid (m : List Byte) : Bool :=
  decide (m.length = 24) && decide (48 ≤ mapBits m ∧ mapBits m ≤ 384) && decide (mapBits m % 4 = 0)

/-- The 24 bytes of a map's 96 codes (R452). -/
def mapBytes (cs : List Nat) : List Byte :=
  (List.range 24).map fun i => b8 ((List.range 4).foldl (fun n j => n + cs.getD (4 * i + j) 0 * 4 ^ j) 0)

/-! ### Bit slots (R453) -/

/-- The bit slots (d, b) of a symbol in the order in which coded bits fill them (R453). -/
def slotOrder (map : List Byte) : List (Nat × Nat) :=
  (List.range 4).flatMap fun b =>
    ((List.range 96).map fun m => (7 * m) % 96).filterMap fun d => if b < codeBits (mapCode map d) then some (d, b) else none

/-- One symbol: each bit slot with its coded bit (R453). -/
def fillSlots (map : List Byte) (coded : List Bool) : List (Nat × Nat × Bool) :=
  ((slotOrder map).zip coded).map fun x => (x.1.1, x.1.2, x.2)

/-- The symbols of a payload: each takes the next N_CBPS coded bits (R452, R453). -/
def fillSymbols (map : List Byte) : Nat → List Bool → List (List (Nat × Nat × Bool))
  | 0, _ => []
  | n + 1, coded => fillSlots map (coded.take (mapBits map)) :: fillSymbols map n (coded.drop (mapBits map))

/-- A received symbol's coded bits: its slots, bit level `b` of sub-carrier `d` at place 4 d + b, read in the order of R453. -/
def readSlots (map : List Byte) (levels : List Bool) : List Bool := (slotOrder map).map fun x => levels.getD (4 * x.1 + x.2) false

/-! ### The encoder (R449) -/

/-- The encoder's two output bits for an input bit and its last six inputs, newest first: generators 133 and 171 octal. -/
def convOut (x : Bool) (st : List Bool) : Bool × Bool :=
  let t := fun i => st.getD i false
  (xor (xor (xor (xor x (t 1)) (t 2)) (t 4)) (t 5), xor (xor (xor (xor x (t 0)) (t 1)) (t 2)) (t 5))

/-- The coded bits at rate 3/4: of the six bits of three inputs the second and third input's one bit each is left out (R449;
the pattern is the standard's, log 16). -/
def encode34 : List Bool → List Bool → List Bool
  | st, a :: b :: c :: xs =>
    let st1 := (a :: st).take 6
    let st2 := (b :: st1).take 6
    let o1 := convOut a st
    [o1.1, o1.2, (convOut b st1).1, (convOut c st2).2] ++ encode34 ((c :: st2).take 6) xs
  | st, [a, b] => let o1 := convOut a st; [o1.1, o1.2, (convOut b ((a :: st).take 6)).1]
  | st, [a] => let o1 := convOut a st; [o1.1, o1.2]
  | _, [] => []

/-- The inputs that coded bits at rate 3/4 stand for, from the first bit of each. -/
def invert34 : List Bool → List Bool → List Bool
  | st, p :: _ :: q :: r :: xs =>
    let a := xor p (convOut false st).1
    let st1 := (a :: st).take 6
    let b := xor q (convOut false st1).1
    let st2 := (b :: st1).take 6
    let c := xor r (convOut false st2).2
    a :: b :: c :: invert34 ((c :: st2).take 6) xs
  | _, _ => []

/-- The bits of octets, the lowest first. -/
def octetBits (l : List Byte) : List Bool := l.flatMap fun b => (List.range 8).map fun i => b.getLsbD i

/-- Octets of bits, the lowest first. -/
def bitOctets : Nat → List Bool → List Byte
  | 0, _ => []
  | n + 1, l => b8 ((List.range 8).foldl (fun v i => v + bit (l.getD i false) * 2 ^ i) 0) :: bitOctets n (l.drop 8)

/-- Data bits per symbol of a map: three quarters of its coded bits (R452). -/
def mapDbps (map : List Byte) : Nat := 3 * mapBits map / 4

/-- Symbols of `len` octets with the six tail bits (R449). -/
def symbolsOf (dbps len : Nat) : Nat := (8 * len + 6 + dbps - 1) / dbps

/-- The encoder's input: the scrambled octets, six zero tail bits, and pad bits up to the last symbol's end (R449); the
scrambler is the standard's. -/
def encoderInput (seed dbps : Nat) (psdu : List Byte) : List Bool :=
  let n := 8 * psdu.length
  let bits := octetBits psdu
  (List.range (symbolsOf dbps psdu.length * dbps)).map fun i =>
    if i < n then xor (bits.getD i false) (Config.scrambler seed i) else if i < n + 6 then false else Config.scrambler seed i

/-- The symbols of an extended packet's payload (R449, R451, R453). -/
def payloadSymbols (map : List Byte) (seed : Nat) (psdu : List Byte) : List (List (Nat × Nat × Bool)) :=
  fillSymbols map (symbolsOf (mapDbps map) psdu.length) (encode34 [] (encoderInput seed (mapDbps map) psdu))

/-- The octets that received symbols spell, where their coded bits are the encoder's for them; with an error in them none: the
Viterbi decoder's weights are not the model's (R449). -/
def readSymbols (map : List Byte) (seed len : Nat) (symbols : List (List Bool)) : Option (List Byte) :=
  let coded := (symbols.map (readSlots map)).flatten
  let inputs := invert34 [] coded
  if encode34 [] inputs = coded ∧ 8 * len ≤ inputs.length then
    some (bitOctets len ((List.range (8 * len)).map fun i => xor (inputs.getD i false) (Config.scrambler seed i)))
  else none

/-! ### The FCS (R447, R456) -/

/-- The 4-octet FCS of octets; log 11. -/
def fcsOf (l : List Byte) : List Byte := natLE 4 (crcReflected 0xEDB88320 0xFFFFFFFF 0xFFFFFFFF l)

/-- The last four octets are the FCS of those before them (R447, R450). -/
def fcsGood (psdu : List Byte) : Bool :=
  decide (5 ≤ psdu.length) && decide (psdu.drop (psdu.length - 4) = fcsOf (psdu.take (psdu.length - 4)))

end Sys2Proof.Machine
end

