-- ==== Sys2Proof/Machine/RadioOps.lean ====
section
/-!
DEFINITION. The door-link radio's shared operations: states, pins, duty, transmit queue, maps (R426 to R444, R450 to
R459).
-/

namespace Sys2Proof.Machine

open Sys2Proof

/-- A door-link radio is fitted (R5). -/
def hasRadio : Bool := decide (Config.variant ≠ .h)

/-- Byte memory of the packet slots (R456). -/
def State.pktByte (s : State) (off : Nat) : Byte := Tab.get 0 s.pktMem off
def State.pktBytes (s : State) (off n : Nat) : List Byte := (List.range n).map fun i => s.pktByte (off + i)
def State.setPkt (off : Nat) (b : Byte) (s : State) : State := { s with pktMem := Tab.set 0 s.pktMem off b }
def State.setPkts : Nat → List Byte → State → State
  | _, [], s => s
  | off, b :: bs, s => State.setPkts (off + 1) bs (s.setPkt off b)
def slotOff (p : Nat) : Nat := 0x1000 + 0xA00 * p

/-! ### States, pins and calibration (R428 to R431, R438) -/

/-- FEM pins of a state: PWR, PA, LNA, BYP in bits 0 to 3 (R428, R438); in the safe state reception uses the bypass path
(R441). -/
def femOf (state : Nat) (safe : Bool) : BitVec 4 :=
  match state with
  | 0 => 0
  | 3 => if safe then 9 else 5
  | 4 => 3
  | _ => 9

/-- The FEM pins follow the state, unless their group is latched (R419) or no FEM is fitted (R438). -/
def State.radioPins (s : State) : State :=
  if s.power.padlat.getLsbD 0 then s
  else { s with radio := { s.radio with fem := s.femPins (femOf s.radio.state s.fltF.safe) } }

/-- The receiver's IF, kHz, by the widest option enabled (R427). -/
def State.receiveIf (s : State) : Nat :=
  let o := s.objNat 0x7010 2
  if bitsOf o 0 1 = 1 then 1200 else if bitsOf o 1 1 = 1 then 800 else if bitsOf o 2 1 = 1 then 400 else 200

/-- The centre of the home channel in use, kHz (R426, R435). -/
def State.centreKhz (s : State) : Nat := (match Config.variant with | .n => 903200 | _ => 863600) + 1200 * s.radio.channel

/-- What the synthesiser is settled at in a state (R427, R428). -/
def State.synthKhz (st : Nat) (s : State) : Nat :=
  match st with
  | 2 => s.centreKhz
  | 3 => s.centreKhz - s.receiveIf
  | 4 => s.centreKhz
  | _ => 0

/-- The radio enters a state, with its pins and its frequency (R428). -/
def State.setRadio (st : Nat) (s : State) : State :=
  { s with radio := { s.radio with state := st, moving := false, freq := s.synthKhz st } }.radioPins

/-- A pending synthesiser calibration starts in IDLE, FS_ON or RX with no packet in reception and no transmit command
(R431). -/
def State.calTry (s : State) : State :=
  let r := s.radio
  if r.calPend ∧ (r.state = 1 ∨ r.state = 2 ∨ r.state = 3) ∧ ¬ r.rxBusy ∧ r.queue = [] ∧ ¬ r.cal ∧ ¬ r.settle then
    { s with radio := { r with cal := true, calPend := false, lock := false, goal := r.state } }
  else s

/-- A calibration request (R431). -/
def State.calRequest (s : State) : State := { s with radio := { s.radio with calPend := true } }.calTry

/-- A command takes the radio to a state (R429): the synthesiser settles when it was off, and a transition otherwise. While the FEM
pads are latched the radio stays as it is (R442). -/
def State.radioGo (target : Nat) (s : State) : State :=
  let r := s.radio
  if s.power.padlat.getLsbD 0 then s
  else if r.queue.any (fun c => c.onAir) then
    { s with radio := { r with queue := r.queue.map fun c => if c.onAir then { c with after := match target with
        | 0 => .sleep | 1 => .idle | 2 => .fsOn | _ => .rx } else c } }
  else if r.state ≤ 1 ∧ target ≥ 2 ∨ r.state = 5 ∧ target ≥ 2 then
    if r.calPend then { s with radio := { r with goal := target, cal := true, calPend := false, lock := false } }
    else { s with radio := { r with goal := target, settle := true } }
  else
    let drop := target ≠ 3
    { s with radio := { r with goal := target, moving := true, rxBusy := r.rxBusy && !drop, rxDrop := r.rxDrop && !drop } }

/-! ### Duty (R435, R437) -/

/-- The duty in the window, us (R437). -/
def State.dutySum (s : State) : Nat := s.radio.duty.foldl (· + ·) 0 + (3600 - s.radio.duty.length) * dutyShare

/-- The transmission is refused for duty; with a limit of 3,600 s no check applies (R437). -/
def State.dutyRefuses (s : State) (us : Nat) (urgent : Bool) : Bool :=
  decide (dutyLimit ≠ 3600) &&
  (decide (s.dutySum + us > dutyLimit * 1000000) || (decide (s.dutySum + us > dutyLimit * 900000) && !urgent))

/-- A refusal for duty; the first since the sum was last below 90 % of the limit raises a Note (R437). -/
def State.noteDuty (s : State) : State :=
  let first := !s.radio.dutyNoted || decide (s.dutySum < dutyLimit * 900000)
  let s : State := { s with radio := { s.radio with dutyRefused := s.radio.dutyRefused + 1, dutyNoted := true } }
  s.when first (State.raiseFault .field 12 2 1 (natLE 2 s.radio.channel))

/-! ### Packets (R447, R448, R452, R456) -/

/-- Data bits per symbol of an option's MCS, from the data rates of R448; none where R447 does not allow it. -/
def ndbps (option mcs : Nat) : Option Nat :=
  let rates : List (Option Nat) := match option with
    | 1 => [some 100, some 200, some 400, some 800]
    | 2 => [some 50, some 100, some 200, some 400, some 600, some 800]
    | 3 => [none, some 50, some 100, some 200, some 300, some 400, some 600]
    | 4 => [none, none, some 50, some 100, some 150, some 200, some 300]
    | _ => []
  ((rates[mcs]?).join).map fun r => r * 3 / 25

/-- A node takes part in extended mode (R450, R456). -/
def State.nodeExt (s : State) (i : Nat) : Bool := s.objBool (0x7800 + i) 5

/-- A transmit header that the radio accepts (R456). -/
def State.txHeaderOk (s : State) (p : Nat) : Bool :=
  let h := s.pktBytes (slotOff p) 16
  let mode := fieldLE h 0 1
  let option := fieldLE h 1 1
  let len := fieldLE h 4 2
  let node := fieldLE h 6 2
  decide (p ≤ 7) && decide (fieldLE h 3 1 = 0) && decide (5 ≤ len ∧ len ≤ 2047) && decide (fieldLE h 8 1 ≤ 3) && decide (fieldLE h 9 7 = 0) &&
  (if mode = 0 then (ndbps option (fieldLE h 2 1)).isSome
   else decide (mode = 1) && decide (option = 1) && decide (node ≤ 1023) && mapValid (s.node node).downMap && s.nodeExt node)

/-- Length of a packet in us without its ramps (R447, R451; the headers of options 2 to 4 are Config's, log 16). -/
def packetUs (ext : Bool) (option bits len : Nat) : Nat :=
  let n := symbolsOf bits len
  (if option = 1 then 1080 else Config.headerUs option) + (if ext then 480 else 0) + 120 * n

/-- The length of the packet in a transmit slot with both ramps, us (R437). -/
def State.slotUs (s : State) (p : Nat) : Nat :=
  let h := s.pktBytes (slotOff p) 16
  let ext := decide (fieldLE h 0 1 = 1)
  let bits := if ext then mapDbps (s.node (fieldLE h 6 2)).downMap else (ndbps (fieldLE h 1 1) (fieldLE h 2 1)).getD 1
  packetUs ext (fieldLE h 1 1) bits (fieldLE h 4 2) + 2 * s.objNat 0x7010 10

/-- The FCS that the radio places after the octets of a slot (R456); log 11. -/
def State.placeFcs (p : Nat) (s : State) : State :=
  let len := fieldLE (s.pktBytes (slotOff p) 16) 4 2
  s.setPkts (slotOff p + 16 + (len - 4)) (fcsOf (s.pktBytes (slotOff p + 16) (len - 4)))

/-- The payload symbols of the packet in a transmit slot, by the downlink map of its node as it is then (R453, R456); none in
standard mode, whose coding is the standard's (R447). -/
def State.slotSymbols (p : Nat) (s : State) : List (List (Nat × Nat × Bool)) :=
  let h := s.pktBytes (slotOff p) 16
  if fieldLE h 0 1 = 1 then
    payloadSymbols (s.node (fieldLE h 6 2)).downMap (fieldLE h 8 1) (s.pktBytes (slotOff p + 16) (fieldLE h 4 2))
  else []

/-- The XHR of the packet in a transmit slot: the node's short address and the generation of its downlink map (R451, R456). -/
def State.slotXhr (p : Nat) (s : State) : Option (Nat × Nat) :=
  let h := s.pktBytes (slotOff p) 16
  let i := fieldLE h 6 2
  if fieldLE h 0 1 = 1 then some (s.objNat (0x7400 + i) 3, (s.node i).downGen) else none

/-! ### The transmit queue (R433, R440) -/

def thenState : Then → Nat
  | .idle => 1 | .fsOn => 2 | .rx => 3 | .sleep => 0

/-- A transmit command joins the queue: an urgent one ahead of every non-urgent one that has not been accepted (R433). -/
def enqueueTx (c : TxCmd) (q : List TxCmd) : List TxCmd :=
  if c.urgent then
    let i := q.findIdx fun x => !x.urgent && x.t0.isNone
    q.take i ++ [c] ++ q.drop i
  else q ++ [c]

/-- The home channel written during a packet applies after it, with a settle (R444, R446). -/
def State.channelTry (s : State) : State :=
  let want := s.objNat 0x7010 1
  let r := s.radio
  if want = r.channel ∨ r.rxBusy ∨ r.queue.any (fun c => c.onAir) then s
  else if r.state = 2 ∨ r.state = 3 then { s with radio := { r with channel := want, settle := true, goal := r.state } }
  else { s with radio := { r with channel := want } }

/-- The head command ends with a result: COEX_REQ is released and the next command may be accepted (R433). -/
def State.headEnd (res : Nat) (s : State) : State :=
  match s.radio.queue with
  | [] => s
  | c :: q =>
    let s : State := { s with radio := { s.radio with queue := q, coexReq := false, coexPri := false } }
    ((s.txResult c res).channelTry).calTry

/-- The packet on air ends with a result and the radio goes to THEN (R430, R433). -/
def State.packetEnd (res : Nat) (s : State) : State :=
  match s.radio.queue with
  | [] => s
  | c :: _ => (s.setRadio (thenState c.after)).headEnd res

/-- The head command of the queue. -/
def State.txHead (s : State) : Option TxCmd := s.radio.queue.head?
def State.modHead (f : TxCmd → TxCmd) (s : State) : State :=
  { s with radio := { s.radio with queue := match s.radio.queue with | [] => [] | c :: q => f c :: q } }

/-- A denial at the end of the lead: the command is deferred, or ends with result 1 (R433, R440). -/
def State.denied (c : TxCmd) (s : State) : State :=
  let s : State := { s with radio := { s.radio with denials := s.radio.denials + 1, coexReq := false, coexPri := false } }
  if c.retries < s.objNat 0x7010 9 then s.modHead fun c => { c with waiting := true, retries := c.retries + 1 }
  else s.headEnd 1

/-- The radio's own output, dBm (R436, R439): the request less the larger of the declared and the measured PA gain, and 6 dB
lower until a FEM fault is acknowledged. -/
def State.outputDbm (s : State) : Rat :=
  let declared : Rat := match Config.variant with | .n => 16 | _ => 10
  let gain := if s.calib.paGain > declared then s.calib.paGain else declared
  (s.objInt 0x7010 3 : Rat) - gain - (if s.radio.reduced then 6 else 0)

/-- The transmit sequence starts: 3 µs of FEM sequence, and 20 µs of retuning from RX, before the ramp-up (R429, R438). -/
def State.goOnAir (c : TxCmd) (s : State) : State :=
  let lead := usCt (if s.radio.state = 3 then 23 else 3)
  let at_ := (s.tb.cc + lead) % 2 ^ 48
  let delay := min 65535 (((at_ + 2 ^ 48 - c.t0.getD s.tb.cc) % 2 ^ 48) * 25 / 339)
  let coex := s.objBool 0x7010 6
  let abort := s.objBool 0x7010 8
  let ramp := s.objNat 0x7010 10
  let s := (s.placeFcs c.pkt).modHead fun c => { c with onAir := true, coex := coex, abort := abort, ramp := ramp }
  let s : State := { s with radio := { s.radio with txst := at_ % 2 ^ 32, delay := delay } }
  (s.setRadio 4).emit (.radioPacket c.pkt s.radio.channel s.outputDbm ramp (s.objNat 0x7020 2) (s.slotXhr c.pkt) (s.slotSymbols c.pkt))

/-- The accepted head goes on once calibration, settle, reception and lead have ended (R433). -/
def State.txGo (s : State) : State :=
  match s.txHead with
  | none => s
  | some c =>
    let r := s.radio
    let coex := s.objBool 0x7010 6
    if c.t0.isNone ∨ c.onAir ∨ c.waiting ∨ r.cal ∨ r.settle ∨ r.moving ∨ r.rxBusy ∨ (coex ∧ ¬ c.leadDone) then s
    else if coex ∧ ¬ r.coexGnt then s.denied c
    else s.goOnAir c

/-- COEX_REQ is asserted with its lead, and a calibration in progress is aborted by an urgent command; a synthesiser that is
off settles (R429, R433, R440). -/
def State.txPrepare (c : TxCmd) (s : State) : State :=
  let s : State := if s.objBool 0x7010 6 then { s with radio := { s.radio with coexReq := true, coexPri := c.pri } } else s
  let r := s.radio
  let s : State :=
    if r.cal then
      if c.urgent then
        { s with radio := { r with cal := false, calPend := true, aborts := r.aborts + 1, settle := true, goal := 2 } }.modHead
          fun c => { c with calAbort := true }
      else { s with radio := { r with goal := 2 } }
    else if r.state ≤ 1 ∨ r.state = 5 then { s with radio := { r with settle := true, goal := 2 } }
    else s
  s.txGo

/-- A loop-back runs (R459). -/
def Radio.looping (r : Radio) : Bool := decide (r.loop = 1) && !r.loopWait

/-- A loop-back that waits begins once the transmit queue is empty and no packet is in reception; at depth 2 the FEM pins are
low (R459, R460). -/
def State.loopTry (s : State) : State :=
  let r := s.radio
  if r.loop = 1 ∧ r.loopWait ∧ r.queue = [] ∧ ¬ r.rxBusy then
    { s with radio := { r with loopWait := false, fem := if s.objNat 0x7040 1 = 2 then 0 else r.fem } }
  else s

/-- The head command is accepted (R433), once the FEM pads have been released after a wake (R442) and no loop-back runs (R459). -/
def State.txAccept (s : State) : State :=
  match s.txHead with
  | none => s
  | some c =>
    if c.t0.isSome ∨ s.power.padlat.getLsbD 0 ∨ s.radio.looping then s
    else
      let s := s.modHead fun c => { c with t0 := some s.tb.cc }
      if s.fltF.safe ∨ s.power.warning then s.headEnd 5
      else if s.dutyRefuses (s.slotUs c.pkt) c.urgent then s.noteDuty.headEnd 2
      else s.txPrepare c

/-- A DLCMD transmit write (R433, R441, R456). -/
def State.txCommand (pkt : Nat) (urgent pri : Bool) (after : Then) (s : State) : State :=
  let c : TxCmd := { pkt := pkt, urgent := urgent, pri := pri, after := after }
  if ¬ s.txHeaderOk pkt then { s with radio := { s.radio with txIgnored := s.radio.txIgnored + 1 } }
  else if s.fltF.safe ∨ s.power.warning then s.txResult c 5
  else if s.radio.queue.length ≥ 4 then s.txResult c 6
  else { s with radio := { s.radio with queue := enqueueTx c s.radio.queue } }

/-- A settle or a transition ends: the radio is in the state it led to, and what waited goes on (R429, R433). -/
def State.settleEnd (s : State) : State :=
  if s.radio.settle ∨ s.radio.moving then
    let g := s.radio.goal
    let s : State := { s with radio := { s.radio with settle := false, moving := false, lock := decide (g ≥ 2 ∧ g ≠ 5) } }
    ((s.setRadio g).calTry).txGo
  else s

/-! ### Maps (R454, R455) -/

/-- The code of a sub-carrier by its SNR sum over `n` packets in 0.01 dB and the margin in dB (R454). -/
def snrCode (sum : Int) (n margin : Nat) : Nat :=
  let ok := fun (th : Nat) => decide (sum ≥ (n : Int) * ((th + 100 * margin : Nat) : Int))
  if ok 1400 then 3 else if ok 800 then 2 else if ok 500 then 1 else 0

/-- While N_CBPS is no multiple of 4, the weakest loaded sub-carrier steps down (R454). -/
def stepDown (sums : List Int) : Nat → List Nat → List Nat
  | 0, cs => cs
  | fuel + 1, cs =>
    if (cs.foldl (fun n c => n + codeBits c) 0) % 4 = 0 then cs
    else
      let loaded := (List.range 96).filter fun d => decide (cs.getD d 0 ≠ 0)
      match loaded with
      | [] => cs
      | d0 :: ds =>
        let w := ds.foldl (fun w d => if sums.getD d 0 < sums.getD w 0 then d else w) d0
        stepDown sums fuel (cs.set w (cs.getD w 0 - 1))

/-- The uplink map that the last packets' SNR gives; none where it fails R452 (R454). -/
def computeMap (snrs : List (List Int)) (margin : Nat) : Option (List Byte) :=
  let n := snrs.length
  let sums := (List.range 96).map fun d => snrs.foldl (fun t l => t + l.getD d 0) 0
  let m := mapBytes (stepDown sums 288 (sums.map fun x => snrCode x n margin))
  if mapValid m then some m else none

/-- A generation one above, 255 followed by 1 (R455). -/
def nextMapGen (g : Nat) : Nat := if g ≥ 255 then 1 else g + 1

/-- A recomputed uplink map is set in the node when it differs and the interval has passed; a set not acknowledged is
repeated with its generation (R455, R460). -/
def State.mapCompute (i : Nat) (s : State) : State :=
  let n := s.node i
  match computeMap n.snrs (s.objNat 0x7020 3) with
  | none => s
  | some m =>
    let due := match n.lastSet with | some t => decide (s.tb.ts ≥ t + s.objNat 0x7020 4 * 1000000) | none => true
    if !due || (n.newMap.isNone && decide (m = n.upMap)) then s
    else
      let x := n.newMap.getD (m, nextMapGen n.upGen)
      (s.modNode i fun n => { n with newMap := some x, sets := n.sets + 1, lastSet := some s.tb.ts }).emit
        (.nodeFrame i ([0xC7, 1, b8 x.2] ++ x.1))

end Sys2Proof.Machine
end

