-- ==== Sys2Proof/Machine/RadioCommands.lean ====
section
/-!
DEFINITION. Door-link radio commands and happenings (R429 to R444, R450 to R459). Without a fitted radio they have no effect
(R5).
-/

namespace Sys2Proof.Machine

open Sys2Proof

/-- An effect of the radio, where one is fitted (R5); a loop-back that waits begins before it when it may (R459). -/
def State.radioDo (f : State → State) (s : State) : Result := .next (if hasRadio then f s.loopTry else s)

/-- The receiver searches: in RX with the synthesiser settled and no loop-back running (R431, R450, R459). -/
def State.searching (s : State) : Bool :=
  let r := s.radio
  decide (r.state = 3) && !r.cal && !r.settle && !r.moving && !r.looping && !s.calib.staleRssi

/-- SLEEP (R429). -/
def execSleep (_after : Then) (s : State) : Result := s.radioDo (State.radioGo 0)

/-- IDLE (R429). -/
def execIdle (_after : Then) (s : State) : Result := s.radioDo (State.radioGo 1)

/-- FS_ON (R429). -/
def execFsOn (_after : Then) (s : State) : Result := s.radioDo (State.radioGo 2)

/-- The RX command with its THEN state (R430). -/
def State.rxCommand (after : Then) (s : State) : State := State.radioGo 3 { s with radio := { s.radio with rxThen := after } }

/-- RX (R430). -/
def execRx (after : Then) (s : State) : Result := s.radioDo (State.rxCommand after)

/-- TX (R433, R456). -/
def execTx (after : Then) (urgent pri : Bool) (pkt : BitVec 8) (s : State) : Result :=
  s.radioDo (State.txCommand pkt.toNat urgent pri after)

/-- CALIBRATE (R431). -/
def execCalibrate (s : State) : Result := s.radioDo State.calRequest

/-- TRANSMIT_HEAD (R433). -/
def execTransmitHead (s : State) : Result := s.radioDo State.txAccept

/-- The coexistence lead ends and COEX_GNT is sampled (R440). -/
def State.leadEnd (grant : Bool) (s : State) : State :=
  match s.txHead with
  | none => s
  | some c =>
    match c.t0 with
    | none => s
    | some t =>
      if c.onAir ∨ c.waiting ∨ c.leadDone ∨ ¬ s.radio.coexReq then s
      else
        let s := s.advanceTo ((t + usCt (s.objNat 0x7010 7)) % 2 ^ 48)
        let s := s.modHead fun c => { c with leadDone := true }
        State.txGo { s with radio := { s.radio with coexGnt := grant } }

/-- LEAD_END (R440). -/
def execLeadEnd (grant : Bool) (s : State) : Result := s.radioDo (State.leadEnd grant)

/-- A deferred command repeats with a full lead (R433, R440). -/
def State.coexRetry (s : State) : State :=
  match s.txHead with
  | none => s
  | some c =>
    if ¬ c.waiting then s
    else (s.modHead fun c => { c with waiting := false, leadDone := false, t0 := some s.tb.cc }).txPrepare c

/-- COEX_RETRY (R440). -/
def execCoexRetry (s : State) : Result := s.radioDo State.coexRetry

/-- A return loss worse than 6 dB over a packet (R439). -/
def State.lossFault (s : State) : State :=
  ({ s with radio := { s.radio with femFaults := s.radio.femFaults + 1, reduced := true } }).raiseFault .field 12 3 2 (natLE 2 s.radio.channel)

/-- A packet and its ramp-down have ended (R430, R433, R437, R439). -/
def State.packetSent (airUs : Nat) (lossBad : Bool) (s : State) : State :=
  match s.txHead with
  | none => s
  | some c =>
    if ¬ c.onAir then s
    else
      let h := s.pktBytes (slotOff c.pkt) 16
      let s := s.addDuty (airUs + 2 * c.ramp)
      let s := s.when (decide (fieldLE h 0 1 = 1)) (State.modNode (fieldLE h 6 2) fun n => { n with sent := n.sent + 1 })
      let s := s.when lossBad State.lossFault
      s.packetEnd 0

/-- PACKET_SENT (R433). -/
def execPacketSent (airUs : Nat) (lossBad : Bool) (s : State) : Result := s.radioDo (State.packetSent airUs lossBad)

/-- SETTLE_END (R429). -/
def execSettleEnd (s : State) : Result := s.radioDo State.settleEnd

/-- SYNTHESISER_CALIBRATION_DONE (R431): its settle begins. -/
def execSynthesiserCalibrationDone (s : State) : Result :=
  s.radioDo fun s => if s.radio.cal then
    { s with radio := { s.radio with cal := false, cals := s.radio.cals + 1, calTemp := s.radio.temp, settle := true } } else s

/-- TEMPERATURE_SAMPLE (R431). -/
def execTemperatureSample (c : Int) (s : State) : Result :=
  s.radioDo fun s =>
    let far := decide ((c - s.radio.calTemp).natAbs ≥ 8)
    State.calTry { s with radio := { s.radio with temp := c, calPend := s.radio.calPend || far } }

/-- BACKGROUND_CALIBRATION (R431, R432): an IQ calibration that is not abandoned shows its image rejection. -/
def execBackgroundCalibration (iq abandoned : Bool) (imageDb : Nat) (s : State) : Result :=
  s.radioDo fun s => if s.searching && !s.radio.rxBusy && iq && !abandoned then { s with radio := { s.radio with imageDb := imageDb } } else s

/-- The synthesiser loses lock (R434, R444). -/
def State.lockLost (s : State) : State :=
  let r := s.radio
  if r.state ≤ 1 ∨ r.state = 5 then
    match s.txHead with
    | some c => if c.urgent ∧ r.settle then (s.headEnd 3) else s
    | none => s
  else
    let s : State := { s with radio := { r with lock := false, lockLosses := r.lockLosses + 1, rxBusy := false, rxDrop := false } }
    let s := match s.txHead with
      | some c =>
        if c.onAir then (s.addDuty (s.cutUs c)).packetEnd 3
        else if c.urgent ∧ c.t0.isSome ∧ r.settle then s.headEnd 3 else s
      | none => s
    let s : State := { s with radio := { s.radio with cal := true, calPend := false, settle := false, goal := s.radio.state } }
    s.raiseFault .field 12 1 2 (natLE 2 r.channel)

/-- LOSS_OF_LOCK (R434). -/
def execLossOfLock (s : State) : Result := s.radioDo State.lockLost

/-- COEX_GNT falls during the ramp-up or the packet (R440). -/
def State.grantWithdrawn (s : State) : State :=
  match s.txHead with
  | none => s
  | some c =>
    if c.onAir ∧ c.coex then
      let s : State := { s with radio := { s.radio with withdrawals := s.radio.withdrawals + 1, coexGnt := false } }
      if c.abort then (s.addDuty (s.cutUs c)).packetEnd 4 else s
    else s

/-- GRANT_WITHDRAWN (R440). -/
def execGrantWithdrawn (s : State) : Result := s.radioDo State.grantWithdrawn

/-- DUTY_BUCKET (R437): a new bucket begins and the oldest leaves the window. -/
def execDutyBucket (s : State) : Result :=
  s.radioDo fun s =>
    let s : State := { s with radio := { s.radio with duty := (0 :: s.radio.duty).take 3600 } }
    if s.dutySum < dutyLimit * 900000 then { s with radio := { s.radio with dutyNoted := false } } else s

/-! ### Reception (R450 to R457) -/

/-- An STF detection (R450): the lowest enabled option locks; a preamble while locked is only counted. -/
def State.stf (opts : List Nat) (s : State) : State :=
  let en := opts.filter fun o => decide (1 ≤ o ∧ o ≤ 4) && decide (bitsOf (s.objNat 0x7010 2) (o - 1) 1 = 1)
  match en with
  | [] => s
  | o :: os =>
    if s.radio.rxBusy then { s with radio := { s.radio with ignoredPre := s.radio.ignoredPre + 1 } }
    else if ¬ s.searching then s
    else { s with radio := { s.radio with rxBusy := true, rxDrop := false, phrDone := false, rxExt := false, rxNode := 0xFFFF, rxGen := 0,
                                          rxMcs := 0, rxLen := 0, lockOpt := os.foldl min o, stfCc := s.tb.cc } }

/-- STF_DETECTION (R450). -/
def execStfDetection (opts : List Nat) (s : State) : Result := s.radioDo (State.stf opts)

/-- The PHR is decoded (R450, R451); a failed HCS resumes the search, a bad rate field keeps the receiver locked. -/
def State.phr (hcsOk : Bool) (rate len : Nat) (s : State) : State :=
  let r := s.radio
  if ¬ r.rxBusy ∨ r.phrDone then s
  else if ¬ hcsOk then State.txGo { s with radio := { r with rxBusy := false, phrFails := r.phrFails + 1 } }
  else
    let ext := decide (rate = 31) && decide (r.lockOpt = 1) && s.objBool 0x7020 1
    if ext ∨ (ndbps r.lockOpt rate).isSome then
      { s with radio := { r with phrDone := true, rxExt := ext, rxMcs := if ext then 255 else rate, rxLen := len } }
    else { s with radio := { r with phrDone := true, rxDrop := true, rateFails := r.rateFails + 1, rxLen := len } }

/-- PHR (R450). -/
def execPhr (hcsOk : Bool) (rate len : Nat) (s : State) : Result := s.radioDo (State.phr hcsOk rate len)

/-- The node whose map an XHR names (R450). -/
def State.xhrNode (s : State) (addr : Nat) : Option Nat :=
  (List.range 1024).find? fun i => s.objBool (0x7400 + i) 1 && s.nodeExt i && decide (s.objNat (0x7400 + i) 3 = addr)

/-- The XHR is decoded (R450, R451, R455). -/
def State.xhr (hcsOk : Bool) (addr gen : Nat) (s : State) : State :=
  let r := s.radio
  if ¬ r.rxBusy ∨ ¬ r.rxExt ∨ r.rxDrop then s
  else
    let bad : State := { s with radio := { r with rxDrop := true, xhrFails := r.xhrFails + 1 } }
    if ¬ hcsOk then bad else
    match s.xhrNode addr with
    | none => bad
    | some i =>
      let n := s.node i
      if gen ≠ 0 ∧ (gen = n.upGen ∨ (n.bothGens ∧ gen = n.prevGen)) then { s with radio := { r with rxNode := i, rxGen := gen } } else bad

/-- XHR (R451). -/
def execXhr (hcsOk : Bool) (addr gen : Nat) (s : State) : Result := s.radioDo (State.xhr hcsOk addr gen)

/-- The next receive slot whose STATUS is 0 (R457). -/
def State.freeSlot (s : State) : Option Nat :=
  ((List.range 8).map fun i => 8 + (s.radio.rxNext - 8 + i) % 8).find? fun p => decide (s.pktByte (slotOff p) = 0)

/-- The PSDU received: in extended mode what the bit slots spell by the map of the node that sent it, the new one or for the
previous generation the previous one (R449, R453, R455). -/
def State.psduOf (k : DoorPacket) (s : State) : List Byte :=
  let r := s.radio
  let n := s.node r.rxNode
  let map := if r.rxGen = n.upGen then n.upMap else n.prevMap
  if r.rxExt then (readSymbols map k.seed r.rxLen k.symbols).getD k.psdu else k.psdu

/-- A received packet in its slot (R457). -/
def State.storePacket (p : Nat) (k : DoorPacket) (s : State) : State :=
  let r := s.radio
  let psdu := s.psduOf k
  let mean : Int := if k.snrs.length = 0 then 0 else (k.snrs.foldl (· + ·) (0 : Int)) / ((50 * k.snrs.length : Nat) : Int)
  let h := [1, b8 (bit r.rxExt + 4 * r.lockOpt), b8 (if r.rxExt then 0xFF else r.rxMcs), b8 (if r.rxExt then r.rxGen else 0)] ++
    natLE 2 psdu.length ++ natLE 2 (if r.rxExt then r.rxNode else 0xFFFF) ++ natLE 2 (codeOf 16 k.rssi) ++ [b8 mean.toNat, 0] ++
    natLE 4 r.stfCc
  let s := s.setPkts (slotOff p) (h ++ psdu)
  { s with radio := { s.radio with rxNext := if p = 15 then 8 else p + 1 } }

/-- What a packet from a known node leaves: levels, counts, its SNR, and after every 8th packet a new map (R446, R454). -/
def State.nodeHeard (i : Nat) (k : DoorPacket) (s : State) : State :=
  let s := s.modNode i fun n => { n with rssi := k.rssi, heard := s.tb.ts, received := n.received + 1, snrs := (k.snrs :: n.snrs).take 8 }
  let s := s.when (s.radio.rxExt && decide (s.radio.rxGen = (s.node i).upGen)) (State.modNode i fun n => { n with bothGens := false })
  s.when (decide ((s.node i).received % 8 = 0)) (State.mapCompute i)

/-- A bound node's door report writes its door group and is journalled (R443, R232). -/
def State.doorReport (i : Nat) (closed : Bool) (rssi : Int) (s : State) : State :=
  let g := s.objNat (0x7400 + i) 4
  if g > 63 then s
  else
    let s := s.writeDoorGroup g [b8 (bit closed)]
    s.commit 4 2 (natLE 2 i ++ natLE 2 (s.objNat (0x7400 + i) 3) ++ [b8 g, b8 (bit closed)] ++ natLE 2 (codeOf 16 rssi))

/-- The packet under reception ends: the receiver searches on, or goes to THEN (R430). -/
def State.rxEnd (s : State) : State :=
  let s : State := { s with radio := { s.radio with rxBusy := false, rxDrop := false } }
  let s := if s.radio.rxThen = .rx ∨ s.radio.queue.any (fun c => c.t0.isSome) then s else s.setRadio (thenState s.radio.rxThen)
  ((s.channelTry).calTry).txGo

/-- A received packet ends (R450, R457). -/
def State.packetReceived (k : DoorPacket) (s : State) : State :=
  let r := s.radio
  if ¬ r.rxBusy ∨ ¬ r.phrDone then s
  else if r.rxDrop then s.rxEnd
  else if ¬ fcsGood (s.psduOf k) then State.rxEnd { s with radio := { r with fcsFails := r.fcsFails + 1 } }
  else
    match s.freeSlot with
    | none => State.rxEnd { s with radio := { r with ringFull := r.ringFull + 1 } }
    | some p =>
      let s := s.storePacket p k
      let who := if r.rxExt then some r.rxNode else k.node
      let s := match who with
        | none => s
        | some i =>
          if s.objBool (0x7400 + i) 1 then
            let s := s.nodeHeard i k
            match k.msg with
            | .doorReport closed => s.doorReport i closed k.rssi
            | .other => s
          else s
      s.rxEnd

/-- PACKET_RECEIVED (R457). -/
def execPacketReceived (p : DoorPacket) (s : State) : Result := s.radioDo (State.packetReceived p)

/-- MAP_SET_ACK (R455): the new uplink map becomes current; both generations are accepted until the new one arrives. -/
def execMapSetAck (node : Fin 1024) (s : State) : Result :=
  s.radioDo fun s =>
    match (s.node node).newMap with
    | none => s
    | some (m, g) => s.modNode node fun n => { n with upMap := m, prevMap := n.upMap, prevGen := n.upGen, upGen := g, bothGens := true, newMap := none }

/-- MAP_REPORT (R455). -/
def execMapReport (node : Fin 1024) (gen : Nat) (map : List Byte) (s : State) : Result :=
  s.radioDo fun s =>
    if mapValid map then s.modNode node fun n => { n with downMap := map, downGen := gen }
    else { s with radio := { s.radio with badMaps := s.radio.badMaps + 1 } }

/-! ### Loop-backs (R459) -/

/-- The length of a loop-back packet with its ramps, us: 64 octets with the option and MCS chosen; option 5 is extended with an
all-QPSK map (R459). -/
def State.loopUs (s : State) : Nat :=
  let o := s.objNat 0x7040 2
  let ramps := 2 * s.objNat 0x7010 10
  if o = 5 then packetUs true 1 144 64 + ramps else packetUs false o ((ndbps o (s.objNat 0x7040 3)).getD 1) 64 + ramps

/-- A door-link loop-back start (R459): refused with state 4, or waiting for the queue and the reception in progress. -/
def State.doorLoop (s : State) : Status × State :=
  let depth := s.objNat 0x7040 1
  let no := s.fltF.safe || s.power.warning || (decide (depth = 3) && (!s.objBool 0x7010 4 || s.dutyRefuses (100 * s.loopUs) false))
  if s.radio.loop = 1 then (.busy, s)
  else if no then (.refused, { s with radio := { s.radio with loop := 4 } })
  else (.ok, { s with radio := { s.radio with
    loop := 1, loopWait := true, loopSent := 0, loopMatched := 0, loopDuty := if depth = 3 then 100 * s.loopUs else 0 } })

/-- DOOR_LINK_LOOPBACK_END (R459). -/
def execDoorLinkLoopbackEnd (matched : Nat) (s : State) : Result :=
  s.radioDo fun s =>
    if ¬ s.radio.looping then s
    else
      let s := s.when (decide (s.radio.loopDuty ≠ 0)) (State.addDuty s.radio.loopDuty)
      let s : State := { s with radio := { s.radio with loop := if matched = 100 then 2 else 3, loopSent := 100, loopMatched := min 100 matched } }
      s.radioPins

end Sys2Proof.Machine
end

