-- ==== Sys2Proof/Machine/Registers.lean ====
section
/-!
DEFINITION. The registers of the field side's I/O banks (R48, R81, R100, R137, R142, R240, R287, R288, R379, R396, R424,
R445, R456): what a word read gives, what a consuming read does, and what a word write does.
-/

namespace Sys2Proof.Machine

open Sys2Proof

/-! ### Reading (R11) -/

/-- The completed part of a ramp, by its shape (R99). -/
def rampPart (shape elapsed total : Nat) : Rat :=
  let x : Rat := if elapsed ≥ total then 1 else (elapsed : Rat) / total
  if shape = 0 then x else max 0 (min 1 (Config.raisedCosine x))

/-- A chain's amplitude code (R96, R99): inside a ramp the part that its shape gives, the amplitude following it linearly;
inside a reduction between the codes before and after. -/
def State.chainAmp (s : State) (x : Nat) : Nat :=
  let c := s.chain x
  let gone (cc : Nat) : Nat := (s.tb.cc + 2 ^ 48 - cc) % 2 ^ 48
  let code := ampCode c.power
  match c.st with
  | 0 => 0
  | 1 =>
    let p := rampPart c.shape (gone c.rampCc) (usCt (if c.up then c.onUs else c.offUs))
    roundCode (code * (if c.up then p else 1 - p))
  | _ =>
    if c.cutCt = 0 ∨ gone c.cutCc ≥ c.cutCt then code
    else roundCode (c.cutFrom - ((c.cutFrom - code : Nat) : Rat) * rampPart c.shape (gone c.cutCc) c.cutCt)

def State.readXstat (s : State) (x : Nat) : Nat :=
  let c := s.chain x
  c.feeder + 16 * bit c.routed + 32 * c.st + 128 * bit c.clamp + 256 * bit c.budgetWait + 512 * bit c.lentTo.isSome +
  1024 * bit c.calib + 2048 * bit c.sstale + 4096 * bit c.reduced + 65536 * s.chainAmp x

def State.readFdstat (s : State) (f : Nat) : Nat :=
  let d := s.feeder f
  d.status + 8 * bit d.ack + 16 * d.coil + 256 * d.tune + 65536 * min 255 d.ibias

def State.readPbstat (s : State) : Nat :=
  let throt := if s.fltF.safe then 3 else if s.budget.throttled then 2 else if s.budget.amb > 50 then 1 else 0
  min 4095 (tenMw s.powerSum) + 4096 * bit (decide (s.powerSum > s.bc)) + 8192 * bit (decide (s.peakUsed > 9900)) + 16384 * throt

/-- The field engine's registers (R100). -/
def State.readField (s : State) (off : Nat) : Nat :=
  if off < 0x100 then
    let x := off / 0x20
    match off % 0x20 with
    | 0 => s.readXstat x
    | 4 => (s.chain x).phase
    | 8 => min 65535 (s.chain x).fwd + 65536 * min 65535 (s.chain x).refl
    | _ => 0
  else if 0x200 ≤ off ∧ off < 0x240 then s.readFdstat ((off - 0x200) / 4)
  else match off with
    | 0x300 => s.readPbstat
    | 0x304 => s.peakUsed
    | 0x308 => codeOf 8 s.budget.amb + 256 * codeOf 8 s.budget.sink
    | _ => 0

/-- Decoders of a window that search or decode (R129, R142): without ALLSOF an output that has its winner holds that one
alone. -/
def Window.active (w : Window) : Nat :=
  (List.range w.outs.length).foldl (fun n o =>
    n + if (winner w.decs w.sofs o).isSome && !w.allsof then 1 else w.decs.length) 0

/-- Decoders on a receive chain: those of each open window that takes its input. -/
def State.ndecs (s : State) (v : Nat) : Nat :=
  (List.range 9).foldl (fun n t =>
    match (s.track t).win with
    | some w => if w.inputs.any (fun p => decide (p.1 = v)) then n + w.active else n
    | none => n) 0

/-- What a chain in training shows (R119): range 0 for 16 µs, then three refinements of 8 µs each to the next range that
does not overrange; its coefficient from 16 µs on. Each is a free value until the training's end (log 96). -/
def State.trainView (s : State) (v : Nat) : Nat × Nat × Nat :=
  let r := s.rx v
  let e := s.since r.trainFrom
  if ¬ r.training then (r.range, r.ci, r.cq)
  else if e < usCt 16 then (0, r.ci, r.cq)
  else
    let steps := min 3 ((e - usCt 16) / usCt 8 + 1)
    ((List.range steps).foldl (fun k i => if Config.freeBool (r.trainDraw + i) ∧ k < 3 then k + 1 else k) 0,
     Config.freeNat (r.trainDraw + 3) % 65536, Config.freeNat (r.trainDraw + 4) % 65536)

def State.readRxstat (s : State) (v : Nat) : Nat :=
  let r := s.rx v
  let depth := match r.stale with | some d => d | none => r.depth
  (s.trainView v).1 + 4 * bit r.trained + 8 * bit r.weak + 16 * bit r.training + 32 * bit (s.inListen v) + 64 * bit r.trwait +
  128 * bit r.stale.isSome + 256 * bit r.imark + 65536 * min 255 depth + 16777216 * min 15 (s.ndecs v)

/-- The impulse map entry of a bin, 8 bytes (R137). -/
def State.binBytes (s : State) (b : Nat) : List Byte :=
  let x := s.bin b
  [b8 x.score, b8 (bit x.quiet + 2 * bitsOf (s.objNat 0x3100 1) b 1)] ++ natLE 2 x.hits ++ natLE 2 x.frames ++ [0, 0]

/-- The receive registers and the impulse map (R137, R142). -/
def State.readReceive (s : State) (off : Nat) : Nat :=
  if off < 0x100 then
    match off % 0x10 with
    | 0 => s.readRxstat (off / 0x10)
    | 4 => (s.trainView (off / 0x10)).2.1 + 65536 * (s.trainView (off / 0x10)).2.2
    | _ => 0
  else if 0x400 ≤ off ∧ off < 0x600 then fieldLE (s.binBytes ((off - 0x400) / 8)) (off % 8) 4
  else 0

/-- The card-detect registers (R240). -/
def State.readCard (s : State) (off : Nat) : Nat :=
  if off < 0x20 then (s.latches.filter fun ca => decide (ca / 32 = off / 4)).foldl (fun n ca => n + 2 ^ (ca % 32)) 0
  else if off = 0x20 then
    let n := s.latches.length
    bit s.sense.scanner + 2 * bit (decide (n ≠ 0)) + 256 * n
  else 0

/-- The door-link registers and packet memory (R445, R456); without a radio they read 0 (R5). -/
def State.readRadio (s : State) (off : Nat) : Nat :=
  let r := s.radio
  if ¬ hasRadio then 0
  else if 0x1000 ≤ off ∧ off < 0xB000 then leNat (s.pktBytes off 4)
  else match off with
    | 0 => r.state + 8 * bit r.lock + 16 * bit r.calPend + 32 * bit r.cal + 64 * bit r.settle + 128 * bit r.coexReq + 256 * bit r.coexGnt +
        512 * bit r.rxBusy + 1024 * r.queue.length + 65536 * codeOf 8 r.temp
    | 8 => r.txst
    | 0xC => s.dutySum / 1000
    | 0x10 => r.result + 8 * bit r.resUrg + 16 * bit r.resAbort + 65536 * r.delay
    | _ => 0

/-- TWSTAT (R379). -/
def State.readTwin (s : State) : Nat :=
  let t := s.twin
  t.role + 4 * bit t.roleIn + 8 * bit t.posA + 16 * bit t.hbLine + 32 * bit t.hbMsg + 64 * bit s.linkT.up + 128 * bit t.paired +
  256 * t.state + 2048 * bit t.taken + 65536 * min 32 (s.linkT.window.filter fun m => decide (m.typ ≠ 0xA0)).length

/-- The fault registers (R396). -/
def State.readFault (s : State) (off : Nat) : Nat :=
  let c := s.fltF
  let n (f : Nat → Bool) : Nat := (List.range 12).foldl (fun m i => m + 2 ^ i * bit (f (i + 1))) 0
  if 0x40 ≤ off ∧ off < 0x60 then fieldLE (c.queue.headD []) (off - 0x40) 4
  else if 0x60 ≤ off ∧ off < 0x78 then
    let k := (off - 0x60) / 4
    Tab.get 0 c.ovf (2 * k + 1) + 65536 * Tab.get 0 c.ovf (2 * k + 2)
  else match off with
    | 0 => c.top + 8 * bit c.safe + 16 * bit c.cap.frozen + 128 * bit c.haltOut + 256 * n (fun k => decide (c.level k ≠ 0)) +
        1048576 * n (fun k => decide (Tab.get 0 c.ovf k ≠ 0))
    | 0x08 => c.cap.adr
    | 0x0C => c.cap.master
    | 0x10 => c.cap.typ
    | 0x14 => c.cap.ts % 2 ^ 32
    | 0x18 => c.cap.ts / 2 ^ 32
    | 0x1C => c.cap.cc % 2 ^ 32
    | 0x20 => c.cap.cc / 2 ^ 32
    | 0x28 => c.queue.length
    | _ => 0

/-- Complete packets of which a descriptor is still held (R81): the last descriptor of each has entered. -/
def packetsHeld (q : List (List Byte)) : Nat := (q.filter lastOfPacket).length

/-- QFLUSH: a request that waits for the end of a packet reads 1 (R78, R81). -/
def State.readQflush (s : State) : Nat := (List.range 9).foldl (fun m t => m + 2 ^ t * bit (s.trackNow t).flushReq) 0

/-- The sequencer and timebase registers (R81). -/
def State.readTrack (s : State) (off : Nat) : Nat :=
  if off < 0x240 then
    let tr := s.trackNow (off / 0x40)
    match off % 0x40 with
    | 0x00 => tr.entry
    | 0x04 => tr.stage + 65536 * tr.st + 524288 * tr.lout + 4194304 * tr.sreason + 67108864 * min 7 tr.stack.length +
        536870912 * bit tr.late + 1073741824 * bit tr.busyStart + 2147483648 * bit tr.vlate
    | 0x10 => tr.queue.length + 64 * packetsHeld tr.queue + 4096 * bit tr.flushed + 8192 * bit tr.held + 65536 * tr.stallCt
    | 0x20 => fieldLE (tr.queue.headD []) 0 4
    | 0x24 => fieldLE (tr.queue.headD []) 4 4
    | 0x28 => fieldLE (tr.queue.headD []) 8 4
    | 0x2C => fieldLE (tr.queue.headD []) 12 4
    | _ => 0
  else
    let h := s.tb.shadow
    match off with
    | 0x240 => s.readQflush
    | 0x300 => s.tb.cc % 2 ^ 32
    | 0x304 => h.cch
    | 0x308 => h.mp + 65536 * (h.mp / 1024) + 4194304 * h.msrc
    | 0x30C => h.mcc
    | 0x310 => h.ts % 2 ^ 32
    | 0x314 => h.ts / 2 ^ 32
    | _ => 0

/-- The power manager's registers (R424). -/
def State.readPower (s : State) (off : Nat) : Nat :=
  let p := s.power
  match off with
  | 0x00 => p.reqLevel
  | 0x04 => p.level + 4 * bit p.trans + 8 * bit p.warning + 16 * bit (decide (p.source = 1)) + 32 * bit p.regOk + 64 * bit p.oscOk +
      128 * bit p.memOk + 256 * bit p.logicOk + 512 * p.decl + 4096 * bit p.declined + 65536 * p.padlat.toNat
  | 0x0C => p.wakeen.toNat
  | _ => 0

/-- The always-on memory (R288, R424). -/
def State.readAon (s : State) (off : Nat) : Nat :=
  let p := s.power
  match off with
  | 0x80 => p.lastWake + 256 * p.wokeFrom + 65536 * min 65535 p.wakes
  | 0x84 => p.wakeTs % 2 ^ 32
  | 0x88 => p.wakeTs / 2 ^ 32
  | 0x8C => p.cause
  | 0xF4 => s.aon.summary.toNat
  | _ => if off < 0x80 ∨ (0xA0 ≤ off ∧ off < 0xF4) then (Tab.get 0 s.aon.words (off / 4)).toNat else 0

/-- A word of an I/O bank, without side effect (R11, R287). -/
def State.ioRead (s : State) (a : Nat) : Word :=
  let off := a % 65536
  BitVec.ofNat 32 (match bankOf a with
    | 0x182 => s.readPower off
    | 0x184 => s.readField off
    | 0x185 => s.readReceive off
    | 0x186 => s.readCard off
    | 0x187 => s.readRadio off
    | 0x188 => if off = 0 then s.readTwin else 0
    | 0x189 => s.readFault off
    | 0x190 => s.readTrack off
    | 0x1BF => s.readAon off
    | _ => 0)

/-- A parity failure of an always-on word sets its summary bit (R288). -/
def State.aonTouch (w : Nat) (s : State) : State :=
  if s.aon.bad.contains w then { s with aon := { s.aon with summary := s.aon.summary ||| (1#32 <<< (w % 32)) } } else s

/-- What a read that is no peek does beside (R11, R48, R77, R396). -/
def State.ioConsume (a : Nat) (s : State) : State :=
  let off := a % 65536
  match bankOf a with
  | 0x189 => if off = 0x5C then s.takeRecord else s
  | 0x190 =>
    if off = 0x300 then s.latchShadow
    else if off < 0x240 ∧ off % 0x40 = 0x2C then s.qpop (off / 0x40)
    else s
  | 0x1BF => if off < 0x100 then s.aonTouch (off / 4) else s
  | _ => s

/-! ### Writing (R9, R11) -/

/-- Who writes a register: a core, debug, or the restore of R418. -/
inductive Writer where
  | core | debug | restore
  deriving DecidableEq, Repr

def bitSet (v i : Nat) : Bool := decide (bitsOf v i 1 = 1)

/-- Released pad groups follow their domain again (R419, R442): the FEM pins, and the pins of the TWIN connector. -/
def State.padRelease (mask : BitVec 4) (s : State) : State :=
  let twin := s.power.padlat.getLsbD 2 && mask.getLsbD 2
  let s : State := { s with power := { s.power with padlat := s.power.padlat &&& ~~~mask } }
  (s.when (mask.getLsbD 0) State.radioPins).when twin fun s =>
    ((s.pin 7 (bit (decide (s.twin.role = 1)))).pin 9 (bit s.twin.hbOut)).pin 13 (bit s.fltF.haltOut)

/-- Power manager writes, but for SLEEP, which the entry to a state takes (R411, R424). -/
def State.writePower (off v : Nat) (s : State) : State :=
  match off with
  | 0x00 => s.requestLevel (v % 4)
  | 0x04 => if bitSet v 12 then { s with power := { s.power with declined := false } } else s
  | 0x08 => s.padRelease (BitVec.ofNat 4 v)
  | 0x0C => { s with power := { s.power with wakeen := BitVec.ofNat 8 (v - v % 2) } }
  | _ => s

/-- Field engine writes reach only W1C bits (R100). -/
def State.writeField (off v : Nat) (s : State) : State :=
  if off < 0x100 ∧ off % 0x20 = 0 then
    s.modChain (off / 0x20) fun c => { c with clamp := c.clamp && !(bitSet v 7), sstale := c.sstale && !(bitSet v 11) }
  else if 0x200 ≤ off ∧ off < 0x240 then s.modFeeder ((off - 0x200) / 4) fun d => { d with ack := d.ack && !(bitSet v 3) }
  else s

def State.writeReceive (off v : Nat) (s : State) : State :=
  if off < 0x100 ∧ off % 0x10 = 0 ∧ bitSet v 8 then s.modRx (off / 0x10) fun r => { r with imark := false } else s

/-- CDLAT bits are cleared by writing 1 (R231, R240). -/
def State.writeCard (off v : Nat) (s : State) : State :=
  if off < 0x20 then
    s.each ((List.range 32).filter fun b => bitSet v b) fun b => State.modSense (8 * off + b) fun c => { c with latched := false }
  else s

/-- The THEN states of DLCMD (R445). -/
def thenOf (n : Nat) : Then := match n with | 0 => .idle | 1 => .fsOn | 2 => .rx | _ => .sleep

/-- DLCMD (R445): a reserved command has no effect (R9). -/
def State.dlcmd (v : Nat) (s : State) : State :=
  let after := thenOf (bitsOf v 3 2)
  match bitsOf v 0 3 with
  | 1 => s.radioGo 0
  | 2 => s.radioGo 1
  | 3 => s.radioGo 2
  | 4 => s.rxCommand after
  | 5 => s.txCommand (bitsOf v 8 8) (bitSet v 5) (bitSet v 6) after
  | 6 => s.calRequest
  | _ => s

/-- Door-link writes: DLCMD by firmware alone, and packet memory (R445, R456). -/
def State.writeRadio (who : Writer) (off v : Nat) (s : State) : State :=
  if ¬ hasRadio then s
  else if 0x1000 ≤ off ∧ off < 0xB000 then s.setPkts off (natLE 4 v)
  else if off = 4 ∧ who = .core then s.dlcmd v
  else s

/-- Fault register writes: FLTACK by the Kenier pair alone, and WDKICK (R386, R396). -/
def State.writeFault (who : Writer) (off v : Nat) (s : State) : State :=
  if off = 4 ∧ who = .core then
    (s.ackDie .field (2 * bitsOf v 1 12)).when (bitSet v 13) (State.releaseCapture .field)
  else if off = 0x24 then s.wdkick v
  else s

/-- Sequencer writes (R71, R78, R79, R81): ABORT before STOP before START. -/
def State.writeTrack (off v : Nat) (s : State) : State :=
  if off < 0x240 then
    let t := off / 0x40
    match off % 0x40 with
    | 0x00 =>
      let e := v % 32768
      if bitSet v 18 then (s.modTrack t fun tr => { tr with entry := e }).abortTrack 3 t
      else if bitSet v 17 then (s.modTrack t fun tr => { tr with entry := e }).stopStage t
      else if bitSet v 16 then s.startTrack t e
      else s.modTrack t fun tr => { tr with entry := e }
    | 0x04 => s.modTrack t fun tr => { tr with late := tr.late && !(bitSet v 29), busyStart := tr.busyStart && !(bitSet v 30), vlate := tr.vlate && !(bitSet v 31) }
    | 0x08 => s.verdict t v
    | 0x10 => s.setTrack t { s.trackNow t with flushed := (s.trackNow t).flushed && !(bitSet v 12), held := (s.trackNow t).held && !(bitSet v 13) }
    | _ => s
  else if off = 0x240 then s.each ((List.range 9).filter fun t => bitSet v t) State.qflush
  else s

/-- Always-on memory writes: the list, the free words, the magic, and the summary, W1C (R288). -/
def State.writeAon (off v : Nat) (s : State) : State :=
  if off = 0xF4 then { s with aon := { s.aon with summary := s.aon.summary &&& ~~~(BitVec.ofNat 32 v) } }
  else if off < 0x80 ∨ (0xA0 ≤ off ∧ off < 0xF4) then
    { s with aon := { s.aon with words := Tab.set 0 s.aon.words (off / 4) (BitVec.ofNat 32 v), bad := s.aon.bad.filter (· ≠ off / 4) } }
  else s

/-- A word written to an I/O bank, but for what PWRCTL.SLEEP starts (R287). -/
def State.ioWriteWord (who : Writer) (a v : Nat) (s : State) : State :=
  let off := a % 65536
  match bankOf a with
  | 0x182 => s.writePower off v
  | 0x184 => s.writeField off v
  | 0x185 => s.writeReceive off v
  | 0x186 => s.writeCard off v
  | 0x187 => s.writeRadio who off v
  | 0x188 => if off = 0 ∧ bitSet v 11 then { s with twin := { s.twin with taken := false } } else s
  | 0x189 => s.writeFault who off v
  | 0x190 => s.writeTrack off v
  | 0x1BF => s.writeAon off v
  | _ => s

/-! ### The host side's power manager (R424) -/

def State.hostIoRead (s : State) (a : Nat) : Word :=
  if bankOf a = 0x182 ∧ a % 65536 = 0x0C then BitVec.ofNat 32 s.power.hostWakeen.toNat else 0

def State.hostIoWrite (a v : Nat) (s : State) : State :=
  if bankOf a = 0x182 ∧ a % 65536 = 0x08 then { s with power := { s.power with hostPadlat := s.power.hostPadlat &&& ~~~(BitVec.ofNat 4 v) } }
  else if bankOf a = 0x182 ∧ a % 65536 = 0x0C then { s with power := { s.power with hostWakeen := BitVec.ofNat 8 (v - v % 2) } }
  else s

/-- PADREL (R419, R424). -/
def execPadrel (d : Die) (mask : BitVec 4) (s : State) : Result :=
  match d with
  | .field => .next (s.padRelease mask)
  | .host => .next { s with power := { s.power with hostPadlat := s.power.hostPadlat &&& ~~~mask } }

end Sys2Proof.Machine
end

