-- ==== Sys2Proof/Machine/PowerCommands.lean ====
section
/-!
DEFINITION. Supply inputs, the power-fail warning, performance levels, Lantern, Curfew, wake and power loss (R268,
R400 to R423, R442).
-/

namespace Sys2Proof.Machine

open Sys2Proof

/-! ### Inputs (R400, R425) -/

/-- AUX may be used (R425). -/
def State.auxEnabled (s : State) : Bool := s.objBool 0xB000 8

/-- MAINS_ABSENT (R400): the stage changes to AUX; with AUX disabled only the hold-up remains. -/
def execMainsAbsent (s : State) : Result :=
  if s.power.source ≠ 0 then .next s
  else .next { s with power := { s.power with source := if s.auxEnabled then 1 else 2 } }.goVirtual

/-- RETURN_TO_MAINS (R400). -/
def execReturnToMains (s : State) : Result := .next { s with power := { s.power with source := 0 } }

/-- AUX_OUT_OF_RANGE (R400), with the voltage in units of 0.1 V; while AUX supplies, only the hold-up remains. -/
def execAuxOutOfRange (v10 : Nat) (s : State) : Result :=
  if ¬ s.auxEnabled then .next s
  else
    let s : State := { s with power := { s.power with auxEvents := s.power.auxEvents + 1,
                                                      source := if s.power.source = 1 then 2 else s.power.source } }
    .next (s.raiseFault .field 7 3 2 (natLE 2 v10))

/-! ### The power-fail warning (R295, R402, R403, R421) -/

/-- Exchanges in flight, at most 32: handle, coil, kind, ESN at which they opened (R295, R499). -/
def State.inFlight (s : State) : List (Nat × Nat × Nat × Nat) :=
  let x (v : Service) (kind : Nat) : List (Nat × Nat × Nat × Nat) := if v.status = 1 then [(v.handle, v.ca, kind, v.esn)] else []
  let sec := match s.keys.running with
    | some a => [(a.handle, (s.entry (a.handle % 131072)).ca, 3, s.keys.esn)]
    | none => []
  (x s.template 1 ++ x s.apdu 2 ++ sec).take 32

/-- Records that some required store has not acknowledged, or all held when none is required (R295). -/
def State.unackedRecords (s : State) : List JRec :=
  let req := (List.range 4).filter (storeRequired s)
  if req = [] then s.journal.ring else s.journal.ring.filter fun r => req.any fun k => !(offBelow r.off (s.store k).known)

/-- The last-gasp image (R295). -/
def State.gaspImage (s : State) : Gasp :=
  let recs := s.unackedRecords
  { ts := s.tb.ts, counters := (List.range 16).map fun k => (s.cmdSlot k).last + 1, esn := s.journal.esn,
    storing := decide (s.settings.state = 1), tail := recs.drop (recs.length - 64), flight := s.inFlight, consumed := false }

/-- Step 4 and 5 of R402: the armed slot is programmed, and the event committer stops. -/
def State.lastGasp (s : State) : State :=
  let n := s.nvm
  let n : Nvm := if n.armed then
      { n with gasps := (n.gasps ++ [s.gaspImage]).drop (n.gasps.length + 1 - 16), gaspSeq := n.gaspSeq + 1, armed := false }
    else n
  { s with nvm := n, power := { s.power with doomed := true } }

/-- An erase in progress is suspended (R284). -/
def Nvm.suspend (n : Nvm) : Nvm :=
  match n.busy with
  | some o => if o.erase then { n with busy := none, suspended := o :: n.suspended } else n
  | none => n

/-- Steps 1 and 2 of R402, by hardware: tracks aborted, the radio halted, chains to zero, erase suspended, STORE abandoned. -/
def State.warningHw (s : State) : State :=
  let s := s.each (List.range 9) (State.abortTrack 3)
  let s := s.each (List.range 8) State.rampDown
  let s := s.calibInterrupt.radioHalt.storeAbandon
  { s with nvm := s.nvm.suspend }

/-- Detects of Lantern, the scanner and the pads when the field side runs again: the radio stays in IDLE, unbiased
selectors restart with no coil (R88, R238, R442). -/
def State.leaveLantern (s : State) : State :=
  let off := (List.range 16).filter fun f => !(s.feeder f).biasOn && decide ((s.feeder f).status ≠ 3) && s.feederOn f
  let s := s.each off fun f => State.modFeeder f fun x => { x with biasOn := true, coil := 0, tune := 0, ack := false, conn := false }
  let s : State := { s with power := { s.power with state := 0 }, ecc := { s.ecc with pos := 0 }, sense := { s.sense with scanner := false, scanCoils := [], repeatCa := none, word := none },
                            radio := { s.radio with state := if hasRadio then 1 else 0, goal := 1, moving := false, freq := 0 } }
  s.lateDetects.send .porterField 3 (.resync s.linkF.nextTx s.linkF.expRx)

/-- POWER_FAIL_WARNING (R401, R402): in Run the hardware steps and the image, which a level transition delays; in Lantern
the field side wakes first; in Curfew nothing is programmed (R421, R423). -/
def execPowerFailWarning (s : State) : Result :=
  if s.power.warning ∨ s.power.state = 3 then .next s
  else
    let s : State := { s with power := { s.power with warning := true, warnings := s.power.warnings + 1, source := 2, entering := 0 } }
    match s.power.state with
    | 0 => let s := s.warningHw; .next (if s.power.trans then s else s.lastGasp)
    | 1 => .next ((s.leaveLantern.emit (.wakeSymbol .host)).lastGasp)
    | _ => .next { s with power := { s.power with doomed := true } }

/-- WARNING_CLEAR (R403): the field side resets itself with cause 1; the supply is the input that has returned. -/
def execWarningClear (s : State) : Result :=
  if ¬ s.power.warning then .next s
  else
    let src := if s.power.source ≠ 2 then s.power.source else if s.tb.present || !s.auxEnabled then 0 else 1
    let s : State := { s with power := { s.power with warning := false, source := src } }
    .next ((s.fieldReset (some 1)).when s.power.hostAsleep (State.emit (.wakeSymbol .host)))

/-! ### Power loss (R404) -/

/-- What non-volatile memory, the peer, and the model's own records keep through a power loss; `journal.next` keeps only
that the journal has run. -/
def State.powerLoss (s : State) : State :=
  let slots := s.cmds.slots.map fun p => (p.1, ({ reserved := p.2.reserved, rights := p.2.rights } : CmdSlot))
  { pending := s.pending, out := s.out, fresh := s.fresh,
    mem := s.mem.filter fun c => decide (bankOf c.1 ≥ 0x100),
    nvm := { log := s.nvm.log, logDropped := s.nvm.logDropped, erases := s.nvm.erases, hostErases := s.nvm.hostErases,
             anchor := s.nvm.anchor, anchorDropped := s.nvm.anchorDropped, hostLog := s.nvm.hostLog, hostDropped := s.nvm.hostDropped,
             gasps := s.nvm.gasps, gaspSeq := s.nvm.gaspSeq },
    settings := { fieldCopies := s.settings.fieldCopies, hostCopies := s.settings.hostCopies },
    keys := { store := s.keys.store, issuers := s.keys.issuers, attempts := s.keys.attempts, quarantine := s.keys.quarantine },
    journal := { next := s.journal.next, esn := s.journal.esn, esnLimit := s.journal.esnLimit, offLimit := s.journal.offLimit,
                 checkpoint := s.journal.checkpoint, released := s.journal.checkpoint },
    cmds := { slots := slots.filter fun p => p.2 ≠ ({} : CmdSlot) },
    calib := { saved := s.calib.saved, seq := s.calib.seq },
    twin := { key := s.twin.key, posA := s.twin.posA, roleIn := s.twin.roleIn, haltIn := s.twin.haltIn },
    ring := { relayOps := s.ring.relayOps + bit (decide (s.ring.relay ≠ 0)) },
    power := { state := 3 } }

/-- POWER_LOSS (R404). -/
def execPowerLoss (s : State) : Result := .next s.powerLoss

/-! ### Performance levels (R268, R407, R408) -/

/-- PERFORMANCE_LEVEL (R407). -/
def execPerformanceLevel (level : Fin 4) (s : State) : Result :=
  if s.power.state = 0 then .next (s.requestLevel level.val) else .next s

/-- TRANSITION_END (R268): the cores resume at the new level; a request that came meanwhile starts, and a last-gasp image
that waited is written (R423). -/
def execTransitionEnd (s : State) : Result :=
  if ¬ s.power.trans then .next s
  else
    let s : State := { s with power := { s.power with trans := false, level := s.power.reqLevel, transitions := s.power.transitions + 1 } }
    let s := if s.power.warning ∧ ¬ s.power.doomed then s.lastGasp else s
    match s.power.deferredLevel with
    | some l => if s.coreF.lock then .next s else .next (({ s with power := { s.power with deferredLevel := none } }).requestLevel l)
    | none => .next s

/-- LEVEL_DROP (R408): in automatic mode, every track stopped. -/
def execLevelDrop (s : State) : Result :=
  if s.objNat 0xB001 1 = 4 ∧ (List.range 9).all (fun t => decide ((s.track t).st = 0)) ∧ s.power.state = 0 then .next (s.requestLevel 1)
  else .next s

/-! ### Wake (R414 to R420, R423) -/

/-- The die whose wake logic sees a source (R414). -/
def wakeDie (src : Nat) : Die := if src ≤ 3 then .host else .field

/-- A source is enabled (R414). -/
def State.wakeEnabled (s : State) (src : Nat) : Bool :=
  let mask := match wakeDie src with | .host => s.power.hostWakeen | .field => s.power.wakeen
  decide (1 ≤ src ∧ src ≤ 7) && mask.getLsbD src && bitSet (s.objNat 0xB011 1) src && !(decide (src = 4) && !hasRadio)

/-- An edge source (R414). -/
def edgeSource (src : Nat) : Bool := decide (src = 3 ∨ src = 4)

/-- The condition of a level source as far as the module's state gives it: an armed port, a latch of the Lantern set while
the scanner runs, mains while on AUX (R231, R343, R414). -/
def State.levelHolds (s : State) (src : Nat) : Bool :=
  match src with
  | 2 => s.ring.a.armed || s.ring.b.armed
  | 5 => decide (s.power.state = 1) && s.latches.any fun ca => s.objBool (0x2500 + ca) 3
  | 6 => s.tb.present && decide (s.power.source = 1)
  | _ => true

/-- The wake record in always-on memory (R424); the second of two wakes leaves it (R416, R423). -/
def State.wakeRecord (src : Nat) (s : State) : State :=
  { s with power := { s.power with lastWake := src, wakeShown := src, wokeFrom := s.power.state, wakeTs := s.tb.ts, wakes := s.power.wakes + 1 } }

/-- The register restore of R418: pairs in order to the first zero address, without those that fail parity or lie outside
banks 0x180 to 0x1BF. -/
def State.restoreList : Nat → Nat → State → State
  | 0, _, s => s
  | fuel + 1, i, s =>
    let a := (Tab.get 0 s.aon.words (2 * i)).toNat
    let v := (Tab.get 0 s.aon.words (2 * i + 1)).toNat
    let bad := s.aon.bad.contains (2 * i) || s.aon.bad.contains (2 * i + 1)
    if bad then State.restoreList fuel (i + 1) ((s.aonTouch (2 * i)).aonTouch (2 * i + 1))
    else if a = 0 then s
    else if 0x180 ≤ a / 65536 ∧ a / 65536 ≤ 0x1BF then State.restoreList fuel (i + 1) (s.ioWriteWord .restore a v)
    else State.restoreList fuel (i + 1) s

/-- The field side returns to Run: from Lantern in 300 us with nothing lost, from Curfew in 9 ms through a firmware restart
with cause 5 (R409, R410, R417, R442). -/
def State.fieldWake (s : State) : State :=
  if s.power.state = 1 then (((s.advance (usCt 300)).leaveLantern).restoreList 16 0)
  else if s.power.state = 2 then
    let s := s.advance (usCt 9000)
    let s := ((s.fieldHw 5).restoreList 16 0).fieldBoot (some 5) true
    { s with radio := { s.radio with state := if hasRadio then 1 else 0, goal := 1 } }
  else s

/-- After a wake an SPI endpoint holds no reference and has answered no frame (R351, R352). -/
def SpiEnd.woken (e : SpiEnd) : SpiEnd := { e with ref := none, orig := [], reply := none }

/-- The host side returns to Run: both sides resynchronise (R412), and ATTN shows what is queued (R354). -/
def State.hostWake (s : State) : State :=
  if ¬ s.power.hostAsleep then s
  else
    let s : State := { s with power := { s.power with hostAsleep := false }, ecc := { s.ecc with hostPos := 0 },
                              spi := { s.spi with e0 := s.spi.e0.woken, e1 := s.spi.e1.woken } }
    s.attnSet.send .porterHost 3 (.resync s.linkH.nextTx s.linkH.expRx)

/-- A die wakes and sends its wake symbol to the other (R416). -/
def State.wakeDieUp (d : Die) (s : State) : State :=
  match d with
  | .field => (if s.power.hostAsleep then s.emit (.wakeSymbol .host) else s).fieldWake
  | .host => (if s.power.state = 1 ∨ s.power.state = 2 then s.emit (.wakeSymbol .field) else s).hostWake

/-- A die sleeps. -/
def State.asleep (s : State) (d : Die) : Bool :=
  match d with
  | .field => decide (s.power.state = 1 ∨ s.power.state = 2)
  | .host => s.power.hostAsleep

/-- An accepted wake of a source. -/
def State.wakeNow (src : Nat) (s : State) : State :=
  let both := s.asleep .field && s.power.hostAsleep
  (s.when both (State.wakeRecord src)).wakeDieUp (wakeDie src)

/-- An entry that waits for the second is rolled back, or a block refuses: nothing is lost, and the record names the
declining block (R413, R499). -/
def State.decline (req code : Nat) (s : State) : State :=
  let s : State := { s with power := { s.power with entering := 0, decl := code, declined := true, lastEntry := 2, declines := s.power.declines + 1 } }
  s.commit 6 9 [b8 req, b8 code]

/-- A wake event of an enabled source: during negotiation it rolls the entry back; in the Curfew window an edge is lost and
a level waits for its end; asleep it wakes (R413, R415). -/
def State.wakeEvent (src : Nat) (s : State) : State :=
  if ¬ s.wakeEnabled src then s
  else if s.power.entering ≠ 0 then s.decline s.power.entering 7
  else if ¬ s.asleep (wakeDie src) ∨ s.power.window ∨ ¬ s.levelHolds src then s
  else s.wakeNow src

/-- A brown-out (R420, R423): the die's logic resets with the source recorded as 8, and a fault names the state left. -/
def State.brownout (d : Die) (s : State) : State :=
  if ¬ s.asleep d then s
  else
    let left := s.power.state
    let during := s.asleep .field ≠ s.power.hostAsleep
    let shown := s.power.wakeShown
    let s := if during then { s with power := { s.power with lastWake := 8, wakeShown := shown } } else s.wakeRecord 8
    match d with
    | .field =>
      let s := s.when s.power.hostAsleep (State.emit (.wakeSymbol .host))
      let s := (s.advance (usCt 9000)).fieldHw 2
      ((s.restoreList 16 0).fieldBoot (some 2) true).raiseFault .field 7 2 2 [b8 left]
    | .host =>
      let mem := s.hostMem
      let s := s.when (s.asleep .field) (State.emit (.wakeSymbol .field))
      let s := { s with power := { s.power with hostAsleep := false } }.hostHold
      ({ s with hostMem := mem }).raiseFault .host 7 2 2 [b8 left]

/-- WAKE (R417). -/
def execWake (src : Fin 9) (s : State) : Result :=
  if src.val = 8 then .next (s.brownout .field) else .next (s.wakeEvent src.val)

/-- WAKE_SYMBOL (R416): it wakes this die once the other has woken. -/
def execWakeSymbol (d : Die) (s : State) : Result :=
  match d with
  | .field => if s.asleep .field ∧ ¬ s.power.hostAsleep then .next ((s.advance (usCt 20)).fieldWake) else .next s
  | .host => if s.power.hostAsleep ∧ s.power.state = 0 then .next s.hostWake else .next s

/-- WAKE_FAILURE (R417): the die resets with cause 6. -/
def execWakeFailure (d : Die) (s : State) : Result :=
  if ¬ s.asleep d then .next s
  else match d with
    | .field => .next (s.fieldReset (some 6))
    | .host => .next { s with power := { s.power with hostAsleep := false } }.hostHold

/-- BROWNOUT (R420). -/
def execBrownout (d : Die) (s : State) : Result := .next (s.brownout d)

/-- CURFEW_WINDOW_END (R415): a level event seen in the window, or one that the state shows, wakes at once. -/
def execCurfewWindowEnd (levelEvent : Option Nat) (s : State) : Result :=
  if ¬ s.power.window then .next s
  else
    let s : State := { s with power := { s.power with window := false } }
    let seen := [1, 2, 5, 6, 7].filter fun k => s.wakeEnabled k && s.levelHolds k && (decide (levelEvent = some k) || decide (k = 6))
    match seen with
    | k :: _ => .next (s.wakeNow k)
    | [] => .next s

/-- SNIFF_PERIOD (R442): a preamble above the threshold is wake source 4. -/
def execSniffPeriod (preamble : Option Int) (s : State) : Result :=
  match preamble with
  | some l =>
    if s.radio.state = 5 ∧ l > signedOf 8 (s.objNat 0x7030 3) then .next (s.wakeEvent 4) else .next s
  | none => .next s

/-! ### Entering Lantern and Curfew (R411 to R413) -/

/-- The code of the first block that refuses (R412); 0 none. A Run sense of the firmware completes beside the entry (R239). -/
def State.refusingBlock (s : State) : Nat :=
  let required := (List.range 4).filter (storeRequired s)
  if required ≠ [] ∧ s.unackedRecords ≠ [] then 1
  else if s.radio.queue ≠ [] ∨ s.radio.rxBusy ∨ s.nodes.any (fun p => p.2.newMap.isSome) then 2
  else if (List.range 9).any (fun t => (s.track t).running && !(s.track t).rowSense) ∨ s.sweeps.queue ≠ [] ∨ s.sweeps.running.isSome then 3
  else if s.capture.state = 1 ∨ s.capture.state = 2 ∨ s.calib.running.isSome ∨ s.calib.corrections ≠ [] then 4
  else if s.nvm.busy.isSome ∨ s.nvm.queue ≠ [] ∨ s.nvm.suspended ≠ [] then 5
  else if s.linkF.window ≠ [] ∨ s.linkF.queue ≠ [] ∨ s.linkH.window ≠ [] ∨ s.linkH.queue ≠ [] then 6
  else 0

/-- The POWER_STATE exchange after which the Porter stops, which is no link loss (R412). -/
def State.porterStop (s : State) : State :=
  if ¬ s.linkF.up ∨ ¬ s.linkH.up then { s with linkF := { s.linkF with up := false }, linkH := { s.linkH with up := false } }
  else
    let s := (s.send .porterField 0x40 (.power .exchange)).send .porterHost 0x40 (.power .exchange)
    let stop (l : Link) : Link := { l with up := false, window := [], expRx := (l.expRx + 1) % 65536, owe := false }
    { s with linkF := stop s.linkF, linkH := stop s.linkH }

/-- Unstored changes are discarded: the host side's settings return to the copy in use (R411); the field side's reload at
the wake. -/
def State.discardHost (s : State) : State :=
  let vals := match s.settings.hostCopies with | c :: _ => c.vals | [] => []
  let keep := s.dict.filter fun p => onField p || !(isSetting p)
  { s with dict := vals.foldl (fun d p => d.insert p.1 p.2) keep, settings := { s.settings with changedH := false } }

/-- Every block has stopped: pads latch, domains power down, and the scanner starts or every bias goes off (R237, R238,
R409, R412, R419, R442). -/
def State.powerDown (curfew : Bool) (s : State) : State :=
  let lit := if curfew then [] else s.lanternSet.map feederOf
  let s := s.each (List.range 16) fun f => State.modFeeder f fun x => { x with biasOn := x.biasOn && lit.contains f, conn := x.conn && lit.contains f }
  let sniff := s.objBool 0x7030 1 && hasRadio
  let s : State := { s with
    radio := { s.radio with state := if sniff then 5 else 0, lock := false, freq := 0, settle := false, cal := false, moving := false,
                            calPend := s.radio.calPend || s.radio.cal, fem := if sniff then s.femPins 9 else 0 },
    sense := { s.sense with scanner := !curfew, scanCoils := [], repeatCa := none, word := none },
    ring := { s.ring with a := { s.ring.a with armed := decide (s.ring.a.link = 0) }, b := { s.ring.b with armed := decide (s.ring.b.link = 0) } },
    spi := { s.spi with attn := false } }
  let s : State := { s with twin := { s.twin with sleeping := decide (s.twin.role ≠ 0) } }
  { s with power := { s.power with
      state := if curfew then 2 else 1, hostAsleep := true, entering := 0, window := curfew, lastEntry := 1, padlat := 0xF, hostPadlat := 1,
      lanterns := s.power.lanterns + bit (!curfew), curfews := s.power.curfews + bit curfew } }

/-- The negotiation of R412; a level source that is active when entry completes wakes the module at once (R414). -/
def State.negotiate (req : Nat) (s : State) : State :=
  let code := s.refusingBlock
  if code ≠ 0 then s.decline req code
  else
    let s := s.saveTs.porterStop
    let s := s.when (decide (req = 3)) State.discardHost
    let s := s.powerDown (decide (req ≠ 1))
    if req ≠ 1 then s
    else match [5, 6].filter (fun k => s.wakeEnabled k && s.levelHolds k) with
      | k :: _ => s.wakeNow k
      | [] => s

/-- An accepted request; a lead with a ready second first mirrors it and waits (R365, R422). -/
def State.enter (req : Nat) (s : State) : State :=
  if s.mirrors then
    let s : State := { s with power := { s.power with entering := req }, twin := { s.twin with sleeping := true } }
    s.send .twin 0x8A (.mPower (decide (req ≠ 1)))
  else s.negotiate req

/-- A request of 1, 2 or 3 written to 0xB010.01 (R411). -/
def State.enterSleep (req : Nat) (s : State) : Status × State :=
  if s.power.entering ≠ 0 ∨ s.power.state ≠ 0 ∨ s.debugOn then (.busy, s)
  else if req = 2 ∧ (s.settings.changedF ∨ s.settings.changedH) then (.invalid, s)
  else if s.power.warning then (.powerFail, s)
  else if s.twin.role = 2 then (.locked, s)
  else (.ok, s.enter req)

/-- A row that writes a request answers with its status, while the ports serve. -/
def State.request (req : Nat) (s : State) : State :=
  if ¬ s.serving then s
  else
    let r := s.enterSleep req
    r.2.emit (.status 0xB010 1 r.1.code)

/-- ENTER_LANTERN (R411). -/
def execEnterLantern (s : State) : Result := .next (s.request 1)

/-- ENTER_CURFEW (R411). -/
def execEnterCurfew (s : State) : Result := .next (s.request 2)

/-- ENTER_CURFEW_DISCARDING (R411). -/
def execEnterCurfewDiscarding (s : State) : Result := .next (s.request 3)

end Sys2Proof.Machine
end

