-- ==== Sys2Proof/Machine/KenierMemory.lean ====
section
/-!
DEFINITION. Loads and stores of the Kenier cores, register writes, and debug accesses (R250, R257, R258, R272, R275, R281).
-/

namespace Sys2Proof.Machine

open Sys2Proof

/-! ### Register writes (R81, R411, R424) -/

/-- A word written to an I/O bank; PWRCTL.SLEEP starts the entry to a state (R411). -/
def State.ioWrite (who : Writer) (a v : Nat) (s : State) : State :=
  let s := s.ioWriteWord who a v
  let sleep := bitsOf v 2 2
  if bankOf a = 0x182 ∧ a % 65536 = 0 ∧ (sleep = 1 ∨ sleep = 2) ∧ s.power.state = 0 ∧ s.power.entering = 0 ∧ ¬ s.power.warning then
    s.negotiate sleep
  else s

/-- REGISTER_WRITE: a word that the Kenier pair writes to a field-side I/O bank; the field side is in Run. -/
def execRegisterWrite (bank : BitVec 9) (off : BitVec 16) (v : Word) (s : State) : Result :=
  if s.power.state = 0 ∧ off.toNat % 4 = 0 then .next (s.ioWrite .core (addrOf bank.toNat off.toNat) v.toNat) else .next s

/-! ### Banks (R258, R297) -/

/-- Banks that a load reaches, words only in the I/O banks. -/
def loadable (word : Bool) (b : Nat) : Bool :=
  decide (b < 0x100) || (decide (0x100 ≤ b ∧ b < 0x140) && decide (b ≠ 0x134)) || (decide (0x180 ≤ b ∧ b < 0x1C0) && word) || decide (b = 0x1C0)

/-- Banks that a store reaches. -/
def storable (word : Bool) (b : Nat) : Bool := decide (b < 0x100) || (decide (0x180 ≤ b ∧ b < 0x1C0) && word)

/-- The host core's banks (R297; log 6): its 2 MiB SRAM, its 1 MiB NVM, its I/O banks and boot ROM. -/
def hostBank (b : Nat) : Bool := decide (b < 0x20 ∨ (0x100 ≤ b ∧ b < 0x110) ∨ (0x180 ≤ b ∧ b ≤ 0x1C0))

def isIo (b : Nat) : Bool := decide (0x180 ≤ b ∧ b < 0x1C0)

/-- One byte of the host side's memory: boot ROM, counter log, other NVM, SRAM (R297). -/
def State.hostByte (s : State) (a : Nat) : Byte :=
  if bankOf a = 0x1C0 then Config.bootRom (a % 65536)
  else if bankOf a = 0x108 then logByte s.nvm.hostLog s.nvm.hostDropped a
  else if 0x100 ≤ bankOf a then Config.hostNvmByte (a - addrOf 0x100 0)
  else Tab.get 0 s.hostMem a

/-- The little-endian value of `n` bytes as a core reads them. -/
def State.loadValue (s : State) (k : Die) (a n : Nat) : Nat :=
  match k with
  | .field => if isIo (bankOf a) then (s.ioRead a).toNat else leNat (s.readBytes a n)
  | .host => if isIo (bankOf a) then (s.hostIoRead a).toNat else leNat ((List.range n).map fun i => s.hostByte (a + i))

/-! ### Loads and stores (R250, R257, R272) -/

/-- The address of an access. -/
def Kenier.address (c : Kenier) (far : Bool) (ra : RegNo) (imm : BitVec 16) : Nat :=
  addrOf (if far then c.abk.toNat else c.dbk.toNat) (((c.reg ra).toNat + imm.toNat) % 65536)

/-- Guest code may access its own banks, and LDFW the timebase registers (R272). -/
def guestAccess (load far : Bool) (a : Nat) : Bool :=
  decide (0x20 ≤ bankOf a ∧ bankOf a < 0x40) ||
  (load && far && decide (bankOf a = 0x190) && decide (0x300 ≤ a % 65536 ∧ a % 65536 ≤ 0x314))

/-- The sign or zero extension of `n` loaded bytes. -/
def extend (signed : Bool) (n v : Nat) : Word := if signed then BitVec.ofInt 32 (signedOf (8 * n) v) else BitVec.ofNat 32 v

/-- A load of `n` bytes: guest rule, alignment, bank, check bits, then the value, with the effect of a reading (R11). -/
def State.load (k : Die) (rd ra : RegNo) (imm : BitVec 16) (n : Nat) (signed far : Bool) (s : State) : State :=
  s.issue k {} fun s =>
    let c := s.core k
    let a := c.address far ra imm
    if c.guest ∧ guestAccess true far a = false then s.trapGuest k
    else if a % n ≠ 0 then s.trapHere k 2
    else if loadable (decide (n = 4)) (bankOf a) = false ∨ (k = .host ∧ hostBank (bankOf a) = false) then s.trapBus k a 0
    else if s.wordBad k a then (s.wordFault k a 0).trapBus k a 0
    else
      let v := extend signed n (s.loadValue k a n)
      let s := s.wordFix k a
      let s := if k = .field ∧ isIo (bankOf a) then s.ioConsume a else s
      s.writeBack k rd v 2

/-- Bytes stored by a core. -/
def State.storeBytes (k : Die) (a : Nat) (bs : List Byte) (s : State) : State :=
  match k with
  | .field => s.writeBytes a bs
  | .host => (List.range bs.length).foldl (fun s i => { s with hostMem := Tab.set 0 s.hostMem (a + i) (bs.getD i 0) }) s

/-- A store of `n` bytes. It is a read-modify-write: an uncorrectable word stays as found, with its fault (R281, R282). -/
def State.storeData (k : Die) (rd ra : RegNo) (imm : BitVec 16) (n : Nat) (far : Bool) (s : State) : State :=
  s.issue k {} fun s =>
    let c := s.core k
    let a := c.address far ra imm
    let v := (c.reg rd).toNat
    if c.guest ∧ guestAccess false far a = false then s.trapGuest k
    else if a % n ≠ 0 then s.trapHere k 2
    else if storable (decide (n = 4)) (bankOf a) = false ∨ (k = .host ∧ hostBank (bankOf a) = false) then s.trapBus k a 1
    else if s.wordBad k a then (s.wordFault k a 1).retire k
    else if isIo (bankOf a) then
      ((match k with | .field => s.ioWrite .core a v | .host => s.hostIoWrite a v)).retire k
    else ((s.wordFix k a).storeBytes k a (natLE n v)).retire k

def execLdw (k : Die) (rd ra : RegNo) (imm : BitVec 16) (s : State) : Result := .next (s.load k rd ra imm 4 false false)
def execLdh (k : Die) (rd ra : RegNo) (imm : BitVec 16) (s : State) : Result := .next (s.load k rd ra imm 2 true false)
def execLdhu (k : Die) (rd ra : RegNo) (imm : BitVec 16) (s : State) : Result := .next (s.load k rd ra imm 2 false false)
def execLdb (k : Die) (rd ra : RegNo) (imm : BitVec 16) (s : State) : Result := .next (s.load k rd ra imm 1 true false)
def execLdbu (k : Die) (rd ra : RegNo) (imm : BitVec 16) (s : State) : Result := .next (s.load k rd ra imm 1 false false)
def execLdfw (k : Die) (rd ra : RegNo) (imm : BitVec 16) (s : State) : Result := .next (s.load k rd ra imm 4 false true)
def execStw (k : Die) (rd ra : RegNo) (imm : BitVec 16) (s : State) : Result := .next (s.storeData k rd ra imm 4 false)
def execSth (k : Die) (rd ra : RegNo) (imm : BitVec 16) (s : State) : Result := .next (s.storeData k rd ra imm 2 false)
def execStb (k : Die) (rd ra : RegNo) (imm : BitVec 16) (s : State) : Result := .next (s.storeData k rd ra imm 1 false)
def execStfw (k : Die) (rd ra : RegNo) (imm : BitVec 16) (s : State) : Result := .next (s.storeData k rd ra imm 4 true)

/-! ### Debug accesses (R274, R275) -/

/-- The access types of DBGACC.TYPE, and of first-error capture (R275, R395). -/
def debugType (typ : Nat) : Nat := match typ with | 0 => 4 | 1 => 5 | _ => 1

/-- A debug access fails its check as a core's load or store would; the key store is no failure (R274, R275). -/
def State.debugBad (s : State) (a typ : Nat) : Bool :=
  decide (a % 4 ≠ 0) || (decide (bankOf a ≠ 0x134) && !(if typ = 2 then storable true (bankOf a) else loadable true (bankOf a))) ||
  s.wordBad .field a

/-- A debug access that fails: not performed, ERR set, captured with debug as the master. -/
def State.debugFail (a typ : Nat) (s : State) : State :=
  let s := if s.wordBad .field a ∧ a % 4 = 0 then s.eccFault a 13 (debugType typ)
    else s.captureAccess .field { adr := a, master := 13, typ := debugType typ }
  { s with dbg := { s.dbg with err := true } }

/-- The access that DBGACC names; only while core debug is enabled (R274). -/
def State.debugAccess (typ a : Nat) (d : Word) (s : State) : State :=
  if ¬ s.debugOn ∨ s.power.state ≠ 0 then s
  else
    let s : State := { s with dbg := { s.dbg with addr := a, typ := typ, err := false, data := if typ = 2 then d else s.dbg.data } }
    let bad := s.debugBad a typ
    let s := if typ = 1 then ({ s with dbg := { s.dbg with consumes := s.dbg.consumes + 1 } }).commit 6 12 (natLE 4 a ++ [b8 (bit bad)]) else s
    if bad then s.debugFail a typ
    else if typ = 2 then
      if bankOf a = 0x134 then s
      else if isIo (bankOf a) then s.ioWrite .debug a d.toNat
      else (s.eccFix a 1).writeBytes a (natLE 4 d.toNat)
    else
      let v : Word := if bankOf a = 0x134 then 0 else BitVec.ofNat 32 (s.loadValue .field a 4)
      let s : State := { s with dbg := { s.dbg with data := v } }
      if typ = 0 then s else if isIo (bankOf a) then s.ioConsume a else s.eccFix a 1

/-- DEBUG_PEEK (R275). -/
def execDebugPeek (a : BitVec 25) (s : State) : Result := .next (s.debugAccess 0 a.toNat 0)

/-- DEBUG_CONSUME (R275). -/
def execDebugConsume (a : BitVec 25) (s : State) : Result := .next (s.debugAccess 1 a.toNat 0)

/-- DEBUG_WRITE (R275). -/
def execDebugWrite (a : BitVec 25) (d : Word) (s : State) : Result := .next (s.debugAccess 2 a.toNat d)

end Sys2Proof.Machine
end

