-- ==== Sys2Proof/Machine/CalibCommands.lean ====
section
/-!
DEFINITION. Calibrations, the survey, gradual corrections, the commit, and the HF and Porter loop-backs (R462 to R477).
-/

namespace Sys2Proof.Machine

open Sys2Proof

/-! ### What a calibration needs (R462, R464 to R466, R469) -/

/-- A chain is free for a calibration: at zero, not routed, not lent and not under one (R465). -/
def State.chainIdle (s : State) (x : Nat) : Bool :=
  let c := s.chain x
  decide (c.st = 0) && !c.routed && c.lentTo.isNone && !c.calib

/-- A chain that a calibration needs is free: a CALIB stage's own chain, which stays routed (R93), once it is at zero. -/
def State.chainFreeFor (s : State) (track : Option Nat) (x : Nat) : Bool :=
  match track with
  | some _ => decide ((s.chain x).st = 0) && (s.chain x).lentTo.isNone && !(s.chain x).calib
  | none => s.chainIdle x

/-- A receive chain is free for a calibration step: not in listen, not training (R465). -/
def State.rxIdle (s : State) (v : Nat) : Bool := !(s.inListen v) && !(s.rx v).training && !(s.rx v).calib

/-- The feeder of a coil is free: no chain but the calibration's own owns it or has RF on it, its status is OK, and the
module may send its words (R83, R87, R364). -/
def State.coilFree (s : State) (track : Option Nat) (ca : Nat) : Bool :=
  let f := feederOf ca
  decide ((s.feeder f).status = 1) && s.wordsAllowed &&
  !((List.range 8).any fun y => decide (some y ≠ track) && ((s.chain y).routed || decide ((s.chain y).st ≠ 0)) && decide ((s.chain y).feeder = f))

/-- The chain that a calibration drives: its target, its track's, X0 for a survey, or the first free one. -/
def State.calChain (s : State) (code target : Nat) (track : Option Nat) : Option Nat :=
  match code with
  | 1 => some target
  | 3 => match track with | some t => some t | none => (List.range 8).find? s.chainIdle
  | 4 => match track with | some t => some t | none => (List.range 8).find? s.chainIdle
  | 5 => some 0
  | _ => none

/-- What a calibration waits for is free (R464, R465). -/
def State.calReady (s : State) (code target : Nat) (track : Option Nat) : Bool :=
  let free := match s.calChain code target track with | some x => s.chainFreeFor track x | none => false
  s.calib.running.isNone && s.calib.commit.isNone && !s.fltF.safe && !s.power.warning && decide (s.power.state = 0) &&
  match code with
  | 1 => free
  | 2 => s.rxIdle target
  | 3 => free && s.coilFree track target && s.rxIdle (feederOf target)
  | 4 => free && s.coilFree track target && s.rxIdle (feederOf target)
  | 5 => free && (List.range 9).all fun t => !(s.track t).running
  | 6 => hasRadio && decide (s.radio.queue = []) && !s.radio.rxBusy
  | _ => false

/-- The pickup cannot be read (R469): its feeder enabled or the target's own, or no transfer factor. -/
def State.pickupBad (s : State) (ca : Nat) : Bool :=
  let r := s.objNat 0xC001 2
  s.feederOn r || decide (r = feederOf ca) || decide (s.objQ 0xC001 1 = 0)

/-! ### Running (R463, R466) -/

/-- A calibration runs: its chains are marked, and the measurements of R466 hold their values. -/
def State.calBegin (code target : Nat) (track : Option Nat) (s : State) : State :=
  let x := s.calChain code target track
  let v : Option Nat := match code with | 2 => some target | 3 => some (feederOf target) | 4 => some (feederOf target) | _ => none
  let s : State := { s with calib := { s.calib with
      running := some (code, target, track), chain := x, state := 2, reason := 0,
      staleX := if code = 1 then [target] else [], staleV := v.toList, staleRssi := decide (code = 6) } }
  let s := match x with | some x => s.modChain x fun c => { c with calib := true } | none => s
  match v with
  | some v => s.modRx v fun r => { r with calib := true, stale := some r.depth }
  | none => s

/-- A calibration ends: its marks go, and the published values follow again. -/
def State.calEnd (state reason : Nat) (s : State) : State :=
  let s : State := { s with calib := { s.calib with running := none, chain := none, state := state, reason := reason,
                                                    staleX := [], staleV := [], staleRssi := false } }
  let s := s.each (List.range 8) fun x => State.modChain x fun c => { c with calib := false }
  s.each (List.range 16) fun v => State.modRx v fun r => { r with calib := false, stale := none }

/-- A code 4 whose pickup cannot be read ends at once with reason 3 (R469). -/
def State.calGo (code target : Nat) (track : Option Nat) (s : State) : State :=
  if code = 4 ∧ s.pickupBad target then { s with calib := { s.calib with state := 4, reason := 3 } } else s.calBegin code target track

/-- The commanded calibration that waits, and then those due, start where their chain or feeder is free (R465, R477). A twin
second runs automatic codes 1 and 2 alone. -/
def State.calibTry (s : State) : State :=
  match s.calib.wanted with
  | some (c, t) =>
    if s.calReady c t none then ({ s with calib := { s.calib with wanted := none } }).calGo c t none else s
  | none =>
    match s.calib.due.find? fun p => s.calReady p.1 p.2 none && (decide (p.1 ≤ 2) || decide (s.twin.role ≠ 2)) with
    | some p => ({ s with calib := { s.calib with due := s.calib.due.filter (· ≠ p) } }).calGo p.1 p.2 none
    | none => s

/-! ### Results (R463, R467, R469 to R472) -/

/-- A new correction: a chain at zero takes it at once, and stepping otherwise goes on towards the newest target (R467,
R475). -/
def State.correct (rx : Bool) (i : Nat) (amp phase : Rat) (s : State) : State :=
  let key := if rx then 16 + i else i
  let rest := s.calib.corrections.filter fun k => decide (k.rx ≠ rx ∨ k.index ≠ i)
  if ¬ rx ∧ (s.chain i).st = 0 then
    { s with calib := { s.calib with corrections := rest, present := Tab.set (0, 0) s.calib.present key (amp, phase) } }
  else { s with calib := { s.calib with corrections := rest ++ [{ rx := rx, index := i, amp := amp, phase := phase }] } }

/-- The couplings a survey row keeps: at most the 32 strongest of -40 dB or more to other feeders, by ascending victim
(R470, R471). -/
def surveyRow (src : Nat) (cs : List Coupling) : List Coupling :=
  let mine := cs.filter fun c => decide (c.src = src) && decide (feederOf c.victim ≠ feederOf src) && couplingAtLeast c.mag 40
  sortBy (fun c : Coupling => c.victim) ((sortBy (fun c : Coupling => 65536 - c.mag) mine).take 32)

/-- A completed survey replaces the matrix in use, and its generation increments (R472). -/
def State.newSurvey (plan : Nat) (m : CalMeasure) (s : State) : State :=
  let coils := s.planCoils plan
  let rows := coils.foldl (fun t ca => Tab.set [] t ca (surveyRow ca m.couplings)) ([] : Tab (List Coupling))
  { s with calib := { s.calib with survey := rows, unsurveyed := coils.filter m.unacked.contains,
                                   gen := if s.calib.gen ≥ 255 then 1 else s.calib.gen + 1 } }

/-- The transfer factor that code 4 measures (R469): every chain cap is 4 W (R98), so the drive is 1.00 W. -/
def State.measuredK (s : State) (m : CalMeasure) : Rat := m.pickupMv / 1000 / s.objQ 0xC001 1

/-- The acceptance of R463, and the result value shown. -/
def State.calAccepts (s : State) (code : Nat) (m : CalMeasure) : Bool :=
  match code with
  | 1 => decide (-3 ≤ m.value ∧ m.value ≤ 3)
  | 2 => decide (-1 ≤ m.value ∧ m.value ≤ 1)
  | 3 => decide (m.value ≥ 10) && decide (m.tune ≤ 62)
  | 4 => decide (m.pickupMv ≥ 1) && decide (1 / 5 ≤ s.measuredK m ∧ s.measuredK m ≤ 10)
  | 5 => true
  | _ => decide (0 ≤ m.value ∧ m.value ≤ 30)

def State.calValue (s : State) (code : Nat) (m : CalMeasure) : Rat :=
  match code with
  | 3 => m.tune
  | 4 => s.measuredK m
  | 5 => s.calib.last
  | _ => m.value

/-- An accepted result takes effect (R463, R467, R472). -/
def State.calApply (code target : Nat) (m : CalMeasure) (s : State) : State :=
  let s : State := { s with calib := { s.calib with dirty := s.calib.dirty || decide (code ≥ 3) } }
  match code with
  | 1 => s.correct false target m.value m.degrees
  | 2 => s.correct true target m.value 0
  | 3 => s.modCal target fun c => { c with tune := m.tune }
  | 4 => s.modCal target fun c => { c with k := s.measuredK m }
  | 5 => s.newSurvey target m
  | _ => { s with calib := { s.calib with paGain := m.value } }

/-- A FEM gain table calibration radiates for 1.02 ms, which counts as duty (R437, R462). -/
def State.calDuty (code : Nat) (s : State) : State := if code = 6 then s.addDuty 1020 else s

/-- The journal record of a rejected or interrupted calibration (R463, R475, R499). -/
def State.calJournal (code reason target : Nat) (v : Rat) (s : State) : State :=
  s.commit 6 10 ([b8 code, b8 reason] ++ natLE 2 target ++ natLE 4 (q16 v))

/-- The words of a calibration (R88, R90): a coil that did not acknowledge leaves a word and its repeat in its feeder's count,
and the coil of code 3 or 4 that did is connected. -/
def State.calWords (code target : Nat) (m : CalMeasure) (s : State) : State :=
  let s := s.each m.unacked fun ca => State.modFeeder (feederOf ca) fun x => { x with unacked := x.unacked + 2 }
  if (code = 3 ∨ code = 4) ∧ ¬ m.unacked.contains target ∧ ¬ m.interrupted then s.ackWord (feederOf target) target else s

/-- The running calibration ends with what it measured; a coil that did not acknowledge fails it with reason 2. -/
def State.calFinish (code target : Nat) (m : CalMeasure) (s : State) : Bool × State :=
  let s : State := { s with calib := { s.calib with runs := s.calib.runs + 1 } }
  let s := (s.calWords code target m).calDuty code
  let v := s.calValue code m
  if m.interrupted then (false, (s.calEnd 4 4).calJournal code 4 target v)
  else if (code = 3 ∨ code = 4) ∧ m.unacked.contains target then (false, s.calEnd 4 2)
  else
    let s : State := { s with calib := { s.calib with last := v } }
    if s.calAccepts code m then (true, (s.calApply code target m).calEnd 3 0)
    else (false, (s.calEnd 4 1).calJournal code 1 target v)

/-- CALIBRATION_DONE (R463): a stage's calibration ends its stage, OK or CORRUPT; one whose track has been stopped was
interrupted. -/
def execCalibrationDone (m : CalMeasure) (s : State) : Result :=
  let s := s.calibTry
  match s.calib.running with
  | none => .next s
  | some (code, target, none) => .next (s.calFinish code target m).2.calibTry
  | some (code, target, some t) =>
    let here := decide ((s.track t).phase = .calib)
    let (ok, s) := s.calFinish code target { m with interrupted := m.interrupted || !here }
    .next ((s.when here (State.endSimple t (if ok then 0 else 3))).calibTry)

/-! ### Starting (R62, R464, R465, R475, R478) -/

/-- The target that a CALIB stage names for its code (R464). -/
def stageTarget (t : Nat) (g : Stage) : Nat := match g.wave with | 1 => t | 2 => feederOf g.target | _ => g.target

/-- A CALIB stage starts its calibration, or waits for its chain or feeder (R464). -/
def State.calStageGo (t : Nat) (s : State) : State :=
  let g := (s.track t).cur
  let target := stageTarget t g
  if s.calReady g.wave target (some t) then
    if g.wave = 4 ∧ s.pickupBad target then ({ s with calib := { s.calib with state := 4, reason := 3 } }).endSimple t 3
    else
      (s.calBegin g.wave target (some t)).modTrack t fun tr =>
        { tr with phase := .calib, st := if tr.st = 6 then 6 else 2, startCc := s.tb.cc }
  else s.modTrack t fun tr => { tr with phase := .calibWait }

/-- CALIB (R62, R464): codes above 4, and on TS all but code 2, are illegal; codes 1, 3 and 4 take the track's own chain,
which goes to zero and stays routed (R93). -/
def execCalib (t : Fin 9) (s : State) : Result :=
  .next (s.beginStage t 14 true
    (fun g _ => if g.wave = 2 ∨ (t ≠ 8 ∧ (g.wave = 1 ∨ g.wave = 3 ∨ g.wave = 4)) then .good else .illegal)
    fun g s => ((if g.wave = 2 then s else if s.ownLent t then s else s.rampDown t)).calStageGo t)

/-- RESOURCE_WAIT_END (R68). -/
def execResourceWaitEnd (t : Fin 9) (s : State) : Result :=
  let tr := s.track t
  if tr.phase = .calibWait ∧ tr.cur.kind = 14 then .next (s.calStageGo t) else .next (s.resourceWaitEnd t)

/-- A target that its code admits (R478). -/
def calTargetOk (code target : Nat) : Bool :=
  match code with
  | 1 => decide (target < 8)
  | 2 => decide (target < 16)
  | 5 => decide (target < 16)
  | 6 => true
  | _ => decide (target < 256)

/-- A start written to 0xC000.04 (R463, R475, R478). -/
def State.calStart (s : State) : Status × State :=
  let code := s.objNat 0xC000 1
  let target := s.objNat 0xC000 2
  if code = 6 ∧ ¬ hasRadio then (.notFitted, s)
  else if ¬ calTargetOk code target then (.valueRange, s)
  else if s.calib.running.isSome ∨ s.calib.commit.isSome ∨ s.calib.wanted.isSome then (.busy, s)
  else if code = 5 ∧ ((List.range 9).any (fun t => (s.track t).running) ∨ s.sweeps.queue ≠ [] ∨ s.sweeps.running.isSome) then (.busy, s)
  else (.ok, { s with calib := { s.calib with state := 1, reason := 0, wanted := some (code, target) } }.calibTry)

/-- CALIBRATION_DUE (R462, R465): codes 1 and 2, and code 6 at start-up with a FEM fitted. -/
def execCalibrationDue (code target : Nat) (s : State) : Result :=
  let auto := (decide (code = 1 ∨ code = 2) && calTargetOk code target) || (decide (code = 6) && hasRadio && s.objBool 0x7010 4)
  if auto ∧ ¬ s.calib.due.contains (code, target) then
    .next ({ s with calib := { s.calib with due := s.calib.due ++ [(code, target)] } }).calibTry
  else .next s

/-! ### Corrections (R467) -/

/-- A value moves towards its target by at most one step. -/
def stepTo (lim x t : Rat) : Rat := if t - x > lim then x + lim else if x - t > lim then x - lim else t

/-- A step on a chain waits while a receive chain listens on the feeder that the chain owns, directly or as an input of a
combiner; a step on a receive chain waits while it listens. -/
def State.stepWaits (s : State) (k : Correction) : Bool :=
  if k.rx then s.inListen k.index
  else (s.chain k.index).routed && s.inListen (s.chain k.index).feeder

/-- CORRECTION_STEP (R467): every correction that need not wait moves by at most 0.1 dB and 0.5 degrees. -/
def execCorrectionStep (s : State) : Result :=
  .next (s.calib.corrections.foldl (fun s k =>
    if s.stepWaits k then s
    else
      let key := if k.rx then 16 + k.index else k.index
      let (a, p) := Tab.get (0, 0) s.calib.present key
      let a := stepTo (1 / 10) a k.amp
      let p := stepTo (1 / 2) p k.phase
      let done := decide (a = k.amp) && decide (p = k.phase)
      { s with calib := { s.calib with present := Tab.set (0, 0) s.calib.present key (a, p),
                                       corrections := if done then s.calib.corrections.filter (· ≠ k) else s.calib.corrections } }) s)

/-! ### The commit (R474) -/

/-- The payload of 0xC002.01 commits the results of codes 3 to 6: the 32 sectors of the alternate copy are erased at
priority 4, and the copy stands once the last has verified. -/
def State.commitCal (p : List Byte) (s : State) : Status × State :=
  if p ≠ zeros 4 then (.invalid, s)
  else if s.calib.running.isSome ∨ s.calib.commit.isSome ∨ s.calib.wanted.isSome then (.busy, s)
  else
    let c : SavedCal := { coils := s.coilCal, survey := s.calib.survey, unsurveyed := s.calib.unsurveyed, gen := s.calib.gen, paGain := s.calib.paGain }
    let s : State := { s with calib := { s.calib with commit := some c } }
    let base := 0x3A0 + 32 * (s.calib.seq % 2)
    (.ok, s.each (List.range 32) fun i => State.nvmSubmit { prio := 4, erase := true, sector := base + i, addr := 0, data := [] })

/-! ### Loop-backs (R476, R477) -/

/-- A target that a depth admits (R476). -/
def loopTargetOk (depth target : Nat) : Bool :=
  match depth with
  | 1 => decide (target < 16)
  | 2 => decide (target < 16)
  | 3 => decide (target < 256)
  | 4 => decide (target < 16)
  | 5 => decide (target < 256)
  | _ => true

/-- A start written to 0xC020.03 (R476, R477); a refused start shows state 4. -/
def State.hfLoop (s : State) : Status × State :=
  let depth := s.objNat 0xC020 1
  let target := s.objNat 0xC020 2
  let air := decide (3 ≤ depth ∧ depth ≤ 5)
  if s.calib.loop = 1 then (.busy, s)
  else if ¬ loopTargetOk depth target then (.valueRange, s)
  else if (air && (s.fltF.safe || s.power.warning || decide (s.twin.role = 2))) || (decide (depth = 5) && !s.mirrors) ||
      (decide (depth = 4) && decide ((s.feeder target).status ≠ 1)) then
    (.refused, { s with calib := { s.calib with loop := 4 } })
  else (.ok, { s with calib := { s.calib with loop := 1, loopDepth := depth, loopTarget := target, loopSent := 0, loopMatched := 0 } })

/-- What a depth must return to pass (R476): frames or messages sent, all of them matched. -/
def loopFull (depth : Nat) : Nat := match depth with | 1 => 176 | 2 => 64 | 6 => 64 | 7 => 64 | _ => 0

/-- HF_LOOPBACK_END (R476, R477). -/
def execHfLoopbackEnd (sent matched : Nat) (good : Bool) (s : State) : Result :=
  if s.calib.loop ≠ 1 then .next s
  else
    let pass := good && decide (matched = sent) && decide (sent ≥ loopFull s.calib.loopDepth)
    .next { s with calib := { s.calib with loop := if pass then 2 else 3, loopSent := min 65535 sent, loopMatched := min 65535 matched } }

end Sys2Proof.Machine
end

