-- ==== Sys2Proof/Machine/Dictionary.lean ====
section
/-!
DEFINITION. What a read of each dictionary object returns (R22, R300 to R305 and the object table of every chapter).
-/

namespace Sys2Proof.Machine

open Sys2Proof

/-! ### Encodings (R301) -/

def boolV (b : Bool) : List Byte := [b8 (bit b)]
def u8V (n : Nat) : List Byte := natLE 1 (min 255 n)
def u16V (n : Nat) : List Byte := natLE 2 (min 65535 n)
/-- A counter of 32 bits for which no rule says what follows its largest value (log 7). -/
def u32V (n : Nat) : List Byte := natLE 4 (if n < 2 ^ 32 then n else Config.countPastMax n)
/-- A saturating 32-bit counter. -/
def satV (n : Nat) : List Byte := natLE 4 (min (2 ^ 32 - 1) n)
def u64V (n : Nat) : List Byte := natLE 8 n
def qV (r : Rat) : List Byte := natLE 4 (q16 r)

/-! ### Identity, settings, memory (R299, R303) -/

/-- The variant's code (R303). -/
def variantCode : Nat := match Config.variant with | .e => 0 | .n => 1 | .h => 2

/-- The serial number as STR(16). -/
def serialText : List Byte := Config.serial.take 16

/-- "Chollato". -/
def vendorText : List Byte := [0x43, 0x68, 0x6F, 0x6C, 0x6C, 0x61, 0x74, 0x6F]

def State.readIdentity (s : State) (sub : Nat) : List Byte :=
  match sub with
  | 0 => u8V variantCode
  | 1 => vendorText
  | 2 => u8V variantCode
  | 3 => natLE 2 Config.hwRevision
  | 4 => serialText
  | 5 => natLE 4 (if s.nvm.image = 0 then 0 else Config.imageVersion (s.imageCells s.nvm.image))
  | 6 => natLE 4 Config.hostImageVersion
  | _ => natLE 2 1

def State.readSettings (s : State) (sub : Nat) : List Byte :=
  let t := s.settings
  match sub with
  | 2 => u8V t.state
  | 3 => natLE 4 (seqInUse t.fieldCopies)
  | 4 => natLE 4 (seqInUse t.hostCopies)
  | 5 => boolV (t.changedF || t.changedH)
  | 6 => boolV (t.defaultsF || t.defaultsH)
  | 7 => u8V s.fieldWear
  | 8 => u8V s.hostWear
  | _ => boolV (decide (s.fieldWear ≥ 100) || decide (s.hostWear ≥ 100))

def State.readImages (s : State) (sub : Nat) : List Byte :=
  match sub with
  | 1 => u8V s.nvm.image
  | 2 => natLE 4 (Config.imageVersion (s.imageCells 1))
  | _ => natLE 4 (Config.imageVersion (s.imageCells 2))

/-! ### Commands and the journal (R316 to R319, R329) -/

/-- The rights mask of a command-key slot (R316). -/
def State.rights (s : State) (k : Nat) : Nat := (s.cmdSlot k).rights.getD (if k = 0 then 0x3F else 0x2F)

def State.readCommands (s : State) (sub : Nat) : List Byte :=
  match sub with
  | 0x11 => u32V s.cmds.badMac
  | 0x12 => u32V s.cmds.stale
  | 0x13 => u32V s.cmds.consumed
  | 0x14 => u32V s.cmds.holds
  | k => u64V ((s.cmdSlot (k - 1)).last + 1)

def State.readJournal (s : State) (sub : Nat) : List Byte :=
  let j := s.journal
  match sub with
  | 1 => u64V j.next
  | 2 => u64V s.oldestHeld
  | 3 => u32V j.ring.length
  | 4 => boolV j.backpressure
  | 5 => u32V j.markers
  | 6 => u32V j.dropped
  | 7 => u32V j.resent
  | 8 => u32V j.ignored
  | _ => u32V j.evDropped

/-! ### Field engine, receive, protocols (R55, R114, R143, R166, R171) -/

def State.readTimebase (s : State) (sub : Nat) : List Byte :=
  match sub with
  | 2 => u8V s.tb.src
  | 3 => qV s.tb.measured
  | 4 => u32V s.tb.rejected
  | _ => u32V s.tb.steps

def State.readFeederObj (s : State) (f sub : Nat) : List Byte :=
  match sub with
  | 3 => u8V (s.feeder f).status
  | 4 => u16V (s.feeder f).ibias
  | _ => u32V (s.feeder f).unacked

def State.readBudget (s : State) (sub : Nat) : List Byte :=
  match sub with
  | 1 => qV s.bc
  | 2 => qV s.bp
  | 3 => u32V s.peakUsed
  | 4 => qV s.powerSum
  | 5 => qV s.budget.amb
  | 6 => qV s.budget.sink
  | 7 => u8V (s.readPbstat / 16384 % 4)
  | 8 => u32V s.budget.waits
  | _ => u32V s.budget.reductions

def State.readChainObj (s : State) (x sub : Nat) : List Byte :=
  let c := s.chain x
  match sub with
  | 4 => s.obj (0x2100 + x) 4
  | 5 => u16V c.fwd
  | 6 => u16V c.refl
  | 7 => u8V (if c.routed then c.feeder else 0xFF)
  | _ => u32V c.clamps

def State.readCoilObj (s : State) (ca sub : Nat) : List Byte :=
  match sub with
  | 0x0A => qV (s.cal ca).k
  | 0x0B => u8V (s.cal ca).tune
  | _ => s.obj (0x2200 + ca) 0x0C

def State.readSenseObj (s : State) (ca sub : Nat) : List Byte :=
  let c := s.coilSense ca
  match sub with
  | 7 => u16V c.dev
  | 8 => natLE 2 (codeOf 16 c.openI) ++ natLE 2 (codeOf 16 c.openQ) ++ natLE 2 (codeOf 16 c.closedI) ++ natLE 2 (codeOf 16 c.closedQ)
  | _ => u32V c.detects

def State.readRxObj (s : State) (v sub : Nat) : List Byte :=
  let r := s.rx v
  match sub with
  | 2 => u8V (match r.stale with | some d => d | none => r.depth)
  | 3 => u32V r.trainings
  | 4 => u32V r.weakCt
  | 5 => u32V r.marks
  | 6 => u32V r.rchanges
  | _ => u32V r.trwaits

/-- The count of quiet bins, and whether the map is frozen (R136, R137). -/
def State.readMapObj (s : State) (sub : Nat) : List Byte :=
  match sub with
  | 3 => u8V ((List.range 64).filter s.binQuiet).length
  | _ => boolV (decide (s.tb.src = 2))

def State.readCaptureObj (s : State) (sub : Nat) : List Byte :=
  match sub with
  | 6 => u8V s.capture.state
  | 7 => u32V s.captureBlocks
  | _ => u64V s.capture.trigCc

/-- A page of 256 bytes of a byte string, the last one short. -/
def pageOf (b : List Byte) (p : Nat) : List Byte := (b.drop (256 * p)).take 256

def State.readApduObj (s : State) (sub : Nat) : List Byte :=
  match sub with
  | 6 => u8V s.apdu.status
  | 7 => u16V s.apdu.resp.length
  | _ => pageOf s.apdu.resp (s.objNat 0x6140 8)

def State.readTemplateObj (s : State) (sub : Nat) : List Byte :=
  match sub with
  | 5 => u8V s.template.status
  | 6 => u8V s.template.resp.length
  | _ => s.template.resp.take 32

/-! ### Inventory, security, guest code (R201, R223, R278) -/

def State.readRosterObj (s : State) (sub : Nat) : List Byte :=
  let r := s.roster
  match sub with
  | 4 => natLE 4 r.gen
  | 5 => u32V (r.entries.filter fun p => decide (p.2.pres ≠ 0)).length
  | 6 => u32V r.free
  | 7 => u32V r.overflowed
  | 8 => boolV r.full
  | 9 => u32V r.waits
  | _ => u32V r.outside

/-- A plan's state: running before queued before invalid (R201). -/
def State.planShown (s : State) (p : Nat) : Nat :=
  if s.sweeps.running.any (fun r => decide (r.plan = p)) then 2
  else if s.sweeps.queue.any (fun q => decide (q.1 = p)) then 1
  else if (s.plan p).invalid then 3 else 0

def State.readPlanObj (s : State) (p sub : Nat) : List Byte :=
  let x := s.plan p
  match sub with
  | 6 => u8V (s.planShown p)
  | 7 => u16V x.waves
  | 8 => natLE 4 x.lastGen
  | 9 => u16V x.failed
  | 0x0A => u16V x.unresolved
  | 0x0B => u32V x.merged
  | _ => u32V x.replans

/-- A page of the report: ten records, the header before page 0, the trailer after the last page; what exceeds 256 bytes
goes to the next page (R201; log 10). -/
def Report.page (r : Report) (p : Nat) : List Byte :=
  if r.status ≠ 2 then []
  else
    let cut (k : Nat) : Nat := if k = 0 then 0 else 16 + 240 * k
    let last := (r.nrec - 1) / 10
    let stop := if p < last then cut (p + 1) else r.bytes.length
    if p ≤ last then ((r.bytes.take stop).drop (cut p)).take 256
    else if p = last + 1 then (r.bytes.drop (cut last)).drop 256
    else []

def State.readReportObj (s : State) (sub : Nat) : List Byte :=
  match sub with
  | 6 => u8V s.report.status
  | 7 => u32V s.report.nrec
  | 9 => s.report.page (s.objNat 0x4100 8)
  | _ => u64V s.report.digest

/-- The check values of the key store (R206); the factory's transport slot has one too. -/
def State.readKeyObj (s : State) (sub : Nat) : List Byte :=
  natLE 4 (
    if sub ≤ 0x10 then s.checkValue 0 (sub - 1)
    else if sub = 0x11 then kcvWord (s.transportKey 0)
    else if sub ≤ 0x14 then s.checkValue 1 (sub - 0x11)
    else if sub = 0x41 then min (2 ^ 32 - 1) s.keys.refused
    else if sub ≤ 0x81 then s.checkValue 2 (sub - 0x42)
    else if sub ≤ 0xC1 then s.checkValue 3 (sub - 0x82)
    else (Tab.get {} s.keys.issuers (sub - 0xC2)).curve)

def State.readQuarObj (s : State) (sub : Nat) : List Byte :=
  match sub with
  | 3 => u32V s.keys.failed
  | 4 => u16V s.keys.quarantine.length
  | _ => u32V s.keys.logFull

def State.readGuestObj (s : State) (sub : Nat) : List Byte :=
  match sub with
  | 2 => u8V s.guest.state
  | 4 => u32V s.guest.calls
  | 5 => u32V s.guest.stops
  | _ => natLE 4 s.guest.lastAddr

def State.readDebugObj (s : State) (sub : Nat) : List Byte :=
  match sub with
  | 2 => u16V s.dbg.minutes
  | 3 => u32V s.dbg.consumes
  | _ => u32V s.dbg.halts

/-! ### Door link (R435, R446, R461) -/

/-- The locked values of 0x7001 (R435). -/
def readLock (sub : Nat) : List Byte :=
  let n := decide (Config.variant = .n)
  match sub with
  | 1 => natLE 4 (if n then 903200 else 863600)
  | 2 => natLE 4 1200
  | 3 => natLE 1 (if n then 20 else 4)
  | 4 => natLE 4 (if n then 0x10030 else 0x18)
  | 5 => natLE 4 (if n then 30 else 14)
  | 6 => qV (if n then 16 else 10)
  | _ => natLE 2 dutyLimit

def State.readRadioObj (s : State) (sub : Nat) : List Byte :=
  match sub with
  | 1 => u8V s.radio.state
  | 2 => u32V s.radio.cals
  | 3 => u32V s.radio.aborts
  | 4 => qV s.radio.calTemp
  | _ => u8V s.radio.imageDb

def State.readDutyObj (s : State) (sub : Nat) : List Byte :=
  let r := s.radio
  match sub with
  | 1 => u32V (s.dutySum / 1000)
  | 2 => u32V r.dutyRefused
  | 3 => u32V r.denials
  | 4 => u32V r.withdrawals
  | 5 => u32V r.lockLosses
  | _ => u32V r.femFaults

def State.readNodeObj (s : State) (i sub : Nat) : List Byte :=
  let n := s.node i
  match sub with
  | 5 => natLE 4 (codeOf 32 n.rssi)
  | 6 => u64V n.heard
  | 7 => u32V n.received
  | _ => u32V n.sent

/-- The mean of the sub-carriers' SNR over the packets held, in dB; 0 before the first. -/
def Node.meanSnr (n : Node) : Rat :=
  let xs := n.snrs.flatten
  if xs = [] then 0 else (xs.foldl (· + ·) 0 : Int) / (100 * xs.length : Nat)

def State.readMapsObj (s : State) (i sub : Nat) : List Byte :=
  let n := s.node i
  match sub with
  | 1 => padTo 24 n.upMap
  | 2 => u8V n.upGen
  | 3 => padTo 24 n.downMap
  | 4 => u8V n.downGen
  | 6 => qV n.meanSnr
  | _ => u32V n.sets

def State.readPhyObj (s : State) (sub : Nat) : List Byte :=
  let r := s.radio
  u32V (match sub with
    | 1 => r.phrFails | 2 => r.rateFails | 3 => r.xhrFails | 4 => r.fcsFails | 5 => r.ringFull | 6 => r.ignoredPre
    | 7 => r.badMaps | _ => r.txIgnored)

def State.readDoorLoopObj (s : State) (sub : Nat) : List Byte :=
  match sub with
  | 5 => u8V s.radio.loop
  | 6 => u16V s.radio.loopSent
  | _ => u16V s.radio.loopMatched

/-! ### Ring, SPI, links (R31, R346, R358) -/

def State.readRingObj (s : State) (idx sub : Nat) : List Byte :=
  let r := s.ring
  match idx, sub with
  | 0x8001, 4 => natLE 4 r.ip
  | 0x8001, _ => padTo 6 Config.nodeMac
  | 0x8002, 1 => u8V r.a.link
  | 0x8002, 2 => u8V r.b.link
  | 0x8002, 4 => u32V r.a.losses
  | 0x8002, 5 => u32V r.b.losses
  | 0x8002, 6 => u32V r.a.badFcs
  | 0x8002, 7 => u32V r.b.badFcs
  | 0x8002, _ => u32V r.qfull
  | 0x8003, 2 => boolV r.closed
  | 0x8003, 3 => u8V r.nodes.length
  | 0x8003, 4 => u32V r.dups
  | 0x8003, 5 => u32V r.own
  | 0x8003, 6 => u32V r.untagged
  | 0x8003, 7 => u32V r.tableFull
  | 0x8003, _ => u32V r.badEnd
  | 0x8005, 1 => u8V r.relay
  | 0x8005, 2 => u32V r.relayOps
  | 0x8005, 3 => u32V r.wakes
  | 0x8005, 4 => u32V r.wakesRun
  | 0x8005, _ => u32V r.discarded
  | 0x8006, _ => boolV r.service
  | _, 3 => u8V r.loop
  | _, 4 => u16V r.loopSent
  | _, _ => u16V r.loopMatched

def State.readSpiObj (s : State) (sub : Nat) : List Byte :=
  let p := s.spi
  match sub with
  | 1 => satV p.acc0
  | 2 => satV p.acc1
  | 3 => satV p.badFrame
  | 4 => satV p.badCrc
  | 5 => satV p.badType
  | 6 => satV p.aliveBreak
  | 7 => satV p.retrans
  | 8 => satV p.full
  | 9 => satV p.collisions
  | 0x0A => satV p.discards
  | _ => boolV p.attn

/-- The eight counters of a link end (R31). -/
def Link.counter (l : Link) (sub : Nat) : List Byte :=
  satV (match sub with
    | 1 => l.badCrc | 2 => l.badHeader | 3 => l.badType | 4 => l.badLength | 5 => l.outOfSeq | 6 => l.retrans
    | 7 => l.losses | _ => l.resyncs)

/-! ### Twin, faults, power, calibration (R380, R399, R425, R478) -/

def State.readTwinObj (s : State) (sub : Nat) : List Byte :=
  let t := s.twin
  match sub with
  | 2 => u8V t.role
  | 3 => u8V t.state
  | 4 => u8V (bit t.posA)
  | 5 => t.peerSerial.take 16
  | 6 => u32V t.takeovers
  | 7 => u8V t.trigger
  | 8 => u32V t.resumeUs
  | 9 => u32V t.resyncs
  | 0x0A => u32V t.differences
  | 0x0B => u32V t.answered
  | 0x0C => u32V t.mismatches
  | 0x0D => u32V t.discarded
  | _ => u32V t.tsSteps

/-- The mask of the classes of which a property holds (R381). -/
def classMask (f : Nat → Bool) : Nat := (List.range 13).foldl (fun m c => m + 2 ^ c * bit (decide (c ≠ 0) && f c)) 0

def State.readFaultObj (s : State) (sub : Nat) : List Byte :=
  match sub with
  | 1 => u8V s.fltF.top
  | 2 => u8V s.fltH.top
  | 3 => boolV s.fltF.safe
  | 4 => natLE 2 (classMask fun c => decide (s.fltF.level c ≠ 0))
  | 5 => natLE 2 (classMask fun c => decide (s.fltH.level c ≠ 0))
  | 6 => u8V s.records.length
  | 7 => s.records.headD []
  | 8 => natLE 2 (classMask fun c => decide (Tab.get 0 s.fltF.ovf c ≠ 0) || decide (Tab.get 0 s.fltH.ovf c ≠ 0))
  | _ => u32V (s.count 0xA000 0x10)

def FirstError.read (c : FirstError) (sub : Nat) : List Byte :=
  match sub with
  | 1 => natLE 4 c.adr
  | 2 => u8V c.master
  | 3 => u8V c.typ
  | 4 => u64V c.ts
  | 5 => u64V c.cc
  | _ => boolV c.frozen

/-- The supply objects; the measured mains voltage, AUX voltage and input power are free values (R425; log 8). -/
def State.readSupplyObj (s : State) (sub : Nat) : List Byte :=
  match sub with
  | 1 => u8V s.power.source
  | 4 => boolV s.power.warning
  | 5 => u32V s.power.warnings
  | 7 => u32V s.power.auxEvents
  | _ => natLE 4 (Config.freeNat s.fresh)

def State.readSleepObj (s : State) (sub : Nat) : List Byte :=
  let p := s.power
  match sub with
  | 2 => u8V p.lastEntry
  | 3 => u8V p.decl
  | 4 => u32V p.declines
  | 5 => u32V p.lanterns
  | _ => u32V p.curfews

def State.readWakeObj (s : State) (sub : Nat) : List Byte :=
  match sub with
  | 2 => u8V s.power.lastWake
  | 3 => u64V s.power.wakeTs
  | _ => u32V s.power.wakes

def State.readCalObj (s : State) (sub : Nat) : List Byte :=
  let c := s.calib
  match sub with
  | 3 => u8V c.gen
  | 5 => u8V c.state
  | 6 => u8V c.reason
  | 7 => u32V c.runs
  | 8 => boolV c.dirty
  | 9 => boolV c.fromDefaults
  | 0x0A => qV c.last
  | _ => u8V c.corrections.length

def maskOf (l : List Nat) : Nat := l.eraseDups.foldl (fun m i => m + 2 ^ i) 0

def State.readStaleObj (s : State) (sub : Nat) : List Byte :=
  match sub with
  | 1 => natLE 1 (maskOf s.calib.staleX)
  | 2 => natLE 2 (maskOf s.calib.staleV)
  | _ => boolV (s.calib.staleRssi || s.radio.cal)

/-- A survey row of 32 entries; a source that was not acknowledged shows UNSURV in its first (R471). -/
def State.surveyBytes (s : State) (ca : Nat) : List Byte :=
  let row := Tab.get [] s.calib.survey ca
  let un := s.calib.unsurveyed.contains ca
  let es := row.map fun c => [b8 c.victim, b8 (1 + 2 * bit un)] ++ natLE 2 c.mag ++ natLE 2 c.phase ++ [0, 0]
  padTo 256 (if es = [] ∧ un then [0, 2] else es.flatten)

def State.readHfLoopObj (s : State) (sub : Nat) : List Byte :=
  match sub with
  | 4 => u8V s.calib.loop
  | 5 => u16V s.calib.loopSent
  | _ => u16V s.calib.loopMatched

/-! ### Every object -/

/-- The value of an object that only reads (R300). -/
def State.roValue (s : State) (idx sub : Nat) : List Byte :=
  match idx with
  | 0x1000 => s.readIdentity sub
  | 0x1010 => s.readSettings sub
  | 0x1020 => s.readImages sub
  | 0x1F00 => s.readCommands sub
  | 0x1F01 => natLE 2 (s.rights (sub - 1))
  | 0x2020 => s.readBudget sub
  | 0x2400 => u32V s.sense.skipped
  | 0x3100 => s.readMapObj sub
  | 0x3101 => s.binBytes (sub - 1)
  | 0x3200 => s.readCaptureObj sub
  | 0x3201 => s.readBytes (addrOf 0xD0 0 + 256 * s.objNat 0x3201 1) 256
  | 0x4001 => s.readRosterObj sub
  | 0x4100 => s.readReportObj sub
  | 0x5001 => s.readKeyObj sub
  | 0x5003 => s.readQuarObj sub
  | 0x5020 => u8V s.keys.status
  | 0x6001 => s.readTimebase sub
  | 0x6002 => u8V (refCode s.tb.ref)
  | 0x6100 => natLE 2 2048
  | 0x6101 => u32V (s.count 0x6101 sub)
  | 0x6120 => s.readTemplateObj sub
  | 0x6130 => s.readGuestObj sub
  | 0x6140 => s.readApduObj sub
  | 0x7000 => u8V (match Config.variant with | .e => 1 | .n => 2 | .h => 0)
  | 0x7001 => readLock sub
  | 0x7011 => s.readRadioObj sub
  | 0x7012 => s.readDutyObj sub
  | 0x7021 => s.readPhyObj sub
  | 0x7040 => s.readDoorLoopObj sub
  | 0x8800 => s.readSpiObj sub
  | 0x9000 => s.readTwinObj sub
  | 0x9002 => natLE 4 (kcvWord s.twin.key)
  | 0x9011 => s.linkT.counter sub
  | 0xA000 => s.readFaultObj sub
  | 0xA003 => if sub < 0x10 then s.fltF.cap.read sub else s.fltH.cap.read (sub - 0x10)
  | 0xA005 => u16V (Tab.get 0 s.fltF.ovf sub)
  | 0xA006 => u16V (Tab.get 0 s.fltH.ovf sub)
  | 0xA020 => s.linkH.counter sub
  | 0xA021 => s.linkF.counter sub
  | 0xA030 => u32V (match sub with
      | 1 => s.ecc.corrected | 2 => s.ecc.uncorrectable | 3 => s.ecc.hostCorrected | _ => s.nvm.recovered)
  | 0xB000 => s.readSupplyObj sub
  | 0xB001 => if sub = 2 then u8V s.power.level else u32V s.power.transitions
  | 0xB010 => s.readSleepObj sub
  | 0xB011 => s.readWakeObj sub
  | 0xB012 => u8V s.power.cause
  | 0xC000 => s.readCalObj sub
  | 0xC002 => u32V s.calib.seq
  | 0xC003 => s.readStaleObj sub
  | 0xC010 => s.surveyBytes (s.objNat 0xC010 1)
  | 0xC020 => s.readHfLoopObj sub
  | 0xD000 => s.readJournal sub
  | 0xE000 => u8V 0
  | 0xE001 => s.readDebugObj sub
  | _ =>
    if 0x2010 ≤ idx ∧ idx < 0x2020 then s.readFeederObj (idx - 0x2010) sub
    else if 0x2100 ≤ idx ∧ idx < 0x2108 then s.readChainObj (idx - 0x2100) sub
    else if 0x2200 ≤ idx ∧ idx < 0x2300 then s.readCoilObj (idx - 0x2200) sub
    else if 0x2500 ≤ idx ∧ idx < 0x2600 then s.readSenseObj (idx - 0x2500) sub
    else if 0x3010 ≤ idx ∧ idx < 0x3020 then s.readRxObj (idx - 0x3010) sub
    else if 0x4010 ≤ idx ∧ idx < 0x4020 then s.readPlanObj (idx - 0x4010) sub
    else if 0x5010 ≤ idx ∧ idx < 0x5020 then boolV (s.profileValid (idx - 0x5010))
    else if 0x7400 ≤ idx ∧ idx < 0x7800 then s.readNodeObj (idx - 0x7400) sub
    else if 0x7800 ≤ idx ∧ idx < 0x7C00 then s.readMapsObj (idx - 0x7800) sub
    else if 0x8000 ≤ idx ∧ idx < 0x8800 then s.readRingObj idx sub
    else if 0xC004 ≤ idx ∧ idx < 0xC104 then
      qV (if sub = 1 then (s.cal (idx - 0xC004)).impedance else (s.cal (idx - 0xC004)).estimate)
    else if sub = 8 then u64V (s.store (idx - 0xD010)).ack
    else u64V (s.store (idx - 0xD010)).send

/-- What a served read returns. -/
def State.value (s : State) (o : Obj) (idx sub : Nat) : List Byte :=
  match o.access with
  | .ro => s.roValue idx sub
  | _ => s.obj idx sub

/-- What a served read changes: the next fault record advances (R399), a free value is drawn (log 8). -/
def State.afterRead (idx sub : Nat) (s : State) : State :=
  match idx, sub with
  | 0xA000, 7 => { s with records := s.records.drop 1 }
  | 0xB000, 2 => s.draw
  | 0xB000, 3 => s.draw
  | 0xB000, 6 => s.draw
  | _, _ => s

/-! ### The checks of every access (R5, R12, R22, R23, R286, R305; their order is log 10) -/

/-- Objects that a recovering field side serves (R286). -/
def recoveryServes (idx sub : Nat) : Bool :=
  decide (idx = 0x1F00) || decide (idx = 0x1F01) || decide (idx = 0x1F21) || (decide (idx = 0x1F20) && decide (sub = 1))

/-- The object of an address, or why there is none to serve (R5, R22, R300). -/
def objectAt (idx sub : Nat) (read : Bool) : Except Status Obj :=
  if idx ≥ 0xF000 then .error .notSupported
  else if ¬ hasRadio ∧ 0x7000 ≤ idx ∧ idx < 0x8000 ∧ ¬ (read ∧ idx = 0x7000 ∧ sub = 0) then .error .notFitted
  else match findObj idx sub with
    | none => .error .noObject
    | some o => .ok o

/-- Objects of the host side's ranges whose value or action lies on the field side, across the Porter (R18, R31, R385, R395,
R399; log 35). -/
def acrossPorter (idx sub : Nat) : Bool :=
  (decide (idx = 0xA000) && [1, 3, 4, 8].contains sub) || (decide (idx = 0xA001) && decide (sub = 1)) ||
  (decide (idx = 0xA003) && decide (sub < 0x10)) || decide (idx = 0xA005) || decide (idx = 0xA021) ||
  (decide (idx = 0xA030) && decide (sub ≠ 3))

/-- Why the side that serves an address does not serve it, or the object it serves. -/
def State.locate (s : State) (idx sub : Nat) (read : Bool) : Except Status Obj :=
  match objectAt idx sub read with
  | .error st => .error st
  | .ok o =>
    if fieldIndex idx ∧ s.power.recovery ∧ recoveryServes idx sub = false then .error .noFirmware
    else if acrossPorter idx sub ∧ (¬ s.linkH.up ∨ ¬ s.linkF.up) then .error .porterDown
    else .ok o

/-- Why the front end neither serves nor proxies a request (R5, R22, R23, R300; their order is log 10). -/
def State.frontEnd (s : State) (idx sub : Nat) (read : Bool) : Option Status :=
  match objectAt idx sub read with
  | .error st => some st
  | .ok _ => if fieldIndex idx ∧ ¬ s.linkH.up then some .porterDown else none

/-- A dictionary read: its status, value and effect. -/
def State.dictRead (idx sub : Nat) (s : State) : Status × List Byte × State :=
  match s.locate idx sub true with
  | .error st => (st, [], s)
  | .ok o =>
    match o.access with
    | .wo => (.writeOnly, [], s)
    | .cmd => (.writeOnly, [], s)
    | _ => (.ok, s.value o idx sub, s.afterRead idx sub)

end Sys2Proof.Machine
end

