-- ==== Sys2Proof/Machine/Writes.lean ====
section
/-!
DEFINITION. Dictionary writes (R300 to R309): the checks of every write, the limits an object's own rule sets, and what a
write does; and the rows that write one object.
-/

namespace Sys2Proof.Machine

open Sys2Proof

/-! ### What a changed setting does at once -/

/-- The service address is active while the module is lead and the address is not 0 (R341). -/
def State.serviceSet (s : State) : State :=
  { s with ring := { s.ring with service := decide (s.twin.role = 1) && decide (s.objNat 0x8006 1 ≠ 0) } }

/-- A feeder disabled is off, with its bias, and its selector connects no coil; enabled, its bias returns and it is measured,
but a SHORT or FENCED that nobody has acknowledged stands again (R83, R88). -/
def State.feederEnable (f : Nat) (s : State) : State :=
  let x := s.feeder f
  if ¬ s.feederOn f then s.modFeeder f fun x => { x with status := 0, biasOn := false, conn := false }
  else if x.biasOn ∨ x.status = 3 then s
  else s.modFeeder f fun x => { x with status := x.held, biasOn := decide (x.held ≠ 3) }

/-- A level written to 0xB001.01: fixed, or automatic, which raises it while a track runs (R408). -/
def State.levelSetting (s : State) : State :=
  let v := s.objNat 0xB001 1
  if v < 4 then s.requestLevel v
  else if (List.range 9).any (fun t => (s.track t).running) then s.requestLevel 3 else s

/-- What follows a new value of a setting (R49, R83, R181, R324, R340, R341, R357, R408, R446). -/
def State.settingEffect (idx sub : Nat) (s : State) : State :=
  if 0x2010 ≤ idx ∧ idx < 0x2020 ∧ sub = 1 then s.feederEnable (idx - 0x2010)
  else if idx = 0x6002 then s.refSetting
  else if idx = 0x6110 then s.writeBytes (airAddr (0xB000 + 32 * (sub - 1))) (s.obj idx sub)
  else if idx = 0x7010 ∧ sub = 1 then s.channelTry
  else if idx = 0x7010 ∧ sub = 4 then (if s.radio.queue.any (fun c => c.onAir) then s else s.radioPins)
  else if idx = 0x8001 ∧ (sub ≤ 3 ∨ sub = 5) then { s with ring := { s.ring with newAddr := true } }
  else if idx = 0x8006 then s.serviceSet
  else if idx = 0x8800 then s.attnSet
  else if idx = 0xB001 then s.levelSetting
  else if 0xD010 ≤ idx ∧ idx < 0xD014 then ((s.restartStore (idx - 0xD010)).release).streamOut (idx - 0xD010)
  else s.compileFor idx

/-- A value is stored, and a changed setting is marked on its side (R289, R299). -/
def State.putObj (o : Obj) (idx sub : Nat) (v : List Byte) (s : State) : State :=
  let changed := decide (o.access = .rws) && decide (s.obj idx sub ≠ v)
  let s := s.setObj idx sub v
  let s : State := { s with settings := { s.settings with changedF := s.settings.changedF || (changed && fieldIndex idx),
                                                          changedH := s.settings.changedH || (changed && !(fieldIndex idx)) } }
  s.settingEffect idx sub

/-- Every setting of both sides takes its default in RAM (R293). -/
def State.restoreDefaults (s : State) : State :=
  let gone := s.dict.filter isSetting
  let s : State := { s with dict := s.dict.filter fun p => !(isSetting p),
                            settings := { s.settings with changedF := s.settings.changedF || gone.any onField,
                                                          changedH := s.settings.changedH || gone.any fun p => !(onField p) } }
  gone.foldl (fun s p => s.settingEffect (p.1 / 256) (p.1 % 256)) s

/-! ### Limits of an object's own rule -/

/-- Indexes of the enabled door nodes (R443). -/
def State.enabledNodes (s : State) : List Nat :=
  (s.dict.filter fun p => decide (0x7400 ≤ p.1 / 256 ∧ p.1 / 256 < 0x7800) && decide (p.1 % 256 = 1) && decide (p.2 = [1])).map
    fun p => p.1 / 256 - 0x7400

/-- No two enabled nodes share an EUI-64 or a short address (R443). -/
def State.nodesDistinct (s : State) : Bool :=
  let ns := s.enabledNodes
  decide ((ns.map fun i => s.objNat (0x7400 + i) 2).Nodup) && decide ((ns.map fun i => s.objNat (0x7400 + i) 3).Nodup)

/-- At most one enabled store is SPI (R324). -/
def State.oneSpiStore (s : State) : Bool :=
  decide (((List.range 4).filter fun k => storeEnabled s k && decide (s.objNat (0xD010 + k) 2 = 1)).length ≤ 1)

/-- A channel in range and not masked (R435). -/
def channelOk (k : Nat) : Bool := decide (k ≤ leNat (readLock 3)) && decide (bitsOf (leNat (readLock 4)) k 1 = 0)

/-- A requested power from -10 dBm to the conducted cap, and at most 14 dBm above the declared PA gain (R436). -/
def txPowerOk (v : List Byte) : Bool :=
  let p := signedOf 32 (leNat v)
  decide (-10 ≤ p) && decide (p ≤ leNat (readLock 5)) && decide (p ≤ 14 + leNat (readLock 6) / 65536)

/-- No service MAC, or a unicast and locally administered one (R341). -/
def serviceMacOk (v : List Byte) : Bool :=
  decide (v = zeros 6) || (decide (fieldLE v 0 1 % 2 = 0) && decide (fieldLE v 0 1 / 2 % 2 = 1))

/-- A value that its object's own rule refuses, against the state as it would stand (R98, R237, R324, R341, R435, R436, R443). -/
def State.refusal (idx sub : Nat) (v : List Byte) (s : State) : Option Status :=
  let new := s.setObj idx sub v
  if 0x2200 ≤ idx ∧ idx < 0x2300 ∧ 2 ≤ sub ∧ sub ≤ 9 then
    (if leNat v > s.objNat idx 0x0C then some .valueRange else none)
  else if (idx = 0x2400 ∧ sub = 4) ∨ (0x2500 ≤ idx ∧ idx < 0x2600 ∧ sub = 3) then (if new.lanternLimits then none else some .valueRange)
  else if idx = 0x7010 ∧ sub = 1 then (if channelOk (leNat v) then none else some .valueRange)
  else if idx = 0x7010 ∧ sub = 3 then (if txPowerOk v then none else some .valueRange)
  else if 0x7400 ≤ idx ∧ idx < 0x7800 ∧ sub ≤ 3 then (if new.nodesDistinct then none else some .invalid)
  else if idx = 0x8006 ∧ sub = 2 then (if serviceMacOk v then none else some .valueRange)
  else if 0xD010 ≤ idx ∧ idx < 0xD014 ∧ sub ≤ 2 then (if new.oneSpiStore then none else some .invalid)
  else if idx = 0x6110 then (if templateOk v then none else some .valueRange)
  else none

/-! ### Objects whose write is an action -/

/-- The impulse map is cleared (R137). -/
def State.mapClear (s : State) : State := { s with bins := [] }

/-- Capture is armed or disarmed (R141, R143): arming needs a chain, and trigger 0 comes with it. What an earlier arming
wrote stands until it is overwritten. -/
def State.captureArm (v : Nat) (s : State) : Status × State :=
  let vs := (List.range 16).filter fun f => decide (bitsOf (s.objNat 0x3200 1) f 1 = 1)
  let c := s.capture
  if v = 0 then (.ok, { s with capture := { c with state := 0, final := s.captureBlocks } })
  else if vs = [] then (.valueRange, s)
  else
    let now := decide (s.objNat 0x3200 2 = 0)
    (.ok, { s with capture := { state := if now then 2 else 1, armCc := s.tb.cc, trigCc := if now then s.tb.cc else c.trigCc,
                                chains := vs, pre := s.objNat 0x3200 4, final := 0, fill := c.fill + 1,
                                scale := vs.map fun v => (v, s.tb.cc, (s.rx v).range), marks := [],
                                old := s.captureNow :: c.old } })

/-- A sweep start: refused for an invalid plan (R181, R182). -/
def State.sweepStart (p : Nat) (s : State) : Status × State :=
  if (s.plan p).invalid then (.invalid, s) else (.ok, s.requestSweep p none)

/-- A ring loop-back start (R344): refused with state 4 under the warning and on a lead. -/
def State.ringLoop (s : State) : Status × State :=
  if s.ring.loop = 1 then (.busy, s)
  else if s.power.warning ∨ s.twin.role = 1 then (.refused, { s with ring := { s.ring with loop := 4 } })
  else (.ok, ({ s with ring := { s.ring with loop := 1, loopSent := 0, loopMatched := 0 } }).relaySet)

/-- The shift-register echo (R356): a write of 1 over SPI takes effect after its own reply, a write of 0 ends it. -/
def State.shiftEcho (overSpi : Bool) (v : Nat) (s : State) : State :=
  let on := decide (v = 1)
  let s := s.setObj 0x8801 1 [b8 v]
  { s with spi := { s.spi with echo := if on then s.spi.echo || !overSpi else false, echoArm := on && overSpi && !s.spi.echo } }

/-- Every counter of a counter object is cleared (R31, R358). -/
def Link.clearCounters (l : Link) : Link :=
  { l with badCrc := 0, badHeader := 0, badType := 0, badLength := 0, outOfSeq := 0, retrans := 0, losses := 0, resyncs := 0 }

def Spi.clearCounters (p : Spi) : Spi :=
  { p with acc0 := 0, acc1 := 0, badFrame := 0, badCrc := 0, badType := 0, aliveBreak := 0, retrans := 0, full := 0, collisions := 0,
           discards := 0 }

def State.clearCounters (idx : Nat) (s : State) : State :=
  match idx with
  | 0xA020 => { s with linkH := s.linkH.clearCounters }
  | 0xA021 => { s with linkF := s.linkF.clearCounters }
  | 0x8800 => { s with spi := s.spi.clearCounters }
  | _ => s

/-- The action of a write-only object (R31, R137, R141, R166, R170, R182, R197, R204, R241, R270, R286, R290, R293, R344, R358,
R385, R395, R411, R446, R459, R463, R476). -/
def State.action (idx sub : Nat) (v : List Byte) (s : State) : Status × State :=
  match idx, sub with
  | 0x1010, _ => s.storeSettings
  | 0x1011, _ => if ¬ s.linkH.up then (.porterDown, s) else (.ok, s.restoreDefaults)
  | 0x1F21, _ => (.ok, s.imagePage v)
  | 0x2400, _ => (.ok, s.relearn)
  | 0x3100, _ => (.ok, s.mapClear)
  | 0x3200, _ => s.captureArm (leNat v)
  | 0x4100, _ => (.ok, s.reportBuild)
  | 0x5020, _ => s.startSecurity
  | 0x6120, _ => s.startTemplate
  | 0x6131, _ => (.ok, s.guestPage v)
  | 0x6140, 4 => (.ok, s.writeApduPage v)
  | 0x6140, _ => s.startApdu
  | 0x7011, _ => (.ok, s.calRequest)
  | 0x7040, _ => s.doorLoop
  | 0x8007, _ => s.ringLoop
  | 0x8800, _ => (.ok, s.clearCounters 0x8800)
  | 0xA001, _ => s.ackBoth (leNat v)
  | 0xA003, 7 => (.ok, s.releaseCapture .field)
  | 0xA003, _ => (.ok, s.releaseCapture .host)
  | 0xA020, _ => (.ok, s.clearCounters 0xA020)
  | 0xA021, _ => (.ok, s.clearCounters 0xA021)
  | 0xB010, _ => s.enterSleep (leNat v)
  | 0xC000, _ => s.calStart
  | 0xC020, _ => s.hfLoop
  | _, _ => s.sweepStart (idx - 0x4010)

/-! ### The checks of a write -/

/-- A value locked by R4. -/
def lockedObj (idx sub : Nat) : Bool :=
  (decide (0x2100 ≤ idx ∧ idx < 0x2108) && decide (sub = 4)) || (decide (0x2200 ≤ idx ∧ idx < 0x2300) && decide (sub = 0x0C)) ||
  decide (idx = 0x7001)

/-- A second refuses writes to the field engine and calibration objects (R364). -/
def State.secondLocks (s : State) (idx : Nat) : Bool :=
  decide (s.twin.role = 2) && (decide (0x2000 ≤ idx ∧ idx < 0x8000) || decide (0xC000 ≤ idx ∧ idx < 0xD000))

/-- An accepted value: an action, or a value with what follows it. -/
def State.applyWrite (o : Obj) (overSpi : Bool) (idx sub : Nat) (v : List Byte) (s : State) : Status × State :=
  if o.access = .wo then s.action idx sub v
  else match s.refusal idx sub v with
    | some st => (st, s)
    | none =>
      if idx = 0x2401 then (.ok, s.writeDoorGroup (sub - 1) v)
      else if idx = 0x8801 ∧ sub = 1 then (.ok, s.shiftEcho overSpi (leNat v))
      else (.ok, s.putObj o idx sub v)

/-- A field-side write, or one that reaches the field side's settings, is mirrored by a lead (R365); STORE mirrors itself. -/
def mirroredWrite (idx : Nat) : Bool := fieldIndex idx || decide (idx = 0x1011)

/-- A refusal INVALID is counted (R6). -/
def State.countInvalid (st : Status) (s : State) : State := s.when (decide (st = .invalid)) (State.bump 0xA000 0x10)

/-- A dictionary write, in the order of log 10. -/
def State.dictWrite (overSpi : Bool) (idx sub : Nat) (v : List Byte) (s : State) : Status × State :=
  match s.locate idx sub false with
  | .error st => (st, s)
  | .ok o =>
    if lockedObj idx sub then (.locked, s)
    else match o.access with
      | .ro => (.readOnly, s)
      | .cmd => (.authRequired, s)
      | _ =>
        if s.secondLocks idx then (.locked, s)
        else if ¬ o.valueOk v then (.valueRange, s)
        else
          let r := s.applyWrite o overSpi idx sub v
          if r.1 = .ok ∧ mirroredWrite idx then (.ok, r.2.mirror 0x88 (.mDict (.write idx sub v))) else r

end Sys2Proof.Machine
end

