-- ==== Sys2Proof/Machine/TwinOps.lean ====
section
/-!
DEFINITION. Twin operation: holding and losing the lead role, the copy for a second, takeover and what it resolves
(R341, R363, R367, R368, R371 to R375).
-/

namespace Sys2Proof.Machine

open Sys2Proof

/-! ### The lead role (R341, R359, R363, R374) -/

/-- A gratuitous ARP for an address on each port. -/
def State.arpBoth (ip : Nat) (s : State) : State := (s.portSend .a (.arp .a ip)).portSend .b (.arp .b ip)

/-- The service address of a module that gains the lead role: the first of three gratuitous ARPs is sent (R341). -/
def State.gainService (s : State) : State :=
  let s := s.serviceSet
  if s.ring.service then ({ s with ring := { s.ring with arps := 2 } }).arpBoth (s.objNat 0x8006 1) else s

/-- The field side tells the host side its role (R374). -/
def State.sendRole (lead : Bool) (s : State) : State := s.send .porterField 0x40 (.power (.role lead))

/-- This module takes the lead role: ROLE_OUT rises and the word path opens (R363, R372, R374). -/
def State.takeRole (s : State) : State :=
  let s : State := { s with twin := { s.twin with role := 1, state := 5, roleTs := s.tb.ts, blocked := false, roleIn := false } }
  ((s.pin 7 1).sendRole true).gainService

/-- The payload of an issuer load that gives a slot its key (R208). -/
def issuerPayload (slot : Nat) (k : Issuer) : List Byte :=
  let n := curveLen k.curve
  [b8 slot, b8 k.curve, b8 k.proto, 0] ++ natLE 2 k.pfx ++ natLE 2 k.mask ++ [4] ++ (natLE n k.x).reverse ++ (natLE n k.y).reverse

/-- The parts of a full copy for a second (R374). -/
def State.copyParts (s : State) : List ResyncPart :=
  (List.range 16).map (fun k => ResyncPart.counter k (s.cmdSlot k).last) ++
  [.reserve { kind := 0, slot := 0, first := s.journal.esnLimit - 65536 }, .reserve { kind := 2, slot := 0, first := s.journal.offLimit - 4194304 }] ++
  (s.keys.store.map fun p => ResyncPart.key (p.1 / 256) (p.1 % 256) (s.wrapped p.2)) ++
  (s.keys.issuers.map fun p => ResyncPart.key 4 p.1 (issuerPayload p.1 p.2)) ++
  (s.keys.attempts.map fun a => ResyncPart.attempt a.tag a.fails a.pending) ++
  (s.keys.quarantine.map ResyncPart.quarantine) ++
  (s.keys.verified.map fun p => ResyncPart.verified p.1 p.2) ++
  [.roster s.roster.gen s.roster.fresh] ++
  ((groupsOf 40 s.roster.released).map ResyncPart.released) ++ ((groupsOf 60 s.roster.igens).map ResyncPart.igens) ++
  (s.roster.entries.map fun p => ResyncPart.entry p.1 (p.2.bytes p.1)) ++
  ((s.dict.filter fun p => isSetting p && onField p).map fun p => ResyncPart.setting (p.1 / 256) (p.1 % 256) p.2) ++
  (s.journal.ring.map ResyncPart.record) ++ [.last]

/-- A lead sends its second the full copy (R374). -/
def State.startCopy (s : State) : State :=
  let parts := s.copyParts
  let s : State := { s with twin := { s.twin with state := 3 } }
  (packed (fun p => (partBytes p).length) parts).foldl (fun s g => s.send .twin 0xA0 (.resyncData g)) s

/-- A lead whose second can be copied to begins; otherwise it runs solo (R367, R374). -/
def State.leadReady (s : State) : State := if s.twin.paired ∧ s.linkT.up then s.startCopy else s

/-- The lead role ends: by a yield, with state 7 and a Fence, or after HANDOVER, with state 6 and no fault (R374, R375).
What the lead still held back is dropped. -/
def State.yieldLead (handover : Bool) (s : State) : State :=
  let s := s.each (List.range 9) (State.abortTrack 3)
  let s := s.each (List.range 8) State.rampDown
  let s : State := { s with twin := { s.twin with role := 2, state := if handover then 6 else 7, blocked := true, handing := false,
                                                  heldRecs := [], heldResp := [], heldCmds := [] } }
  let s := s.calibInterrupt
  let s : State := { s with sweeps := { plans := s.sweeps.plans }, template := {}, apdu := {},
                            keys := { s.keys with running := none, kept := {}, queue := [], track := none, changes := [],
                                                  status := if s.keys.status = 1 then 3 else s.keys.status } }
  let s := (s.pin 7 0).sendRole false
  if handover then s else s.raiseFault .field 9 6 3 []

/-- The handover of the lead role (R375): chains ramp down, HANDOVER is sent, and the role is given up. -/
def State.handOver (s : State) : State := (((s.each (List.range 8) State.rampDown).send .twin 0x94 .handover)).yieldLead true

/-- A handover that waits takes place at a wave boundary without a service exchange; with no sweep running there is one
at once (R375). -/
def State.handoverTry (s : State) : State := if s.twin.handing ∧ s.noService then s.handOver else s

/-! ### Takeover (R368, R371 to R373) -/

/-- A service exchange open at takeover runs again from its first stage (R372), a 15693 change with its read back first (R373);
a credential read starts the stage that its message names. -/
def State.restartService (verify : Bool) (c : ChangeMsg) (s : State) : State :=
  let e := s.entry (c.handle % 131072)
  match c.kind with
  | 1 => { s with template := { s.templateService c.what c.handle { e with ca := c.ca } (s.obj 0x6120 3) with verify := verify } }
  | 2 => { s with apdu := s.apduService c.handle (s.objNat 0x6140 2) { e with ca := c.ca } }
  | 4 => match s.pickTrack with
    | some t => (s.startTrack t c.what).modTrack t fun tr => { tr with service := some (c.ca, c.what) }
    | none => s
  | _ => s

/-- "Outcome unknown" of an exchange (R373, R499). -/
def State.exchangeUnknown (c : ChangeMsg) (esn : Nat) (s : State) : State :=
  s.commit 8 6 (natLE 4 c.handle ++ [b8 c.ca, b8 c.kind, b8 c.what, 0] ++ natLE 8 esn)

/-- One change in flight is resolved (R373): a 15693 write is read back by running it again, a security action has failed,
a session is lost, any other template ends without response and unknown. -/
def State.resolveChange (p : ChangeMsg × Nat) (s : State) : State :=
  let c := p.1
  match c.kind with
  | 1 =>
    if readsBack (s.template_ c.what) then s.restartService true c
    else
      let sv : Service := { handle := c.handle, ca := c.ca, template := c.what, esn := p.2 }
      (({ s with template := sv }).exchangeUnknown c p.2).endTemplate 4 []
  | 2 => ({ s with apdu := { s.apdu with handle := c.handle, ca := c.ca, esn := p.2, track := none } }).endApdu 3 []
  | _ => s

/-- "Outcome unknown" of a class A command whose counter was mirrored (R373); its object is not mirrored. -/
def State.commandUnknown (p : Nat × Nat) (s : State) : State :=
  let n := Config.freeNat s.fresh
  s.draw.commit 7 3 ([b8 p.1, 0xFF] ++ natLE 2 n ++ [b8 (n / 65536), 0] ++ natLE 6 p.2)

/-- The mirrored sweep goes on at its last mirrored wave end; how long that took is a free value within 20 ms (R372). -/
def State.resumeSweep (s : State) : State :=
  match s.twin.sweep with
  | none => s
  | some (p, _, w) =>
    let r : Running := { s.newRunning p s.twin.sweepCoils with wave := w, results := s.twin.sweepRes }
    let s : State := { s with sweeps := { s.sweeps with running := some (r.plan_ s) },
                              twin := { s.twin with sweep := none, sweepCoils := [], sweepRes := [], resumeUs := Config.freeNat s.fresh % 20001 } }
    s.draw.nextWave

/-- The steps of a takeover (R372): the role, open service exchanges, the service address, the fault with its trigger,
changes in flight, then the sweeps; stores and observers go on from the mirrored positions. -/
def State.takeover (code : Nat) (s : State) : State :=
  let t := s.twin
  let s := s.takeRole
  let s : State := { s with twin := { s.twin with taken := true, takeovers := s.twin.takeovers + 1, trigger := code,
                                                  inflight := [], services := [], counters := [] } }
  let again := t.services.filter fun c => !(t.inflight.any fun p => decide (p.1.kind = c.kind) && decide (p.1.handle = c.handle))
  let s := again.foldl (fun s c => s.restartService false c) s
  let s := s.raiseFault .field 9 5 2 [b8 code]
  let s := t.inflight.foldl (fun s c => s.resolveChange c) s
  let s := t.counters.foldl (fun s c => s.commandUnknown c) s.settleAttempts
  let s := s.resumeSweep.streamAll
  s.when (decide (code = 4)) State.leadReady

/-- A trigger (R371): a ready second takes over, and one that is not ready raises a Fence; from M_POWER until Run a
trigger by heartbeat is none (R422). -/
def State.trigger (code : Nat) (s : State) : State :=
  if s.twin.role ≠ 2 ∨ s.power.state ≠ 0 then s
  else if s.twin.state = 4 then s.takeover code
  else s.raiseFault .field 9 7 3 []

end Sys2Proof.Machine
end

