-- ==== Sys2Proof/Machine/Commands.lean ====
section
/-!
DEFINITION. Class A commands (R311 to R318): the command body, the checks in order, execution, the response, and the rows
that are one command each.
-/

namespace Sys2Proof.Machine

open Sys2Proof

/-! ### The body and the response (R311, R312, R314) -/

/-- A COMMAND body's fields (R311). -/
structure CmdBody where
  idx : Nat
  sub : Nat
  slot : Nat
  ctr : Nat
  len : Nat
  deriving DecidableEq, Repr

def cmdBody (b : List Byte) : CmdBody :=
  { idx := fieldLE b 0 2, sub := fieldLE b 2 1, slot := fieldLE b 3 1, ctr := fieldLE b 4 6, len := fieldLE b 10 2 }

/-- CLEN rounded up to a multiple of 4 (R311). -/
def CmdBody.padded (c : CmdBody) : Nat := (c.len + 3) / 4 * 4

def cmdPayload (b : List Byte) : List Byte := sliceBytes b 12 (cmdBody b).len

/-- CMAC as received, and the bytes it covers (R311, R312). -/
def cmdMac (b : List Byte) : List Byte := sliceBytes b (12 + (cmdBody b).padded) 8
def cmdCovered (b : List Byte) : List Byte := b.take (12 + (cmdBody b).padded)

/-- Check 1 of R313. -/
def cmdFormOk (b : List Byte) : Bool :=
  let c := cmdBody b
  decide (c.len ≤ 256) && decide (b.length = 20 + c.padded) && decide (sliceBytes b (12 + c.len) (c.padded - c.len) = zeros (c.padded - c.len))

/-- The first 12 bytes of a response (R314): no command returns a result. -/
def rspHead (b : List Byte) (st : Status) : List Byte :=
  let c := cmdBody b
  natLE 2 c.idx ++ [b8 c.sub, b8 st.code] ++ natLE 6 c.ctr ++ [0, b8 c.slot]

/-- A response body: its RMAC is made with a key, or zero (R312, R314). -/
def rspBody (b : List Byte) (st : Status) (key : Option (List Byte)) : List Byte :=
  let h := rspHead b st
  h ++ (match key with | some k => cmac8 k (2 :: h) | none => zeros 8)

/-- The answer on its way to the sender: as a CMD_RSP over the Porter, or as a unit. -/
def cmdReply (c : CmdIn) (viaPorter : Bool) (body : List Byte) : Reply :=
  if viaPorter then .porter 0x13 (.cmdRsp c.peer c.rid body) else .unit c.peer (unitBytes 3 c.rid c.body) (unitBytes 0x83 c.rid body)

/-! ### Rights and slots (R313, R316 to R318) -/

/-- The bit of a rights mask that an object needs (R316). -/
def rightBit (idx sub : Nat) (payload : List Byte) : Nat :=
  if idx = 0x4003 then 0
  else if idx = 0x5002 then (if sub ≠ 2 ∧ fieldLE payload 0 1 ≤ 1 then 4 else 1)
  else if idx = 0x5003 then 1
  else if idx = 0x1F20 ∨ idx = 0x6130 then 2
  else if idx = 0xE001 then 3
  else if idx = 0x1F02 then 4
  else 5

/-- The journal record of a command that passes check 5 (R313). -/
def State.journalCommand (b : List Byte) (st : Status) (s : State) : State :=
  let c := cmdBody b
  s.commit 7 1 ([b8 c.slot, b8 st.code] ++ natLE 2 c.idx ++ [b8 c.sub, 0] ++ natLE 6 c.ctr)

/-- A BAD_MAC result (R313): the sixteenth within 60 s holds the slot for 60 s, journalled, counted and with a Note. -/
def State.badMac (slot : Nat) (s : State) : State :=
  let s : State := { s with cmds := { s.cmds with badMac := s.cmds.badMac + 1 } }
  let bad := ((s.cmdSlot slot).bad.filter fun t => decide (s.tb.ts < t + 60000000)) ++ [s.tb.ts]
  if bad.length < 16 then s.modCmdSlot slot fun k => { k with bad := bad }
  else
    let s := s.modCmdSlot slot fun k => { k with bad := [], heldUntil := some (s.tb.ts + 60000000) }
    let s : State := { s with cmds := { s.cmds with holds := s.cmds.holds + 1 } }
    (s.commit 7 2 [b8 slot, b8 bad.length]).raiseFault .field 11 1 1 [b8 slot]

/-- The slot is held (R313). -/
def State.slotHeld (s : State) (slot : Nat) : Bool := match (s.cmdSlot slot).heldUntil with | some t => decide (s.tb.ts < t) | none => false

/-- SLOT_HOLD_END (R313): the hold of 60 s ends. -/
def execSlotHoldEnd (slot : Fin 16) (s : State) : Result :=
  match (s.cmdSlot slot.val).heldUntil with
  | none => .next s
  | some t => .next ((s.advanceTs t).modCmdSlot slot.val fun k => { k with heldUntil := none, bad := [] })

/-- Check 8: a counter of a block above the newest reservation reserves its own block (R317). -/
def State.reserveBlock (slot ctr : Nat) (s : State) : State :=
  if ctr < (s.cmdSlot slot).reserved then s
  else
    let v := ctr / 4096 * 4096
    ((s.modCmdSlot slot fun k => { k with reserved := v + 4096 }).logEntry 4 slot v).mirror 0x84 (.mReserve { kind := 1, slot := slot, first := v })

/-! ### Execution (R316, R385, R398 and each object's rule) -/

/-- Set a rights mask, written to NVM as the key store is (R209, R316). -/
def State.setMask (p : List Byte) (s : State) : Status × State :=
  let slot := fieldLE p 0 1
  let mask := fieldLE p 1 2
  if slot > 15 ∨ mask > 0x3F ∨ fieldLE p 3 1 ≠ 0 then (.valueRange, s)
  else if slot = 0 then (.locked, s)
  else (.ok, (s.modCmdSlot slot fun k => { k with rights := if mask = 0x2F then none else some mask }).keySector 0)

/-- The payload that empties the roster: serial number and generation (R316). -/
def State.emptyPayload (s : State) : List Byte := padTo 16 Config.serial ++ natLE 4 s.roster.gen ++ zeros 4

/-- Load the twin key (R362). -/
def State.loadTwin (p : List Byte) (s : State) : Status × State :=
  let refuse (st : Status) : Status × State := (st, { s with keys := { s.keys with refused := s.keys.refused + 1 } })
  if sliceBytes p 1 3 ≠ zeros 3 then refuse .valueRange
  else match s.unwrapKey 0 0 (fieldLE p 0 1) 16 (sliceBytes p 4 24) with
    | (.ok, m) => (.ok, ({ s with twin := { s.twin with key := m } }).mirror 0x87 (.mKeys (.key 5 0 (s.wrapped m))))
    | (st, _) => refuse st

/-- Hand over the lead role (R375): at once if this is a boundary, else at the next one. -/
def State.handOverCmd (p : List Byte) (s : State) : Status × State :=
  if p ≠ zeros 4 ∨ ¬ s.mirrors then (.invalid, s)
  else (.ok, { s with twin := { s.twin with handing := true } })

/-- Enable core debug for a number of minutes (R274). -/
def State.enableDebug (p : List Byte) (s : State) : Status × State :=
  let m := fieldLE p 0 2
  if m > 1440 then (.valueRange, s)
  else if m = 0 then (.ok, s.debugOff)
  else (.ok, { s with dbg := { s.dbg with minutes := m } })

/-- What a command does (check 10 of R313): payload checks and execution by the object's own rule. -/
def State.runObject (idx sub : Nat) (p : List Byte) (s : State) : Status × State :=
  match idx, sub with
  | 0x1F02, _ => s.setMask p
  | 0x1F20, _ => s.checkImage p
  | 0x4003, _ => if p = s.emptyPayload then (.ok, s.emptyRoster) else (.invalid, s)
  | 0x5002, 1 => s.loadKey p
  | 0x5002, 2 => s.loadIssuer p
  | 0x5002, _ => s.eraseKey p
  | 0x5003, _ => s.releaseTag p
  | 0x6130, _ => s.guestActivate p
  | 0x9002, _ => s.loadTwin p
  | 0x9003, _ => s.handOverCmd p
  | 0xA002, _ => s.ackAny p
  | 0xC002, _ => s.commitCal p
  | 0xE001, _ => s.enableDebug p
  | _, _ => (.locked, s)

/-- Check 10: the class A gate of the safe state, the payload's size, then the object's rule (R301, R313, R388). -/
def State.runCommand (b : List Byte) (s : State) : Status × State :=
  let c := cmdBody b
  let p := cmdPayload b
  if s.fltF.safe ∧ c.idx ≠ 0xA002 then (.refused, s)
  else match findObj c.idx c.sub with
    | none => (.noObject, s)
    | some o => if o.ty.sizeOk p then s.runObject c.idx c.sub p else (.valueRange, s)

/-- Key changes still to be mirrored (R365). -/
def State.keysQueued (s : State) : List Payload :=
  ((s.linkT.window.map fun m => (m.typ, m.body)) ++ s.linkT.queue).filterMap fun q => if q.1 = 0x87 then some q.2 else none

/-- A command runs, is journalled and answered with an RMAC under the key as it was; a mirrored key change holds the answer
back (R313, R314, R365). In recovery a check that passes resets the field side, which keeps its cause (R286). A handover
follows the answer (R375). -/
def State.finishCommand (c : CmdIn) (viaPorter : Bool) (mac : Bool) (s : State) : State :=
  let key := s.key 0 (cmdBody c.body).slot
  let before := s.keysQueued
  let (st, s) := s.runCommand c.body
  let s := s.journalCommand c.body st
  let hold := if s.keysQueued.length > before.length then s.keysQueued.getLast? else none
  let s := s.replyAfter hold (cmdReply c viaPorter (rspBody c.body st (if mac then some key else none)))
  let s := if s.sweeps.running.isNone then s.handoverTry else s
  if s.power.recovery ∧ st = .ok ∧ (cmdBody c.body).idx = 0x1F20 then s.fieldReset (some s.power.cause) else s

/-! ### The checks (R313, R315, R364) -/

/-- A refusal before check 6, or by a second: no journal record and a zero RMAC. -/
def State.refuseCommand (c : CmdIn) (viaPorter : Bool) (st : Status) (s : State) : State :=
  s.reply (cmdReply c viaPorter (rspBody c.body st none))

/-- A refusal at checks 6 to 9: journalled, with an RMAC. -/
def State.failCommand (c : CmdIn) (viaPorter : Bool) (st : Status) (s : State) : State :=
  (s.journalCommand c.body st).reply (cmdReply c viaPorter (rspBody c.body st (some (s.key 0 (cmdBody c.body).slot))))

/-- The bootstrap load of R315. -/
def State.isBootstrap (s : State) (b : List Byte) : Bool :=
  let c := cmdBody b
  let p := cmdPayload b
  decide (c.slot = 0xFF) && decide (s.key 0 0 = []) && decide (c.idx = 0x5002) && decide (c.sub = 1) && decide (fieldLE p 0 1 = 0) &&
  decide (fieldLE p 1 1 = 0)

/-- A bootstrap load (R315): its CMAC and counter are zero, else it is refused and counted per R6. -/
def State.bootstrap (c : CmdIn) (viaPorter : Bool) (s : State) : State :=
  if cmdMac c.body ≠ zeros 8 ∨ (cmdBody c.body).ctr ≠ 0 then (s.countInvalid .invalid).refuseCommand c viaPorter .invalid
  else s.finishCommand c viaPorter false

/-- Checks 9 and 10 (R313): the counter is consumed, the right is judged, and the command runs; a lead with a ready second
first waits until the second holds the counter (R365). -/
def State.consume (c : CmdIn) (viaPorter : Bool) (s : State) : State :=
  let k := cmdBody c.body
  let s := s.modCmdSlot k.slot fun x => { x with last := k.ctr }
  let s : State := { s with cmds := { s.cmds with consumed := s.cmds.consumed + 1 } }
  let s := s.mirror 0x83 (.mCounter k.slot k.ctr)
  if bitsOf (s.rights k.slot) (rightBit k.idx k.sub (cmdPayload c.body)) 1 = 0 then s.failCommand c viaPorter .noRight
  else if s.mirrors ∧ s.unmirrored (.mCounter k.slot k.ctr) then
    { s with twin := { s.twin with heldCmds := s.twin.heldCmds ++ [(.mCounter k.slot k.ctr, c, viaPorter)] } }
  else s.finishCommand c viaPorter true

/-- Checks 6 to 8 (R295, R313, R317). -/
def State.checkCounter (c : CmdIn) (viaPorter : Bool) (s : State) : State :=
  let k := cmdBody c.body
  let l := (s.cmdSlot k.slot).last
  if l ≥ 2 ^ 48 - 1 then s.failCommand c viaPorter .counterSpent
  else if k.ctr ≤ l then ({ s with cmds := { s.cmds with stale := s.cmds.stale + 1 } }).failCommand c viaPorter .staleCounter
  else if s.power.warning ∨ s.power.doomed ∨ ¬ s.nvm.armed then s.failCommand c viaPorter .powerFail
  else (s.reserveBlock k.slot k.ctr).consume c viaPorter

/-- Checks 3 to 5 (R313). -/
def State.checkMac (c : CmdIn) (viaPorter : Bool) (s : State) : State :=
  let k := cmdBody c.body
  let key := s.key 0 k.slot
  if k.slot > 15 ∨ key = [] then s.refuseCommand c viaPorter .noKey
  else if s.slotHeld k.slot then s.refuseCommand c viaPorter .authHold
  else if cmac8 key (1 :: cmdCovered c.body) ≠ cmdMac c.body then (s.badMac k.slot).refuseCommand c viaPorter .badMac
  else s.checkCounter c viaPorter

/-- A second takes only the commands that R364 names. -/
def State.secondRefuses (s : State) (idx sub : Nat) : Bool :=
  decide (s.twin.role = 2) && !(decide (idx = 0x9002 ∨ idx = 0xA002) && decide (sub = 1))

/-- A class A command on the field side (R286, R313): recovery, checks 1 and 2, a second's refusal, the bootstrap load, then the others. -/
def State.command (c : CmdIn) (viaPorter : Bool) (s : State) : State :=
  let k := cmdBody c.body
  if s.power.recovery ∧ recoveryServes k.idx k.sub = false then s.refuseCommand c viaPorter .noFirmware
  else if cmdFormOk c.body = false then s.refuseCommand c viaPorter .badPdu
  else match findObj k.idx k.sub with
    | none => s.refuseCommand c viaPorter .noObject
    | some o =>
      if o.access ≠ .cmd then s.refuseCommand c viaPorter .notACommand
      else if s.secondRefuses k.idx k.sub then s.refuseCommand c viaPorter .locked
      else if s.isBootstrap c.body then s.bootstrap c viaPorter
      else s.checkMac c viaPorter

/-- Why the host side does not forward a command (R5, R22, R23); a body longer than CMD_REQ carries fails check 1 of R313
before it leaves (R25). -/
def State.notForwarded (s : State) (b : List Byte) : Option Status :=
  let k := cmdBody b
  if k.idx ≥ 0xF000 then some .notSupported
  else if ¬ hasRadio ∧ 0x7000 ≤ k.idx ∧ k.idx < 0x8000 then some .notFitted
  else if ¬ s.linkH.up then some .porterDown
  else if b.length > 276 then some .badPdu
  else none

/-- A COMMAND unit at the host side: refused, or forwarded over the Porter (R22, R43). -/
def State.commandUnit (unit : List Byte) (c : CmdIn) (s : State) : State :=
  match s.notForwarded c.body with
  | some st => s.refuseCommand c false st
  | none => s.proxy { peer := c.peer, rid := c.rid, unit := unit, q := none }

/-- A class A command as one happening: forwarded, executed and answered to its sender (R43; log 35). -/
def State.commandWhole (c : CmdIn) (s : State) : State :=
  match s.notForwarded c.body with
  | some st => s.refuseCommand c false st
  | none => s.command c false

end Sys2Proof.Machine
end

