-- ==== Sys2Proof/Machine/Ldp.lean ====
section
/-!
DEFINITION. LDP units on their way in (R306 to R310, R322 to R325), and the rows that are one unit or one write each.
-/

namespace Sys2Proof.Machine

open Sys2Proof

/-! ### The checks of a unit (R308) -/

/-- A body's length and reserved fields fit its type (R307, R308, R322). -/
def bodyOk (utype : Nat) (b : List Byte) : Bool :=
  match utype with
  | 0x01 => decide (b.length = 4) && decide (fieldLE b 3 1 = 0)
  | 0x02 => decide (b.length ≥ 4) && decide (fieldLE b 3 1 = 0)
  | 0x03 => decide (b.length ≥ 20)
  | 0x10 => decide (b.length = 4)
  | 0x12 => decide (b.length = 8)
  | 0x21 => decide (b.length = 28) && decide (fieldLE b 1 3 = 0) && decide (fieldLE b 24 4 = 0)
  | _ => false

/-- The checks of R308 on a unit's bytes. -/
def unitOk (u : List Byte) : Bool :=
  decide (u.length ≥ 8) && decide (fieldLE u 0 1 = 1) && decide (fieldLE u 4 2 + 8 = u.length) && decide (fieldLE u 4 2 ≤ 1400) &&
  decide (fieldLE u 6 2 = 0) && bodyOk (fieldLE u 1 1) (u.drop 8)

/-- The error response (R307, R308). -/
def errorUnit (u : List Byte) : List Byte := unitBytes 0x7F (fieldLE u 2 2) [b8 Status.badPdu.code, 0, 0, 0]

/-! ### Requests (R307, R309, R310) -/

/-- A request of a READ or WRITE unit goes over the Porter (R22). -/
def State.proxyUnit (u : LdpIn) (q : DictReq) (s : State) : State :=
  s.proxy { peer := u.peer, rid := fieldLE u.bytes 2 2, unit := u.bytes, q := some q }

/-- The answer to a dictionary request that the front end gives itself. -/
def State.dictAnswer (u : LdpIn) (q : DictReq) (st : Status) (v : List Byte) (s : State) : State :=
  s.reply (.unit u.peer u.bytes (dictUnit (fieldLE u.bytes 2 2) q st.code v))

/-- A READ unit is served or proxied (R22, R307). -/
def State.serveRead (u : LdpIn) (s : State) : State :=
  let b := u.bytes.drop 8
  let idx := fieldLE b 0 2
  let sub := fieldLE b 2 1
  let q := DictReq.read idx sub
  match s.frontEnd idx sub true with
  | some st => s.dictAnswer u q st []
  | none =>
    if fieldIndex idx then s.proxyUnit u q
    else
      let (st, v, s) := s.dictRead idx sub
      s.dictAnswer u q st v

/-- The mirror message of a write that was accepted (R365). -/
def writeMirror (idx sub : Nat) (v : List Byte) : Payload := if idx = 0x1010 then .mDict .store else .mDict (.write idx sub v)

/-- A write, and the key that holds its answer back on a lead whose second is ready (R309, R365). -/
def State.writeFor (overSpi : Bool) (idx sub : Nat) (v : List Byte) (s : State) : Status × Option Payload × State :=
  let (st, s) := s.dictWrite overSpi idx sub v
  (st, if st = .ok then some (writeMirror idx sub v) else none, s)

/-- A WRITE unit is served or proxied (R22, R307). -/
def State.serveWrite (u : LdpIn) (s : State) : State :=
  let b := u.bytes.drop 8
  let idx := fieldLE b 0 2
  let sub := fieldLE b 2 1
  let q := DictReq.write idx sub (b.drop 4)
  match s.frontEnd idx sub false with
  | some st => s.dictAnswer u q st []
  | none =>
    if fieldIndex idx then s.proxyUnit u q
    else
      let (st, key, s) := s.writeFor (decide (u.peer = .spi)) idx sub (b.drop 4)
      s.replyAfter key (.unit u.peer u.bytes (dictUnit (fieldLE u.bytes 2 2) q st.code []))

/-- An observer is set, changed or removed; a ninth over the ring finds no room (R310). -/
def State.setObserver (p : Peer) (mask : Nat) (s : State) : Status × State :=
  if mask = 0 then (.ok, { s with observers := s.observers.filter fun o => decide (o.peer ≠ p) })
  else if s.observers.any (fun o => decide (o.peer = p)) then
    (.ok, { s with observers := s.observers.map fun (o : Observer) => if o.peer = p then { o with mask := mask } else o })
  else if p ≠ .spi ∧ (s.observers.filter fun o => decide (o.peer ≠ .spi)).length ≥ 8 then (.busy, s)
  else (.ok, { s with observers := s.observers ++ [{ peer := p, mask := mask }] })

/-- A SUBSCRIBE unit is served (R307, R310, R365). -/
def State.serveSubscribe (u : LdpIn) (s : State) : State :=
  let mask := fieldLE u.bytes 8 4
  let (st, s) := s.setObserver u.peer mask
  let s := s.when (decide (st = .ok)) (State.mirror 0x89 (.mHost (.subscribe u.peer mask)))
  s.reply (.unit u.peer u.bytes (unitBytes 0x90 (fieldLE u.bytes 2 2) [b8 st.code, 0, 0, 0]))

/-- Events of an observer up to an ESN are acknowledged (R310). -/
def State.ackEvents (p : Peer) (esn : Nat) (s : State) : State :=
  { s with observers := s.observers.map fun (o : Observer) =>
      if o.peer = p then { o with unacked := o.unacked.filter fun r => decide (r.esn > esn) } else o }

/-- An EVENT_ACK unit (R307, R310, R365). -/
def State.serveEventAck (u : LdpIn) (s : State) : State :=
  let esn := fieldLE u.bytes 8 8
  (s.ackEvents u.peer esn).mirror 0x89 (.mHost (.eventAck u.peer esn))

/-- A store's acknowledgement (R322, R324, R325): one below A, or beyond the last record sent, is ignored and counted; another
moves A and goes to the field side; a repair is served before new records. -/
def State.ackStore (k off start count : Nat) (s : State) : State :=
  let st := s.store k
  if k > 3 ∨ ¬ storeEnabled s k ∨ offBelow off st.ack ∨ offBelow st.send off then
    { s with journal := { s.journal with ignored := s.journal.ignored + 1 } }
  else
    let s := s.modStore k fun x => { x with ack := off }
    let s := s.send .porterHost 0x31 (.journalAck k off)
    let s := s.mirror 0x89 (.mHost (.storeAck k off))
    (s.repair k start count).streamOut k

/-- A JOURNAL_ACK unit (R322). -/
def State.serveJournalAck (u : LdpIn) (s : State) : State :=
  let b := u.bytes.drop 8
  s.ackStore (fieldLE b 0 1) (fieldLE b 4 8 % 2 ^ 48) (fieldLE b 12 8 % 2 ^ 48) (fieldLE b 20 4)

/-- The unit that a request repeats within 2 s on the ring, with its stored response (R308). -/
def State.answered (s : State) (u : LdpIn) : Option Answered :=
  if u.peer = .spi then none
  else s.recent.find? fun a => decide (a.peer = u.peer) && decide (a.unit = u.bytes) && decide (s.tb.ts ≤ a.ts + 2000000)

/-- A unit that has passed its checks is served by its type (R307); with `whole` a class A command runs through to its answer
(log 35). -/
def State.serveUnit (whole : Bool) (u : LdpIn) (s : State) : State :=
  match fieldLE u.bytes 1 1 with
  | 0x01 => s.serveRead u
  | 0x02 => s.serveWrite u
  | 0x03 =>
    let c : CmdIn := { peer := u.peer, rid := fieldLE u.bytes 2 2, body := u.bytes.drop 8 }
    if whole then s.commandWhole c else s.commandUnit u.bytes c
  | 0x10 => s.serveSubscribe u
  | 0x12 => s.serveEventAck u
  | _ => s.serveJournalAck u

/-- A unit arrives (R308): an error response, a stored response again, or service. -/
def State.ldpUnit (u : LdpIn) (s : State) (whole : Bool := false) : State :=
  if ¬ s.serving then s
  else if unitOk u.bytes = false then s.sendUnit u.peer (errorUnit u.bytes)
  else match s.answered u with
    | some a => s.sendUnit u.peer a.resp
    | none => s.serveUnit whole u

/-- A unit of a row arrives: another unit type is no such happening. -/
def State.unitOf (utype : Nat) (u : LdpIn) (s : State) : State := if fieldLE u.bytes 1 1 = utype then s.ldpUnit u else s

/-! ### Rows that are units -/

/-- READ (R307, R309). -/
def execRead (u : LdpIn) (s : State) : Result := .next (s.unitOf 0x01 u)

/-- NEXT_RECORD (R399): a READ of 0xA000.07. -/
def execNextRecord (peer : Peer) (rid : Nat) (s : State) : Result :=
  .next (s.ldpUnit { peer := peer, bytes := unitBytes 0x01 rid [0x00, 0xA0, 0x07, 0x00] })

/-- WRITE (R307, R309). -/
def execWrite (u : LdpIn) (s : State) : Result := .next (s.unitOf 0x02 u)

/-- SUBSCRIBE (R310). -/
def execSubscribe (u : LdpIn) (s : State) : Result := .next (s.unitOf 0x10 u)

/-- EVENT_ACK (R310). -/
def execEventAck (u : LdpIn) (s : State) : Result := .next (s.unitOf 0x12 u)

/-- EVENT_RESEND (R310). -/
def execEventResend (peer : Peer) (s : State) : Result := .next (s.resendEvents peer)

/-- JOURNAL_ACK (R322). -/
def execJournalAck (u : LdpIn) (s : State) : Result := .next (s.unitOf 0x21 u)

/-- JOURNAL_RESEND (R325). -/
def execJournalResend (k : Fin 4) (s : State) : Result := .next (s.resendStore k.val)

/-! ### Rows that are one class A command -/

/-- A command of a row arrives as a COMMAND unit; one that names another object is no such happening. -/
def State.commandOf (idx sub : Nat) (c : CmdIn) (s : State) : State :=
  if (cmdBody c.body).idx = idx ∧ (cmdBody c.body).sub = sub then
    s.ldpUnit { peer := c.peer, bytes := unitBytes 3 c.rid c.body } true
  else s

/-- EMPTY_ROSTER (R189, R316). -/
def execEmptyRoster (c : CmdIn) (s : State) : Result := .next (s.commandOf 0x4003 1 c)
/-- LOAD_WRAPPED_KEY (R207). -/
def execLoadWrappedKey (c : CmdIn) (s : State) : Result := .next (s.commandOf 0x5002 1 c)
/-- LOAD_ISSUER_KEY (R208). -/
def execLoadIssuerKey (c : CmdIn) (s : State) : Result := .next (s.commandOf 0x5002 2 c)
/-- ERASE_SLOT (R209). -/
def execEraseSlot (c : CmdIn) (s : State) : Result := .next (s.commandOf 0x5002 3 c)
/-- RELEASE_UID (R217). -/
def execReleaseUid (c : CmdIn) (s : State) : Result := .next (s.commandOf 0x5003 0x10 c)
/-- GUEST_ACTIVATE (R270). -/
def execGuestActivate (c : CmdIn) (s : State) : Result := .next (s.commandOf 0x6130 1 c)
/-- ENABLE_CORE_DEBUG (R274). -/
def execEnableCoreDebug (c : CmdIn) (s : State) : Result := .next (s.commandOf 0xE001 1 c)
/-- CHECK_NEW_IMAGE (R286). -/
def execCheckNewImage (c : CmdIn) (s : State) : Result := .next (s.commandOf 0x1F20 1 c)
/-- SET_RIGHTS_MASK (R316). -/
def execSetRightsMask (c : CmdIn) (s : State) : Result := .next (s.commandOf 0x1F02 1 c)
/-- LOAD_TWIN_KEY (R362). -/
def execLoadTwinKey (c : CmdIn) (s : State) : Result := .next (s.commandOf 0x9002 1 c)
/-- HAND_OVER_LEAD (R375). -/
def execHandOverLead (c : CmdIn) (s : State) : Result := .next (s.commandOf 0x9003 1 c)
/-- ACKNOWLEDGE_ANY_LEVEL (R385). -/
def execAcknowledgeAnyLevel (c : CmdIn) (s : State) : Result := .next (s.commandOf 0xA002 1 c)
/-- INJECT_FAULT (R398): refused LOCKED, for every production module leaves the factory with the test mode locked. -/
def execInjectFault (c : CmdIn) (s : State) : Result := .next (s.commandOf 0xE000 2 c)
/-- COMMIT_CALIBRATION (R474). -/
def execCommitCalibration (c : CmdIn) (s : State) : Result := .next (s.commandOf 0xC002 1 c)

/-! ### Rows that write one object -/

/-- A write of one object, answered with its status (R309, R365). -/
def State.writeRow (overSpi : Bool) (idx sub : Nat) (v : List Byte) (s : State) : State :=
  if ¬ s.serving then s
  else match s.frontEnd idx sub false with
    | some st => s.reply (.status idx sub st.code)
    | none =>
      let (st, key, s) := s.writeFor overSpi idx sub v
      s.replyAfter key (.status idx sub st.code)

/-- MAP_CLEAR (R137). -/
def execMapClear (v : List Byte) (s : State) : Result := .next (s.writeRow false 0x3100 2 v)
/-- CAPTURE_ARM (R141). -/
def execCaptureArm (v : List Byte) (s : State) : Result := .next (s.writeRow false 0x3200 5 v)
/-- APDU_START (R166). -/
def execApduStart (v : List Byte) (s : State) : Result := .next (s.writeRow false 0x6140 5 v)
/-- TEMPLATE_WRITE (R167, R168). -/
def execTemplateWrite (n : Nat) (v : List Byte) (s : State) : Result := .next (s.writeRow false 0x6110 (n + 1) v)
/-- TEMPLATE_START (R170). -/
def execTemplateStart (v : List Byte) (s : State) : Result := .next (s.writeRow false 0x6120 4 v)
/-- SWEEP_START (R182). -/
def execSweepStart (p : Fin 16) (v : List Byte) (s : State) : Result := .next (s.writeRow false (0x4010 + p.val) 5 v)
/-- REPORT_BUILD (R197). -/
def execReportBuild (v : List Byte) (s : State) : Result := .next (s.writeRow false 0x4100 5 v)
/-- SECURITY_START (R204). -/
def execSecurityStart (v : List Byte) (s : State) : Result := .next (s.writeRow false 0x5020 3 v)
/-- DOOR_GROUP_WRITE (R231). -/
def execDoorGroupWrite (g : Fin 64) (v : List Byte) (s : State) : Result := .next (s.writeRow false 0x2401 (g.val + 1) v)
/-- RELEARN (R241). -/
def execRelearn (v : List Byte) (s : State) : Result := .next (s.writeRow false 0x2400 8 v)
/-- GUEST_PAGE (R270). -/
def execGuestPage (v : List Byte) (s : State) : Result := .next (s.writeRow false 0x6131 2 v)
/-- STORE (R290). -/
def execStore (v : List Byte) (s : State) : Result := .next (s.writeRow false 0x1010 1 v)
/-- RESTORE_DEFAULTS (R293). -/
def execRestoreDefaults (v : List Byte) (s : State) : Result := .next (s.writeRow false 0x1011 1 v)
/-- COUNTER_CLEAR (R31, R358). -/
def execCounterClear (idx : Nat) (v : List Byte) (s : State) : Result := .next (s.writeRow false idx 0 v)
/-- RING_LOOPBACK (R344). -/
def execRingLoopback (v : List Byte) (s : State) : Result := .next (s.writeRow false 0x8007 2 v)
/-- SHIFT_REGISTER_ECHO (R356). -/
def execShiftRegisterEcho (peer : Peer) (v : List Byte) (s : State) : Result :=
  .next (s.writeRow (decide (peer = .spi)) 0x8801 1 v)
/-- ACKNOWLEDGE_FAULTS (R385). -/
def execAcknowledgeFaults (v : List Byte) (s : State) : Result := .next (s.writeRow false 0xA001 1 v)
/-- RELEASE_CAPTURE (R395). -/
def execReleaseCapture (v : List Byte) (s : State) : Result := .next (s.writeRow false 0xA003 7 v)
/-- CALIBRATE_NOW (R446). -/
def execCalibrateNow (v : List Byte) (s : State) : Result := .next (s.writeRow false 0x7011 6 v)
/-- DOOR_LINK_LOOPBACK (R459). -/
def execDoorLinkLoopback (v : List Byte) (s : State) : Result := .next (s.writeRow false 0x7040 4 v)
/-- CALIBRATION_START (R463). -/
def execCalibrationStart (v : List Byte) (s : State) : Result := .next (s.writeRow false 0xC000 4 v)
/-- HF_LOOPBACK (R476). -/
def execHfLoopback (v : List Byte) (s : State) : Result := .next (s.writeRow false 0xC020 3 v)

end Sys2Proof.Machine
end

