-- ==== Sys2Proof/Machine/Boundaries.lean ====
section
/-!
DEFINITION. The release of a meeting (R69), which may be a wave boundary of the running sweep (R177, R183, R375, R465).
-/

namespace Sys2Proof.Machine

open Sys2Proof

/-- MEET_RELEASE (R69): every track of the completed meeting goes on at the same CC. A meeting of the running sweep's tracks
is a wave boundary: its results enter, due calibrations start, a waiting handover takes place. -/
def execMeetRelease (mask : BitVec 9) (obs : List CoilObs) (s : State) : Result :=
  let m := mask.toNat
  if ¬ s.meetComplete m then .next s
  else
    let wave := s.isSweepMeet m
    let s := s.meetRelease m
    .next (if wave then (((s.waveBoundary obs).calibTry).handoverTry) else s)

end Sys2Proof.Machine
end

