-- ==== Sys2Proof/Machine/RingPort.lean ====
section
/-!
DEFINITION. The ring port (R330 to R346): HSR frames, the relay and links, supervision, addressing, wake frames, loop-back.
-/

namespace Sys2Proof.Machine

open Sys2Proof

/-! ### Addresses (R334, R341) -/

/-- A MAC address as a number, first octet highest. -/
def nodeMacNat : Nat := beNat (padTo 6 Config.nodeMac)
def State.serviceMac (s : State) : Nat := beNat (padTo 6 (s.obj 0x8006 2))

/-- The supervision multicast address and the broadcast address (R332, R334). -/
def superMac : Nat := 0x01154E000100
def broadcastMac : Nat := 2 ^ 48 - 1

/-- A MAC of this module in use (R334, R341). -/
def State.ownMac (s : State) (m : Nat) : Bool := decide (m = nodeMacNat) || (s.ring.service && decide (m = s.serviceMac) && decide (m ≠ 0))

/-- A frame for the module (R334). -/
def State.frameForMe (s : State) (f : RingIn) : Bool := s.ownMac f.dst || decide (f.dst = broadcastMac) || decide (f.dst = superMac)

/-- An IPv4 address of this module in use (R340, R341). -/
def State.ownIp (s : State) (ip : Nat) : Bool := decide (ip = s.ring.ip) || (s.ring.service && decide (ip = s.objNat 0x8006 1))

/-! ### Frames (R332 to R334, R340, R342, R343) -/

/-- The class of a forwarded frame (R333): PCP 4 to 7 and supervision frames are of high priority. -/
def highClass (f : RingIn) : Bool := decide (f.pcp ≥ 4) || decide (f.body = .supervision)

/-- A frame is forwarded through the other port, unless it has been in this direction or its queue is full; a bad FCS follows
it out (R333). -/
def State.forward (p : Port) (f : RingIn) (s : State) : State :=
  let q := otherPort p
  if (s.ring.port q).link = 0 ∨ s.ring.sent.contains (f.src, f.seq, p) then s
  else if f.egressFull then { s with ring := { s.ring with qfull := s.ring.qfull + 1 } }
  else
    let s : State := { s with ring := { s.ring with badEnd := s.ring.badEnd + bit (!f.fcsOk),
                                                    sent := if f.fcsOk then s.ring.sent ++ [(f.src, f.seq, p)] else s.ring.sent } }
    s.portSend q (.ring q (highClass f) f)

/-- A supervision frame enters its source in the node table of 64 (R335). -/
def State.noteNode (mac : Nat) (s : State) : State :=
  if s.ring.nodes.contains mac then s
  else if s.ring.nodes.length ≥ 64 then { s with ring := { s.ring with tableFull := s.ring.tableFull + 1 } }
  else { s with ring := { s.ring with nodes := s.ring.nodes ++ [mac] } }

/-- The gratuitous ARP that acknowledges a wake frame goes out for the address in use (R342). -/
def State.wakeAck (s : State) : State :=
  let ip := if s.ring.service then s.objNat 0x8006 1 else s.ring.ip
  s.arpBoth ip

/-- A wake frame is recognised (R342): in the Curfew entry window it is lost; in Run it is acknowledged and counted, and
rolls back an entry that waits; asleep it raises wake source 3. -/
def State.wakeSeen (s : State) : State :=
  if s.power.window then s
  else
    let s := s.wakeAck
    if ¬ s.power.hostAsleep then
      ({ s with ring := { s.ring with wakesRun := s.ring.wakesRun + 1 } }).when (decide (s.power.entering ≠ 0)) (State.wakeEvent 3)
    else
      let s' := s.wakeEvent 3
      if s'.power.hostAsleep then s' else { s' with ring := { s'.ring with wakes := s'.ring.wakes + 1 } }

/-- A unit or echo request that arrives asleep is discarded and counted (R343). -/
def State.discardAsleep (s : State) : State := { s with ring := { s.ring with discarded := s.ring.discarded + 1 } }

/-- An LDP datagram for one of the module's addresses and its port is served; the address asked is the one that answers
(R340, R341). -/
def State.takeUnit (ip udp : Nat) (u : LdpIn) (s : State) : State :=
  if ¬ s.ownIp ip ∨ udp ≠ s.ring.udp then s
  else
    let others := s.ring.asked.filter (· ≠ u.peer)
    ({ s with ring := { s.ring with asked := if ip = s.ring.ip then others else others ++ [u.peer] } } : State).ldpUnit u

/-- A frame delivered to the module (R334, R340, R343). -/
def State.deliverFrame (p : Port) (f : RingIn) (s : State) : State :=
  match f.body with
  | .supervision => s.noteNode f.src
  | .ldp ip udp u => if s.power.hostAsleep then s.discardAsleep else s.takeUnit ip udp u
  | .arp ip => if s.ownIp ip then s.portSend p (.arp p ip) else s
  | .icmp ip =>
    if s.power.hostAsleep then s.discardAsleep
    else if s.objBool 0x8001 7 ∧ s.ownIp ip then s.portSend p (.icmp p ip) else s
  | .wake => s.wakeSeen
  | .otherUdp => s
  | .fragment => s
  | .other => s

/-- The first intact copy of a frame for the module is delivered; a frame with a VID other than 0 is discarded (R334). -/
def State.takeFrame (p : Port) (f : RingIn) (s : State) : State :=
  if s.ring.seen.contains (f.src, f.seq) then { s with ring := { s.ring with dups := s.ring.dups + 1 } }
  else
    let s : State := { s with ring := { s.ring with seen := s.ring.seen ++ [(f.src, f.seq)] } }
    if f.vid ≠ 0 then s else s.deliverFrame p f

/-- A frame arrives at a port (R330, R332 to R334): too long or damaged, without a valid tag, the module's own, or one to
forward and deliver. -/
def State.ringFrame (p : Port) (f : RingIn) (s : State) : State :=
  if (s.ring.port p).link = 0 then s
  else if f.len > 1528 then s.modPort p fun x => { x with badFcs := x.badFcs + 1 }
  else if ¬ f.tagged ∨ ¬ f.sizeOk then { s with ring := { s.ring with untagged := s.ring.untagged + 1 } }
  else if s.ownMac f.src then { s with ring := { s.ring with own := s.ring.own + 1 } }
  else
    let s := if f.fcsOk then s else s.modPort p fun x => { x with badFcs := x.badFcs + 1 }
    let s := if s.ownMac f.dst then s else s.forward p f
    if f.fcsOk ∧ s.frameForMe f then s.takeFrame p f else s

/-- RING_FRAME (R332 to R334). -/
def execRingFrame (p : Port) (f : RingIn) (s : State) : Result := .next (s.ringFrame p f)

/-- WAKE_FRAME (R342): a frame whose first 256 bytes carry the wake pattern. -/
def execWakeFrame (p : Port) (f : RingIn) (s : State) : Result := .next (s.ringFrame p { f with body := .wake })

/-! ### Supervision and tables (R332, R335) -/

/-- Own supervision frames came back on each port within the last two intervals (R335). -/
def backBoth (l : List (Bool × Bool)) : Bool := l.any (·.1) && l.any (·.2)

/-- SUPERVISION (R335, R343): a supervision frame leaves on each port, and while the host side runs the closed state is judged,
journalled on a change, and a loss raises a Note. -/
def execSupervision (backA backB : Bool) (s : State) : Result :=
  if s.ring.relay = 0 then .next s
  else
    let back := (backA, backB) :: s.ring.back.take 1
    let q := s.ring.supSeq
    let was := s.ring.closed
    let s : State := { s with ring := { s.ring with back := back, supSeq := (q + 1) % 65536 } }
    let s := (s.portSend .a (.supervision .a q)).portSend .b (.supervision .b q)
    let now := backBoth back
    if s.power.hostAsleep ∨ was = now then .next s
    else
      let s := ({ s with ring := { s.ring with closed := now } }).commit 6 8 [b8 (bit now)]
      .next (if now then s else s.raiseFault .host 2 2 1 [])

/-- NODE_FORGET (R332): 60 s without supervision. -/
def execNodeForget (mac : Nat) (s : State) : Result := .next { s with ring := { s.ring with nodes := s.ring.nodes.filter (· ≠ mac) } }

/-- ENTRY_FORGET (R332): 400 ms after the frame. -/
def execEntryForget (mac seq : Nat) (s : State) : Result :=
  .next { s with ring := { s.ring with seen := s.ring.seen.filter (· ≠ (mac, seq)),
                                       sent := s.ring.sent.filter fun x => decide ((x.1, x.2.1) ≠ (mac, seq)) } }

/-! ### Links and relay (R331, R337, R338) -/

/-- LINK_UP (R338): on an open relay only. -/
def execLinkUp (p : Port) (s : State) : Result :=
  if s.ring.relay = 0 ∨ (s.ring.port p).link ≠ 0 then .next s
  else .next (s.modPort p fun x => { x with link := 1, armed := false }).relaySet

/-- LINK_DOWN (R330, R346). -/
def execLinkDown (p : Port) (s : State) : Result := .next (s.modPort p RingPort.down).relaySet

/-- LOW_POWER_IDLE (R331). -/
def execLowPowerIdle (p : Port) (s : State) : Result :=
  if s.objBool 0x8002 3 ∧ (s.ring.port p).link = 1 then .next (s.modPort p fun x => { x with link := 2 }) else .next s

/-- RING_LOOPBACK_END (R344): it passes when every frame matched; the relay opens again. -/
def execRingLoopbackEnd (sent matched : Nat) (s : State) : Result :=
  if s.ring.loop ≠ 1 then .next s
  else
    let ok := decide (sent ≥ 256) && decide (matched = sent)
    .next ({ s with ring := { s.ring with loop := if ok then 2 else 3, loopSent := sent, loopMatched := matched } }).relaySet

/-! ### Addresses (R340, R341) -/

/-- ADDRESS_CHANGE (R340): the new address or port takes effect with one gratuitous ARP. -/
def execAddressChange (s : State) : Result :=
  if ¬ s.ring.newAddr ∨ ¬ s.power.hostReady then .next s
  else
    let s := s.useAddress
    .next (s.arpBoth s.ring.ip)

/-- SERVICE_ARP (R341): the ones at 50 and 500 ms; the first goes out when the role is gained. -/
def execServiceArp (s : State) : Result :=
  if s.ring.arps = 0 ∨ ¬ s.ring.service then .next s
  else .next ({ s with ring := { s.ring with arps := s.ring.arps - 1 } }).wakeAck

end Sys2Proof.Machine
end

