-- ==== Sys2Proof/Machine/SpiPort.lean ====
section
/-!
DEFINITION. The SPI host port (R347 to R358): frames, their checks, the alive counter, replies, reassembly, loop-backs.
-/

namespace Sys2Proof.Machine

open Sys2Proof

/-! ### Frames (R349) -/

/-- Frame size of a select (R349). -/
def frameSize (k : Sel) : Nat := selRoom k + 8

/-- A host frame's fields (R349). -/
structure SpiFields where
  alive : Nat
  ftype : Nat
  reason : Nat
  pend : Nat
  start : Bool
  stop : Bool
  flen : Nat
  deriving DecidableEq, Repr

def spiFields (f : List Byte) : SpiFields :=
  let b := fieldLE f 2 1
  { alive := fieldLE f 0 1, ftype := fieldLE f 1 1, reason := b / 32, pend := b / 16 % 2, start := decide (b / 8 % 2 = 1),
    stop := decide (b / 4 % 2 = 1), flen := b % 4 * 256 + fieldLE f 3 1 }

/-- A frame's bytes: ALIVE, FTYPE, REASON, PEND, START, END, payload (R349). -/
def spiBytes (k : Sel) (alive ftype reason : Nat) (pend start stop : Bool) (payload : List Byte) : List Byte :=
  let n := payload.length
  let h := [b8 alive, b8 ftype, b8 (32 * reason + 16 * bit pend + 8 * bit start + 4 * bit stop + n / 256), b8 n] ++ padTo (selRoom k) payload
  h ++ natLE 4 (crc32c h)

/-- The payload of a frame. -/
def spiPayload (f : List Byte) : List Byte := sliceBytes f 4 (spiFields f).flen

/-- The counter of an ignored frame, by its REASON (R350, R352). -/
def Spi.refuse (reason : Nat) (p : Spi) : Spi :=
  match reason with
  | 1 => { p with badCrc := p.badCrc + 1 }
  | 2 => { p with badFrame := p.badFrame + 1 }
  | 3 => { p with badType := p.badType + 1 }
  | 4 => { p with aliveBreak := p.aliveBreak + 1 }
  | _ => { p with full := p.full + 1 }

/-- Checks 1 to 4 of R350: the REASON of the first that fails, or 0. -/
def spiForm (k : Sel) (f : List Byte) : Nat :=
  let x := spiFields f
  let room := selRoom k
  if f.length ≠ frameSize k then 2
  else if fieldLE f (frameSize k - 4) 4 ≠ crc32c (f.take (frameSize k - 4)) then 1
  else if x.reason ≠ 0 ∨ x.pend ≠ 0 ∨ x.flen > room ∨ sliceBytes f (4 + x.flen) (room - x.flen) ≠ zeros (room - x.flen) ∨
      (x.ftype = 0 ∧ x.flen ≠ 0) then 2
  else if x.ftype ≠ 0 ∧ x.ftype ≠ 1 ∧ x.ftype ≠ 0x7E then 3
  else 0

/-- Check 5 (R351): the frame is new. -/
def SpiEnd.isNew (e : SpiEnd) (alive : Nat) : Bool :=
  match e.ref with
  | none => true
  | some (a, _) => decide (alive = (a + 1) % 256)

/-- Check 6: room in the receive buffer of 2,048 bytes (R350). -/
def SpiEnd.room (e : SpiEnd) (payload : List Byte) : Bool := decide (((e.part.getD []).length) + payload.length ≤ 2048)

/-! ### Replies (R352, R354, R356) -/

/-- The bytes shifted out during a frame, and whether they carry the next segment (R352); before the first frame its
ALIVE answers none and is a free value (log 8). -/
def State.shiftBytes (s : State) (k : Sel) : List Byte × Bool :=
  let e := s.spi.endp k
  let r : SpiReply := e.reply.getD { alive := Config.freeNat s.fresh, reason := 6, echo := none }
  match r.echo, e.outq with
  | some p, q => (spiBytes k r.alive 0x7E r.reason (decide (q ≠ [])) false false p, false)
  | none, (p, a, z) :: q => (spiBytes k r.alive 1 r.reason (decide (q ≠ [])) a z p, true)
  | none, [] => (spiBytes k r.alive 0 r.reason false false false [], false)

/-- A whole reply leaves: the segment it carries leaves the queue, ATTN follows, and an echo that waited for its write's
reply begins (R354, R356). -/
def State.shiftOut (k : Sel) (s : State) : State :=
  let (b, used) := s.shiftBytes k
  let s := (s.emit (.spiFrame k b)).draw
  let e := s.spi.endp k
  let e := if used then { e with outq := e.outq.drop 1 } else e
  let p := s.spi.setEnd k e
  let go := p.echoArm && decide (p.e0.outq = [])
  ({ s with spi := { p with echo := p.echo || go, echoArm := p.echoArm && !go } }).attnSet

/-- The reply to an ignored frame is pending (R350, R352). -/
def State.spiRefuse (k : Sel) (alive reason : Nat) (s : State) : State :=
  let e := s.spi.endp k
  { s with spi := (s.spi.refuse reason).setEnd k { e with reply := some { alive := alive, reason := reason, echo := none } } }

/-! ### Reassembly (R353) -/

/-- A discard in reassembly is counted. -/
def State.spiDiscard (k : Sel) (part : Option (List Byte)) (s : State) : State :=
  { s with spi := { (s.spi.setEnd k { (s.spi.endp k) with part := part }) with discards := s.spi.discards + 1 } }

/-- A completed unit is served; on the wrong select it is answered there by an error response (R353). -/
def State.spiUnitDone (k : Sel) (u : List Byte) (s : State) : State :=
  let s : State := { s with spi := s.spi.setEnd k { (s.spi.endp k) with part := none } }
  if unitSel (fieldLE u 1 1) ≠ k then s.spiQueue k (errorUnit u) else s.ldpUnit { peer := .spi, bytes := u }

/-- A segment of a unit (R353). -/
def State.spiSegment (k : Sel) (start stop : Bool) (payload : List Byte) (s : State) : State :=
  let held := (s.spi.endp k).part
  let s := if start ∧ held.isSome then s.spiDiscard k none else s
  let base : Option (List Byte) := if start then some [] else held
  match base with
  | none => s.spiDiscard k none
  | some b =>
    let u := b ++ payload
    if u.length > 1408 then s.spiDiscard k none
    else if stop then s.spiUnitDone k u
    else { s with spi := s.spi.setEnd k { (s.spi.endp k) with part := some u } }

/-! ### A frame (R350, R351, R357) -/

/-- A frame that passed checks 1 to 4 is judged by its ALIVE, and accepted if there is room (R350, R351); `out` was shifted
out during it. -/
def State.spiJudge (k : Sel) (f out : List Byte) (s : State) : State :=
  let e := s.spi.endp k
  let x := spiFields f
  if e.isNew x.alive then
    if ¬ e.room (spiPayload f) then s.spiRefuse k x.alive 5
    else
      let reply : SpiReply := { alive := x.alive, reason := 0, echo := if x.ftype = 0x7E then some (spiPayload f) else none }
      let p := s.spi.setEnd k { e with ref := some (x.alive, f), orig := out, reply := some reply }
      let s : State := { s with spi := match k with | .sel0 => { p with acc0 := p.acc0 + 1 } | .sel1 => { p with acc1 := p.acc1 + 1 } }
      if x.ftype = 1 then s.spiSegment k x.start x.stop (spiPayload f) else s
  else if e.ref.any (fun r => decide (r.1 = x.alive)) then s.spiRefuse k x.alive 4
  else ({ s with spi := s.spi.setEnd k { e with ref := some (x.alive, f), orig := out } }).spiRefuse k x.alive 4

/-- The frame that set the reference again (R351). -/
def SpiEnd.isRepeat (e : SpiEnd) (f : List Byte) : Bool := e.ref.any fun r => decide (r.2 = f)

/-- Both selects asserted (R357): both frames fail, counted once, and both replies name it; the other frame's ALIVE is a
free value. -/
def State.spiCollide (k : Sel) (f : List Byte) (s : State) : State :=
  let n := Config.freeNat s.fresh
  let r (mine : Bool) : Option SpiReply := some { alive := if mine then fieldLE f 0 1 else n, reason := 2, echo := none }
  let p := s.spi
  ({ s with spi := { p with collisions := p.collisions + 1, e0 := { p.e0 with reply := r (decide (k = Sel.sel0)) },
                            e1 := { p.e1 with reply := r (decide (k = Sel.sel1)) } } }).draw

/-- The port receives frames: enabled, with the host side in Run (R355, R357). -/
def State.spiOn (s : State) : Bool := s.power.hostReady && !s.power.hostReset && !s.power.hostAsleep && s.objBool 0x8800 0x0C

/-- A frame is clocked on a select (R350 to R357). -/
def State.spiFrame (k : Sel) (f : List Byte) (both : Bool) (s : State) : State :=
  if ¬ s.spiOn then s
  else if s.spi.echo then (s.emit (.spiFrame k (padTo 1 (Config.randomBytes s.fresh 1) ++ f.take (f.length - 1)))).draw
  else if both then s.spiCollide k f
  else
    let form := spiForm k f
    if f.length ≠ frameSize k then (s.emit (.spiFrame k ((s.shiftBytes k).1.take f.length))).draw.spiRefuse k (fieldLE f 0 1) 2
    else if form = 0 ∧ (s.spi.endp k).isRepeat f then
      { s with spi := { s.spi with retrans := s.spi.retrans + 1 } }.emit (.spiFrame k (s.spi.endp k).orig)
    else
      let out := (s.shiftBytes k).1
      let s := s.shiftOut k
      if form ≠ 0 then s.spiRefuse k (spiFields f).alive form else s.spiJudge k f out

/-- A frame of a row's type; a frame of another listed type is no such happening. -/
def State.spiRow (ftype : Nat) (k : Sel) (f : List Byte) (both : Bool) (s : State) : State :=
  let t := (spiFields f).ftype
  if t ≠ ftype ∧ (t = 0 ∨ t = 1 ∨ t = 0x7E) then s else s.spiFrame k f both

/-- SPI_IDLE (R352). -/
def execSpiIdle (k : Sel) (frame : List Byte) (both : Bool) (s : State) : Result := .next (s.spiRow 0 k frame both)

/-- SPI_UNIT (R353). -/
def execSpiUnit (k : Sel) (frame : List Byte) (both : Bool) (s : State) : Result := .next (s.spiRow 1 k frame both)

/-- SPI_ECHO (R356). -/
def execSpiEcho (k : Sel) (frame : List Byte) (both : Bool) (s : State) : Result := .next (s.spiRow 0x7E k frame both)

/-- ECHO_DURATION_END (R356). -/
def execEchoDurationEnd (s : State) : Result :=
  if ¬ s.spi.echo then .next s else .next (s.shiftEcho false 0)

end Sys2Proof.Machine
end

