-- ==== Sys2Proof/Machine/TwinCommands.lean ====
section
/-!
DEFINITION. The twin's rows (R359 to R375): heartbeats, cross-monitoring, triggers, mirrored items at the second, pairing,
the copy, roles, and what a lead holds back.
-/

namespace Sys2Proof.Machine

open Sys2Proof

/-! ### What a lead holds back (R365, R367) -/

/-- The first answer held for a mirror message leaves. -/
def State.releaseReply (p : Payload) (s : State) : State :=
  match s.twin.heldResp.find? fun h => decide (h.1 = p) with
  | none => s
  | some h => ({ s with twin := { s.twin with heldResp := s.twin.heldResp.erase h } }).reply h.2

/-- The first command held for a mirror message runs. -/
def State.releaseCommand (p : Payload) (s : State) : State :=
  match s.twin.heldCmds.find? fun h => decide (h.1 = p) with
  | none => s
  | some h => ({ s with twin := { s.twin with heldCmds := s.twin.heldCmds.erase h } }).finishCommand h.2.1 h.2.2 true

/-- A journal record that the second holds is delivered (R365). -/
def State.releaseRecord (r : JRec) (s : State) : State :=
  let s : State := { s with twin := { s.twin with mirrorEsn := max s.twin.mirrorEsn r.esn } }
  if s.twin.heldRecs.contains r then ({ s with twin := { s.twin with heldRecs := s.twin.heldRecs.erase r } }).deliver r else s

/-- A message that the second has acknowledged lets go what waited for it (R365, R374). -/
def State.mirrored (p : Payload) (s : State) : State :=
  let s := match p with
    | .mJournal r => s.releaseRecord r
    | .mPower _ => if s.power.entering ≠ 0 then s.negotiate s.power.entering else s
    | .resyncData parts =>
      if s.twin.role = 1 ∧ s.twin.state = 3 ∧ parts.contains .last then
        { s with twin := { s.twin with state := 4, resyncs := s.twin.resyncs + 1 } }
      else s
    | _ => s
  (s.releaseReply p).releaseCommand p

/-- Everything held back is released (R367): records, answers, commands, and an entry into a sleep state. -/
def State.releaseAll (s : State) : State :=
  let t := s.twin
  let s : State := { s with twin := { s.twin with heldRecs := [], heldResp := [], heldCmds := [] } }
  let s := t.heldRecs.foldl (fun s r => s.deliver r) s
  let s := t.heldResp.foldl (fun s h => s.reply h.2) s
  let s := t.heldCmds.foldl (fun s h => s.finishCommand h.2.1 h.2.2 true) s
  if s.power.entering ≠ 0 then s.negotiate s.power.entering else s

/-- The second stops being ready: the lead goes solo (R367). -/
def State.goSolo (s : State) : State :=
  if s.twin.role = 1 ∧ (s.twin.state = 3 ∨ s.twin.state = 4) then
    ((({ s with twin := { s.twin with state := 5 } }).releaseAll).raiseFault .field 9 3 2 [])
  else s

/-- MIRROR_TIMEOUT (R367): a mirror message has gone unacknowledged for more than 2 ms. -/
def execMirrorTimeout (s : State) : Result :=
  if s.linkT.window.any (fun m => decide (m.typ ≥ 0x80)) then .next s.goSolo else .next s

/-! ### Heartbeats (R359, R369, R371, R378, R379) -/

/-- HEARTBEAT_TICK (R371): driven by running firmware only. -/
def execHeartbeatTick (s : State) : Result :=
  if s.twin.state = 0 ∨ s.coreF.stopped ∨ s.dbg.halted ∨ s.power.state ≠ 0 then .next s
  else
    let s : State := { s with twin := { s.twin with hbOut := !s.twin.hbOut } }
    .next ((s.pin 9 (bit s.twin.hbOut)).send .twin 0x90 (.heartbeat s.tb.ts))

/-- A second raises its TS to the lead's, or to that of the newest mirrored record (R369). -/
def State.followTs (ts : Nat) (s : State) : State :=
  let m := max ts s.twin.mirrorTs
  if s.twin.role = 2 ∧ s.twin.paired ∧ s.tb.ts < m then
    { s with tb := { s.tb with ts := m }, twin := { s.twin with tsSteps := s.twin.tsSteps + 1 } }
  else s

/-- HEARTBEAT (R369). -/
def execHeartbeat (f : List Byte) (s : State) : Result :=
  .next (s.receive .twin 0x90 f fun s =>
    let ts := payloadLE f 0 8
    ({ s with twin := { s.twin with hbMsg := true, leadTs := ts, sleeping := false } }).followTs ts)

/-- HB_IN_EDGE (R371, R379). -/
def execHbInEdge (s : State) : Result :=
  if s.twin.state = 0 then .next s else .next { s with twin := { s.twin with hbLine := true } }

/-- HEARTBEAT_LINE_BROKEN (R378). -/
def execHeartbeatLineBroken (s : State) : Result :=
  if s.twin.state = 0 then .next s
  else
    let s : State := { s with twin := { s.twin with hbLine := false } }
    if s.twin.hbMsg then .next (s.raiseFault .field 9 8 1 []) else .next s

/-- HEARTBEAT_MISSED (R371): no trigger from M_POWER until both modules run again (R422). -/
def execHeartbeatMissed (s : State) : Result :=
  if s.twin.state = 0 then .next s
  else
    let s : State := { s with twin := { s.twin with hbLine := false, hbMsg := false } }
    if s.twin.sleeping then .next s else .next (s.trigger 1)

/-- HALT_IN (R371). -/
def execHaltIn (s : State) : Result :=
  if s.twin.state = 0 then .next s else .next (({ s with twin := { s.twin with haltIn := true } }).trigger 3)

/-- HALT_NOTICE (R371). -/
def execHaltNotice (f : List Byte) (s : State) : Result := .next (s.receive .twin 0x93 f (State.trigger 3))

/-- HANDOVER (R371, R375). -/
def execHandover (f : List Byte) (s : State) : Result := .next (s.receive .twin 0x94 f (State.trigger 4))

/-! ### Cross-monitoring (R370) -/

/-- A mirrored wave or service exchange energises a feeder (R370). -/
def State.litFeeder (s : State) (f : Nat) : Bool :=
  s.twin.lit.any (fun ca => decide (feederOf ca = f)) || s.twin.services.any fun c => decide (feederOf c.ca = f)

/-- FIELD_ABSENT (R370): the second asks the lead. -/
def execFieldAbsent (f : Fin 16) (s : State) : Result :=
  let n := f.val
  if s.twin.role = 2 ∧ s.objBool 0x9001 2 ∧ s.litFeeder n ∧ ¬ s.twin.masked.contains n ∧ ¬ s.twin.queries.contains n then
    .next (({ s with twin := { s.twin with queries := s.twin.queries ++ [n] } }).send .twin 0x91 (.fieldQuery n))
  else .next s

/-- The lead's answer: forward power and commanded power of the chain routed to a feeder, in mW (R370). -/
def State.fieldAnswer (n : Nat) (s : State) : State :=
  match (List.range 8).find? fun x => (s.chain x).routed && decide ((s.chain x).feeder = n) with
  | some x => s.send .twin 0x92 (.fieldReply n (s.chain x).fwd ((s.chain x).power * 1000).floor.toNat)
  | none => s.send .twin 0x92 (.fieldReply n 0 0)

/-- FIELD_QUERY (R370). -/
def execFieldQuery (f : List Byte) (feeder : Fin 16) (s : State) : Result :=
  .next (s.receive .twin 0x91 f (State.fieldAnswer feeder.val))

/-- An answer to an outstanding query (R370): with at least half of the commanded power the feeder leaves cross-monitoring,
otherwise trigger 2 applies. -/
def State.fieldJudge (n fwd commanded : Nat) (s : State) : State :=
  if ¬ s.twin.queries.contains n then s
  else
    let s : State := { s with twin := { s.twin with queries := s.twin.queries.filter (· ≠ n) } }
    if 2 * fwd ≥ commanded then
      ({ s with twin := { s.twin with masked := s.twin.masked ++ [n], answered := s.twin.answered + 1 } }).raiseFault .field 5 3 2 [b8 n]
    else s.trigger 2

/-- FIELD_REPLY (R370). -/
def execFieldReply (f : List Byte) (feeder : Fin 16) (fwd commanded : Nat) (s : State) : Result :=
  .next (s.receive .twin 0x92 f (State.fieldJudge feeder.val fwd commanded))

/-- FIELD_QUERY_TIMEOUT (R370). -/
def execFieldQueryTimeout (feeder : Fin 16) (s : State) : Result :=
  if s.twin.queries.contains feeder.val then
    .next (({ s with twin := { s.twin with queries := s.twin.queries.filter (· ≠ feeder.val) } }).trigger 2)
  else .next s

/-! ### Mirrored items at the second (R365, R366) -/

/-- A mirrored record: the second's journal follows the lead's (R365, R368). A record that says a command ended confirms it,
and one of a security result is applied at the mirrored close (R366, R373). -/
def State.mirrorRecord (r : JRec) (s : State) : State :=
  let j := s.journal
  let ring := (j.ring.drop (j.ring.length + 1 - 65536)) ++ [r]
  let next := (r.off + 64) % 2 ^ 48
  let s : State := { s with
    journal := { j with ring := ring, next := next, chain := r.rmac, esn := r.esn + 1, released := if anyRequired s then j.released else next },
    twin := { s.twin with mirrorEsn := max s.twin.mirrorEsn r.esn, mirrorTs := max s.twin.mirrorTs r.ts } }
  let s : State := if r.group = 7 ∧ r.typ = 1 then
      { s with twin := { s.twin with counters := s.twin.counters.filter (· ≠ (fieldLE r.data 0 1, fieldLE r.data 6 6)) } }
    else if r.group = 2 ∧ 1 ≤ r.typ ∧ r.typ ≤ 4 then
      s.secChange { handle := fieldLE r.data 4 4, typ := r.typ, profile := fieldLE r.data 24 1, status := fieldLE r.data 25 1,
                    slot := Tab.get 0 s.keys.verified (fieldLE r.data 4 4 % 131072) - 1 }
    else s
  s.deliver r

/-- M_JOURNAL (R365). -/
def execMJournal (f : List Byte) (s : State) : Result :=
  .next (s.receive .twin 0x80 f fun s => (frameRecords f).foldl (fun s r => s.mirrorRecord r) s)

/-- A mirrored wave (R365): its start, or its end with results. -/
def State.mirrorWave (w : WaveMsg) (s : State) : State :=
  match w with
  | .start plan sweep wave coils =>
    { s with twin := { s.twin with sweep := some (plan, sweep, wave - 1), lit := coils,
                                   sweepCoils := if wave ≤ 1 then s.planCoils plan else s.twin.sweepCoils,
                                   sweepRes := if wave ≤ 1 then [] else s.twin.sweepRes } }
  | .part results => { s with twin := { s.twin with sweepRes := s.twin.sweepRes ++ results } }
  | .finish results =>
    { s with twin := { s.twin with sweep := s.twin.sweep.map fun x => (x.1, x.2.1, x.2.2 + 1), lit := [],
                                   sweepRes := s.twin.sweepRes ++ results } }

/-- M_WAVE (R365). -/
def execMWave (f : List Byte) (w : WaveMsg) (s : State) : Result := .next (s.receive .twin 0x81 f (State.mirrorWave w))

/-- The second recomputes the roster from the mirrored results and compares digests; a mismatch is counted, raises a Degrade
and starts a copy (R366, R374). -/
def State.mirrorClose (digest : Nat) (s : State) : State :=
  let plan := match s.twin.sweep with | some x => x.1 | none => 0
  let coils := s.twin.sweepCoils
  let res : SweepResult := { plan := plan, coils := coils, results := mergeResults coils s.abortedCoil s.twin.sweepRes }
  let s : State := { s with twin := { s.twin with sweep := none, sweepCoils := [], sweepRes := [], lit := [] }, sweeps := { s.sweeps with held := s.sweeps.held ++ [res] } }
  let s := s.closeHeld 8
  if s.roster.digest = digest then s
  else
    let s := ({ s with twin := { s.twin with mismatches := s.twin.mismatches + 1 } }).raiseFault .field 9 4 2 []
    (s.beginCopy.sendHello .twin).sendPair

/-- M_CLOSE (R366). -/
def execMClose (f : List Byte) (gen digest : Nat) (s : State) : Result :=
  .next (s.receive .twin 0x82 f fun s => if gen = s.roster.gen then s else s.mirrorClose digest)

/-- M_COUNTER (R365, R373). -/
def execMCounter (f : List Byte) (slot : Fin 16) (ctr : Nat) (s : State) : Result :=
  .next (s.receive .twin 0x83 f fun s =>
    let s := s.modCmdSlot slot.val fun k => { k with last := max k.last ctr }
    { s with twin := { s.twin with counters := s.twin.counters ++ [(slot.val, ctr)] } })

/-- A mirrored reservation is programmed (R365). -/
def State.mirrorReserve (r : ReserveMsg) (s : State) : State :=
  match r.kind with
  | 0 => ({ s with journal := { s.journal with esnLimit := r.first + 65536 } }).logEntry 3 0 r.first
  | 1 => (s.modCmdSlot r.slot fun k => { k with reserved := r.first + 4096 }).logEntry 4 r.slot r.first
  | _ => { s with journal := { s.journal with offLimit := r.first + 4194304 }, nvm := s.nvm.anchorAdd 1 r.first s.journal.esn }

/-- M_RESERVE (R365). -/
def execMReserve (f : List Byte) (r : ReserveMsg) (s : State) : Result := .next (s.receive .twin 0x84 f (State.mirrorReserve r))

/-- The change that closes another. -/
def closesChange (c d : ChangeMsg) : Bool := decide (c.kind = d.kind) && decide (c.handle = d.handle) && (decide (c.kind ≠ 4) || decide (c.ca = d.ca))

/-- M_INFLIGHT (R365, R373). -/
def execMInflight (f : List Byte) (c : ChangeMsg) (s : State) : Result :=
  .next (s.receive .twin 0x85 f fun s =>
    let rest := s.twin.inflight.filter fun d => !(closesChange c d.1)
    let s : State := if ¬ c.opened ∧ c.kind = 3 ∧ c.what ≥ 256 then
        { s with keys := { s.keys with verified := Tab.set 0 s.keys.verified (c.handle % 131072) (c.what / 256) } } else s
    { s with twin := { s.twin with inflight := if c.opened then rest ++ [(c, s.twin.mirrorEsn)] else rest } })

/-- M_SERVICE (R365, R372). -/
def execMService (f : List Byte) (c : ChangeMsg) (s : State) : Result :=
  .next (s.receive .twin 0x86 f fun s =>
    let rest := s.twin.services.filter fun d => !(closesChange c d)
    { s with twin := { s.twin with services := if c.opened then rest ++ [c] else rest } })

/-- Key material arrives: kinds 0 to 3, an issuer's payload (4), the twin key (5). -/
def State.mirrorKey (kind slot : Nat) (m : List Byte) (s : State) : State :=
  match kind with
  | 5 => match s.unwrapped m with
    | some k => { s with twin := { s.twin with key := k } }
    | none => s
  | 4 =>
    if m = [] then { s with keys := { s.keys with issuers := Tab.set {} s.keys.issuers slot {} } }
    else
      let n := curveLen (fieldLE m 1 1)
      let is : Issuer := { curve := fieldLE m 1 1, proto := fieldLE m 2 1, pfx := fieldLE m 4 2, mask := fieldLE m 6 2,
                           x := beNat (sliceBytes m 9 n), y := beNat (sliceBytes m (9 + n) n) }
      { s with keys := { s.keys with issuers := Tab.set {} s.keys.issuers slot is } }
  | _ => match s.unwrapped m with
    | some k => ({ s with keys := { s.keys with store := Tab.set [] s.keys.store (256 * kind + slot) k } }).keySector kind
    | none => s

/-- A UID enters or leaves the quarantine list as the lead's did. -/
def State.mirrorQuarantine (t : TagId) (add : Bool) (s : State) : State :=
  let rest := s.keys.quarantine.filter (· ≠ t)
  { s with keys := { s.keys with quarantine := if add then rest ++ [t] else rest } }

/-- M_KEYS (R365). -/
def execMKeys (f : List Byte) (m : KeysMsg) (s : State) : Result :=
  .next (s.receive .twin 0x87 f fun s =>
    match m with
    | .key kind slot mat => s.mirrorKey kind slot mat
    | .quarantine t add => s.mirrorQuarantine t add
    | .attempt t fails pending => s.setAttempt { tag := t, fails := fails, pending := pending })

/-- A mirrored setting, with what follows it (R365). -/
def State.mirrorSetting (idx sub : Nat) (v : List Byte) (s : State) : State :=
  if idx = 0x1011 then s.restoreDefaults
  else if idx = 0x2401 then s.writeDoorGroup (sub - 1) v
  else match findObj idx sub with
    | some o => if (o.access = .rw ∨ o.access = .rws) ∧ o.valueOk v then s.putObj o idx sub v else s
    | none => s

/-- M_DICT (R365): a value is taken, an action of the lead is not repeated, and a STORE runs here too. -/
def execMDict (f : List Byte) (m : DictMsg) (s : State) : Result :=
  .next (s.receive .twin 0x88 f fun s =>
    match m with
    | .write idx sub v => s.mirrorSetting idx sub v
    | .store => s.storeSettings.2)

/-- A mirrored store offset: what every required store holds is released here too (R326, R365). -/
def State.mirrorStore (k off : Nat) (s : State) : State :=
  (s.modStore k fun x => { ack := off, send := if offBelow x.send off then off else x.send, known := off }).release

/-- M_HOST (R365, R372). -/
def execMHost (f : List Byte) (m : HostMsg) (s : State) : Result :=
  .next (s.receive .twin 0x89 f fun s =>
    match m with
    | .subscribe p mask => (s.setObserver p mask).2
    | .eventAck p esn => s.ackEvents p esn
    | .storeAck k off => s.mirrorStore k off)

/-- M_POWER (R365, R422): acknowledged at once, and the second enters the same state. -/
def execMPower (f : List Byte) (curfew : Bool) (s : State) : Result :=
  .next (s.receive .twin 0x8A f fun s => (((s.sendAck .twin).saveTs).porterStop).powerDown curfew)

/-! ### Pairing, the copy, roles (R362, R363, R374, R375) -/

/-- A paired module goes on by its role (R363, R374). -/
def State.pairedNow (s : State) : State :=
  let s : State := { s with twin := { s.twin with paired := true } }
  if s.twin.role = 1 then s.startCopy
  else if s.twin.role = 2 ∧ s.twin.state ≠ 4 ∧ s.twin.state ≠ 3 ∧ s.fltF.calm then s.beginCopy
  else s

/-- A module that does not pair raises a Degrade (R360, R362); a lead runs solo. -/
def State.unpaired (s : State) : State :=
  let s := s.goSolo
  let st := if s.twin.role = 1 then 5 else if s.twin.role = 2 ∧ s.twin.state ≠ 7 then 2 else s.twin.state
  ({ s with twin := { s.twin with paired := false, state := st } }).raiseFault .field 9 1 2 []

/-- PAIR (R362). -/
def execPair (f : List Byte) (s : State) : Result :=
  .next (s.receive .twin 0x95 f fun s =>
    if s.twin.posBad then s
    else if s.twin.key ≠ [] ∧ sliceBytes f 8 8 = pairMac s.twin.key s.twin.nonce s.twin.peerEsn then s.pairedNow
    else s.unpaired)

/-- A part of the copy (R374). -/
def State.copyPart (s : State) (p : ResyncPart) : State :=
  match p with
  | .counter k l => s.modCmdSlot k fun x => { x with last := l }
  | .reserve r => s.mirrorReserve r
  | .key kind slot m => s.mirrorKey kind slot m
  | .attempt t fails pending => s.setAttempt { tag := t, fails := fails, pending := pending }
  | .record r => if s.journal.ring.any (fun q => decide (q.esn = r.esn)) then s else s.mirrorRecord r
  | .roster gen fresh => { s with roster := { s.roster with gen := gen, fresh := fresh } }
  | .released l => { s with roster := { s.roster with released := s.roster.released ++ l } }
  | .igens l => { s with roster := { s.roster with igens := s.roster.igens ++ l } }
  | .entry i b => s.setEntry i (Entry.ofBytes b)
  | .quarantine t => s.mirrorQuarantine t true
  | .verified i slot => { s with keys := { s.keys with verified := Tab.set 0 s.keys.verified i slot } }
  | .setting idx sub v => s.mirrorSetting idx sub v
  | .last => { s with twin := { s.twin with state := 4, resyncs := s.twin.resyncs + 1 } }

/-- RESYNC_DATA (R374): a second whose faults are acknowledged takes the copy; its last part makes it ready. -/
def execResyncData (f : List Byte) (parts : List ResyncPart) (s : State) : Result :=
  .next (s.receive .twin 0xA0 f fun s =>
    if s.fltF.calm = false then s
    else
      let s := if s.twin.state = 3 then s else s.beginCopy
      parts.foldl State.copyPart s)

/-- The module becomes second (R363). -/
def State.becomeSecond (s : State) : State :=
  let s : State := { s with twin := { s.twin with role := 2, state := 2 } }
  if s.twin.paired then s.beginCopy else s

/-- ROLE_DECISION (R363), by the first rule that applies; position B without a link waits as second until its row at
1,000 ms. -/
def execRoleDecision (roleIn : Bool) (s : State) : Result :=
  if s.twin.state ≠ 1 then .next s
  else
    let t := s.twin
    let s : State := { s with twin := { s.twin with roleIn := roleIn } }
    let own := s.journal.esn - 1
    let lead := (t.paired && (decide (own > t.peerEsn) || (decide (own = t.peerEsn) && t.posA))) ||
      (!t.paired && !s.linkT.up && (t.posA || decide (t.role = 2)))
    if roleIn then .next s.becomeSecond
    else if lead then .next s.takeRole.leadReady
    else if t.paired then .next s.becomeSecond
    else if s.linkT.up then .next s
    else .next { s with twin := { s.twin with role := 2 } }

/-- YIELD (R363, R374): ROLE_IN rises while this module holds the role; two lines that rise within 10 us leave it to
position A, and B becomes second without a fault. -/
def execYield (s : State) : Result :=
  if s.twin.role ≠ 1 then .next { s with twin := { s.twin with roleIn := true } }
  else
    let s : State := { s with twin := { s.twin with roleIn := true } }
    if s.tb.ts ≤ s.twin.roleTs + 10 then (if s.twin.posA then .next s else .next (s.yieldLead true))
    else .next (s.yieldLead false)

/-- HANDOVER_ABANDONED (R375): no boundary within 5 s. -/
def execHandoverAbandoned (s : State) : Result :=
  if ¬ s.twin.handing then .next s else .next (({ s with twin := { s.twin with handing := false } }).commit 6 13 [])

end Sys2Proof.Machine
end

