-- ==== Sys2Proof/Machine/Links.lean ====
section
/-!
DEFINITION. The rows of the message links: link control, supervision, and the Porter's messages (R22 to R30, R39, R43, R324,
R326, R374, R393, R476).
-/

namespace Sys2Proof.Machine

open Sys2Proof

/-! ### Link control (R28, R30, R362) -/

/-- The peer's LINK_HELLO over the twin link: its nonce and last committed ESN. A wrong position raises a Degrade once; a
module without a twin key does not pair (R360, R362). -/
def State.twinHello (nonce : List Byte) (esn : Nat) (posA : Bool) (s : State) : State :=
  let new := decide (s.twin.peerNonce ≠ nonce)
  let s : State := { s with twin := { s.twin with peerNonce := nonce, peerEsn := esn } }
  if posA ≠ s.twin.posA then
    if s.twin.posBad then s
    else ({ s with twin := { s.twin with posBad := true, paired := false } }).raiseFault .field 9 2 2 []
  else
    let s : State := { s with twin := { s.twin with posBad := false } }
    if s.twin.paired ∧ ¬ new then s else if s.twin.key = [] then s.unpaired else s.sendPair

/-- LINK_HELLO (R30): traffic for supervision; over the twin link it opens pairing (R362). -/
def execLinkHello (l : LinkEnd) (f : List Byte) (pos : Option Bool) (s : State) : Result :=
  .next (s.receive l 1 f fun s =>
    if l = .twin then s.twinHello (sliceBytes f 8 8) (payloadLE f 8 8) (pos.getD s.twin.posA) else s)

/-- HELLO_PERIOD (R30): a side has nothing to send while its queue is empty, and while the link is lost, when what it holds
stays held. -/
def execHelloPeriod (l : LinkEnd) (s : State) : Result :=
  if s.endRuns l ∧ ((s.link l).queue = [] ∨ (s.link l).up = false) then .next (s.sendHello l) else .next s

/-- Messages that the peer holds leave the window; over the twin link each lets go what waited for it (R28, R365). -/
def State.acknowledged (l : LinkEnd) (next : Nat) (s : State) : State :=
  let w := (s.link l).window
  let k := ackedCount w next
  let s := s.modLink l fun x => { x with window := x.window.drop k }
  if l = .twin then (w.take k).foldl (fun s m => s.mirrored m.body) s else s

/-- The value of a LINK_ACK (R28): it frees the window, and a value repeated while messages are outstanding starts a
retransmission. -/
def State.takeAck (l : LinkEnd) (next : Nat) (s : State) : State :=
  let before := s.link l
  let s := s.acknowledged l next
  let s := s.modLink l fun x => { x with lastAck := some next }
  let s := s.pump l (s.link l).queue.length
  if ackedCount before.window next = 0 ∧ before.window ≠ [] ∧ before.lastAck = some next then s.retransmit l else s

/-- LINK_ACK (R28). -/
def execLinkAck (l : LinkEnd) (f : List Byte) (s : State) : Result := .next (s.receive l 2 f (State.takeAck l (payloadLE f 0 2)))

/-- ACK_PERIOD (R28). -/
def execAckPeriod (l : LinkEnd) (s : State) : Result := if s.endRuns l ∧ (s.link l).owe then .next (s.sendAck l) else .next s

/-- RETRANSMIT_TIMEOUT (R28). -/
def execRetransmitTimeout (l : LinkEnd) (s : State) : Result :=
  if s.endRuns l ∧ (s.link l).up then .next (s.retransmit l) else .next s

/-- The twin link is lost (R367, R374): a lead goes solo, and a second is not ready. -/
def State.twinLost (s : State) : State :=
  let s : State := { s with twin := { s.twin with paired := false } }
  if s.twin.role = 2 ∧ s.twin.state ≠ 7 then { s with twin := { s.twin with state := 2 } } else s.goSolo

/-- Every request that waits for its answer over the Porter is refused PORTER_DOWN (R23). -/
def State.refuseProxied (s : State) : State :=
  let ps := s.proxied
  ps.foldl (fun s p => s.reply (.unit p.peer p.unit (match p.q with
    | some q => dictUnit p.rid q Status.porterDown.code []
    | none => unitBytes 0x83 p.rid (rspBody (p.unit.drop 8) .porterDown none)))) { s with proxied := [] }

/-- LINK_LOST (R30): a Porter end raises a Degrade, whose record is the journalled loss (R499); on the host side the proxied
requests not yet answered are refused (R23). -/
def execLinkLost (l : LinkEnd) (s : State) : Result :=
  if ¬ s.endRuns l ∨ ¬ (s.link l).up then .next s
  else
    let s := s.modLink l fun x => { x with up := false, losses := x.losses + 1 }
    match l with
    | .porterField => .next (s.raiseFault .field 8 1 2 [])
    | .porterHost => .next (({ s.refuseProxied with carrying := [] } : State).raiseFault .host 8 1 2 [])
    | .twin => .next s.twinLost

/-- The field side sends again all events above the last that the host side acknowledged, and the journal records that a
store still lacks, in place of those that wait (R30). -/
def State.resendAll (s : State) : State :=
  let s := s.modLink .porterField fun x => { x with queue := x.queue.filter fun q => decide (q.1 ≠ 0x20 ∧ q.1 ≠ 0x30) }
  let s := (s.journal.ring.filter fun r => decide (r.esn > s.journal.hostEsn ∧ r.group ≠ 0)).foldl
    (fun s r => s.send .porterField 0x20 (.event r)) s
  s.journal.ring.foldl (fun s r => s.send .porterField 0x30 (.journal [r])) s

/-- Messages needed for the retransmission are no longer held: the sides go on at the current values (R30). -/
def State.resyncCurrent (l : LinkEnd) (rx : Nat) (s : State) : State :=
  let s := s.modLink l fun x => { x with window := [], nextTx := if (x.nextTx + 65536 - rx) % 65536 ≤ 32 then rx else x.nextTx }
  if l = .porterField then s.resendAll else s

/-- A resynchronisation (R30): the peer's next SEQ is expected unless the peer still holds what is missing, and this side
sends again from the value that its peer expects. A STORE's combined result shows afterwards (R294). -/
def State.resyncAt (l : LinkEnd) (tx rx : Nat) (s : State) : State :=
  let s := s.modLink l fun x =>
    { x with resyncs := x.resyncs + 1, lastAck := none, expRx := if (tx + 65536 - x.expRx) % 65536 > 32 then tx else x.expRx }
  let w := (s.link l).window
  let holds := match w with
    | m :: _ => decide ((rx + 65536 - m.seq) % 65536 ≤ w.length)
    | [] => decide (rx = (s.link l).nextTx)
  let s := if holds then (s.acknowledged l rx).retransmit l else s.resyncCurrent l rx
  let s := s.pump l (s.link l).queue.length
  match s.settings.waitResult with
  | some r => if l = .porterHost then s.storeShow r else s
  | none => s

/-- LINK_RESYNC (R30). -/
def execLinkResync (l : LinkEnd) (f : List Byte) (s : State) : Result :=
  .next (s.receive l 3 f (State.resyncAt l (payloadLE f 0 4 % 65536) (payloadLE f 4 4 % 65536)))

/-! ### Dictionary and commands over the Porter (R22, R23, R43) -/

/-- A proxied request served on the field side (R22). -/
def State.serveProxied (peer : Peer) (rid : Nat) (q : DictReq) (s : State) : State :=
  match q with
  | .read idx sub =>
    if ¬ fieldIndex idx then s.reply (.porter 0x11 (.dictRsp peer rid q Status.noObject.code []))
    else
      let (st, v, s) := s.dictRead idx sub
      s.reply (.porter 0x11 (.dictRsp peer rid q st.code v))
  | .write idx sub v =>
    if ¬ fieldIndex idx then s.reply (.porter 0x11 (.dictRsp peer rid q Status.noObject.code []))
    else
      let (st, key, s) := s.writeFor (decide (peer = .spi)) idx sub v
      s.replyAfter key (.porter 0x11 (.dictRsp peer rid q st.code []))

/-- DICT_REQ (R22). -/
def execDictReq (f : List Byte) (peer : Peer) (rid : Nat) (q : DictReq) (s : State) : Result :=
  .next (s.receive .porterField 0x10 f (State.serveProxied peer rid q))

/-- DICT_RSP (R23): the request that waits for it is answered. -/
def execDictRsp (f : List Byte) (peer : Peer) (rid : Nat) (q : DictReq) (status : Nat) (val : List Byte) (s : State) : Result :=
  .next (s.receive .porterHost 0x11 f (State.proxyAnswer peer rid (some q) (dictUnit rid q status val)))

/-- CMD_REQ (R43). -/
def execCmdReq (f : List Byte) (c : CmdIn) (s : State) : Result := .next (s.receive .porterField 0x12 f (State.command c true))

/-- CMD_RSP (R25, R43): the response body goes on unchanged. -/
def execCmdRsp (f : List Byte) (peer : Peer) (rid : Nat) (s : State) : Result :=
  .next (s.receive .porterHost 0x13 f (State.proxyAnswer peer rid none (unitBytes 0x83 rid (framePayload f))))

/-! ### Events and journal records over the Porter (R30, R39, R324, R326) -/

/-- Events arrive at the host side: those it has not had yet reach the observers, and the newest is acknowledged (R30, R39). -/
def State.hostEvents (recs : List JRec) (s : State) : State :=
  let new := recs.filter fun r => decide (r.esn > s.journal.seen)
  let top := new.foldl (fun m r => max m r.esn) s.journal.seen
  let s : State := { s with journal := { s.journal with seen := top } }
  (s.notifyAll new).send .porterHost 0x21 (.eventAck top)

/-- PORTER_EVENT (R39). -/
def execPorterEvent (f : List Byte) (recs : List JRec) (s : State) : Result :=
  .next (s.receive .porterHost 0x20 f (State.hostEvents recs))

/-- PORTER_EVENT_ACK (R30). -/
def execPorterEventAck (f : List Byte) (esn : Nat) (s : State) : Result :=
  .next (s.receive .porterField 0x21 f fun s => { s with journal := { s.journal with hostEsn := max s.journal.hostEsn esn } })

/-- Journal records arrive at the host side and are streamed (R324). -/
def State.hostRecords (recs : List JRec) (s : State) : State :=
  let new := recs.filter fun r => !(s.journal.stream.any fun x => decide (x.esn = r.esn))
  ({ s with journal := { s.journal with stream := s.heldRecords ++ new } }).streamAll

/-- PORTER_JOURNAL (R324). -/
def execPorterJournal (f : List Byte) (s : State) : Result :=
  .next (s.receive .porterHost 0x30 f (State.hostRecords (frameRecords f)))

/-- A store's acknowledged offset as the field side learns it (R326). -/
def State.storeKnown (k off : Nat) (s : State) : State :=
  if ¬ storeEnabled s k ∨ k > 3 ∨ offBelow off (s.store k).known then s
  else (s.modStore k fun x => { x with known := off }).release

/-- PORTER_JOURNAL_ACK (R326). -/
def execPorterJournalAck (f : List Byte) (store off : Nat) (s : State) : Result :=
  .next (s.receive .porterField 0x31 f (State.storeKnown store off))

/-! ### Power, time, reports, faults, echoes -/

/-- A role change reaches the host side (R374): the service address is taken or left. -/
def State.hostRole (lead : Bool) (s : State) : State :=
  if lead then (if s.ring.service then s else s.gainService)
  else { s with ring := { s.ring with service := false, arps := 0 } }

/-- POWER_STATE (R374, R412): the exchange before a sleep state runs within the row that enters it. -/
def execPowerState (f : List Byte) (l : LinkEnd) (m : PowerMsg) (s : State) : Result :=
  .next (s.receive l 0x40 f fun s =>
    match m with
    | .role lead => if l = .porterHost then s.hostRole lead else s
    | .exchange => s)

/-- TIME (R25). -/
def execTime (f : List Byte) (ts : Nat) (s : State) : Result := .next (s.receive .porterHost 0x41 f fun s => { s with hostTs := ts })

/-- A part of a report is carried unchanged; a report that is whole, as its count of records says, is pushed to the
subscribers (R43, R196, R197). -/
def State.carryReport (b : List Byte) (s : State) : State :=
  let all := s.carrying ++ b
  let n := 24 + 24 * fieldLE all 8 4
  if all.length < n then { s with carrying := all }
  else
    let s : State := { s with carrying := [], carried := all.take n }
    (s.observers.map (·.peer)).foldl (fun s p => s.when s.serving (State.emit (.report p (all.take n)))) s

/-- REPORT (R43). -/
def execReport (f : List Byte) (s : State) : Result :=
  .next (s.receive .porterHost 0x50 f (State.carryReport (framePayload f)))

/-- FAULT (R393): the host side keeps the last 64 records, and the field side journals those of the host side. -/
def execFaultMsg (l : LinkEnd) (f : List Byte) (s : State) : Result :=
  .next (s.receive l 0x60 f fun s =>
    match l with
    | .porterHost => { s with records := (s.records ++ [framePayload f]).drop (s.records.length + 1 - 64) }
    | _ => s.journalFault .host (framePayload f))

/-- PORTER_ECHO (R476): returned unchanged; at the sender's own end during the depth 6 loop-back it has come back. -/
def execPorterEcho (l : LinkEnd) (f : List Byte) (s : State) : Result :=
  .next (s.receive l 0x7F f fun s =>
    if s.calib.loop = 1 ∧ s.calib.loopDepth = 6 then s.modLink l fun x => { x with echoes := x.echoes + 1 } else s.echoBack l f)

end Sys2Proof.Machine
end

