-- ==== Sys2Proof/Machine/Dispatch.lean ====
section
/-!
DEFINITION. The meaning of every command: one arm per constructor of Instr, each a direct call of its meaning.
-/

namespace Sys2Proof.Machine

open Sys2Proof

def exec (i : Instr) (s : State) : Host.Outcome State Fault Refusal :=
  match i with
  | .linkHello l f pos => Sys2Proof.Machine.execLinkHello l f pos s
  | .helloPeriod l => Sys2Proof.Machine.execHelloPeriod l s
  | .linkAck l f => Sys2Proof.Machine.execLinkAck l f s
  | .ackPeriod l => Sys2Proof.Machine.execAckPeriod l s
  | .retransmitTimeout l => Sys2Proof.Machine.execRetransmitTimeout l s
  | .linkLost l => Sys2Proof.Machine.execLinkLost l s
  | .linkResync l f => Sys2Proof.Machine.execLinkResync l f s
  | .dictReq f peer rid q => Sys2Proof.Machine.execDictReq f peer rid q s
  | .dictRsp f peer rid q status val => Sys2Proof.Machine.execDictRsp f peer rid q status val s
  | .cmdReq f c => Sys2Proof.Machine.execCmdReq f c s
  | .cmdRsp f peer rid => Sys2Proof.Machine.execCmdRsp f peer rid s
  | .porterEvent f recs => Sys2Proof.Machine.execPorterEvent f recs s
  | .porterEventAck f esn => Sys2Proof.Machine.execPorterEventAck f esn s
  | .porterJournal f => Sys2Proof.Machine.execPorterJournal f s
  | .porterJournalAck f store off => Sys2Proof.Machine.execPorterJournalAck f store off s
  | .powerState f l m => Sys2Proof.Machine.execPowerState f l m s
  | .time f ts => Sys2Proof.Machine.execTime f ts s
  | .report f => Sys2Proof.Machine.execReport f s
  | .faultMsg l f => Sys2Proof.Machine.execFaultMsg l f s
  | .porterEcho l f => Sys2Proof.Machine.execPorterEcho l f s
  | .tbcclRead => Sys2Proof.Machine.execTbcclRead s
  | .tsSave => Sys2Proof.Machine.execTsSave s
  | .referenceChange r => Sys2Proof.Machine.execReferenceChange r s
  | .zeroCrossEdge after => Sys2Proof.Machine.execZeroCrossEdge after s
  | .freeRunning => Sys2Proof.Machine.execFreeRunning s
  | .mainsReport present => Sys2Proof.Machine.execMainsReport present s
  | .mainsCycleEnd => Sys2Proof.Machine.execMainsCycleEnd s
  | .select t => Sys2Proof.Machine.execSelect t s
  | .shape t => Sys2Proof.Machine.execShape t s
  | .emit t => Sys2Proof.Machine.execEmit t s
  | .listen t => Sys2Proof.Machine.execListen t s
  | .exchange t => Sys2Proof.Machine.execExchange t s
  | .waitStage t => Sys2Proof.Machine.execWaitStage t s
  | .meet t => Sys2Proof.Machine.execMeet t s
  | .meetRelease mask obs => Sys2Proof.Machine.execMeetRelease mask obs s
  | .branch t => Sys2Proof.Machine.execBranch t s
  | .defer t => Sys2Proof.Machine.execDefer t s
  | .verdict t w => Sys2Proof.Machine.execVerdict t w s
  | .post t => Sys2Proof.Machine.execPost t s
  | .callStage t => Sys2Proof.Machine.execCallStage t s
  | .returnStage t => Sys2Proof.Machine.execReturnStage t s
  | .mark t => Sys2Proof.Machine.execMark t s
  | .sense t => Sys2Proof.Machine.execSense t s
  | .calib t => Sys2Proof.Machine.execCalib t s
  | .halt t => Sys2Proof.Machine.execHalt t s
  | .tout t => Sys2Proof.Machine.execTout t s
  | .resourceWaitEnd t => Sys2Proof.Machine.execResourceWaitEnd t s
  | .horizonEnd t => Sys2Proof.Machine.execHorizonEnd t s
  | .heldRelease t => Sys2Proof.Machine.execHeldRelease t s
  | .qpop t => Sys2Proof.Machine.execQpop t s
  | .qflush t => Sys2Proof.Machine.execQflush t s
  | .start t entry => Sys2Proof.Machine.execStart t entry s
  | .stop t => Sys2Proof.Machine.execStop t s
  | .abort t => Sys2Proof.Machine.execAbort t s
  | .acknowledgePulse p => Sys2Proof.Machine.execAcknowledgePulse p s
  | .selectorSettle t => Sys2Proof.Machine.execSelectorSettle t s
  | .budgetAdmission => Sys2Proof.Machine.execBudgetAdmission s
  | .rampEnd x => Sys2Proof.Machine.execRampEnd x s
  | .trainingComplete f depth range ci cq => Sys2Proof.Machine.execTrainingComplete f depth range ci cq s
  | .feederAbsent f ma => Sys2Proof.Machine.execFeederAbsent f ma s
  | .feederShort f => Sys2Proof.Machine.execFeederShort f s
  | .feederOverload f ma => Sys2Proof.Machine.execFeederOverload f ma s
  | .feederFenced f fwd refl => Sys2Proof.Machine.execFeederFenced f fwd refl s
  | .feederRecovery f ma => Sys2Proof.Machine.execFeederRecovery f ma s
  | .aboveCap x mw => Sys2Proof.Machine.execAboveCap x mw s
  | .powerAtZero x mw => Sys2Proof.Machine.execPowerAtZero x mw s
  | .peakTimeTick => Sys2Proof.Machine.execPeakTimeTick s
  | .heatsinkSample sink amb => Sys2Proof.Machine.execHeatsinkSample sink amb s
  | .sof t out dec m => Sys2Proof.Machine.execSof t out dec m s
  | .frameReceived t r0 r1 alts e => Sys2Proof.Machine.execFrameReceived t r0 r1 alts e s
  | .windowClose t => Sys2Proof.Machine.execWindowClose t s
  | .impulseMark m => Sys2Proof.Machine.execImpulseMark m s
  | .markEnd f => Sys2Proof.Machine.execMarkEnd f s
  | .mapClear v => Sys2Proof.Machine.execMapClear v s
  | .captureArm v => Sys2Proof.Machine.execCaptureArm v s
  | .captureTrigger => Sys2Proof.Machine.execCaptureTrigger s
  | .captureDone => Sys2Proof.Machine.execCaptureDone s
  | .apduStart v => Sys2Proof.Machine.execApduStart v s
  | .apduResult answers => Sys2Proof.Machine.execApduResult answers s
  | .templateWrite n v => Sys2Proof.Machine.execTemplateWrite n v s
  | .templateStart v => Sys2Proof.Machine.execTemplateStart v s
  | .templateResult answers g => Sys2Proof.Machine.execTemplateResult answers g s
  | .sweepStart p v => Sys2Proof.Machine.execSweepStart p v s
  | .sweepPeriod p => Sys2Proof.Machine.execSweepPeriod p s
  | .sweepBegin => Sys2Proof.Machine.execSweepBegin s
  | .sweepClose obs => Sys2Proof.Machine.execSweepClose obs s
  | .closeWaitEnd => Sys2Proof.Machine.execCloseWaitEnd s
  | .emptyRoster c => Sys2Proof.Machine.execEmptyRoster c s
  | .reportBuild v => Sys2Proof.Machine.execReportBuild v s
  | .reportReady => Sys2Proof.Machine.execReportReady s
  | .loadWrappedKey c => Sys2Proof.Machine.execLoadWrappedKey c s
  | .loadIssuerKey c => Sys2Proof.Machine.execLoadIssuerKey c s
  | .eraseSlot c => Sys2Proof.Machine.execEraseSlot c s
  | .releaseUid c => Sys2Proof.Machine.execReleaseUid c s
  | .securityStart v => Sys2Proof.Machine.execSecurityStart v s
  | .securityResult r => Sys2Proof.Machine.execSecurityResult r s
  | .failuresLeaveWindow tag => Sys2Proof.Machine.execFailuresLeaveWindow tag s
  | .burstEnd who bs => Sys2Proof.Machine.execBurstEnd who bs s
  | .senseSkipped who => Sys2Proof.Machine.execSenseSkipped who s
  | .holdOffEnd ca => Sys2Proof.Machine.execHoldOffEnd ca s
  | .doorGroupWrite g v => Sys2Proof.Machine.execDoorGroupWrite g v s
  | .doorHoldOffEnd ca => Sys2Proof.Machine.execDoorHoldOffEnd ca s
  | .lanternScan => Sys2Proof.Machine.execLanternScan s
  | .impulseRepeat => Sys2Proof.Machine.execImpulseRepeat s
  | .relearn v => Sys2Proof.Machine.execRelearn v s
  | .add k rd ra rb => Sys2Proof.Machine.execAdd k rd ra rb s
  | .sub k rd ra rb => Sys2Proof.Machine.execSub k rd ra rb s
  | .and k rd ra rb => Sys2Proof.Machine.execAnd k rd ra rb s
  | .or k rd ra rb => Sys2Proof.Machine.execOr k rd ra rb s
  | .xor k rd ra rb => Sys2Proof.Machine.execXor k rd ra rb s
  | .andn k rd ra rb => Sys2Proof.Machine.execAndn k rd ra rb s
  | .clt k rd ra rb => Sys2Proof.Machine.execClt k rd ra rb s
  | .cltu k rd ra rb => Sys2Proof.Machine.execCltu k rd ra rb s
  | .shl k rd ra sh => Sys2Proof.Machine.execShl k rd ra sh s
  | .shr k rd ra sh => Sys2Proof.Machine.execShr k rd ra sh s
  | .shra k rd ra sh => Sys2Proof.Machine.execShra k rd ra sh s
  | .shlr k rd ra rb => Sys2Proof.Machine.execShlr k rd ra rb s
  | .shrr k rd ra rb => Sys2Proof.Machine.execShrr k rd ra rb s
  | .shrar k rd ra rb => Sys2Proof.Machine.execShrar k rd ra rb s
  | .mul k ra rb => Sys2Proof.Machine.execMul k ra rb s
  | .mulu k ra rb => Sys2Proof.Machine.execMulu k ra rb s
  | .mac k ra rb => Sys2Proof.Machine.execMac k ra rb s
  | .macu k ra rb => Sys2Proof.Machine.execMacu k ra rb s
  | .productWrite k => Sys2Proof.Machine.execProductWrite k s
  | .rdph k rd => Sys2Proof.Machine.execRdph k rd s
  | .rdpl k rd => Sys2Proof.Machine.execRdpl k rd s
  | .wrph k ra => Sys2Proof.Machine.execWrph k ra s
  | .wrpl k ra => Sys2Proof.Machine.execWrpl k ra s
  | .jmpr k ra => Sys2Proof.Machine.execJmpr k ra s
  | .jmpf k ra => Sys2Proof.Machine.execJmpf k ra s
  | .callr k ra => Sys2Proof.Machine.execCallr k ra s
  | .ret k => Sys2Proof.Machine.execRet k s
  | .addi k rd ra imm => Sys2Proof.Machine.execAddi k rd ra imm s
  | .andi k rd ra imm => Sys2Proof.Machine.execAndi k rd ra imm s
  | .ori k rd ra imm => Sys2Proof.Machine.execOri k rd ra imm s
  | .xori k rd ra imm => Sys2Proof.Machine.execXori k rd ra imm s
  | .clti k rd ra imm => Sys2Proof.Machine.execClti k rd ra imm s
  | .cltiu k rd ra imm => Sys2Proof.Machine.execCltiu k rd ra imm s
  | .ldhi k rd imm => Sys2Proof.Machine.execLdhi k rd imm s
  | .ldw k rd ra imm => Sys2Proof.Machine.execLdw k rd ra imm s
  | .ldh k rd ra imm => Sys2Proof.Machine.execLdh k rd ra imm s
  | .ldhu k rd ra imm => Sys2Proof.Machine.execLdhu k rd ra imm s
  | .ldb k rd ra imm => Sys2Proof.Machine.execLdb k rd ra imm s
  | .ldbu k rd ra imm => Sys2Proof.Machine.execLdbu k rd ra imm s
  | .stw k rd ra imm => Sys2Proof.Machine.execStw k rd ra imm s
  | .sth k rd ra imm => Sys2Proof.Machine.execSth k rd ra imm s
  | .stb k rd ra imm => Sys2Proof.Machine.execStb k rd ra imm s
  | .ldfw k rd ra imm => Sys2Proof.Machine.execLdfw k rd ra imm s
  | .stfw k rd ra imm => Sys2Proof.Machine.execStfw k rd ra imm s
  | .beq k ra rb disp => Sys2Proof.Machine.execBeq k ra rb disp s
  | .bne k ra rb disp => Sys2Proof.Machine.execBne k ra rb disp s
  | .blt k ra rb disp => Sys2Proof.Machine.execBlt k ra rb disp s
  | .bge k ra rb disp => Sys2Proof.Machine.execBge k ra rb disp s
  | .bltu k ra rb disp => Sys2Proof.Machine.execBltu k ra rb disp s
  | .bgeu k ra rb disp => Sys2Proof.Machine.execBgeu k ra rb disp s
  | .jmp k disp => Sys2Proof.Machine.execJmp k disp s
  | .call k disp => Sys2Proof.Machine.execCall k disp s
  | .rdsr k rd sr => Sys2Proof.Machine.execRdsr k rd sr s
  | .wrsr k ra sr => Sys2Proof.Machine.execWrsr k ra sr s
  | .lck k => Sys2Proof.Machine.execLck k s
  | .ulk k => Sys2Proof.Machine.execUlk k s
  | .lockovr k => Sys2Proof.Machine.execLockovr k s
  | .trap k code => Sys2Proof.Machine.execTrap k code s
  | .rfe k => Sys2Proof.Machine.execRfe k s
  | .wait k => Sys2Proof.Machine.execWait k s
  | .brk k => Sys2Proof.Machine.execBrk k s
  | .interrupt k => Sys2Proof.Machine.execInterrupt k s
  | .guestPage v => Sys2Proof.Machine.execGuestPage v s
  | .guestActivate c => Sys2Proof.Machine.execGuestActivate c s
  | .guestStop => Sys2Proof.Machine.execGuestStop s
  | .enableCoreDebug c => Sys2Proof.Machine.execEnableCoreDebug c s
  | .debugExpiry => Sys2Proof.Machine.execDebugExpiry s
  | .debugHalt => Sys2Proof.Machine.execDebugHalt s
  | .resume => Sys2Proof.Machine.execResume s
  | .step => Sys2Proof.Machine.execStep s
  | .debugPeek a => Sys2Proof.Machine.execDebugPeek a s
  | .debugConsume a => Sys2Proof.Machine.execDebugConsume a s
  | .debugWrite a d => Sys2Proof.Machine.execDebugWrite a d s
  | .lockstepMismatch a => Sys2Proof.Machine.execLockstepMismatch a s
  | .performanceLevel level => Sys2Proof.Machine.execPerformanceLevel level s
  | .transitionEnd => Sys2Proof.Machine.execTransitionEnd s
  | .levelDrop => Sys2Proof.Machine.execLevelDrop s
  | .wdkick v => Sys2Proof.Machine.execWdkick v s
  | .watchdog => Sys2Proof.Machine.execWatchdog s
  | .scrub => Sys2Proof.Machine.execScrub s
  | .nvmProgramDone => Sys2Proof.Machine.execNvmProgramDone s
  | .nvmEraseDone verified => Sys2Proof.Machine.execNvmEraseDone verified s
  | .store v => Sys2Proof.Machine.execStore v s
  | .storeComplete fieldOk hostOk => Sys2Proof.Machine.execStoreComplete fieldOk hostOk s
  | .restoreDefaults v => Sys2Proof.Machine.execRestoreDefaults v s
  | .checkNewImage c => Sys2Proof.Machine.execCheckNewImage c s
  | .journalCheckpoint => Sys2Proof.Machine.execJournalCheckpoint s
  | .fieldReset => Sys2Proof.Machine.execFieldReset s
  | .hostReset => Sys2Proof.Machine.execHostReset s
  | .read u => Sys2Proof.Machine.execRead u s
  | .nextRecord peer rid => Sys2Proof.Machine.execNextRecord peer rid s
  | .write u => Sys2Proof.Machine.execWrite u s
  | .counterClear idx v => Sys2Proof.Machine.execCounterClear idx v s
  | .subscribe u => Sys2Proof.Machine.execSubscribe u s
  | .eventAck u => Sys2Proof.Machine.execEventAck u s
  | .eventResend peer => Sys2Proof.Machine.execEventResend peer s
  | .journalAck u => Sys2Proof.Machine.execJournalAck u s
  | .journalResend k => Sys2Proof.Machine.execJournalResend k s
  | .setRightsMask c => Sys2Proof.Machine.execSetRightsMask c s
  | .slotHoldEnd slot => Sys2Proof.Machine.execSlotHoldEnd slot s
  | .ringFrame p f => Sys2Proof.Machine.execRingFrame p f s
  | .wakeFrame p f => Sys2Proof.Machine.execWakeFrame p f s
  | .supervision backA backB => Sys2Proof.Machine.execSupervision backA backB s
  | .nodeForget mac => Sys2Proof.Machine.execNodeForget mac s
  | .entryForget mac seq => Sys2Proof.Machine.execEntryForget mac seq s
  | .linkUp p => Sys2Proof.Machine.execLinkUp p s
  | .linkDown p => Sys2Proof.Machine.execLinkDown p s
  | .hostReady => Sys2Proof.Machine.execHostReady s
  | .lowPowerIdle p => Sys2Proof.Machine.execLowPowerIdle p s
  | .ringLoopback v => Sys2Proof.Machine.execRingLoopback v s
  | .ringLoopbackEnd sent matched => Sys2Proof.Machine.execRingLoopbackEnd sent matched s
  | .addressChange => Sys2Proof.Machine.execAddressChange s
  | .serviceArp => Sys2Proof.Machine.execServiceArp s
  | .spiIdle sel frame both => Sys2Proof.Machine.execSpiIdle sel frame both s
  | .spiUnit sel frame both => Sys2Proof.Machine.execSpiUnit sel frame both s
  | .spiEcho sel frame both => Sys2Proof.Machine.execSpiEcho sel frame both s
  | .shiftRegisterEcho peer v => Sys2Proof.Machine.execShiftRegisterEcho peer v s
  | .echoDurationEnd => Sys2Proof.Machine.execEchoDurationEnd s
  | .heartbeatTick => Sys2Proof.Machine.execHeartbeatTick s
  | .heartbeat f => Sys2Proof.Machine.execHeartbeat f s
  | .heartbeatMissed => Sys2Proof.Machine.execHeartbeatMissed s
  | .haltIn => Sys2Proof.Machine.execHaltIn s
  | .fieldAbsent f => Sys2Proof.Machine.execFieldAbsent f s
  | .fieldQuery f feeder => Sys2Proof.Machine.execFieldQuery f feeder s
  | .fieldReply f feeder fwd commanded => Sys2Proof.Machine.execFieldReply f feeder fwd commanded s
  | .fieldQueryTimeout feeder => Sys2Proof.Machine.execFieldQueryTimeout feeder s
  | .mJournal f => Sys2Proof.Machine.execMJournal f s
  | .mWave f w => Sys2Proof.Machine.execMWave f w s
  | .mClose f gen digest => Sys2Proof.Machine.execMClose f gen digest s
  | .mCounter f slot ctr => Sys2Proof.Machine.execMCounter f slot ctr s
  | .mReserve f r => Sys2Proof.Machine.execMReserve f r s
  | .mInflight f c => Sys2Proof.Machine.execMInflight f c s
  | .mService f c => Sys2Proof.Machine.execMService f c s
  | .mKeys f m => Sys2Proof.Machine.execMKeys f m s
  | .mDict f m => Sys2Proof.Machine.execMDict f m s
  | .mHost f m => Sys2Proof.Machine.execMHost f m s
  | .mPower f curfew => Sys2Proof.Machine.execMPower f curfew s
  | .haltNotice f => Sys2Proof.Machine.execHaltNotice f s
  | .handover f => Sys2Proof.Machine.execHandover f s
  | .pair f => Sys2Proof.Machine.execPair f s
  | .resyncData f parts => Sys2Proof.Machine.execResyncData f parts s
  | .roleDecision roleIn => Sys2Proof.Machine.execRoleDecision roleIn s
  | .yield => Sys2Proof.Machine.execYield s
  | .mirrorTimeout => Sys2Proof.Machine.execMirrorTimeout s
  | .loadTwinKey c => Sys2Proof.Machine.execLoadTwinKey c s
  | .handOverLead c => Sys2Proof.Machine.execHandOverLead c s
  | .handoverAbandoned => Sys2Proof.Machine.execHandoverAbandoned s
  | .acknowledgeFaults v => Sys2Proof.Machine.execAcknowledgeFaults v s
  | .acknowledgeAnyLevel c => Sys2Proof.Machine.execAcknowledgeAnyLevel c s
  | .ack mask => Sys2Proof.Machine.execAck mask s
  | .caprel => Sys2Proof.Machine.execCaprel s
  | .releaseCapture v => Sys2Proof.Machine.execReleaseCapture v s
  | .fltqConsume => Sys2Proof.Machine.execFltqConsume s
  | .restartDelay d => Sys2Proof.Machine.execRestartDelay d s
  | .carrierOutOfTolerance ppm => Sys2Proof.Machine.execCarrierOutOfTolerance ppm s
  | .pllUnlock => Sys2Proof.Machine.execPllUnlock s
  | .railOutOfRange rail mv => Sys2Proof.Machine.execRailOutOfRange rail mv s
  | .injectFault c => Sys2Proof.Machine.execInjectFault c s
  | .mainsAbsent => Sys2Proof.Machine.execMainsAbsent s
  | .returnToMains => Sys2Proof.Machine.execReturnToMains s
  | .auxOutOfRange v10 => Sys2Proof.Machine.execAuxOutOfRange v10 s
  | .powerFailWarning => Sys2Proof.Machine.execPowerFailWarning s
  | .warningClear => Sys2Proof.Machine.execWarningClear s
  | .powerLoss => Sys2Proof.Machine.execPowerLoss s
  | .enterLantern => Sys2Proof.Machine.execEnterLantern s
  | .enterCurfew => Sys2Proof.Machine.execEnterCurfew s
  | .enterCurfewDiscarding => Sys2Proof.Machine.execEnterCurfewDiscarding s
  | .curfewWindowEnd levelEvent => Sys2Proof.Machine.execCurfewWindowEnd levelEvent s
  | .wake src => Sys2Proof.Machine.execWake src s
  | .wakeSymbol d => Sys2Proof.Machine.execWakeSymbol d s
  | .wakeFailure d => Sys2Proof.Machine.execWakeFailure d s
  | .brownout d => Sys2Proof.Machine.execBrownout d s
  | .padrel d mask => Sys2Proof.Machine.execPadrel d mask s
  | .sleep after => Sys2Proof.Machine.execSleep after s
  | .idle after => Sys2Proof.Machine.execIdle after s
  | .fsOn after => Sys2Proof.Machine.execFsOn after s
  | .rx after => Sys2Proof.Machine.execRx after s
  | .tx after urgent pri pkt => Sys2Proof.Machine.execTx after urgent pri pkt s
  | .calibrate => Sys2Proof.Machine.execCalibrate s
  | .calibrateNow v => Sys2Proof.Machine.execCalibrateNow v s
  | .transmitHead => Sys2Proof.Machine.execTransmitHead s
  | .leadEnd grant => Sys2Proof.Machine.execLeadEnd grant s
  | .coexRetry => Sys2Proof.Machine.execCoexRetry s
  | .packetSent airUs lossBad => Sys2Proof.Machine.execPacketSent airUs lossBad s
  | .settleEnd => Sys2Proof.Machine.execSettleEnd s
  | .synthesiserCalibrationDone => Sys2Proof.Machine.execSynthesiserCalibrationDone s
  | .temperatureSample c => Sys2Proof.Machine.execTemperatureSample c s
  | .backgroundCalibration iq abandoned imageDb => Sys2Proof.Machine.execBackgroundCalibration iq abandoned imageDb s
  | .lossOfLock => Sys2Proof.Machine.execLossOfLock s
  | .grantWithdrawn => Sys2Proof.Machine.execGrantWithdrawn s
  | .dutyBucket => Sys2Proof.Machine.execDutyBucket s
  | .sniffPeriod preamble => Sys2Proof.Machine.execSniffPeriod preamble s
  | .stfDetection opts => Sys2Proof.Machine.execStfDetection opts s
  | .phr hcsOk rate len => Sys2Proof.Machine.execPhr hcsOk rate len s
  | .xhr hcsOk addr gen => Sys2Proof.Machine.execXhr hcsOk addr gen s
  | .packetReceived p => Sys2Proof.Machine.execPacketReceived p s
  | .mapSetAck node => Sys2Proof.Machine.execMapSetAck node s
  | .mapReport node gen map => Sys2Proof.Machine.execMapReport node gen map s
  | .doorLinkLoopback v => Sys2Proof.Machine.execDoorLinkLoopback v s
  | .doorLinkLoopbackEnd matched => Sys2Proof.Machine.execDoorLinkLoopbackEnd matched s
  | .calibrationStart v => Sys2Proof.Machine.execCalibrationStart v s
  | .calibrationDue code target => Sys2Proof.Machine.execCalibrationDue code target s
  | .calibrationDone m => Sys2Proof.Machine.execCalibrationDone m s
  | .correctionStep => Sys2Proof.Machine.execCorrectionStep s
  | .commitCalibration c => Sys2Proof.Machine.execCommitCalibration c s
  | .hfLoopback v => Sys2Proof.Machine.execHfLoopback v s
  | .hfLoopbackEnd sent matched good => Sys2Proof.Machine.execHfLoopbackEnd sent matched good s
  | .registerWrite bank off v => Sys2Proof.Machine.execRegisterWrite bank off v s
  | .frameEnd t dur => Sys2Proof.Machine.execFrameEnd t dur s
  | .unassignedOpcode k w => Sys2Proof.Machine.execUnassignedOpcode k w s
  | .hbInEdge => Sys2Proof.Machine.execHbInEdge s
  | .heartbeatLineBroken => Sys2Proof.Machine.execHeartbeatLineBroken s
  | .collectorParityError => Sys2Proof.Machine.execCollectorParityError s

end Sys2Proof.Machine
end

