-- ==== Sys2Proof/Machine/Step.lean ====
section
/-!
DEFINITION. One step: the front command, or with an empty queue one tick of the carrier clock (log 1).
-/

namespace Sys2Proof.Machine

open Sys2Proof

/-- The command at the front of the queue has its effect on everything but the queue; an empty queue lets one carrier
tick of time pass (log 1). -/
def step (s : State) : Host.Outcome State Fault Refusal :=
  match s.pending with
  | [] => .next s.idle
  | c :: cs => exec c { s with pending := cs }

/-- The command that a table word spells, put at the front of the queue; the state itself where it spells none. -/
def State.withFetchWord (s : State) (nbits w : Nat) : State :=
  match decodeTableWord nbits w with
  | some c => { s with pending := c :: s.pending }
  | none => s

end Sys2Proof.Machine
end

