-- ==== Sys2Proof/Safety.lean ====
section
/-!
DEFINITION. The terms of the claims: what a run keeps, what a record of the journal says, and which parts of the state
an effect may touch.
-/

namespace Sys2Proof.Machine

open Sys2Proof

/-- The invariant of every step: the three byte memories stand in their one canonical form. -/
def State.Canonical (s : State) : Prop :=
  Tab.wf memDefault s.mem = true ∧ Tab.wf (fun _ => (0 : Byte)) s.hostMem = true ∧ Tab.wf (fun _ => (0 : Byte)) s.pktMem = true

/-- The event committer takes a record: no last-gasp image stands, this module is no second, and the ring has room
(R326, R364, R402). -/
def State.commits (s : State) : Prop := s.power.doomed = false ∧ s.twin.role ≠ 2 ∧ s.journal.ring.length < 65536

/-- `t` holds one journal record more than `s`: with the next ESN and offset of `s` and the TS of `t` (R37, R320). -/
def State.logged (s t : State) (g typ : Nat) (data : List Byte) : Prop :=
  ∃ mac, t.journal.ring = s.journal.ring ++
      [{ esn := s.journal.esn, ts := t.tb.ts, off := s.journal.next, group := g, typ := typ, data := padTo 32 data, rmac := mac }]
    ∧ t.journal.esn = s.journal.esn + 1 ∧ t.journal.next = (s.journal.next + 64) % 2 ^ 48

/-- `t` with what committing a record and sending messages may change put back as it is in `s`: the journal, the
counter log, the links, the mirror's waiting items and the outputs. -/
def State.undelivered (s t : State) : State :=
  { t with journal := s.journal, nvm := s.nvm, linkF := s.linkF, linkH := s.linkH, linkT := s.linkT, twin := s.twin, out := s.out }

/-- A class stands at no level on the field side and the fault queue has room (R384, R392). -/
def State.clear (s : State) (cls : Nat) : Prop := s.fltF.level cls = 0 ∧ s.fltF.queue.length < 64

/-- `t` holds one field-side fault record more than `s`, of a class at a level with its cause, and the class stands at
that level (R384, R391). -/
def State.recorded (s t : State) (cls cause level : Nat) : Prop :=
  ∃ fr : List Byte, t.fltF.queue = s.fltF.queue ++ [fr] ∧ fr.getD 0 0 = b8 cls ∧ fr.getD 1 0 = b8 (level + 8 * level) ∧
    sliceBytes fr 4 2 = natLE 2 cause ∧ t.fltF.level cls = level

/-! ### Stages of a track -/

/-- Track `t` begins its stage `g` of a kind now, its timing giving the start `given`, which is `cc` here: the track waits for its start in Run
with no locked sequence in progress, the stage reads without error, keeps its reserved bits 0, and the track may execute
the kind (R56, R58, R61, R67, R68, R409). -/
structure State.Begins (s : State) (t kind : Nat) (g : Stage) (cc given : Nat) (late : Bool) : Prop where
  may : s.mayBegin t = true
  stage : g = Stage.ofBytes (s.stageBytes t)
  isKind : g.kind = kind
  good : s.eccBad (stageAddr (s.track t).stage) 32 = false
  rsv0 : g.rsv0 = 0
  rsv2 : g.rsv2 = 0
  own : ¬ (t = 8 ∧ kind ≤ 4)
  due : (s.readStage t).due t g = .start cc given late

/-- The state in which the action of a stage starts: the stage has been read and time has run to its start (R58, R68). -/
@[irreducible] def State.begun (s : State) (t cc given : Nat) (late : Bool) (g : Stage) : State :=
  (s.readStage t).startAction t cc given late g

/-- The successor of R66: what the map gives for the outcome, or NEXT once the retries of a stage are used up. -/
def Stage.after (g : Stage) (cur out retries : Nat) : Nat :=
  if g.succ cur out ≠ cur then g.succ cur out else if retries < g.retry then cur else g.next

/-- The descriptors that have entered a track's queue or are entering it, oldest first (R74). -/
def Track.contents (tr : Track) : List (List Byte) := tr.queue ++ tr.entering

/-- In `t'` track `t` waits for the start of stage `i`, its predecessor having ended at that instant; the other tracks
are as in `s`. -/
def State.movedOn (s t' : State) (t i : Nat) : Prop :=
  (t'.track t).st = 1 ∧ (t'.track t).phase = .none ∧ (t'.track t).stage = i ∧ (t'.track t).predEnd = t'.tb.cc ∧
    ∀ u, u ≠ t → t'.track u = s.track u

/-- `v` is `u` but for the tracks, chains, receive chains, the budget, and a message to a twin's second: what
stopping a track may change (R79). -/
def State.cut (u v : State) : Prop := ∃ k c r b lF lH lT o,
  v = { u with tracks := k, chains := c, rxs := r, budget := b, linkF := lF, linkH := lH, linkT := lT, out := o }

/-- Every receive chain that a listening stage uses is ready: not in training, not waiting for one, not under a
calibration step, and for a combiner trained since the newest level change (R121, R123). -/
def State.inputsReady (u : State) (t : Nat) (g : Stage) : Prop :=
  ∀ p ∈ u.listenInputs t, (u.rx p.1).training = false ∧ (u.rx p.1).trwait = false ∧ (u.rx p.1).calib = false ∧
    (g.comb ≠ 0 → u.needsTraining p.1 = false)

/-- A fresh window of a stage: its reference, its close (never before FDTMIN) and nothing received yet (R61, R129). -/
def Window.fresh (w : Window) (g : Stage) (ref : Nat) : Prop :=
  w.ref = ref ∧ w.close = (ref + max (g.winm * 2 ^ g.wine) g.fdtmin) % 2 ^ 48 ∧ w.sofs = [] ∧ w.early = false

/-! ### Happenings of one fabric cycle (R497) -/

/-- The place of a happening in the table of R497: 1 a write, 2 a detection of a fault or of the power-fail warning, 4 an
expiry or the closing of a window, 3 every other. -/
def cycleOrder (i : Instr) : Nat :=
  match i with
  | .verdict _ _ => 1 | .start _ _ => 1 | .stop _ => 1 | .abort _ => 1 | .qflush _ => 1 | .registerWrite _ _ _ => 1
  | .read _ => 1 | .write _ => 1 | .acknowledgeFaults _ => 1 | .acknowledgeAnyLevel _ => 1 | .ack _ => 1 | .caprel => 1
  | .releaseCapture _ => 1 | .wdkick _ => 1 | .debugWrite _ _ => 1
  | .feederAbsent _ _ => 2 | .feederShort _ => 2 | .feederOverload _ _ => 2 | .feederFenced _ _ _ => 2 | .aboveCap _ _ => 2
  | .powerAtZero _ _ => 2 | .powerFailWarning => 2 | .lockstepMismatch _ => 2 | .carrierOutOfTolerance _ => 2 | .pllUnlock => 2
  | .railOutOfRange _ _ => 2 | .collectorParityError => 2
  | .tout _ => 4 | .windowClose _ => 4
  | _ => 3

/-- Commands that fall in one fabric cycle, in the order in which R497 resolves them; the queue holds them so (log 100). -/
def cycleOrdered (cs : List Instr) : Prop := cs.Pairwise fun a b => cycleOrder a ≤ cycleOrder b

/-! ### Writes of objects -/

/-- The ports take a write of any object and this module has no twin: they serve LDP, both ends of the Porter are up, and
the field side runs its firmware (R5, R22, R286, R337, R364). -/
def State.takesWrites (s : State) : Prop :=
  s.serving = true ∧ s.twin.role = 0 ∧ s.linkH.up = true ∧ s.linkF.up = true ∧ s.power.recovery = false

/-- The status of a write of an object leaves (R309). -/
def State.answers (t : State) (idx sub : Nat) (st : Status) : State := t.emit (.status idx sub st.code)

/-! ### Class A commands -/

/-- A command passes every check of R313 before its execution, on a module without twin whose ports serve it: a good unit
that is no repetition, the object of its row, a slot with a key and no hold, its MAC, a counter above the slot's last, no
power-fail warning, an armed last-gasp slot, the right, and the class A gate open. -/
structure State.TakesCommand (s : State) (c : CmdIn) (idx sub : Nat) : Prop where
  ports : s.takesWrites
  unit : unitOk (unitBytes 3 c.rid c.body) = true
  first : s.answered { peer := c.peer, bytes := unitBytes 3 c.rid c.body } = none
  form : cmdFormOk c.body = true
  names : (cmdBody c.body).idx = idx
  part : (cmdBody c.body).sub = sub
  slot : (cmdBody c.body).slot ≤ 15
  key : s.key 0 (cmdBody c.body).slot ≠ []
  held : s.slotHeld (cmdBody c.body).slot = false
  mac : cmac8 (s.key 0 (cmdBody c.body).slot) (1 :: cmdCovered c.body) = cmdMac c.body
  above : (s.cmdSlot (cmdBody c.body).slot).last < (cmdBody c.body).ctr
  warning : s.power.warning = false
  doomed : s.power.doomed = false
  armed : s.nvm.armed = true
  right : bitsOf (s.rights (cmdBody c.body).slot) (rightBit idx sub (cmdPayload c.body)) 1 = 1
  gate : s.fltF.safe = false ∨ idx = 0xA002
  calm : s.twin.handing = false

/-- The state in which an accepted command runs: its counter's block is reserved and its counter consumed (R313, R317). -/
def State.consumed (s : State) (c : CmdIn) : State :=
  let k := cmdBody c.body
  let u := (s.reserveBlock k.slot k.ctr).modCmdSlot k.slot fun x => { x with last := k.ctr }
  { u with cmds := { u.cmds with consumed := u.cmds.consumed + 1 } }

/-- A command that has run is journalled with its status and answered with an RMAC under its slot's key as it was (R313,
R314). -/
def State.ends (e : State) (c : CmdIn) (key : List Byte) (st : Status) : State :=
  (e.journalCommand c.body st).reply (cmdReply c false (rspBody c.body st (some key)))

/-! ### Instructions of a Kenier core -/

/-- A core executes its next instruction, one of a kind: it runs, it does not wait, its locked sequence is not broken, its
address can be fetched and reads without error, the rules for slots, locks and guest code allow the kind, and a guest handler has
budget left or is in a delay slot (R251, R252,
R257, R258, R260, R261, R272). -/
structure State.Issues (s : State) (k : Die) (r : IssueRule) : Prop where
  runs : s.coreRuns k = true
  awake : (s.core k).waiting = true → s.irqReady k = true
  lock : (s.core k).lock = true → (s.core k).lockCycles < 32 ∧ ((s.core k).lockCt < 8 ∨ r.closes = true) ∧ r.inLock = true
  past : (s.core k).past = false
  aligned : (s.core k).pc.toNat % 4 = 0
  fetch : fetchable (s.core k).guest (bankOf (s.core k).pc.toNat) = true
  read : s.wordBad k (s.core k).pc.toNat = false
  slot : (s.core k).slot.isSome = true → r.inSlot = true
  guest : (s.core k).guest = true → r.inGuest = true
  budget : s.guestSpent k = true → (s.core k).slot ≠ none

/-- The state in which a core's instruction acts: its wait, if any, is over, and a single-bit error of its word has been
corrected (R251, R281). -/
def State.awake (k : Die) (s : State) : State := (s.modCore k fun c => { c with waiting := false }).wordFix k (s.core k).pc.toNat

end Sys2Proof.Machine
end

