-- ==== Sys2Proof/Certificates/Slice0/Obligations.lean ====
section
/-!
DEFINITION. The statements for the provers: what each command of the module does, by the rules it cites, what a step does
with the queue, and what every step keeps.
-/

open Sys2Proof Sys2Proof.Machine

/-- R48: what a read of TBCCL latches, and that it changes nothing else. -/
def Obligations.TbcclReadLatchesCounters : Prop :=
  ∀ s : State, exec .tbcclRead s = .next { s with tb := { s.tb with shadow :=
    { cch := s.tb.cc / 2 ^ 32, mp := s.tb.mp.floor.toNat, msrc := s.tb.src, mcc := s.tb.mcc, ts := s.tb.ts } } }

/-- R47, R49 to R51, R53: the source of time and of mains phase. -/
def Obligations.TimeSourcesFollowReports : Prop :=
  (∀ s : State, s.nvm.log.length < 3840 →
    exec .tsSave s = .next { s with nvm := { s.nvm with log := s.nvm.log ++ [{ typ := 5, ref := 0, val := s.tb.ts }] } }) ∧
  (∀ (s : State) (r : RefSrc), s.commits → r ≠ s.tb.ref → s.objBool 0x6002 1 = decide (r ≠ .crystal) →
    ∃ t, exec (.referenceChange r) s = .next t ∧ s.logged t 6 6 [b8 (refCode r), b8 (refCode s.tb.ref)] ∧
      t.tb = { s.tb with ref := r } ∧ s.undelivered t = { s with tb := t.tb }) ∧
  (∀ s : State, s.commits → s.tb.ref ≠ .crystal → s.objBool 0x6002 1 = true → s.clear 6 →
    ∃ t, exec (.referenceChange .crystal) s = .next t ∧ s.logged t 6 6 [0, b8 (refCode s.tb.ref)] ∧ s.recorded t 6 1 1 ∧
      t.tb = { s.tb with ref := .crystal } ∧ s.undelivered t = { s with tb := t.tb, fltF := t.fltF }) ∧
  (∀ s : State, exec (.mainsReport true) s = .next { s with tb := { s.tb with
      present := true, refEdge := if s.tb.present then s.tb.refEdge else none, src := if s.tb.src = 2 then 1 else s.tb.src,
      edgeRun := if s.tb.src = 2 then 0 else s.tb.edgeRun, missed := if s.tb.src = 2 then 0 else s.tb.missed } }) ∧
  (∀ s : State, s.power.source = 1 → exec (.mainsReport false) s =
    .next { s with tb := { s.tb with present := false, src := 2, edgeRun := 0, slew := 0, missed := 0 } }) ∧
  (∀ s : State, s.power.source ≠ 1 → exec (.mainsReport false) s = .next { s with tb := { s.tb with present := false } }) ∧
  (∀ s : State, s.tb.src = 0 → 8 ≤ s.tb.missed → s.tb.present = true →
    exec .freeRunning s = .next { s with tb := { s.tb with src := 1, edgeRun := 0, slew := 0 } })

/-- R51, R52, R54: what a zero-cross edge does. -/
def Obligations.ZeroCrossEdgesAcquireAndLock : Prop :=
  ∀ (s u : State) (after : Nat), u = s.advance after → u.power.state < 2 →
    (u.tb.refEdge = none → exec (.zeroCrossEdge after) s = .next { u with tb := { u.tb with refEdge := some u.tb.cc } }) ∧
    ∀ (ref period : Nat), u.tb.refEdge = some ref → period = (u.tb.cc + 2 ^ 48 - ref) % 2 ^ 48 →
      (u.tb.src = 0 → (-2048 ≤ u.phaseError ∧ u.phaseError ≤ 2048) →
        ∃ hz, exec (.zeroCrossEdge after) s = .next { u with tb := { u.tb with
          edgeRun := u.tb.edgeRun + 1, missed := 0, edged := true, refEdge := some u.tb.cc, measured := hz, slew := -u.phaseError } }) ∧
      (u.tb.src = 0 → ¬ (-2048 ≤ u.phaseError ∧ u.phaseError ≤ 2048) → exec (.zeroCrossEdge after) s =
        .next { u with tb := { u.tb with edgeRun := 0, rejected := u.tb.rejected + 1 } }) ∧
      (u.tb.src ≠ 0 → ¬ (2151972 ≤ period * 10 ∧ period * 10 ≤ 2885568) → exec (.zeroCrossEdge after) s =
        .next { u with tb := { u.tb with edgeRun := 0, rejected := u.tb.rejected + 1, refEdge := some u.tb.cc } }) ∧
      (u.tb.src ≠ 0 → (2151972 ≤ period * 10 ∧ period * 10 ≤ 2885568) → u.tb.edgeRun + 1 < 4 → exec (.zeroCrossEdge after) s =
        .next { u with tb := { u.tb with
          edgeRun := u.tb.edgeRun + 1, missed := 0, edged := true, refEdge := some u.tb.cc,
          measured := 13560000 / (period : Rat) } }) ∧
      (u.tb.src ≠ 0 → (2151972 ≤ period * 10 ∧ period * 10 ≤ 2885568) → 4 ≤ u.tb.edgeRun + 1 → u.commits →
        ∃ t, exec (.zeroCrossEdge after) s = .next t ∧ u.undelivered t = { u with tb := t.tb, bins := t.bins, rxs := t.rxs } ∧
          u.logged t 6 5 (natLE 2 (codeOf 16 (-u.phaseError)) ++ [b8 u.tb.src, 0] ++ natLE 4 u.tb.mcc) ∧
          t.tb = { u.tb with
            edgeRun := u.tb.edgeRun + 1, missed := 0, edged := true, refEdge := some u.tb.cc,
            measured := 13560000 / (period : Rat), src := 0, mp := 0, slew := 0, steps := u.tb.steps + 1 })

/-- R44, R45: mp wraps, and MCC counts the cycle. -/
def Obligations.CycleEndCountsMcc : Prop :=
  ∀ s : State, s.power.state < 2 → s.tb.mp < 65536 → 0 < s.mpRate → s.mpRate ≤ 1 →
    ∃ t, exec .mainsCycleEnd s = .next t ∧ t.tb.mcc = (s.tb.mcc + 1) % 2 ^ 32 ∧
      t.tb.cc = (s.tb.cc + s.ctToWrap) % 2 ^ 48 ∧ 65536 ≤ s.tb.mp + s.mpRate * s.ctToWrap ∧
      t.tb.mp = s.tb.mp + s.mpRate * s.ctToWrap - 65536 ∧ t.tb.mp < s.mpRate ∧ t.tb.src = s.tb.src ∧
      t = { s with tb := t.tb, bins := t.bins, rxs := t.rxs }

/-- R62, R66, R80: the stages that only move a track on or stop it. -/
def Obligations.FlowStagesMoveTheTrackOn : Prop :=
  ∀ (s : State) (t : Fin 9) (g : Stage) (cc given : Nat) (late : Bool),
    (s.Begins t 5 g cc given late → ∃ t' : State, exec (.waitStage t) s = .next t' ∧
      s.movedOn t' t (g.after (s.track t).stage 0 (s.track t).retries) ∧ t'.tb = (s.begun t cc given late g).tb ∧
      t' = { s with tb := t'.tb, bins := t'.bins, rxs := t'.rxs, ecc := t'.ecc, tracks := t'.tracks }) ∧
    (s.Begins t 7 g cc given late → ∃ t' : State, exec (.branch t) s = .next t' ∧
      s.movedOn t' t (g.after (s.track t).stage (s.track t).lout (s.track t).retries) ∧
      t'.tb = ((s.begun t cc given late g).advance 1).tb ∧
      t' = { s with tb := t'.tb, bins := t'.bins, rxs := t'.rxs, ecc := t'.ecc, tracks := t'.tracks }) ∧
    (s.Begins t 10 g cc given late → (s.track t).stack.length < 8 → ∃ t' : State, exec (.callStage t) s = .next t' ∧
      s.movedOn t' t g.next ∧ (t'.track t).stack = g.succ (s.track t).stage 0 :: (s.track t).stack ∧
      t' = { s with tb := t'.tb, bins := t'.bins, rxs := t'.rxs, ecc := t'.ecc, tracks := t'.tracks }) ∧
    (s.Begins t 10 g cc given late → 8 ≤ (s.track t).stack.length →
      exec (.callStage t) s = .next (((s.begun t cc given late g).stopTrack t 6 true).raiseFault .field 10 1 2 (natLE 4 t))) ∧
    (∀ i rest, s.Begins t 11 g cc given late → (s.track t).stack = i :: rest → ∃ t' : State, exec (.returnStage t) s = .next t' ∧
      s.movedOn t' t i ∧ (t'.track t).stack = rest ∧
      t' = { s with tb := t'.tb, bins := t'.bins, rxs := t'.rxs, ecc := t'.ecc, tracks := t'.tracks }) ∧
    (s.Begins t 11 g cc given late → (s.track t).stack = [] →
      exec (.returnStage t) s = .next (((s.begun t cc given late g).stopTrack t 6 true).raiseFault .field 10 1 2 (natLE 4 t))) ∧
    (s.Begins t 15 g cc given late → exec (.halt t) s = .next (((s.begun t cc given late g).credentialResult t).stopTrack t 1 (decide (g.pmode = 1))))

/-- R76, R79, R80: a stop of a running track. -/
def Obligations.StoppingATrackCutsAndPosts : Prop :=
  ∀ (u : State) (t reason : Nat) (post : Bool), ∃ v, u.stopTrack t reason post = v ∧
    (v.track t).sreason = reason ∧ (v.track t).stack = [] ∧ (v.track t).win = none ∧ (v.track t).members = [] ∧
    (v.track t).service = none ∧ (∀ i, i ≠ t → v.track i = u.track i) ∧
    (post = false → (v.track t).st = 0 ∧ (v.track t).contents = (u.track t).contents) ∧
    (post = true → (u.trackNow t).contents.length < 32 → (v.track t).st = 0 ∧
      (v.track t).contents = (u.trackNow t).contents ++
        [b8 0x40 :: padTo 15 ([b8 reason] ++ natLE 2 (u.track t).stage ++ [b8 (u.track t).lout] ++ natLE 6 u.tb.cc)]) ∧
    (post = true → 32 ≤ (u.trackNow t).contents.length → (v.track t).st = 6 ∧
      (v.track t).contents = (u.trackNow t).contents ∧ (v.track t).heldPkt = haltPacket (u.track t) reason u.tb.cc ∧
      (v.track t).held = true ∧ (v.track t).stallCt = satAdd 16 (u.track t).stallCt 1) ∧
    (t < 8 → (u.chain t).lentTo = none → (v.chain t).routed = false ∧
      (v.chain t).st = if (u.chain t).st = 0 then 0 else 1) ∧
    u.cut v ∧ ((u.track t).service = none → v = { u with tracks := v.tracks, chains := v.chains, rxs := v.rxs, budget := v.budget })

/-- R68, R71, R76 to R79: the controls of a track. -/
def Obligations.TrackControlsAct : Prop :=
  ∀ (s : State) (t : Fin 9) (x : Track), x = s.trackNow t →
    (∀ e : BitVec 15, (s.track t).st = 0 → s.fltF.safe = false → ∃ tr,
      tr = { s.track t with
        entry := e.toNat, service := none, st := 1, stage := e.toNat, phase := .none, predEnd := s.tb.cc, first := true, stack := [],
        retries := 0, isRetry := false, pseq := 0, posted := false, meetCc := none, coil := none, repl := none, members := [],
        toutCc := none } ∧
      (s.sweepTracks.contains t.val = false → exec (.start t e) s = .next (s.raiseLevel.setTrack t tr)) ∧
      (s.sweepTracks.contains t.val = true → ∃ ca, exec (.start t e) s =
        .next ((s.raiseLevel.setTrack t { tr with service := some (ca, e.toNat) }).mirror 0x86
          (.mService { opened := true, kind := 4, handle := 0, ca := ca, what := e.toNat }))) ∧
      (s.objNat 0xB001 1 ≠ 4 → s.raiseLevel = s) ∧
      (s.objNat 0xB001 1 = 4 → s.power.trans = false → (∀ i, (s.track i).st ≠ 3) → s.raiseLevel.power.level = 3)) ∧
    (∀ e : BitVec 15, (s.track t).st ≠ 0 → exec (.start t e) s = .next (s.setTrack t { s.track t with entry := e.toNat, busyStart := true })) ∧
    (∀ e : BitVec 15, (s.track t).st = 0 → s.fltF.safe = true → exec (.start t e) s = .next (s.setTrack t { s.track t with entry := e.toNat })) ∧
    (∃ u : State, u = s.when (s.sweepTracks.contains t.val && (s.track t).service.isNone) State.sweepStop ∧
      ((s.track t).st ∈ [1, 3, 4] → exec (.stop t) s = .next (u.stopTrack t 2 true)) ∧
      ((s.track t).st = 2 → (s.track t).phase ∈ [.budget, .trainWait] → exec (.stop t) s = .next (u.stopTrack t 2 true)) ∧
      ((s.track t).st = 2 → (s.track t).phase ∉ [.budget, .trainWait] →
        exec (.stop t) s = .next (u.setTrack t { s.track t with st := 6 })) ∧
      ((s.track t).st = 5 → exec (.stop t) s = .next (if (s.track t).heldThen = 3 then u.stopTrack t 2 true
        else u.setTrack t { s.track t with st := 6, heldThen := 2 })) ∧
      ((s.track t).st ∈ [0, 6] → exec (.stop t) s = .next u)) ∧
    ((s.track t).st = 0 → exec (.abort t) s = .next s) ∧
    ((s.track t).st ≠ 0 → (s.track t).heldPkt = [] → exec (.abort t) s = .next ((s.endLent t).stopTrack t 3 true)) ∧
    ((s.track t).st ≠ 0 → (s.track t).heldPkt ≠ [] → (s.track t).heldThen ∈ [1, 2, 3] → ∃ u : State,
      u = (s.endLent t).stopTrack t 3 false ∧ exec (.abort t) s = .next (u.setTrack t { u.track t with
        st := 6, heldPkt := (s.track t).heldPkt, heldIrq := (s.track t).heldIrq, heldThen := 4,
        heldHalt := haltPacket (u.track t) 3 u.tb.cc })) ∧
    (∀ w : Word, (s.track t).st ≠ 3 → exec (.verdict t w) s = .next (s.setTrack t { s.track t with vlate := true })) ∧
    (∀ w : Word, (s.track t).st = 3 → w.getLsbD 15 = false → ∃ tr, exec (.verdict t w) s = .next (s.setTrack t tr) ∧
      tr.st = 1 ∧ tr.stage = w.toNat % 2 ^ 15 ∧ tr.predEnd = s.tb.cc ∧ tr.retries = 0 ∧ tr.contents = (s.track t).contents ∧
      ((s.track t).cur.kind = 8 → tr.repl = if w.getLsbD 19 then some (w.toNat / 2 ^ 20) else none)) ∧
    (∀ w : Word, (s.track t).st = 3 → w.getLsbD 15 = true → ∃ tr, exec (.verdict t w) s = .next (s.setTrack t tr) ∧
      tr.st = 1 ∧ tr.lout = w.toNat / 2 ^ 16 % 8 ∧ tr.predEnd = s.tb.cc ∧
      tr.stage = (s.track t).cur.after (s.track t).stage (w.toNat / 2 ^ 16 % 8) (s.track t).retries) ∧
    (∃ t' : State, exec (.qpop t) s = .next t' ∧ t'.track t = { x with queue := x.queue.tail } ∧
      (∀ i, i ≠ (t : Nat) → t'.track i = s.track i) ∧ t' = { s with tracks := t'.tracks, coreF := t'.coreF } ∧
      (x.queue.length ≥ 2 → t'.coreF = s.coreF)) ∧
    (x.entering = [] → x.heldPkt = [] → ∃ t' : State, exec (.qflush t) s = .next t' ∧
      t'.track t = { x with queue := [], flushed := true } ∧ (∀ i, i ≠ (t : Nat) → t'.track i = s.track i) ∧
      t' = { s with tracks := t'.tracks, coreF := t'.coreF }) ∧
    (x.entering ≠ [] → exec (.qflush t) s = .next (s.setTrack t { x with flushReq := true })) ∧
    (x.heldPkt ≠ [] → x.contents.length + x.heldPkt.length ≤ 32 → x.heldThen = 1 →
      ∃ t' : State, exec (.heldRelease t) s = .next t' ∧ (t'.track t).contents = x.contents ++ x.heldPkt ∧
        (t'.track t).heldPkt = [] ∧ (t'.track t).st = 1 ∧ (t'.track t).stage = x.next ∧
        (∀ i, i ≠ (t : Nat) → t'.track i = s.track i) ∧ t' = { s with tracks := t'.tracks, coreF := t'.coreF } ∧
        (x.heldIrq = false → t'.coreF = s.coreF)) ∧
    (∀ (g : Stage) (stop : Nat), g = (s.track t).cur → (s.track t).phase = .horizon stop → (s.track t).st = 1 → g.pmode = 0 →
      ∃ t' : State, exec (.horizonEnd t) s = .next t' ∧ s.movedOn t' t (g.after (s.track t).stage 7 (s.track t).retries) ∧
        (g.kind ≤ 4 ∨ g.kind = 13 ∨ g.kind = 14 → (t'.track t).lout = 7) ∧ t'.tb = (s.advanceTo stop).tb ∧
        t' = { s with tb := t'.tb, bins := t'.bins, rxs := t'.rxs, tracks := t'.tracks })

/-- R62, R69, R70, R139: stages that meet, wait for a verdict or post packets of their own. -/
def Obligations.MeetDeferPostMarkStages : Prop :=
  (∀ (s : State) (t : Fin 9) (g : Stage) (cc given : Nat) (late : Bool) (u v : State), u = s.begun t cc given late g → v = u.advance 1 →
    (s.Begins t 6 g cc given late → bitsOf g.mask t 1 = 1 → ∃ t' : State, exec (.meet t) s = .next t' ∧ (t'.track t).st = 4 ∧
      (t'.track t).meetMask = g.mask ∧ (t'.track t).contents = (s.track t).contents ∧ (∀ i, i ≠ (t : Nat) → t'.track i = s.track i) ∧
      t' = { s with tb := t'.tb, bins := t'.bins, rxs := t'.rxs, ecc := t'.ecc, tracks := t'.tracks }) ∧
    (s.Begins t 8 g cc given late → (u.trackNow t).contents.length < 32 → ∃ t' : State, exec (.defer t) s = .next t' ∧
      (t'.track t).st = 3 ∧
      (t'.track t).contents = (u.trackNow t).contents ++ [b8 0x50 :: padTo 15 ([b8 (s.track t).lout] ++ natLE 2 (s.track t).stage ++
        natLE 2 (if (s.track t).posted then ((s.track t).pseq + 65535) % 65536 else 0) ++ [b8 (bit (s.track t).posted)])] ∧
      t'.coreF.irq.getLsbD t = true ∧
      (t'.track t).toutCc = (if g.tout = 0 then none else some ((t'.tb.cc + 1024 * g.tout) % 2 ^ 48)) ∧
      (∀ i, i ≠ (t : Nat) → t'.track i = s.track i) ∧
      t' = { s with tb := t'.tb, bins := t'.bins, rxs := t'.rxs, ecc := t'.ecc, tracks := t'.tracks, coreF := t'.coreF }) ∧
    (∀ slot, s.Begins t 9 g cc given late → slot = ((s.track t).repl).getD g.fbuf → slot < 0xFFF →
      (1 ≤ (s.readByte (slotAddr slot)).toNat ∧ (s.readByte (slotAddr slot)).toNat ≤ 4) →
      (s.readStage t).eccBad (slotAddr slot) 64 = false → (v.trackNow t).contents.length ≤ 28 → ∃ t' : State, exec (.post t) s = .next t' ∧
      s.movedOn t' t (g.after (s.track t).stage 0 (s.track t).retries) ∧
      (t'.track t).contents = (v.trackNow t).contents ++ s.slotPacket slot ∧ (g.pirq = true → t'.coreF.irq.getLsbD t = true) ∧
      (g.pirq = false → t'.coreF = s.coreF) ∧ t'.tb = v.tb ∧
      t' = { s with tb := t'.tb, bins := t'.bins, rxs := t'.rxs, ecc := t'.ecc, tracks := t'.tracks, coreF := t'.coreF }) ∧
    (s.Begins t 12 g cc given late → (v.trackNow t).contents.length < 32 → ∃ t' : State, exec (.mark t) s = .next t' ∧
      s.movedOn t' t (g.after (s.track t).stage 0 (s.track t).retries) ∧
      (t'.track t).contents = (v.trackNow t).contents ++ [b8 0x20 :: padTo 15 ([b8 g.fbuf] ++ natLE 6 u.tb.cc ++
        natLE 4 u.tb.mcc ++ natLE 2 u.tb.mp.floor.toNat ++ natLE 2 (s.track t).stage)] ∧ t'.tb = v.tb ∧
      (g.pirq = true → t'.coreF.irq.getLsbD t = true) ∧ (g.pirq = false → t'.coreF = s.coreF) ∧
      t' = { s with tb := t'.tb, bins := t'.bins, rxs := t'.rxs, ecc := t'.ecc, tracks := t'.tracks, coreF := t'.coreF })) ∧
  (∀ (s : State) (mask : BitVec 9) (obs : List CoilObs), s.meetComplete mask.toNat = true → s.isSweepMeet mask.toNat = false →
    ∃ t' : State, exec (.meetRelease mask obs) s = .next t' ∧
      (∀ t : Fin 9, mask.getLsbD t = true → (t'.track t).st = 1 ∧ (t'.track t).meetCc = some t'.tb.cc ∧
        (t'.track t).predEnd = t'.tb.cc ∧
        (t'.track t).stage = (s.track t).cur.after (s.track t).stage 0 (s.track t).retries ∧ (t'.track t).queue = (s.track t).queue) ∧
      (∀ t, (t ≥ 9 ∨ mask.getLsbD t = false) → t'.track t = s.track t) ∧
      t' = { s with tb := t'.tb, bins := t'.bins, rxs := t'.rxs, tracks := t'.tracks })

/-- R60 to R62, R104, R108, R123, R129: emission, and the opening of listen windows. -/
def Obligations.EmissionAndWindowsOpen : Prop :=
  ∀ (s : State) (t : Fin 9) (g : Stage),
    (∀ cc given late u d slot n, s.nvm.armed = true → u = s.begun t cc given late g → d = s.stageData t g →
      slot = slotAddr (s.fbuf t g) → n = (d.bits + 7) / 8 →
      (s.Begins t 2 g cc given late → s.ownLent t = false → (s.readStage t).emitCheck t g = .good → fieldLE d.profile 0 1 ≠ 0 →
        u.eccBad slot (4 + n) = false →
        ∃ t' : State, exec (.emit t) s = .next t' ∧ (t'.track t).phase = .emit ∧ (t'.track t).startCc = t'.tb.cc ∧
          (t'.track t).sent = some (d.bits, u.readBytes (slot + 4) n) ∧
          t'.out = s.out ++ (s.track t).members.map (fun m => .airFrame m.chain g.wave
            (codeFrame (fieldLE d.profile 1 1) d.bits (u.readBytes (slot + 4) n))
            (edgeCodes d.profile true (ampCode (s.chain m.chain).power)) (edgeCodes d.profile false (ampCode (s.chain m.chain).power))) ∧
          (∀ x, (t'.chain x).st =
            if (∃ m ∈ (s.track t).members, m.chain = x) ∧ (s.chain x).st = 2 then 3 else (s.chain x).st) ∧
          (∀ i, i ≠ (t : Nat) → t'.track i = s.track i) ∧
          t' = { s with tb := u.tb, bins := u.bins, rxs := u.rxs, ecc := u.ecc, tracks := t'.tracks, chains := t'.chains, out := t'.out }) ∧
      (s.Begins t 2 g cc given late → s.ownLent t = true → (s.readStage t).emitCheck t g = .good →
        exec (.emit t) s = .next (u.setTrack t { u.track t with phase := .lentWait })) ∧
      (s.Begins t 2 g cc given late → s.ownLent t = false → (s.readStage t).emitCheck t g = .good → fieldLE d.profile 0 1 = 0 →
        g.posts 0 = false →
        ∃ t' : State, exec (.emit t) s = .next t' ∧ s.movedOn t' t (g.after (s.track t).stage 0 (s.track t).retries) ∧
          (t'.track t).lout = 0 ∧ t' = { s with tb := u.tb, bins := u.bins, rxs := u.rxs, ecc := u.ecc, tracks := t'.tracks }) ∧
      (s.Begins t 4 g cc given late → s.ownLent t = false → (s.readStage t).emitCheck t g = .good →
        (s.readStage t).listenCheck t g = .good → u.inputsReady t g → fieldLE d.profile 0 1 ≠ 0 → u.eccBad slot (4 + n) = false →
        ∃ t' : State, exec (.exchange t) s = .next t' ∧ (t'.track t).phase = .exchangeEmit ∧
          t'.out = s.out ++ (s.track t).members.map (fun m => .airFrame m.chain g.wave
            (codeFrame (fieldLE d.profile 1 1) d.bits (u.readBytes (slot + 4) n))
            (edgeCodes d.profile true (ampCode (s.chain m.chain).power)) (edgeCodes d.profile false (ampCode (s.chain m.chain).power))) ∧
          (∀ i, i ≠ (t : Nat) → t'.track i = s.track i) ∧
          t' = { s with tb := u.tb, bins := u.bins, rxs := u.rxs, ecc := u.ecc, tracks := t'.tracks, chains := t'.chains, out := t'.out }) ∧
      (s.Begins t 3 g cc given late → s.ownLent t = false → (s.readStage t).listenCheck t g = .good → u.inputsReady t g →
        ∃ t' w, exec (.listen t) s = .next t' ∧ (t'.track t).phase = .listen ∧ (t'.track t).win = some w ∧ w.fresh g u.tb.cc ∧
          w.inputs = u.listenInputs t ∧ w.decs = (LSet.ofBytes d.lset).decs ∧ w.maxlen = (LSet.ofBytes d.lset).maxlen ∧
          (∀ i, i ≠ (t : Nat) → t'.track i = s.track i) ∧
          t' = { s with tb := u.tb, bins := u.bins, rxs := t'.rxs, ecc := u.ecc, tracks := t'.tracks, chains := t'.chains,
                        capture := t'.capture, fresh := t'.fresh })) ∧
    (∀ dur v, (s.track t).cur = g →
      dur = frameCt (s.track t).data.profile ((s.track t).frame (((s.track t).sent.map (·.2)).getD [])) →
      v = s.advanceTo (((s.track t).markCc + dur) % 2 ^ 48) →
      ((s.track t).phase = .emit → (s.track t).st ≠ 6 → g.posts 0 = false →
        ∃ t' : State, exec (.frameEnd t dur) s = .next t' ∧ s.movedOn t' t (g.after (s.track t).stage 0 (s.track t).retries) ∧
          (t'.track t).lout = 0 ∧
          (∀ x, (t'.chain x).st =
            if (∃ m ∈ (s.track t).members, m.chain = x) ∧ (s.chain x).st = 3 then 2 else (s.chain x).st) ∧
          t' = { s with tb := v.tb, bins := v.bins, rxs := t'.rxs, tracks := t'.tracks, chains := t'.chains }) ∧
      ((s.track t).phase = .exchangeEmit →
        ∃ t' w, exec (.frameEnd t dur) s = .next t' ∧ (t'.track t).phase = .listen ∧ (t'.track t).win = some w ∧ w.fresh g v.tb.cc ∧
          (∀ i, i ≠ (t : Nat) → t'.track i = s.track i) ∧
          t' = { s with tb := v.tb, bins := v.bins, rxs := t'.rxs, tracks := t'.tracks, chains := t'.chains, capture := t'.capture,
                        fresh := t'.fresh })) ∧
    (∀ slot, (s.track t).cur = g → (s.track t).phase = .lentWait → g.kind = 2 → s.ownLent t = false → slot = slotAddr (s.fbuf t g) →
      fieldLE (s.track t).data.profile 0 1 ≠ 0 → s.eccBad slot (4 + ((s.track t).data.bits + 7) / 8) = true →
      exec (.resourceWaitEnd t) s = .next (s.fetchStop t slot 3))

/-- R61, R68, R129 to R132, R134, R140: how a listen ends. -/
def Obligations.ListeningEndsWithAnOutcome : Prop :=
  (∀ (s : State) (t : Fin 9) (w : Window) (g : Stage), (s.track t).win = some w → (s.track t).phase = .listen → (s.track t).cur = g →
    (∀ out dec ct lead w', out < w.outs.length → w.live out = true → dec ∈ w.decs → sofValid dec lead = true → w.sofs = [] →
      w' = (if w.tooEarly g.fdtmin ct then { w with early := true }
        else if w.takes g.fdtmin ct then { w with sofs := [(out, dec, ct)] } else w) →
      exec (.sof t out dec ⟨ct, lead⟩) s = .next ((s.advanceTo ((w.ref + ct) % 2 ^ 48)).setTrack t { s.track t with win := some w' })) ∧
    ((s.track t).st ≠ 6 → w.sofs = [] → ∃ t' : State, exec (.windowClose t) s = .next t' ∧ (t'.track t).lout = 1 ∧ (t'.track t).win = none ∧
      t'.tb = (s.advanceTo w.close).tb ∧
      (g.posts 1 = false → s.movedOn t' t (g.after (s.track t).stage 1 (s.track t).retries) ∧ (t'.track t).contents = (s.track t).contents ∧
        t' = { s with tb := t'.tb, bins := t'.bins, rxs := t'.rxs, tracks := t'.tracks, fresh := t'.fresh }) ∧
      (∀ q, q = ((s.advanceTo w.close).trackNow t).contents → g.posts 1 = true → q.length < 32 →
        s.movedOn t' t (g.after (s.track t).stage 1 (s.track t).retries) ∧
        (∃ d, (t'.track t).contents = q ++ [d] ∧ d.getD 0 0 = b8 0x10 ∧ (fieldLE d 1 1) % 8 = 1 ∧ fieldLE d 14 2 = (s.track t).pseq % 65536) ∧
        (t'.track t).pseq = ((s.track t).pseq + 1) % 65536 ∧ (g.pirq = true → t'.coreF.irq.getLsbD t = true) ∧
        t' = { s with tb := t'.tb, bins := t'.bins, rxs := t'.rxs, tracks := t'.tracks, coreF := t'.coreF, fresh := t'.fresh })) ∧
    (∀ r after u x agc, (s.track t).st ≠ 6 → w.sofs ≠ [] → w.outs.length = 1 → u = s.advance after → u.judgeOut t w 0 r = some x →
      g.rbuf + 5 ≤ 0xFFF → g.posts x.j.out = false → ∃ t' : State, exec (.frameReceived t r none [] ⟨agc, after⟩) s = .next t' ∧
        s.movedOn t' t (g.after (s.track t).stage x.j.out (s.track t).retries) ∧ (t'.track t).lout = x.j.out ∧
        (t'.track t).win = none ∧ t'.tb = u.tb ∧
        (∀ i < 4 + min 280 x.j.data.length, t'.readByte (slotAddr g.rbuf + i) = (natLE 2 x.j.len ++ [0, 0] ++ x.j.data).getD i 0) ∧
        (∀ a, (a < slotAddr g.rbuf ∨ slotAddr g.rbuf + 4 + min 280 x.j.data.length ≤ a) → bankOf a < 0xD0 ∨ 0xF0 ≤ bankOf a →
          t'.readByte a = s.readByte a) ∧
        t' = { s with
          tb := t'.tb, bins := t'.bins, rxs := t'.rxs, tracks := t'.tracks, mem := t'.mem, counts := t'.counts,
          capture := t'.capture, fresh := t'.fresh })) ∧
  (∀ (s : State) (t : Fin 9) (g : Stage) (cc : Nat), (s.track t).toutCc = some cc → (s.track t).cur = g →
    ((s.track t).phase = .inputWait → (s.track t).st ≠ 6 → g.posts 7 = false → ∃ t' : State, exec (.tout t) s = .next t' ∧
      s.movedOn t' t (g.after (s.track t).stage 7 (s.track t).retries) ∧ (t'.track t).lout = 7 ∧ t'.tb = (s.advanceTo cc).tb ∧
      t' = { s with tb := t'.tb, bins := t'.bins, rxs := t'.rxs, tracks := t'.tracks }) ∧
    ((s.track t).phase = .none → (s.track t).st = 3 ∨ (s.track t).st = 4 → ∃ t' : State, exec (.tout t) s = .next t' ∧
      s.movedOn t' t (g.after (s.track t).stage 6 (s.track t).retries) ∧ t'.tb = (s.advanceTo cc).tb ∧
      t' = { s with tb := t'.tb, bins := t'.bins, rxs := t'.rxs, tracks := t'.tracks }))

/-- R131, R135 to R137, R141: impulses and sample capture. -/
def Obligations.ImpulsesAndCapture : Prop :=
  (∀ (s : State) (f : Fin 16) (quiet energy : Int) (x : Rat), s.blind f = false → (s.rx f).mark = none →
    x = (s.rx f).floor + ((quiet : Rat) - (s.rx f).floor) * Config.settledPart (s.since (s.rx f).floorCc) 271200 →
    (x + (s.objNat (0x3010 + f) 1 : Nat) < energy → ∃ t' : State, exec (.impulseMark ⟨f, quiet, energy⟩) s = .next t' ∧
      t'.rx f = { s.rx f with
        floor := x, floorCc := s.tb.cc, imark := true, marks := (s.rx f).marks + 1,
        mark := some { bin := s.binNow, fromBin := s.binNow, cc := s.tb.cc, energy := energy } } ∧
      (∀ v, v ≠ (f : Nat) → t'.rx v = s.rx v) ∧
      (∀ t < 8, ∀ w, (s.track t).win = some w → t'.track t = { s.track t with
        win := some (if w.inputs.any (fun p => decide (p.1 = f)) then
          { w with marks := w.marks ++ [{ chain := f, bin := s.binNow, fromCc := s.tb.cc, endCc := none }] } else w) }) ∧
      (∀ t, (8 ≤ t ∨ (s.track t).win = none) → t'.track t = s.track t) ∧
      t'.capture = (if (s.capture.state = 1 ∨ s.capture.state = 2) ∧ s.capture.chains.contains f.val then
        { s.capture with marks := s.capture.marks ++ [(f.val, s.tb.cc)] } else s.capture) ∧
      t' = { s with rxs := t'.rxs, tracks := t'.tracks, capture := t'.capture }) ∧
    (energy ≤ x + (s.objNat (0x3010 + f) 1 : Nat) →
      exec (.impulseMark ⟨f, quiet, energy⟩) s = .next (s.setRx f { s.rx f with floor := x, floorCc := s.tb.cc }))) ∧
  (∀ (s : State) (f : Fin 16) (quiet energy : Int), s.blind f = true ∨ (s.rx f).mark ≠ none →
    exec (.impulseMark ⟨f, quiet, energy⟩) s = .next s) ∧
  (∀ (s u : State) (f : Fin 16) (m : RunMark), (s.rx f).mark ≠ none → u = s.advance (usCt 2) → (u.rx f).mark = some m →
    ∃ t' : State, exec (.markEnd f) s = .next t' ∧
    t'.rx f = { u.rx f with
      mark := none, floorCc := u.tb.cc,
      floor := (u.rx f).floor + ((m.energy : Rat) - (u.rx f).floor) * Config.settledPart (u.since (u.rx f).floorCc) 8678400 } ∧
    (∀ v, v ≠ (f : Nat) → t'.rx v = u.rx v) ∧
    (s.tb.src ≠ 2 → ∀ i < 64, t'.bin i = if m.fromBin ≤ i ∧ i ≤ u.binNow then { u.bin i with hit := true } else u.bin i) ∧
    (s.tb.src = 2 → t'.bins = u.bins) ∧
    (∀ t < 8, ∀ w, (s.track t).win = some w → t'.track t = { s.track t with
      win := some { w with marks := w.marks.map fun k => if k.chain = f.val ∧ k.endCc = none then { k with endCc := some u.tb.cc } else k } }) ∧
    (∀ t, (8 ≤ t ∨ (s.track t).win = none) → t'.track t = s.track t) ∧
    t' = { s with tb := u.tb, rxs := t'.rxs, bins := t'.bins, tracks := t'.tracks }) ∧
  (∀ (s : State) (f : Fin 16), (s.rx f).mark = none → exec (.markEnd f) s = .next s) ∧
  (∀ (s : State) (cc : Nat),
    let caused (c : Nat) : Prop := s.since c ≤ s.since s.capture.armCc ∧
      (s.objNat 0x3200 2 = 1 ∧ (∃ t < 9, (s.track t).began = some (s.objNat 0x3200 3, c)) ∨
       s.objNat 0x3200 2 = 2 ∧ (∃ f < 16, ∃ m, (s.rx f).mark = some m ∧ m.cc = c) ∨
       s.objNat 0x3200 2 = 3 ∧ ∃ t < 9, (s.track t).notOk = some c)
    (s.capture.state = 1 → caused cc → (∀ c, caused c → c = cc ∨ s.since c < s.since cc) → exec .captureTrigger s =
      .next { s with capture := { s.capture with state := 2, trigCc := cc, pre := s.objNat 0x3200 4 } }) ∧
    (s.capture.state ≠ 1 ∨ (∀ c, ¬ caused c) → exec .captureTrigger s = .next s)) ∧
  (∀ (s u : State) (n : Nat), s.capture.state = 2 → n = max 1 s.capture.chains.length →
    u = s.advanceTo ((s.capture.trigCc + 60 * ((32768 - s.capture.pre + n - 1) / n)) % 2 ^ 48) →
    exec .captureDone s = .next { u with capture := { s.capture with state := 3, final := u.captureBlocks } }) ∧
  (∀ s : State, s.capture.state ≠ 2 → exec .captureDone s = .next s)

/-- R62, R63, R86, R87, R92 to R95, R97, R98: how SELECT and SHAPE begin. -/
def Obligations.SelectAndShapeBegin : Prop :=
  ∀ (s : State) (t : Fin 9) (g : Stage) (cc given : Nat) (late : Bool) (own : Chain), s.nvm.armed = true → (s.chain t).lentTo = none →
    (∀ x < 8, (s.chain x).lentTo ≠ some t) →
    own = { s.chain t with
      onUs := s.objNat (0x2100 + t) 1, offUs := s.objNat (0x2100 + t) 2, shape := s.objNat (0x2100 + t) 3, reduced := false,
      lentTo := none, budgetWait := false } →
    (∀ p f w, s.Begins t 0 g cc given late → (s.chain t).st = 0 → (s.chain t).calib = false → f = feederOf g.target →
      (∀ y < 8, y ≠ (t : Nat) → (s.chain y).routed = true ∨ (s.chain y).st ≠ 0 → (s.chain y).feeder ≠ f) →
      s.objBool (0x2200 + g.target) 1 = true → (s.feeder f).status = 1 → s.wordsAllowed = true →
      p = min (s.coilPower g.target g.level) (s.chainCap t) → w = selectWord g.target (s.cal g.target).tune →
      ∃ t' : State, exec (.select t) s = .next t' ∧ (t'.track t).phase = .word 1 ∧ (t'.track t).st = 2 ∧ (t'.track t).markCc = t'.tb.cc ∧
        (t'.track t).members = [{ chain := t, ca := g.target, phase := 0, power := p, clamp := decide (s.chainCap t < s.coilPower g.target g.level) }] ∧
        t'.chain t = { own with routed := true, feeder := f } ∧
        t'.feeder f = { s.feeder f with acked := false, ack := false } ∧
        t'.out = s.out ++ [.selectWord f w (biphase w)] ∧
        (∀ x, x ≠ (t : Nat) → t'.chain x = s.chain x) ∧ (∀ v, v ≠ f → t'.feeder v = s.feeder v) ∧
        (∀ i, i ≠ (t : Nat) → t'.track i = s.track i) ∧
        t' = { s with
          tb := t'.tb, bins := t'.bins, rxs := t'.rxs, ecc := t'.ecc, tracks := t'.tracks, chains := t'.chains,
          feeders := t'.feeders, out := t'.out }) ∧
    (s.Begins t 0 g cc given late → (s.chain t).st ≠ 0 → (s.chain t).calib = false →
      ∃ t' : State, exec (.select t) s = .next t' ∧ (t'.track t).phase = .rampDown ∧ (t'.track t).st = 2 ∧
        t'.chain t = { own with st := 1, up := false, rampCc := t'.tb.cc, routed := false } ∧
        (∀ x, x ≠ (t : Nat) → t'.chain x = s.chain x) ∧ (∀ i, i ≠ (t : Nat) → t'.track i = s.track i) ∧
        t' = { s with
          tb := t'.tb, bins := t'.bins, rxs := t'.rxs, ecc := t'.ecc, tracks := t'.tracks, chains := t'.chains }) ∧
    (∀ b ms, s.Begins t 1 g cc given late → b = s.readBytes (setAddr g.target) 32 → (s.readStage t).eccBad (setAddr g.target) 32 = false →
      setOk b t = true → fieldLE b 3 1 = s.calib.gen → ms = s.shapeMembers t g.level b → (s.chain t).st = 0 →
      (∀ m ∈ ms, (s.chain m.chain).calib = false ∧ s.objBool (0x2200 + m.ca) 1 = true ∧ (s.feeder (feederOf m.ca)).status = 1 ∧
        (m.chain ≠ t → (s.track m.chain).st ∈ [0, 3, 4] ∧ (s.chain m.chain).st = 0 ∧ (s.chain m.chain).lentTo = none)) →
      (∀ y < 8, (s.chain y).routed = true ∨ (s.chain y).st ≠ 0 → (∃ m ∈ ms, m.chain = y) ∨ ∀ m ∈ ms, (s.chain y).feeder ≠ feederOf m.ca) →
      s.wordsAllowed = true →
      ∃ t' : State, exec (.shape t) s = .next t' ∧ (t'.track t).phase = .word 1 ∧ (t'.track t).st = 2 ∧ (t'.track t).members = ms ∧
        t'.out = s.out ++ ms.map (fun m => .selectWord (feederOf m.ca) (selectWord m.ca (s.cal m.ca).tune) (biphase (selectWord m.ca (s.cal m.ca).tune))) ∧
        (∀ m ∈ ms, (t'.chain m.chain).routed = true ∧ (t'.chain m.chain).feeder = feederOf m.ca ∧
          (m.chain ≠ t → (t'.chain m.chain).lentTo = some t) ∧ (t'.feeder (feederOf m.ca)).acked = false) ∧
        (∀ x, x ≠ (t : Nat) → (∀ m ∈ ms, m.chain ≠ x) → t'.chain x = s.chain x) ∧ (∀ i, i ≠ (t : Nat) → t'.track i = s.track i) ∧
        t' = { s with
          tb := t'.tb, bins := t'.bins, rxs := t'.rxs, ecc := t'.ecc, tracks := t'.tracks, chains := t'.chains,
          feeders := t'.feeders, out := t'.out })

/-- R88 to R90, R95, R98, R107, R109: the selector's answer and the start of ramps. -/
def Obligations.SettleAdmitsOrRepeats : Prop :=
  (∀ (s u : State) (f : Fin 16) (ma start len ca cc : Nat), s.wordOut f = some (ca, cc) →
    u = s.advanceTo ((cc + usCt 48 + nsCt (start + min len 2000)) % 2 ^ 48) →
    ((25 ≤ ma ∧ max start 2000 + 2000 ≤ min (start + len) 10000) → exec (.acknowledgePulse ⟨f, ma, start, len⟩) s =
      .next (u.setFeeder f { s.feeder f with
        acked := true, ack := true, conn := true, coil := ca % 16, tune := (s.cal ca).tune, run := 0 })) ∧
    ((ma < 25 ∨ min (start + len) 10000 < max start 2000 + 2000) → exec (.acknowledgePulse ⟨f, ma, start, len⟩) s = .next u)) ∧
  (∀ (s : State) (f : Fin 16) (ma start len : Nat), s.wordOut f = none → exec (.acknowledgePulse ⟨f, ma, start, len⟩) s = .next s) ∧
  (∀ (s : State) (f : Fin 16) (t : Fin 9) (m : Member) (n : Nat), s.sense.word = none → (s.track t).phase = .word n →
    (s.track t).members = [m] → feederOf m.ca = f → (∀ i < 9, i ≠ (t : Nat) → ∀ k, (s.track i).phase ≠ .word k) →
    s.wordOut f = some (m.ca, (s.track t).markCc)) ∧
  (∀ (s u : State) (t : Fin 9) (n : Nat), (s.track t).phase = .word n → (s.track t).cur.kind ≤ 1 →
    u = s.advanceTo (((s.track t).markCc + usCt 60) % 2 ^ 48) →
    ((∀ m ∈ (s.track t).members, (s.feeder (feederOf m.ca)).acked = true) → s.newPower t ≠ 0 → u.budget.waiters = [] → u.fits t = true →
      exec (.selectorSettle t) s = .next (u.startRamps t)) ∧
    (∀ v, (∀ m ∈ (s.track t).members, (s.feeder (feederOf m.ca)).acked = true) → s.newPower t ≠ 0 →
        (u.budget.waiters ≠ [] ∨ u.fits t = false) →
        v = (u.setChain t { s.chain t with budgetWait := true }).setTrack t { s.track t with phase := .budget, markCc := u.tb.cc } →
      exec (.selectorSettle t) s = .next { v with
        budget := { u.budget with waiters := v.queueWaiter t, waits := u.budget.waits + 1 } } ∧
      ((∀ i ∈ s.budget.waiters, i < (t : Nat) ∨ (s.track i).markCc ≠ u.tb.cc) → v.queueWaiter t = s.budget.waiters ++ [(t : Nat)])) ∧
    (∀ m f, (s.track t).members = [m] → f = feederOf m.ca → (s.feeder f).acked = true → m.power = 0 → (s.track t).cur.posts 0 = false →
      (s.track t).st ≠ 6 → ∃ t' : State, exec (.selectorSettle t) s = .next t' ∧
        s.movedOn t' t ((s.track t).cur.after (s.track t).stage 0 (s.track t).retries) ∧ (t'.track t).coil = some m.ca ∧
        t'.rx f = { u.rx f with trained := false, ci := 0, cq := 0 } ∧
        t' = { s with tb := u.tb, bins := u.bins, rxs := t'.rxs, tracks := t'.tracks }) ∧
    (∀ m f w, (s.track t).members = [m] → f = feederOf m.ca → (s.feeder f).acked = false → n = 1 →
      w = selectWord m.ca (s.cal m.ca).tune →
      ∃ t' : State, exec (.selectorSettle t) s = .next t' ∧
        t'.track t = { s.track t with phase := .word 2, markCc := u.tb.cc, st := if (s.track t).st = 6 then 6 else 2 } ∧
        t'.feeder f = { s.feeder f with acked := false, ack := false, unacked := (s.feeder f).unacked + 1 } ∧
        t'.out = s.out ++ [.selectWord f w (biphase w)] ∧
        (∀ v, v ≠ f → t'.feeder v = s.feeder v) ∧ (∀ i, i ≠ (t : Nat) → t'.track i = s.track i) ∧
        t' = { s with tb := u.tb, bins := u.bins, rxs := u.rxs, tracks := t'.tracks, feeders := t'.feeders, out := t'.out }) ∧
    (∀ m f, (s.track t).members = [m] → f = feederOf m.ca → (s.feeder f).acked = false → n = 2 → (s.feeder f).run < 2 →
      (s.track t).cur.posts 6 = false → (s.track t).st ≠ 6 →
      ∃ t' : State, exec (.selectorSettle t) s = .next t' ∧ s.movedOn t' t ((s.track t).cur.after (s.track t).stage 6 (s.track t).retries) ∧
        (t'.track t).lout = 6 ∧
        t'.feeder f = { s.feeder f with unacked := (s.feeder f).unacked + 1, run := (s.feeder f).run + 1 } ∧
        (∀ v, v ≠ f → t'.feeder v = s.feeder v) ∧
        t' = { s with tb := u.tb, bins := u.bins, rxs := u.rxs, tracks := t'.tracks, feeders := t'.feeders })) ∧
  (∀ (s : State) (t : Nat), s.budget.waiters = [t] → s.fits t = true →
    exec .budgetAdmission s = .next (({ s with budget := { s.budget with waiters := [] } }).startRamps t)) ∧
  (∀ s : State, s.budget.waiters = [] → exec .budgetAdmission s = .next s) ∧
  (∀ (s : State) (t : Nat) (ts : List Nat), s.budget.waiters = t :: ts → s.fits t = false → exec .budgetAdmission s = .next s) ∧
  (∀ (s : State) (t : Nat), ((s.track t).members.map (·.chain)).Nodup → ∃ t' : State, s.startRamps t = t' ∧
    (∀ m ∈ (s.track t).members, (t'.chain m.chain).st = 1 ∧ (t'.chain m.chain).up = true ∧ (t'.chain m.chain).rampCc = s.tb.cc ∧
      (t'.chain m.chain).power = m.power ∧ (t'.chain m.chain).budgetWait = false) ∧
    (∀ x, (∀ m ∈ (s.track t).members, m.chain ≠ x) → t'.chain x = s.chain x) ∧
    t'.track t = { s.track t with phase := .rampUp, markCc := s.tb.cc } ∧ (∀ i, i ≠ t → t'.track i = s.track i) ∧
    (t'.powerSum > t'.bc → t'.budget.exceeded = true) ∧
    t' = { s with tracks := t'.tracks, chains := t'.chains, coilCal := t'.coilCal, budget := { s.budget with exceeded := t'.budget.exceeded } })

/-- R95, R99, R119 to R121, R123, R467: ramps, trainings and waits end. -/
def Obligations.RampsAndTrainingsEnd : Prop :=
  (∀ (s u : State) (x : Fin 8), (s.chain x).st = 1 → u = s.advanceTo (((s.chain x).rampCc + s.rampCt x) % 2 ^ 48) →
    (∀ t, t = ((s.chain x).lentTo).getD x → (s.chain x).up = true →
      ((s.track t).phase ≠ .rampUp ∨ (∃ m ∈ (s.track t).members, m.chain ≠ x ∧ (s.chain m.chain).st ≠ 2)) →
      ∃ t' : State, exec (.rampEnd x) s = .next t' ∧ (t'.chain x).st = 2 ∧ (t'.chain x).up = false ∧ (t'.chain x).power = (s.chain x).power ∧
        (∀ y, y ≠ (x : Nat) → t'.chain y = s.chain y) ∧
        t' = { s with
          tb := u.tb, bins := u.bins, rxs := u.rxs, chains := t'.chains, budget := { s.budget with levelCc := u.tb.cc },
          fresh := s.fresh + 2 }) ∧
    (∀ t m, t = ((s.chain x).lentTo).getD x → (s.chain x).up = true → (s.track t).phase = .rampUp → (s.track t).members = [m] →
      m.chain = x → s.inListen (feederOf m.ca) = false →
      ∃ t' : State, exec (.rampEnd x) s = .next t' ∧ (t'.chain x).st = 2 ∧ t'.track t = { s.track t with phase := .train } ∧
        t'.rx (feederOf m.ca) = { u.rx (feederOf m.ca) with
          range := 0, training := true, trwait := false, trainFrom := u.tb.cc, trainDraw := s.fresh + 2 } ∧
        (∀ y, y ≠ (x : Nat) → t'.chain y = s.chain y) ∧ (∀ i, i ≠ t → t'.track i = s.track i) ∧
        t' = { s with
          tb := u.tb, bins := u.bins, rxs := t'.rxs, tracks := t'.tracks, chains := t'.chains,
          budget := { s.budget with levelCc := u.tb.cc }, capture := t'.capture, fresh := s.fresh + 7 }) ∧
    (∀ t, t = ((s.chain x).lentTo).getD x → (s.chain x).up = false → (∀ i < 8, (s.track i).phase ≠ .rfWait) →
      ((s.track t).phase ≠ .rampDown ∨ (x : Nat) ≠ t) → (s.track t).phase ≠ .deferRamp →
      ∃ t' : State, exec (.rampEnd x) s = .next t' ∧ t'.chain x = { s.chain x with st := 0, power := 0, fwd := 0, refl := 0 } ∧
        (∀ y, y ≠ (x : Nat) → t'.chain y = s.chain y) ∧
        (∀ k, k ∈ t'.calib.corrections ↔ k ∈ s.calib.corrections ∧ (k.rx = true ∨ k.index ≠ x)) ∧
        t' = { s with
          tb := u.tb, bins := u.bins, rxs := u.rxs, chains := t'.chains, budget := { s.budget with levelCc := u.tb.cc },
          calib := { s.calib with corrections := t'.calib.corrections, present := t'.calib.present } })) ∧
  (∀ (s : State) (x : Fin 8), (s.chain x).st ≠ 1 → exec (.rampEnd x) s = .next s) ∧
  (∀ (s u : State) (f : Fin 16) (d : Nat) (r : Fin 4) (ci cq : BitVec 16) (q : Rx), (s.rx f).training = true → d ≥ 50 →
    u = s.advanceTo (((s.rx f).trainFrom + usCt 52) % 2 ^ 48) →
    q = { u.rx f with
      training := false, depth := d, range := r, ci := ci.toNat, cq := cq.toNat, trained := true, weak := false, top := r,
      resid := freeLevel s.fresh, trainCc := some u.tb.cc, trainings := (u.rx f).trainings + 1, run := 0 } →
    ((∀ t < 8, (s.track t).phase ≠ .train) → ∃ t' : State, exec (.trainingComplete f d r ci cq) s = .next t' ∧ t'.rx f = q ∧
      (∀ v, v ≠ (f : Nat) → t'.rx v = u.rx v) ∧ t' = { u with rxs := t'.rxs, capture := t'.capture, fresh := s.fresh + 1 }) ∧
    (∀ (t : Fin 8) m, (s.track t).phase = .train → (s.track t).cur.kind ≤ 1 → (s.track t).members = [m] → feederOf m.ca = f →
      (s.rx f).trwait = false → (∀ i < 8, i ≠ (t : Nat) → (s.track i).phase ≠ .train) → (s.track t).cur.posts 0 = false → (s.track t).st ≠ 6 →
      ∃ t' : State, exec (.trainingComplete f d r ci cq) s = .next t' ∧ t'.rx f = q ∧ (t'.track t).coil = some m.ca ∧ (t'.track t).lout = 0 ∧
        s.movedOn t' t ((s.track t).cur.after (s.track t).stage 0 (s.track t).retries) ∧
        t' = { s with tb := u.tb, bins := u.bins, rxs := t'.rxs, tracks := t'.tracks, capture := t'.capture, fresh := s.fresh + 1 })) ∧
  (∀ (s u : State) (f : Fin 16) (d : Nat) (r : Fin 4) (ci cq : BitVec 16) (k : Nat), (s.rx f).training = true → d < 50 →
    u = s.advanceTo (((s.rx f).trainFrom + usCt 52) % 2 ^ 48) → (∀ t < 8, (s.track t).phase ≠ .train) → s.clear 5 →
    k = (if d < 40 ∧ 2 ≤ (u.rx f).run then 2 else 1) →
    ∃ t' : State, exec (.trainingComplete f d r ci cq) s = .next t' ∧ s.recorded t' 5 k k ∧ (t'.rx f).trained = decide (40 ≤ d) ∧
      (t'.rx f).weak = true ∧ (t'.rx f).run = (if d < 40 then (u.rx f).run + 1 else 0) ∧ (∀ v, v ≠ (f : Nat) → t'.rx v = u.rx v) ∧
      t' = { u with rxs := t'.rxs, capture := t'.capture, fltF := t'.fltF, fresh := s.fresh + 1 }) ∧
  (∀ (s : State) (f : Fin 16) (d : Nat) (r : Fin 4) (ci cq : BitVec 16), (s.rx f).training = false →
    exec (.trainingComplete f d r ci cq) s = .next s) ∧
  (∀ (s : State) (t : Fin 9) (g : Stage), (s.track t).cur = g → (s.track t).phase = .inputWait → g.kind = 3 → s.inputsReady t g →
    ∃ t' w, exec (.resourceWaitEnd t) s = .next t' ∧ (t'.track t).phase = .listen ∧ (t'.track t).startCc = s.tb.cc ∧
      (t'.track t).win = some w ∧ w.fresh g s.tb.cc ∧ (∀ i, i ≠ (t : Nat) → t'.track i = s.track i) ∧
      t' = { s with rxs := t'.rxs, tracks := t'.tracks, chains := t'.chains, capture := t'.capture, fresh := t'.fresh }) ∧
  (∀ (s : State) (t : Fin 9), (s.track t).phase = .none → exec (.resourceWaitEnd t) s = .next s)

/-- R83, R85, R101, R110 to R112: the field engine's own monitors. -/
def Obligations.FieldMonitorsReport : Prop :=
  (∀ (s : State) (f : Fin 16), s.objBool (0x2010 + f) 1 = true →
    ((s.feeder f).status ≠ 2 → (s.feeder f).held = 0 → exec (.feederAbsent f 0) s =
      .next ((s.setFeeder f { s.feeder f with status := 2, ibias := 0 }).raiseFault .field 4 1 1 [b8 f, 0])) ∧
    ((s.feeder f).status = 2 ∨ (s.feeder f).held ≠ 0 → exec (.feederAbsent f 0) s = .next s) ∧
    ((s.feeder f).held ≠ 3 → exec (.feederShort f) s = .next ((s.setFeeder f { s.feeder f with
      status := 3, ibias := 150, biasOn := false, conn := false, held := 3 }).raiseFault .field 4 2 2 [b8 f, b8 150])) ∧
    (∀ ma, 100 < ma → ma < 150 → (s.feeder f).status ≠ 5 → (s.feeder f).held = 0 → exec (.feederOverload f ma) s =
      .next ((s.setFeeder f { s.feeder f with status := 5, ibias := ma }).raiseFault .field 4 5 2 [b8 f, b8 ma])) ∧
    (∀ ma, 1 ≤ ma → ma ≤ 100 → (s.feeder f).status ≠ 1 → (s.feeder f).held = 0 → exec (.feederRecovery f ma) s =
      .next (s.setFeeder f { s.feeder f with status := 1, ibias := ma, biasOn := true })) ∧
    (∀ ma, (s.feeder f).status = 1 ∨ (s.feeder f).held ≠ 0 → exec (.feederRecovery f ma) s = .next s)) ∧
  (∀ (s : State) (f : Fin 16) (ma : Nat), s.objBool (0x2010 + f) 1 = false → exec (.feederAbsent f ma) s = .next s ∧
    exec (.feederShort f) s = .next s ∧ exec (.feederOverload f ma) s = .next s ∧ exec (.feederRecovery f ma) s = .next s) ∧
  (∀ (s u : State) (f : Fin 16) (x fwd refl : Nat), x < 8 → (s.chain x).routed = true → (s.chain x).feeder = f →
    (∀ y < 8, y ≠ x → (s.chain y).routed = true → (s.chain y).feeder ≠ f) →
    u = ((s.setChain x { s.chain x with fwd := fwd, refl := refl }).rampDown x).abortTrack 3 (((s.chain x).lentTo).getD x) →
    (100 < fwd → fwd < 4 * refl → (s.feeder f).held ≠ 4 → exec (.feederFenced f fwd refl) s =
      .next ((u.setFeeder f { s.feeder f with status := 4, held := 4 }).raiseFault .field 4 3 2 [b8 f, b8 (s.feeder f).ibias])) ∧
    (fwd ≤ 100 ∨ 4 * refl ≤ fwd ∨ (s.feeder f).held = 4 → exec (.feederFenced f fwd refl) s = .next s)) ∧
  (∀ (s : State) (x : Fin 8) (mw : Nat),
    ((mw : Rat) / 1000 > s.chainCap x * (1122018454 / 1000000000) → exec (.aboveCap x mw) s =
      .next ((s.setChain x { s.chain x with fwd := mw }).raiseFault .field 3 1 3 (b8 x :: natLE 2 mw))) ∧
    ((mw : Rat) / 1000 ≤ s.chainCap x * (1122018454 / 1000000000) → exec (.aboveCap x mw) s = .next s) ∧
    ((s.chain x).power = 0 → 50 < mw → exec (.powerAtZero x mw) s =
      .next ((s.setChain x { s.chain x with fwd := mw }).raiseFault .field 3 2 3 (b8 x :: natLE 2 mw))) ∧
    ((s.chain x).power ≠ 0 ∨ mw ≤ 50 → exec (.powerAtZero x mw) s = .next s)) ∧
  (∀ (s u v : State) (kept n : List Nat), u = s.advanceTo ((s.tb.cc / 13560 + 1) * 13560 % 2 ^ 48) →
    kept = s.budget.ticks.filter (fun k => decide (k + 60000 > s.budget.ms)) →
    n = (if s.budget.exceeded ∧ kept.length < 10000 then kept ++ [s.budget.ms] else kept) →
    v = { u with budget := { u.budget with ms := s.budget.ms + 1, ticks := n, exceeded := false } } →
    (n.length < 10000 ∨ s.powerSum ≤ s.bc → exec .peakTimeTick s =
      .next { v with budget := { v.budget with exceeded := decide (s.powerSum > s.bc) } }) ∧
    (10000 ≤ n.length → s.bc < s.powerSum → exec .peakTimeTick s =
      .next ((v.reduceTo s.bc 0 1000).raiseFault .field 3 3 1 (natLE 2 (tenMw s.powerSum))).noteSum)) ∧
  (∀ (s v : State) (sink amb : Int), s.budget.hot = false → s.budget.throttled = false →
    v = { s with budget := { s.budget with sink := sink, amb := amb, hot := decide (105 ≤ sink), throttled := decide (95 ≤ sink) } } →
    (v.powerSum ≤ v.bc → sink < 95 → exec (.heatsinkSample sink amb) s = .next v) ∧
    (v.bc < v.powerSum → sink < 95 → exec (.heatsinkSample sink amb) s = .next v.noteSum) ∧
    (v.bc < v.powerSum → 95 ≤ sink → sink < 105 → exec (.heatsinkSample sink amb) s =
      .next ((v.reduceTo v.bc 1 10000).raiseFault .field 3 4 2 [b8 (codeOf 8 sink)]).noteSum) ∧
    (v.powerSum ≤ v.bc → 95 ≤ sink → sink < 105 → exec (.heatsinkSample sink amb) s = .next (v.raiseFault .field 3 4 2 [b8 (codeOf 8 sink)]).noteSum) ∧
    (v.powerSum ≤ v.bc → 105 ≤ sink → exec (.heatsinkSample sink amb) s = .next (v.raiseFault .field 3 5 3 [b8 (codeOf 8 sink)]).noteSum))

/-- R382, R384, R388, R390 to R392: the reactions to a fault. -/
def Obligations.FaultLevelsReact : Prop :=
  (∀ (s : State) (cls cause level : Nat) (d : List Byte), s.clear cls → level < 3 →
    s.recorded (s.raiseFault .field cls cause level d) cls cause level ∧
    s.raiseFault .field cls cause level d = { s with fltF := (s.raiseFault .field cls cause level d).fltF }) ∧
  (∀ (s t : State) (cls cause level : Nat) (d : List Byte), s.clear cls → s.fltF.halting = false → s.mirrors = false → (level = 3 ∨ level = 4) →
    t = s.raiseFault .field cls cause level d →
    s.recorded t cls cause level ∧ t.fltF.safe = true ∧
    (∀ i < 9, (t.track i).sreason = 4 ∧ ((s.track i).heldPkt = [] → (s.trackNow i).contents.length < 32 → (t.track i).st = 0)) ∧
    (∀ x < 8, (t.chain x).st = 0 ∨ ((t.chain x).st = 1 ∧ (t.chain x).up = false)) ∧
    t.radio.queue = [] ∧ t.calib.running = none ∧ (∀ r, t.sweeps.running = some r → r.stopped = true) ∧
    t.coreF.stopped = (s.coreF.stopped || decide (level = 4)) ∧ t.fltF.halting = decide (level = 4) ∧
    s.undelivered t = { s with
      fltF := t.fltF, tracks := t.tracks, chains := t.chains, rxs := t.rxs, budget := t.budget, sweeps := t.sweeps,
      calib := t.calib, radio := t.radio, coreF := t.coreF }) ∧
  (∀ (s t : State) (cls cause level : Nat) (d : List Byte), (s.fltF.halting = true ∨ level = 1) → s.mirrors = false → s.fltF.queue.length < 64 →
    1 ≤ s.fltF.level cls → 1 ≤ level → level ≤ 4 → t = s.raiseFault .field cls cause level d →
    t = { s with fltF := t.fltF } ∧ t.fltF.level cls = max (s.fltF.level cls) (min 4 (level + 1)) ∧
    (∃ fr : List Byte, t.fltF.queue = s.fltF.queue ++ [fr] ∧ fr.getD 0 0 = b8 cls ∧ fr.getD 1 0 = b8 (min 4 (level + 1) + 8 * level + 64)))

/-- A step runs the front command on the queue's rest (log 1). -/
def Obligations.StepRunsFront : Prop :=
  ∀ (s : State) (c : Instr) (cs : List Instr), s.pending = c :: cs → step s = exec c { s with pending := cs }

/-- R44, R45, R122, R409: a tick of the clock (log 1). -/
def Obligations.EmptyQueueTicks : Prop :=
  ∀ s u : State, s.pending = [] → u = s.each (List.range 16) State.loopStep →
    (u = { s with rxs := u.rxs, fresh := u.fresh } ∧ (∀ v, s.loopRuns v = false → u.rx v = s.rx v)) ∧
    (s.power.state ≠ 2 → s.power.state ≠ 3 → ∃ t : State, step s = .next t ∧ t.tb.cc = (s.tb.cc + 1) % 2 ^ 48 ∧
      t.tb.ts = s.tb.ts + (s.tb.tsAcc + 25) / 339 ∧ t.tb.tsAcc = (s.tb.tsAcc + 25) % 339 ∧ t.pending = [] ∧
      (1 < s.ctToWrap → t = { u with tb := { (s.tb.count 1) with mp := s.tb.mp + s.mpRate } })) ∧
    (s.power.state = 2 → step s = .next { u with tb := { s.tb with
      ts := s.tb.ts + (s.tb.tsAcc + 25) / 339
      tsAcc := (s.tb.tsAcc + 25) % 339 } }) ∧
    (s.power.state = 3 → step s = .next u)

/-- Every command answers a next state with the same queue (log 2). -/
def Obligations.CommandsCompleteAndKeepQueue : Prop :=
  ∀ (c : Instr) (s : State), ∃ t : State, exec c s = .next t ∧ t.pending = s.pending

/-- Every step keeps the memories' canonical form. -/
def Obligations.StepKeepsMemoryCanonical : Prop :=
  ∀ s t : State, s.Canonical → step s = .next t → t.Canonical

/-- R46, R53, R243: the state after reset. -/
def Obligations.ResetLeavesStatedValues : Prop :=
  State.reset.Canonical ∧ State.reset.pending = [] ∧ State.reset.mem = [] ∧ State.reset.hostMem = [] ∧ State.reset.pktMem = [] ∧
  State.reset.tb.cc = 0 ∧ State.reset.tb.mp = 0 ∧ State.reset.tb.src = 2 ∧
  (∀ k, (State.reset.core k).guest = false ∧ (State.reset.core k).pc = 0x1C0#9 ++ 0#16 ∧ (State.reset.core k).trp = true ∧
    (State.reset.core k).ie = false) ∧
  State.reset.journal.ring = [] ∧ State.reset.out = [] ∧ State.reset.fresh = 0

/-- R137, R141, R182, R197, R231, R232, R241, R293: writes that act on the sensing and sweeping units. -/
def Obligations.SensingWritesAct : Prop :=
  (∀ s : State, s.takesWrites →
    exec (.mapClear [1]) s = .next (({ s with bins := [] } : State).answers 0x3100 2 .ok) ∧
    exec (.captureArm [0]) s =
      .next (({ s with capture := { s.capture with state := 0, final := s.captureBlocks } } : State).answers 0x3200 5 .ok) ∧
    (∀ vs, vs = ((List.range 16).filter fun f => decide (bitsOf (s.objNat 0x3200 1) f 1 = 1)) → vs ≠ [] →
      ∃ c, exec (.captureArm [1]) s = .next (({ s with capture := c } : State).answers 0x3200 5 .ok) ∧
        c.state = (if s.objNat 0x3200 2 = 0 then 2 else 1) ∧ c.armCc = s.tb.cc ∧ c.chains = vs ∧ c.pre = s.objNat 0x3200 4 ∧ c.final = 0 ∧
        c.scale = vs.map (fun v => (v, s.tb.cc, (s.rx v).range)) ∧ c.marks = [] ∧ c.old = s.captureNow :: s.capture.old ∧
        (s.objNat 0x3200 2 = 0 → c.trigCc = s.tb.cc)) ∧
    ((∀ f, f < 16 → bitsOf (s.objNat 0x3200 1) f 1 = 0) → exec (.captureArm [1]) s = .next (s.answers 0x3200 5 .valueRange)) ∧
    (∀ p : Fin 16, (s.plan p).invalid = false → (∀ q ∈ s.sweeps.queue, q.1 ≠ p) → exec (.sweepStart p [1]) s =
      .next (({ s with sweeps := { s.sweeps with queue := s.sweeps.queue ++ [((p : Nat), none)] } } : State).answers (0x4010 + p) 5 .ok)) ∧
    (∀ p : Fin 16, (s.plan p).invalid = false → (∃ q ∈ s.sweeps.queue, q.1 = p) → exec (.sweepStart p [1]) s =
      .next ((s.modPlan p fun x => { x with merged := x.merged + 1 }).answers (0x4010 + p) 5 .ok)) ∧
    (∀ p : Fin 16, (s.plan p).invalid = true → exec (.sweepStart p [1]) s = .next (s.answers (0x4010 + p) 5 .invalid)) ∧
    exec (.reportBuild [1]) s = .next (({ s with report := { s.report with status := 1 } } : State).answers 0x4100 5 .ok) ∧
    (∀ (g : Fin 64) (b : Bool), s.objNat 0x2400 6 = 0 → exec (.doorGroupWrite g [b8 (bit b)]) s =
      .next ((s.setObj 0x2401 (g + 1) [b8 (bit b)]).answers 0x2401 (g + 1) .ok)) ∧
    (∀ (g : Fin 64) (b : Bool), s.objNat 0x2400 6 ≠ 0 → ∃ t' : State, exec (.doorGroupWrite g [b8 (bit b)]) s = .next (t'.answers 0x2401 (g + 1) .ok) ∧
      t'.obj 0x2401 (g + 1) = [b8 (bit b)] ∧
      (∀ ca, t'.coilSense ca = if ca < 256 ∧ s.objNat (0x2500 + ca) 4 = g then { s.coilSense ca with doorHold := true } else s.coilSense ca) ∧
      t' = { s with dict := t'.dict, sense := { s.sense with coils := t'.sense.coils } }) ∧
    (∃ t' : State, exec (.relearn [1]) s = .next (t'.answers 0x2400 8 .ok) ∧
      (∀ ca, t'.coilSense ca = { s.coilSense ca with openSet := false, closedSet := false }) ∧
      t' = { s with sense := { s.sense with coils := t'.sense.coils } }) ∧
    ((∀ p ∈ s.dict, isSetting p = false) → exec (.restoreDefaults [1]) s = .next (s.answers 0x1011 1 .ok)) ∧
    (∀ k v, isSetting (k, v) = true → k / 256 = 0x6001 → s.dict = [(k, v)] → exec (.restoreDefaults [1]) s =
      .next (({ s with dict := [], settings := { s.settings with changedF := true } } : State).answers 0x1011 1 .ok))) ∧
  (∀ (s : State) (v : List Byte), s.serving = false → exec (.mapClear v) s = .next s ∧ exec (.captureArm v) s = .next s ∧
    exec (.reportBuild v) s = .next s ∧ exec (.relearn v) s = .next s ∧ exec (.restoreDefaults v) s = .next s ∧
    (∀ p : Fin 16, exec (.sweepStart p v) s = .next s) ∧ (∀ g : Fin 64, exec (.doorGroupWrite g v) s = .next s))

/-- R31, R166 to R168, R170, R204, R270, R290, R358: writes that start services. -/
def Obligations.ServiceWritesAct : Prop :=
  ∀ s : State, s.takesWrites →
    (∀ i n, s.apdu.status ≠ 1 → s.indexOf (s.objNat 0x6140 1) = some i → (s.entry i).proto < 3 → n = s.objNat 0x6140 2 → n ≠ 0 →
      ∃ cfg, exec (.apduStart [1]) s = .next (({ s with apdu := { s.apdu with
        status := 1, handle := s.objNat 0x6140 1, ca := (s.entry i).ca, resp := [], esn := s.journal.esn,
        frame := sliceBytes s.apdu.cmd 0 n, uid := (s.entry i).uid, proto := (s.entry i).proto, track := s.pickTrack,
        cfg := cfg } } : State).answers 0x6140 5 .ok) ∧
        cfg.fsdi = s.objNat 0x6100 1 ∧ cfg.rateA = s.objNat 0x6100 2 ∧ cfg.rateB = s.objNat 0x6100 3 ∧ cfg.attempts = s.objNat 0x6100 4) ∧
    (s.apdu.status = 1 → exec (.apduStart [1]) s = .next (s.answers 0x6140 5 .busy)) ∧
    (∀ i x p, s.template.status ≠ 1 → s.indexOf (s.objNat 0x6120 2) = some i → x = s.template_ (s.objNat 0x6120 1) → p = s.obj 0x6120 3 →
      s.templateRefused x (s.entry i) p = false → ∃ v, exec (.templateStart [1]) s = .next (({ s with template := v } : State).answers 0x6120 4 .ok) ∧
        v.status = 1 ∧ v.handle = s.objNat 0x6120 2 ∧ v.ca = (s.entry i).ca ∧ v.template = s.objNat 0x6120 1 ∧ v.resp = [] ∧
        v.tmpl = s.templateBytes (s.objNat 0x6120 1) ∧ v.params = p ∧ v.uid = (s.entry i).uid ∧ v.proto = (s.entry i).proto ∧ v.frame = templateFrame x (s.entry i).uid p (s.objBool 0x6100 9) ∧ v.track = s.pickTrack) ∧
    (s.template.status = 1 → exec (.templateStart [1]) s = .next (s.answers 0x6120 4 .busy)) ∧
    (∀ i, s.keys.status ≠ 1 → s.indexOf (s.objNat 0x5020 1) = some i → s.objNat 0x5020 2 = 3 → ∃ c, exec (.securityStart [1]) s =
      .next (({ s with keys := { s.keys with status := 2, changes := s.keys.changes ++ [c] } } : State).answers 0x5020 3 .ok) ∧
      c.handle = s.objNat 0x5020 1 ∧ c.typ = 2 ∧ c.status = 2 ∧ c.profile = (s.profileOf (s.entry i)).getD 0xFF) ∧
    (s.keys.status ≠ 1 → s.indexOf (s.objNat 0x5020 1) = none → exec (.securityStart [1]) s =
      .next (({ s with keys := { s.keys with status := 6 } } : State).answers 0x5020 3 .ok)) ∧
    (∀ n v, n < 64 → v.length = 32 → templateOk v = true → ∃ t' : State, exec (.templateWrite n v) s = .next (t'.answers 0x6110 (n + 1) .ok) ∧
      t'.obj 0x6110 (n + 1) = v ∧
      (∀ a, t'.readByte a = if airAddr (0xB000 + 32 * n) ≤ a ∧ a < airAddr (0xB000 + 32 * n) + 32 then v.getD (a - airAddr (0xB000 + 32 * n)) 0
        else s.readByte a) ∧
      t' = { s with
        dict := t'.dict, mem := t'.mem,
        settings := { s.settings with changedF := s.settings.changedF || decide (s.obj 0x6110 (n + 1) ≠ v) } }) ∧
    (∀ v, v.length = 256 → s.objNat 0x6131 1 ≤ 7935 → ∃ t' : State, exec (.guestPage v) s = .next (t'.answers 0x6131 2 .ok) ∧ t'.guest = { s.guest with state := 1 } ∧
      (∀ a, t'.readByte a = if guestBase + 256 * s.objNat 0x6131 1 ≤ a ∧ a < guestBase + 256 * s.objNat 0x6131 1 + 256 then
        v.getD (a - (guestBase + 256 * s.objNat 0x6131 1)) 0 else s.readByte a) ∧
      t' = { s with mem := t'.mem, guest := t'.guest }) ∧
    (s.settings.state ≠ 1 → s.power.entering = 0 → s.settings.lastStore = none → s.fieldWear < 100 → s.hostWear < 100 → s.power.warning = false →
      ∃ t' : State, exec (.store [1]) s = .next (t'.answers 0x1010 1 .ok) ∧
        t' = (List.range 8).foldl (fun x i => x.nvmSubmit
            { prio := 5, erase := true, sector := 0x300 + 8 * nextSlot s.settings.fieldCopies + i, addr := 0, data := [] })
          ({ s with settings := { s.settings with
            state := 1, lastStore := some s.tb.ts, snapshot := s.dict.filter isSetting, beforeF := s.settings.changedF,
            beforeH := s.settings.changedH, changedF := false, changedH := false } } : State)) ∧
    (s.settings.state = 1 → exec (.store [1]) s = .next (s.answers 0x1010 1 .busy)) ∧
    exec (.counterClear 0x8800 [0]) s = .next (({ s with spi := s.spi.clearCounters } : State).answers 0x8800 0 .ok) ∧
    exec (.counterClear 0xA020 [0]) s = .next (({ s with linkH := s.linkH.clearCounters } : State).answers 0xA020 0 .ok) ∧
    exec (.counterClear 0xA021 [0]) s = .next (({ s with linkF := s.linkF.clearCounters } : State).answers 0xA021 0 .ok)

/-- R344, R356, R385, R395, R446, R459, R463, R476: writes that start tests and acknowledge. -/
def Obligations.MaintenanceWritesAct : Prop :=
  ∀ s : State, s.takesWrites →
    (s.ring.loop ≠ 1 → s.power.warning = false → ∃ t' : State, exec (.ringLoopback [1]) s = .next (t'.answers 0x8007 2 .ok) ∧
      t' = ({ s with ring := { s.ring with loop := 1, loopSent := 0, loopMatched := 0 } } : State).relaySet ∧ t'.ring.loop = 1) ∧
    (s.ring.loop = 1 → exec (.ringLoopback [1]) s = .next (s.answers 0x8007 2 .busy)) ∧
    (s.ring.loop ≠ 1 → s.power.warning = true → exec (.ringLoopback [1]) s =
      .next (({ s with ring := { s.ring with loop := 4 } } : State).answers 0x8007 2 .refused)) ∧
    (∀ a b, exec (.shiftRegisterEcho (.ring a b) [1]) s =
      .next ((({ s with spi := { s.spi with echo := true, echoArm := false } } : State).setObj 0x8801 1 [1]).answers 0x8801 1 .ok)) ∧
    exec (.shiftRegisterEcho .spi [1]) s =
      .next ((({ s with spi := { s.spi with echoArm := !s.spi.echo } } : State).setObj 0x8801 1 [1]).answers 0x8801 1 .ok) ∧
    (∀ p, exec (.shiftRegisterEcho p [0]) s =
      .next ((({ s with spi := { s.spi with echo := false, echoArm := false } } : State).setObj 0x8801 1 [0]).answers 0x8801 1 .ok)) ∧
    (∀ m : BitVec 16, classMaskOk m.toNat = false → exec (.acknowledgeFaults (natLE 2 m.toNat)) s = .next (s.answers 0xA001 1 .valueRange)) ∧
    (∀ m : BitVec 16, classMaskOk m.toNat = true → s.anyHigh m.toNat = false → exec (.acknowledgeFaults (natLE 2 m.toNat)) s =
      .next (((s.ackDie .field m.toNat).ackDie .host m.toNat).answers 0xA001 1 .ok)) ∧
    (∀ m : BitVec 16, classMaskOk m.toNat = true → s.anyHigh m.toNat = true → exec (.acknowledgeFaults (natLE 2 m.toNat)) s = .next (s.answers 0xA001 1 .authRequired)) ∧
    exec (.releaseCapture [1]) s =
      .next (({ s with fltF := { s.fltF with cap := { s.fltF.cap with frozen := false } } } : State).answers 0xA003 7 .ok) ∧
    exec (.calibrateNow [1]) s = .next (if hasRadio then (({ s with radio := { s.radio with calPend := true } } : State).calTry).answers 0x7011 6 .ok
      else s.answers 0x7011 6 .notFitted) ∧
    (s.radio.loop ≠ 1 → s.fltF.safe = false → s.power.warning = false →
      (s.objNat 0x7040 1 = 3 → s.objBool 0x7010 4 = true ∧ s.dutyRefuses (100 * s.loopUs) false = false) → exec (.doorLinkLoopback [1]) s =
      .next (if hasRadio then ({ s with radio := { s.radio with
          loop := 1, loopWait := true, loopSent := 0, loopMatched := 0,
          loopDuty := if s.objNat 0x7040 1 = 3 then 100 * s.loopUs else 0 } } : State).answers 0x7040 4 .ok
        else s.answers 0x7040 4 .notFitted)) ∧
    (s.radio.loop = 1 → exec (.doorLinkLoopback [1]) s = .next (s.answers 0x7040 4 (if hasRadio then .busy else .notFitted))) ∧
    (∀ c t, c = s.objNat 0xC000 1 → t = s.objNat 0xC000 2 → c ∈ [1, 2, 3, 4] → calTargetOk c t = true → s.calib.running = none →
      s.calib.commit = none → s.calib.wanted = none → exec (.calibrationStart [1]) s =
        .next ((({ s with calib := { s.calib with state := 1, reason := 0, wanted := some (c, t) } } : State).calibTry).answers 0xC000 4 .ok)) ∧
    (s.objNat 0xC000 1 ∈ [1, 2, 3, 4] → calTargetOk (s.objNat 0xC000 1) (s.objNat 0xC000 2) = true → s.calib.running ≠ none →
      exec (.calibrationStart [1]) s = .next (s.answers 0xC000 4 .busy)) ∧
    (∀ d t, d = s.objNat 0xC020 1 → t = s.objNat 0xC020 2 → s.calib.loop ≠ 1 → loopTargetOk d t = true →
      (d ∈ [3, 4] → s.fltF.safe = false ∧ s.power.warning = false) → (d = 4 → (s.feeder t).status = 1) → d ≠ 5 →
      exec (.hfLoopback [1]) s = .next (({ s with calib := { s.calib with
        loop := 1, loopDepth := d, loopTarget := t, loopSent := 0, loopMatched := 0 } } : State).answers 0xC020 3 .ok)) ∧
    (s.calib.loop ≠ 1 → s.objNat 0xC020 1 = 5 → loopTargetOk 5 (s.objNat 0xC020 2) = true → exec (.hfLoopback [1]) s =
      .next (({ s with calib := { s.calib with loop := 4 } } : State).answers 0xC020 3 .refused)) ∧
    (s.calib.loop = 1 → exec (.hfLoopback [1]) s = .next (s.answers 0xC020 3 .busy))

/-- R205, R207 to R209, R217, R313, R314, R316 to R318: commands on keys and rights. -/
def Obligations.KeyCommandsRun : Prop :=
  ∀ (s u : State) (c : CmdIn) (k p : List Byte), u = s.consumed c → k = s.key 0 (cmdBody c.body).slot → p = cmdPayload c.body →
    (∀ m kind slot, s.TakesCommand c 0x5002 1 → p.length = 28 → kind = fieldLE p 0 1 → slot = fieldLE p 1 1 →
      u.unwrapKey kind slot (fieldLE p 2 1) (fieldLE p 3 1) (sliceBytes p 4 24) = (.ok, m) →
      (kind ≠ 0 → exec (.loadWrappedKey c) s = .next
        ((({ u with keys := { u.keys with store := Tab.set [] u.keys.store (256 * kind + slot) m } } : State).keySector kind).ends c k .ok)) ∧
      (kind = 0 → ∀ v, v = (if slot = 15 then u.commit 0 3 (natLE 4 (kcvWord m)) else u) → exec (.loadWrappedKey c) s = .next
        ((((({ v with keys := { v.keys with store := Tab.set [] v.keys.store slot m } } : State).keySector 0).modCmdSlot slot fun x =>
          { x with last := 0, reserved := max x.reserved 4096 }).logEntry 4 slot 0).ends c k .ok))) ∧
    (∀ st m, s.TakesCommand c 0x5002 1 → p.length = 28 → st ≠ .ok →
      u.unwrapKey (fieldLE p 0 1) (fieldLE p 1 1) (fieldLE p 2 1) (fieldLE p 3 1) (sliceBytes p 4 24) = (st, m) →
      exec (.loadWrappedKey c) s = .next (({ u with keys := { u.keys with refused := u.keys.refused + 1 } } : State).ends c k st)) ∧
    (∀ n cv curve is, s.TakesCommand c 0x5002 2 → fieldLE p 0 1 < 32 → curve = fieldLE p 1 1 → curveOf curve = some cv → n = curveLen curve →
      n ≠ 0 → p.length = 9 + 2 * n → fieldLE p 2 1 ≤ 4 → fieldLE p 3 1 = 0 → fieldLE p 8 1 = 4 →
      cv.on (beNat (sliceBytes p 9 n)) (beNat (sliceBytes p (9 + n) n)) = true →
      is = ⟨curve, fieldLE p 2 1, fieldLE p 4 2, fieldLE p 6 2, beNat (sliceBytes p 9 n), beNat (sliceBytes p (9 + n) n)⟩ →
      ∃ ch : List SecChange, exec (.loadIssuerKey c) s = .next ((({ u with keys := { u.keys with
          changes := u.keys.changes ++ ch, issuers := Tab.set {} u.keys.issuers (fieldLE p 0 1) is } } : State).keySector 4).ends c k .ok) ∧
        ∀ x, x ∈ ch ↔ (∃ i, (i, fieldLE p 0 1 + 1) ∈ u.keys.verified ∧ x = ⟨handleOf i (u.entry i), 4, 0xFF, 0, fieldLE p 0 1⟩) ∨
          (∃ y ∈ u.keys.changes, y.typ = 3 ∧ y.slot = fieldLE p 0 1 ∧ x = { y with typ := 4, profile := 0xFF, status := 0 })) ∧
    (∀ kind slot, s.TakesCommand c 0x5002 3 → p.length = 2 → kind = fieldLE p 0 1 → slot = fieldLE p 1 1 → slot < keySlots kind →
      (kind ≠ 4 → ¬ (kind = 1 ∧ slot = 0) → ∀ v, v = (if kind = 0 ∧ slot = 15 then u.commit 0 3 (natLE 4 0) else u) → exec (.eraseSlot c) s = .next
        ((({ v with keys := { v.keys with store := Tab.set [] v.keys.store (256 * kind + slot) [] } } : State).keySector kind).ends c k .ok)) ∧
      (kind = 4 → ∃ ch : List SecChange, exec (.eraseSlot c) s = .next ((({ u with keys := { u.keys with
          changes := u.keys.changes ++ ch, issuers := Tab.set {} u.keys.issuers slot {} } } : State).keySector 4).ends c k .ok) ∧
        ∀ x ∈ ch, x.typ = 4 ∧ x.slot = slot) ∧
      (kind = 1 → slot = 0 → exec (.eraseSlot c) s = .next (u.ends c k .locked))) ∧
    (∀ t : TagId, s.TakesCommand c 0x5003 0x10 → p.length = 12 → t = { proto := fieldLE p 0 1, uid := sliceBytes p 2 (min 10 (fieldLE p 1 1)) } →
      (t ∈ s.keys.quarantine → exec (.releaseUid c) s = .next (({ u with keys := { u.keys with
        quarantine := u.keys.quarantine.filter (· ≠ t), attempts := u.keys.attempts.filter fun a => decide (a.tag ≠ t) } } : State).ends c k .ok)) ∧
      (t ∉ s.keys.quarantine → exec (.releaseUid c) s = .next (u.ends c k .notFound))) ∧
    (∀ slot mask, s.TakesCommand c 0x1F02 1 → p.length = 4 → slot = fieldLE p 0 1 → mask = fieldLE p 1 2 → fieldLE p 3 1 = 0 →
      (slot = 0 → mask ≤ 0x3F → exec (.setRightsMask c) s = .next (u.ends c k .locked)) ∧
      (1 ≤ slot → slot ≤ 15 → mask ≤ 0x3F → exec (.setRightsMask c) s = .next
        (((u.modCmdSlot slot fun x => { x with rights := if mask = 0x2F then none else some mask }).keySector 0).ends c k .ok)) ∧
      (mask > 0x3F → exec (.setRightsMask c) s = .next (u.ends c k .valueRange))) ∧
    (s.TakesCommand c 0x4003 1 → s.sweeps.held = [] → s.sweeps.closing = none → p = padTo 16 Config.serial ++ natLE 4 u.roster.gen ++ zeros 4 → ∃ e : State, exec (.emptyRoster c) s = .next (e.ends c k .ok) ∧
      (∀ i, (e.entry i).pres = 0) ∧ e.roster.gen = 0 ∧ e.roster.fresh = 0 ∧ e.roster.changes = [] ∧ e.report = {} ∧ e.sweeps.closing = none)

/-- R270, R274, R286, R362, R365, R375, R385, R398, R474: commands on the module's other units. -/
def Obligations.ModuleCommandsRun : Prop :=
  (∀ (s u : State) (c : CmdIn) (k p : List Byte), u = s.consumed c → k = s.key 0 (cmdBody c.body).slot → p = cmdPayload c.body →
    (s.TakesCommand c 0x6130 1 → p.length = 8 →
      exec (.guestActivate c) s = .next (if u.guestOk (fieldLE p 0 4) (fieldLE p 4 4) then
          ({ u with guest := { u.guest with state := 2 } } : State).ends c k .ok
        else ({ u with guest := { u.guest with state := 3 } } : State).ends c k .invalid)) ∧
    (∀ m, s.TakesCommand c 0xE001 1 → p.length = 2 → m = fieldLE p 0 2 →
      (1 ≤ m → m ≤ 1440 → exec (.enableCoreDebug c) s = .next (({ u with dbg := { u.dbg with minutes := m } } : State).ends c k .ok)) ∧
      (m = 0 → exec (.enableCoreDebug c) s = .next (({ u with dbg := { u.dbg with
        minutes := 0, halted := false, defer := false, stepping := false } } : State).ends c k .ok)) ∧
      (1440 < m → exec (.enableCoreDebug c) s = .next (u.ends c k .valueRange))) ∧
    (∀ v, s.TakesCommand c 0x1F20 1 → p.length = 8 → v = u.settleImage →
      exec (.checkNewImage c) s = .next (v.ends c k
        (if Config.imageMatches (v.imageCells v.newImage) (fieldLE p 0 4) (fieldLE p 4 4) && v.imageValid v.newImage then .ok else .invalid))) ∧
    (∀ m, s.TakesCommand c 0x9002 1 → p.length = 28 → sliceBytes p 1 3 = zeros 3 →
      u.unwrapKey 0 0 (fieldLE p 0 1) 16 (sliceBytes p 4 24) = (.ok, m) →
      exec (.loadTwinKey c) s = .next (({ u with twin := { u.twin with key := m } } : State).ends c k .ok)) ∧
    (∀ die mask, s.TakesCommand c 0xA002 1 → p.length = 4 → die = fieldLE p 0 1 → mask = fieldLE p 1 2 → fieldLE p 3 1 = 0 →
      (classMaskOk mask = false → exec (.acknowledgeAnyLevel c) s = .next (u.ends c k .valueRange)) ∧
      (die = 0 → classMaskOk mask = true → exec (.acknowledgeAnyLevel c) s = .next ((u.ackDie .field mask).ends c k .ok)) ∧
      (die = 1 → classMaskOk mask = true → exec (.acknowledgeAnyLevel c) s = .next ((u.ackDie .host mask).ends c k .ok)) ∧
      (die = 2 → classMaskOk mask = true → exec (.acknowledgeAnyLevel c) s = .next (((u.ackDie .field mask).ackDie .host mask).ends c k .ok)) ∧
      (2 < die → exec (.acknowledgeAnyLevel c) s = .next (u.ends c k .valueRange))) ∧
    (s.TakesCommand c 0xE000 2 → p.length = 8 → exec (.injectFault c) s = .next (u.ends c k .locked)) ∧
    (∀ sv, s.TakesCommand c 0xC002 1 → p = zeros 4 → s.calib.running = none → s.calib.commit = none → s.calib.wanted = none →
      sv = ⟨u.coilCal, u.calib.survey, u.calib.unsurveyed, u.calib.gen, u.calib.paGain⟩ →
      exec (.commitCalibration c) s = .next (((List.range 32).foldl (fun x i => x.nvmSubmit
          { prio := 4, erase := true, sector := 0x3A0 + 32 * (u.calib.seq % 2) + i, addr := 0, data := [] })
        ({ u with calib := { u.calib with commit := some sv } } : State)).ends c k .ok)) ∧
    (s.TakesCommand c 0x9003 1 → p.length = 4 → exec (.handOverLead c) s = .next (u.ends c k .invalid))) ∧
  (∀ (s : State) (c : CmdIn), s.mirrors = true → s.sweeps.running ≠ none → (cmdBody c.body).idx = 0x9003 → (cmdBody c.body).sub = 1 →
    cmdPayload c.body = zeros 4 → s.fltF.safe = false → ∃ (t' : State) (r : Reply), s.finishCommand c false true = t' ∧
      t' = (((({ s with twin := { s.twin with handing := true } } : State).journalCommand c.body .ok)).replyAfter none r) ∧
      r = cmdReply c false (rspBody c.body .ok (some (s.key 0 (cmdBody c.body).slot))))

/-- R249, R250: the register instructions and their results. -/
def Obligations.RegisterInstructionsCompute : Prop :=
  ∀ (s : State) (k : Die) (rd ra rb : RegNo) (sh : BitVec 5) (imm : BitVec 16) (a b : Word), s.Issues k {} →
    a = (s.core k).reg ra → b = (s.core k).reg rb →
    let gives (c : Instr) (v : Word) : Prop := exec c s = .next ((s.awake k).writeBack k rd v 1)
    gives (.add k rd ra rb) (BitVec.ofNat 32 (a.toNat + b.toNat)) ∧
    gives (.sub k rd ra rb) (BitVec.ofInt 32 (a.toInt - b.toInt)) ∧
    gives (.and k rd ra rb) (a &&& b) ∧
    gives (.or k rd ra rb) (a ||| b) ∧
    gives (.xor k rd ra rb) (a ^^^ b) ∧
    gives (.andn k rd ra rb) (a &&& ~~~b) ∧
    gives (.clt k rd ra rb) (if a.toInt < b.toInt then 1 else 0) ∧
    gives (.cltu k rd ra rb) (if a.toNat < b.toNat then 1 else 0) ∧
    gives (.shl k rd ra sh) (BitVec.ofNat 32 (a.toNat * 2 ^ sh.toNat)) ∧
    gives (.shr k rd ra sh) (BitVec.ofNat 32 (a.toNat / 2 ^ sh.toNat)) ∧
    gives (.shra k rd ra sh) (BitVec.ofInt 32 (a.toInt / 2 ^ sh.toNat)) ∧
    gives (.shlr k rd ra rb) (BitVec.ofNat 32 (a.toNat * 2 ^ (b.toNat % 32))) ∧
    gives (.shrr k rd ra rb) (BitVec.ofNat 32 (a.toNat / 2 ^ (b.toNat % 32))) ∧
    gives (.shrar k rd ra rb) (BitVec.ofInt 32 (a.toInt / 2 ^ (b.toNat % 32))) ∧
    gives (.addi k rd ra imm) (BitVec.ofInt 32 (a.toInt + imm.toInt)) ∧
    gives (.andi k rd ra imm) (a &&& BitVec.ofNat 32 imm.toNat) ∧
    gives (.ori k rd ra imm) (a ||| BitVec.ofNat 32 imm.toNat) ∧
    gives (.xori k rd ra imm) (a ^^^ BitVec.ofNat 32 imm.toNat) ∧
    gives (.clti k rd ra imm) (if a.toInt < imm.toInt then 1 else 0) ∧
    gives (.cltiu k rd ra imm) (if a.toNat < (BitVec.ofInt 32 imm.toInt).toNat then 1 else 0) ∧
    gives (.ldhi k rd imm) (BitVec.ofNat 32 (imm.toNat * 65536))

/-- R244, R245, R246, R252, R258: completion of an instruction that writes one register. -/
def Obligations.WriteBackCompletes : Prop :=
  ∀ (s t : State) (k : Die) (rd : RegNo) (v : Word) (d : Nat), t = s.writeBack k rd v d →
    (∀ i, Tab.get 0 (t.core k).win i = if rd.toNat < 24 ∧ i = windowed (s.core k).wnow rd then v else Tab.get 0 (s.core k).win i) ∧
    (∀ i, Tab.get 0 (t.core k).house i = if 24 < rd.toNat ∧ i = rd.toNat % 8 then v else Tab.get 0 (s.core k).house i) ∧
    ((s.core k).products = [] → (t.core k).ph = (s.core k).ph ∧ (t.core k).pl = (s.core k).pl) ∧
    ((s.core k).slot = none → (t.core k).wnow = (s.core k).wnow ∧ (t.core k).slot = none ∧
      (if (s.core k).pc.toNat % 65536 = 0xFFFC then (t.core k).pc = (s.core k).pc ∧ (t.core k).past = true
       else (t.core k).pc = (s.core k).pc + 4 ∧ (t.core k).past = (s.core k).past)) ∧
    (∀ x, (s.core k).slot = some x → x.window < 3 → (t.core k).slot = none ∧ (t.core k).pc = BitVec.ofNat 25 x.target ∧
      (t.core k).wnow = (if x.window = 1 then (s.core k).wnow + 1 else if x.window = 2 then (s.core k).wnow - 1 else (s.core k).wnow)) ∧
    t.core k = { s.core k with
      win := (t.core k).win, house := (t.core k).house, ph := (t.core k).ph, pl := (t.core k).pl,
      products := (t.core k).products, wnow := (t.core k).wnow, pc := (t.core k).pc, past := (t.core k).past,
      slot := (t.core k).slot, stale := (t.core k).stale, lockCt := (t.core k).lockCt, lockCycles := (t.core k).lockCycles,
      cycle := (t.core k).cycle } ∧
    (k = .field → t = { s with coreF := t.coreF, fresh := s.fresh + 1, guest := t.guest, dbg := t.dbg }) ∧
    (k = .host → t = { s with coreH := t.coreH, fresh := s.fresh + 1 }) ∧
    (∀ u : State, u.writeBack k 24 v d = u.retire k)

/-- R246, R247, R249, R250, R252, R255, R259: transfers of control, and what opening a delay slot changes. -/
def Obligations.TransfersOpenTheirSlot : Prop :=
  (∀ (s : State) (k : Die) (ra rb : RegNo) (disp : BitVec 16) (u v : State) (a b : Word) (off cbk dest : Nat),
     u = s.awake k → v = u.cycles k 1 → a = (s.core k).reg ra → b = (s.core k).reg rb → off = (s.core k).pc.toNat % 65536 →
     cbk = (s.core k).pc.toNat / 65536 → dest = cbk * 65536 + ((((off + 4 : Nat) : Int) + 4 * disp.toInt) % 65536).toNat →
     (s.Issues k jumpRule →
       exec (.jmpr k ra) s = .next (v.transfer k (cbk * 65536 + a.toNat % 65536) 0) ∧
       exec (.jmp k disp) s = .next (u.transfer k dest 0) ∧
       (let branches (c : Instr) (p : Prop) : Prop :=
         (p → exec c s = .next ((if disp.toInt < 0 then u else u.mispredict k).transfer k dest 0)) ∧
         (¬ p → exec c s = .next ((if disp.toInt < 0 then u.mispredict k else u).transfer k 0 3))
        branches (.beq k ra rb disp) (a = b) ∧ branches (.bne k ra rb disp) (a ≠ b) ∧
        branches (.blt k ra rb disp) (a.toInt < b.toInt) ∧ branches (.bge k ra rb disp) (b.toInt ≤ a.toInt) ∧
        branches (.bltu k ra rb disp) (a.toNat < b.toNat) ∧ branches (.bgeu k ra rb disp) (b.toNat ≤ a.toNat))) ∧
     (s.Issues k callRule →
       exec (.jmpf k ra) s = .next (v.transfer k (a.toNat % 2 ^ 25) 0) ∧
       (((s.core k).wnow - (s.core k).wold).toNat < 14 →
         (let called (x : State) : State := x.modCore k (Kenier.setReg 23 (BitVec.ofNat 32 (cbk * 65536 ||| (off + 8))) 1)
          exec (.callr k ra) s = .next ((called v).transfer k (a.toNat % 2 ^ 25) 1) ∧
          exec (.call k disp) s = .next ((called u).transfer k dest 1))) ∧
       (14 ≤ ((s.core k).wnow - (s.core k).wold).toNat →
         exec (.callr k ra) s = .next (v.trap k 4 0 (s.core k).pc) ∧ exec (.call k disp) s = .next (u.trap k 4 0 (s.core k).pc)) ∧
       ((s.core k).wnow ≠ (s.core k).wold → exec (.ret k) s = .next (v.transfer k (((s.core k).reg 7).toNat % 2 ^ 25) 2)) ∧
       ((s.core k).wnow = (s.core k).wold → exec (.ret k) s = .next (u.trap k 5 0 (s.core k).pc)))) ∧
  (∀ (s t : State) (k : Die) (target window : Nat),
     (t = s.transfer k target window →
       (t.core k).slot = some { branch := (s.core k).pc.toNat, target := target % 2 ^ 25, window := window } ∧
       (if (s.core k).pc.toNat % 65536 = 0xFFFC then (t.core k).pc = (s.core k).pc ∧ (t.core k).past = true
        else (t.core k).pc = (s.core k).pc + 4 ∧ (t.core k).past = (s.core k).past) ∧
       ((s.core k).products = [] → (t.core k).ph = (s.core k).ph ∧ (t.core k).pl = (s.core k).pl) ∧
       t.core k = { s.core k with
         ph := (t.core k).ph, pl := (t.core k).pl, products := (t.core k).products, pc := (t.core k).pc,
         past := (t.core k).past, slot := (t.core k).slot, stale := (t.core k).stale, lockCt := (t.core k).lockCt,
         lockCycles := (t.core k).lockCycles, cycle := (t.core k).cycle } ∧
       (k = .field → t = { s with coreF := t.coreF, fresh := s.fresh + 1, guest := t.guest }) ∧
       (k = .host → t = { s with coreH := t.coreH, fresh := s.fresh + 1 })) ∧
     (∃ f q : Fin 3, q ≤ f ∧ ∀ w, w = ({ s with fresh := s.fresh + 2 } : State).cycles k 2 → s.mispredict k = w.setCore k
       { w.core k with
         fetchct := (s.core k).fetchct + BitVec.ofNat 32 f.val, squashct := (s.core k).squashct + BitVec.ofNat 32 q.val })) ∧
  (∀ (s w : State) (k : Die) (n : Nat), w = s.cycles k n →
     w.core k = { s.core k with
       cycle := ((s.core k).cycle + n) % 2 ^ 64, lockCycles := if (s.core k).lock then (s.core k).lockCycles + n else (s.core k).lockCycles } ∧
     (k = .host ∨ (s.core k).guest = false → w = s.setCore k (w.core k)) ∧
     (k = .field → (s.core k).guest = true → w = { s.setCore k (w.core k) with guest := { s.guest with cycles := s.guest.cycles + n } }))

/-- R249, R253, R255, R256: the multiplier. -/
def Obligations.MultiplierWritesItsProduct : Prop :=
  ∀ (s : State) (k : Die),
    (∀ (rd ra rb : RegNo) (u : State) (a b : Word), s.Issues k {} → u = s.awake k → a = (s.core k).reg ra → b = (s.core k).reg rb →
      (let starts (c : Instr) (v : BitVec 64) (acc : Bool) : Prop := exec c s =
        .next ((u.setCore k { u.core k with products := (u.core k).products ++ [{ value := v, accumulate := acc }] }).retire k)
       starts (.mul k ra rb) (BitVec.ofInt 64 (a.toInt * b.toInt)) false ∧
       starts (.mulu k ra rb) (BitVec.ofNat 64 (a.toNat * b.toNat)) false ∧
       starts (.mac k ra rb) (BitVec.ofInt 64 (a.toInt * b.toInt)) true ∧
       starts (.macu k ra rb) (BitVec.ofNat 64 (a.toNat * b.toNat)) true) ∧
      ∃ w : State, (w = u ∨ (w = { u with fresh := u.fresh + 1 } ∨
          w = ({ u with fresh := u.fresh + 1 } : State).setCore k ((u.core k).arriveAll (u.core k).products.length)) ∧
          (s.core k).products ≠ [] ∧ (s.core k).bare = false) ∧
        exec (.rdph k rd) s = .next (w.writeBack k rd (w.core k).ph 1) ∧
        exec (.rdpl k rd) s = .next (w.writeBack k rd (w.core k).pl 1) ∧
        exec (.wrph k ra) s = .next ((w.setCore k { w.core k with ph := a }).retire k) ∧
        exec (.wrpl k ra) s = .next ((w.setCore k { w.core k with pl := a }).retire k)) ∧
    (∀ (p : Product) (ps : List Product) (v : BitVec 64), (s.core k).products = p :: ps →
      v = (if p.accumulate then ((s.core k).ph ++ (s.core k).pl) + p.value else p.value) →
      (((s.core k).bare = false ∨ s.coreRuns k = false ∨ (s.core k).waiting = true) → exec (.productWrite k) s = .next (s.setCore k { s.core k with
        products := ps, ph := v.extractLsb' 32 32, pl := v.extractLsb' 0 32 })) ∧
      ((s.core k).bare = true → s.coreRuns k = true → (s.core k).waiting = false → exec (.productWrite k) s = .next s) ∧
      (ps = [] → (((s.retire k).core k).products = (if p.age < 3 then [{ p with age := p.age + 1 }] else []) ∧
        ((s.retire k).core k).ph = (if p.age < 3 then (s.core k).ph else v.extractLsb' 32 32) ∧
        ((s.retire k).core k).pl = (if p.age < 3 then (s.core k).pl else v.extractLsb' 0 32)))) ∧
    ((s.core k).products = [] → exec (.productWrite k) s = .next s)

/-- R250, R257, R258, R272, R281, R282: loads and stores. -/
def Obligations.LoadsAndStoresAccessMemory : Prop :=
  ∀ (s : State) (k : Die) (rd ra : RegNo) (imm : BitVec 16) (u : State), s.Issues k {} → u = s.awake k →
    let far (f : Bool) : Nat := (if f then (s.core k).abk else (s.core k).dbk).toNat * 65536 +
      ((((s.core k).reg ra).toNat + imm.toInt) % 65536).toNat
    let loads (c : Instr) (f : Bool) (n : Nat) (v : Nat → Word) : Prop := ∀ a, a = far f →
      ((s.core k).guest = true → guestAccess true f a = false → exec c s = .next (u.trapGuest k)) ∧
      ((s.core k).guest = false ∨ guestAccess true f a = true →
        (a % n ≠ 0 → exec c s = .next (u.trap k 2 0 (s.core k).pc)) ∧
        (a % n = 0 → (loadable (decide (n = 4)) (bankOf a) = false ∨ (k = .host ∧ hostBank (bankOf a) = false)) →
          exec c s = .next (u.trapBus k a 0)) ∧
        (a % n = 0 → loadable (decide (n = 4)) (bankOf a) = true → (k = .host → hostBank (bankOf a) = true) →
          (u.wordBad k a = true → exec c s = .next ((u.wordFault k a 0).trapBus k a 0)) ∧
          (u.wordBad k a = false → exec c s = .next
            ((if k = .field ∧ isIo (bankOf a) = true then (u.wordFix k a).ioConsume a else u.wordFix k a).writeBack k rd
              (v (u.loadValue k a n)) 2))))
    let stores (c : Instr) (f : Bool) (n : Nat) : Prop := ∀ a, a = far f →
      ((s.core k).guest = true → guestAccess false f a = false → exec c s = .next (u.trapGuest k)) ∧
      ((s.core k).guest = false ∨ guestAccess false f a = true →
        (a % n ≠ 0 → exec c s = .next (u.trap k 2 0 (s.core k).pc)) ∧
        (a % n = 0 → (storable (decide (n = 4)) (bankOf a) = false ∨ (k = .host ∧ hostBank (bankOf a) = false)) →
          exec c s = .next (u.trapBus k a 1)) ∧
        (a % n = 0 → storable (decide (n = 4)) (bankOf a) = true → (k = .host → hostBank (bankOf a) = true) →
          (u.wordBad k a = true → exec c s = .next ((u.wordFault k a 1).retire k)) ∧
          (u.wordBad k a = false → bankOf a < 0x100 →
            exec c s = .next (((u.wordFix k a).storeBytes k a (natLE n ((s.core k).reg rd).toNat)).retire k)) ∧
          (u.wordBad k a = false → isIo (bankOf a) = true → exec c s = .next
            ((match k with
              | .field => u.ioWrite .core a ((s.core k).reg rd).toNat
              | .host => u.hostIoWrite a ((s.core k).reg rd).toNat).retire k))))
    loads (.ldw k rd ra imm) false 4 (fun v => BitVec.ofNat 32 v) ∧
    loads (.ldh k rd ra imm) false 2 (fun v => (BitVec.ofNat 16 v).signExtend 32) ∧
    loads (.ldhu k rd ra imm) false 2 (fun v => BitVec.ofNat 32 v) ∧
    loads (.ldb k rd ra imm) false 1 (fun v => (BitVec.ofNat 8 v).signExtend 32) ∧
    loads (.ldbu k rd ra imm) false 1 (fun v => BitVec.ofNat 32 v) ∧
    loads (.ldfw k rd ra imm) true 4 (fun v => BitVec.ofNat 32 v) ∧
    stores (.stw k rd ra imm) false 4 ∧ stores (.sth k rd ra imm) false 2 ∧ stores (.stb k rd ra imm) false 1 ∧
    stores (.stfw k rd ra imm) true 4

/-- R250, R258, R279, R297: the bytes of a store, and every other byte. -/
def Obligations.StoresChangeTheirBytes : Prop :=
  ∀ (s : State) (a : Nat) (bs : List Byte),
    ((∀ i, i < bs.length → bankOf (a + i) < 0x40 ∨ (0xC0 ≤ bankOf (a + i) ∧ bankOf (a + i) < 0xD0) ∨
        (0xF0 ≤ bankOf (a + i) ∧ bankOf (a + i) < 0x100)) →
      ∃ m, s.storeBytes .field a bs = { s with mem := m } ∧
        ∀ b, (s.storeBytes .field a bs).readByte b = if a ≤ b ∧ b < a + bs.length then bs.getD (b - a) 0 else s.readByte b) ∧
    (∃ m, s.storeBytes .host a bs = { s with hostMem := m } ∧
      ∀ b, Tab.get 0 m b = if a ≤ b ∧ b < a + bs.length then bs.getD (b - a) 0 else Tab.get 0 s.hostMem b)

/-- R263, R264, R265: trap entry. -/
def Obligations.TrapEntrySavesAndVectors : Prop :=
  ∀ (s : State) (k : Die) (cause code : Nat) (a : BitVec 25) (c : Kenier) (v : State),
    c = (s.core k).arriveAll (s.core k).products.length →
    v = (if k = .field then { s with dbg := { s.dbg with stepping := false } } else s) →
    (((s.core k).trp = false ∨ cause = 16) → s.trap k cause code a = v.setCore k { c with
      stale := [], tstat := c.kstat ||| (if c.slot.isSome then 256 else 0),
      tpc := (match c.slot with | some x => BitVec.ofNat 25 x.branch | none => a), trp := true, ie := false, guest := false,
      tcause := BitVec.ofNat 32 (cause + 32 * code), slot := none, past := false,
      pc := BitVec.ofNat 25 (c.tvec.toNat / 65536 * 65536 + (c.tvec.toNat + 32 * cause) % 65536) }) ∧
    ((s.core k).trp = true → cause ≠ 16 → s.trap k cause code a =
      (v.setCore k { c with stale := [], stopped := true }).raiseFault k 10 4 4 (natLE 4 a.toNat)) ∧
    ((s.core k).products = [] → c = s.core k)

/-- R247, R251, R252, R262: the system registers. -/
def Obligations.SystemRegistersReadAndWrite : Prop :=
  ∀ (s : State) (k : Die) (rd ra : RegNo) (n : BitVec 5) (u : State) (c : Kenier) (v : Word), u = s.awake k → c = u.core k →
    v = (s.core k).reg ra →
    (s.Issues k { inGuest := decide (n = 12 ∨ n = 13) } →
      (∀ w : Word, (n = 0 ∧ w = BitVec.ofNat 32 (bit c.ie + 2 * bit c.trp + 4 * bit c.bare + 8 * bit c.guest + 16 * bit c.lock)) ∨
          (n = 1 ∧ w = c.tstat) ∨ (n = 2 ∧ w = c.tpc.zeroExtend 32) ∨ (n = 3 ∧ w = c.tcause) ∨ (n = 4 ∧ w = c.taddr.zeroExtend 32) ∨
          (n = 5 ∧ w = c.tvec) ∨ (n = 6 ∧ w = BitVec.ofNat 32 (c.wnow.toNat + 16 * c.wold.toNat + 256 * c.live)) ∨
          (n = 7 ∧ w = BitVec.ofNat 32 (c.pc.toNat / 65536)) ∨ (n = 8 ∧ w = c.dbk.zeroExtend 32) ∨ (n = 9 ∧ w = c.abk.zeroExtend 32) ∨
          (n = 10 ∧ w = c.irqen) ∨ (n = 11 ∧ w = u.irqPend k) ∨ (n = 13 ∧ w = c.cych) ∨ (n = 14 ∧ w = c.fetchct) ∨
          (n = 15 ∧ w = c.squashct) → exec (.rdsr k rd n) s = .next (u.writeBack k rd w 1)) ∧
      (n = 12 → exec (.rdsr k rd n) s = .next
        ((u.setCore k { c with cych := BitVec.ofNat 32 (c.cycle / 2 ^ 32) }).writeBack k rd (BitVec.ofNat 32 c.cycle) 1)) ∧
      (15 < n.toNat → exec (.rdsr k rd n) s = .next (u.trap k 1 0 c.pc))) ∧
    (s.Issues k { inGuest := guestMayWrite n.toNat (v.toNat % 512) } →
      (∀ d : Kenier, (n = 0 ∧ d = { c with ie := v.getLsbD 0 }) ∨ (n = 1 ∧ d = { c with tstat := v &&& 0x11F }) ∨
          (n = 2 ∧ d = { c with tpc := v.truncate 25 }) ∨ (n = 3 ∧ d = c) ∨ (n = 4 ∧ d = { c with taddr := v.truncate 25 }) ∨
          (n = 5 ∧ d = { c with tvec := v &&& 0x1FFFC00 }) ∨
          (n = 6 ∧ d = (if c.trp then { c with wnow := v.truncate 4, wold := (v >>> 4).truncate 4 } else c)) ∨
          (n = 8 ∧ d = { c with dbk := v.truncate 9 }) ∨ (n = 9 ∧ d = { c with abk := v.truncate 9 }) ∨
          (n = 10 ∧ d = { c with irqen := v &&& 0xFFFF }) → exec (.wrsr k ra n) s = .next ((u.setCore k d).retire k)) ∧
      (n = 7 ∨ 11 ≤ n.toNat → exec (.wrsr k ra n) s = .next (u.trap k 1 0 c.pc)))

/-- R251, R252, R260, R261, R263, R266, R276: the other system instructions. -/
def Obligations.SystemInstructionsAct : Prop :=
  ∀ (s : State) (k : Die) (code : BitVec 5) (w : Word) (u : State) (pc : BitVec 25), u = s.awake k → pc = (s.core k).pc →
    (s.Issues k systemRule →
      (∃ t, exec (.lck k) s = .next t ∧ (t.core k).lock = true ∧ (t.core k).lockCt = 0 ∧
        t = ((u.setCore k { u.core k with lock := true, lockCt := 0, lockCycles := 0 }).retire k).setCore k
          { ((u.setCore k { u.core k with lock := true, lockCt := 0, lockCycles := 0 }).retire k).core k with lockCt := 0 }) ∧
      (∃ t x, exec (.rfe k) s = .next t ∧ x = (u.passOn k).core k ∧ (t.core k).pc = x.tpc ∧ (t.core k).slot = none ∧
        (t.core k).products = [] ∧ (t.core k).stale = [] ∧ (t.core k).ie = x.tstat.getLsbD 0 ∧ (t.core k).trp = x.tstat.getLsbD 1 ∧
        (t.core k).bare = x.tstat.getLsbD 2 ∧ (t.core k).guest = x.tstat.getLsbD 3 ∧ (t.core k).lock = x.tstat.getLsbD 4 ∧
        (t.core k).win = x.win ∧ (t.core k).house = x.house ∧ (t.core k).wnow = x.wnow ∧ (t.core k).wold = x.wold ∧
        t = { ((u.passOn k).setCore k (t.core k)) with dbg := t.dbg }) ∧
      (k = .host ∨ s.dbg.minutes = 0 → exec (.brk k) s = .next ((u.passOn k).trap k 7 0 (pc + 4))) ∧
      (k = .field → s.dbg.minutes ≠ 0 → exec (.brk k) s = .next (u.retire k).halted)) ∧
    (s.Issues k { inSlot := false, inGuest := false, closes := true } →
      (∀ t, t = (u.setCore k { u.core k with lock := false, lockCt := 0, lockCycles := 0 }).retire k →
        ((s.core k).lock = true → exec (.ulk k) s = .next (t.serveDeferred k)) ∧ ((s.core k).lock = false → exec (.ulk k) s = .next t))) ∧
    (s.Issues k { inSlot := false, inLock := false, inGuest := decide (code = 0) } →
      (((s.core k).guest = false ∨ k = .host ∨ s.guest.running = none) → exec (.trap k code) s = .next ((u.passOn k).trap k 6 code.toNat (pc + 4))) ∧
      ((s.core k).guest = true → k = .field → s.guest.running ≠ none → ∀ t, t = (u.passOn k).trap k 6 code.toNat (pc + 4) →
        exec (.trap k code) s = .next (t.guestReturned ((s.core k).reg 0).toNat ((s.core k).reg 1).toNat (t.readBytes exchangeArea 32)))) ∧
    (s.Issues k { inLock := false, inGuest := false } → ∃ b, exec (.wait k) s = .next ((u.retire k).setCore k { (u.retire k).core k with waiting := b }) ∧
      (b = true ↔ (u.retire k).irqPend k &&& ((u.retire k).core k).irqen = 0)) ∧
    (s.Issues k {} → legalWord w = false → exec (.unassignedOpcode k w) s = .next (u.trap k 1 0 pc)) ∧
    (s.coreRuns k = true → (s.core k).lock = true → exec (.lockovr k) s = .next
      ((((s.setCore k { s.core k with lock := false, lockCt := 0, lockCycles := 0 }).trap k 8 0 pc).raiseFault k 10 3 2 (natLE 4 pc.toNat)).serveDeferred k)) ∧
    ((if s.coreRuns k = true ∧ (s.core k).ie = true ∧ (s.core k).trp = false ∧ (s.core k).lock = false ∧
        s.irqPend k &&& (s.core k).irqen ≠ 0 ∧ (s.core k).slot = none ∧ (s.core k).past = false then
      exec (.interrupt k) s = .next ((s.setCore k { s.core k with waiting := false }).trap k 16 0 pc)
     else exec (.interrupt k) s = .next s)) ∧
    ((s.dbg.defer = false → s.power.deferredLevel = none → s.serveDeferred k = s) ∧ s.serveDeferred .host = s)

/-- R274, R275, R276: the debug unit. -/
def Obligations.DebugUnitActs : Prop :=
  ∀ (s : State) (a : BitVec 25) (d : Word) (n : Nat), n = a.toNat →
    (s.dbg.minutes ≠ 0 → s.power.state = 0 →
      (n % 4 = 0 → s.wordBad .field n = false →
        (loadable true (bankOf n) = true → exec (.debugPeek a) s = .next { s with
          dbg := { s.dbg with addr := n, typ := 0, err := false, data := BitVec.ofNat 32 (s.loadValue .field n 4) } }) ∧
        (loadable true (bankOf n) = true → ∀ t : State, t = ({ s with dbg := { s.dbg with
            addr := n, typ := 1, err := false, consumes := s.dbg.consumes + 1 } } : State).commit 6 12 (natLE 4 n ++ [0]) →
          t.wordBad .field n = false → ∀ v : State, v = { t with dbg := { t.dbg with data := BitVec.ofNat 32 (t.loadValue .field n 4) } } →
          exec (.debugConsume a) s = .next (if isIo (bankOf n) then v.ioConsume n else v.eccFix n 1)) ∧
        (∀ v : State, v = { s with dbg := { s.dbg with addr := n, typ := 2, err := false, data := d } } →
          (isIo (bankOf n) = true → exec (.debugWrite a d) s = .next (v.ioWrite .debug n d.toNat)) ∧
          (bankOf n < 0x100 → exec (.debugWrite a d) s = .next ((v.eccFix n 1).writeBytes n (natLE 4 d.toNat))))) ∧
      (n % 4 = 0 → bankOf n = 0x134 →
        exec (.debugPeek a) s = .next { s with dbg := { s.dbg with addr := n, typ := 0, err := false, data := 0 } } ∧
        exec (.debugWrite a d) s = .next { s with dbg := { s.dbg with addr := n, typ := 2, err := false, data := d } }) ∧
      (n % 4 ≠ 0 → s.fltF.cap.frozen = false →
        exec (.debugPeek a) s = .next { s with
          dbg := { s.dbg with addr := n, typ := 0, err := true }
          fltF := { s.fltF with cap := { frozen := true, adr := n, master := 13, typ := 4, ts := s.tb.ts, cc := s.tb.cc } } } ∧
        exec (.debugWrite a d) s = .next { s with
          dbg := { s.dbg with addr := n, typ := 2, err := true, data := d }
          fltF := { s.fltF with cap := { frozen := true, adr := n, master := 13, typ := 1, ts := s.tb.ts, cc := s.tb.cc } } })) ∧
    (s.dbg.minutes = 0 → exec (.debugPeek a) s = .next s ∧ exec (.debugConsume a) s = .next s ∧ exec (.debugWrite a d) s = .next s ∧
      exec .debugHalt s = .next s ∧ exec .step s = .next s) ∧
    (s.dbg.minutes ≠ 0 → s.dbg.halted = false →
      (s.coreF.lock = true ∨ s.coreF.slot ≠ none → exec .debugHalt s = .next { s with dbg := { s.dbg with defer := true } }) ∧
      (s.coreF.lock = false → s.coreF.slot = none → exec .debugHalt s = .next { s with
        dbg := { s.dbg with halted := true, defer := false, stepping := false, halts := s.dbg.halts + 1 } })) ∧
    (s.dbg.halted = true → exec .debugHalt s = .next s ∧
      (s.dbg.minutes ≠ 0 → exec .step s = .next { s with dbg := { s.dbg with stepping := true } })) ∧
    exec .resume s = .next { s with dbg := { s.dbg with halted := false, stepping := false } } ∧
    exec .debugExpiry s = .next { s with dbg := { s.dbg with minutes := 0, halted := false, defer := false, stepping := false } }

/-- R11, R267, R272: register writes, guest stops, lockstep. -/
def Obligations.RegisterWritesAndStops : Prop :=
  ∀ (s : State) (bank : BitVec 9) (off : BitVec 16) (v : Word) (a : BitVec 25),
    (s.power.state = 0 → off.toNat % 4 = 0 → (bank ≠ 0x182 ∨ off ≠ 0 ∨ bitsOf v.toNat 2 2 = 0) →
      exec (.registerWrite bank off v) s = .next (s.ioWriteWord .core (bank.toNat * 65536 + off.toNat) v.toNat)) ∧
    (s.power.state ≠ 0 ∨ off.toNat % 4 ≠ 0 → exec (.registerWrite bank off v) s = .next s) ∧
    (∀ h, s.guest.running = some h → s.coreF.guest = true → s.coreF.slot = none →
      exec .guestStop s = .next ((s.trap .field 9 0 s.coreF.pc).guestStop s.coreF.pc.toNat)) ∧
    (s.guest.running = none → exec .guestStop s = .next s) ∧
    exec (.lockstepMismatch a) s = .next (s.raiseFaultAt .field 2 1 4 (natLE 4 a.toNat) (some { adr := a.toNat, master := 0, typ := 0 }))

/-- R385, R388, R389, R393, R395, R396: the fault collector's commands. -/
def Obligations.FaultRegistersAct : Prop :=
  (∀ (s : State) (mask : BitVec 12), s.twin.role ≠ 2 → ∃ t : State, exec (.ack mask) s = .next t ∧
    (∀ cls, 1 ≤ cls → cls ≤ 12 → (t.fltF.level cls = if mask.getLsbD (cls - 1) then 0 else s.fltF.level cls) ∧
      (Tab.get 0 t.fltF.ovf cls = if mask.getLsbD (cls - 1) then 0 else Tab.get 0 s.fltF.ovf cls)) ∧
    (t.fltF.safe = true ↔ s.fltF.safe = true ∧ ∃ cls < 13, 3 ≤ t.fltF.level cls) ∧
    t.fltF.queue = s.fltF.queue ∧ t = { s with fltF := t.fltF, feeders := t.feeders, radio := t.radio } ∧
    t.radio = { s.radio with reduced := t.radio.reduced }) ∧
  (∀ s : State, exec .caprel s = .next { s with fltF := { s.fltF with cap := { s.fltF.cap with frozen := false } } }) ∧
  (∀ s : State, s.fltF.queue = [] → exec .fltqConsume s = .next s) ∧
  (∀ (s u v : State) (fr : List Byte) (q : List (List Byte)), s.fltF.queue = fr :: q →
    u = { s with fltF := { s.fltF with queue := q, safeRec := none } } →
    v = (match s.fltF.safeRec with | some r => u.commit 5 2 r | none => u) →
    (v.commit 5 1 fr).objBool 0xA001 2 = false ∨ fieldLE fr 1 1 % 8 ≠ 1 →
    exec .fltqConsume s = .next ((v.commit 5 1 fr).send .porterField 0x60 (.fault fr)))

/-- R386, R390, R394, R397, R419: monitors, watchdog, restart and pads. -/
def Obligations.MonitorsAndRestartAct : Prop :=
  ∀ (s : State) (ppm : BitVec 16) (rail mv : Nat) (v : Word) (m : BitVec 4),
    exec (.carrierOutOfTolerance ppm) s = .next (s.raiseFault .field 6 2 3 (natLE 2 ppm.toNat)) ∧
    exec .pllUnlock s = .next (s.raiseFault .field 6 3 4 []) ∧
    exec (.railOutOfRange rail mv) s = .next (s.raiseFault .field 7 1 3 (b8 rail :: natLE 2 mv)) ∧
    exec .collectorParityError s = .next (s.raiseFault .field 2 3 4 []) ∧
    exec (.wdkick 0xA5C3) s = .next { s with power := { s.power with kicked := true } } ∧
    (v ≠ 0xA5C3 → exec (.wdkick v) s = .next { s with power := { s.power with missedKicks := s.power.missedKicks + 1 } }) ∧
    (s.dbg.halted = true → exec .watchdog s = .next s) ∧
    (s.dbg.halted = false → exec .watchdog s = .next (({ s with power := { s.power with kicked := false } }).raiseFault .field 10 6 4 [])) ∧
    (s.fltF.halting = true → s.fltH.halting = false → s.power.hostReset = false → exec (.restartDelay .field) s = .next (s.fieldReset (some 3))) ∧
    (s.fltF.halting = true → s.fltH.halting = true ∨ s.power.hostReset = true →
      exec (.restartDelay .field) s = .next { s with power := { s.power with restartWaits := true } }) ∧
    (s.fltF.halting = false → exec (.restartDelay .field) s = .next s) ∧
    (s.fltH.halting = true → exec (.restartDelay .host) s = .next s.hostHold) ∧
    (s.fltH.halting = false → exec (.restartDelay .host) s = .next s) ∧
    (∃ t : State, exec (.padrel .field m) s = .next t ∧ t.power = { s.power with padlat := s.power.padlat &&& ~~~m } ∧
      t = { s with power := t.power, radio := { s.radio with fem := t.radio.fem }, out := t.out } ∧ (m.getLsbD 0 = false → t.radio = s.radio) ∧
      t.out = (if s.power.padlat.getLsbD 2 = true ∧ m.getLsbD 2 = true then s.out ++
        [.twinPin 7 (if s.twin.role = 1 then 1 else 0), .twinPin 9 (bit s.twin.hbOut), .twinPin 13 (bit s.fltF.haltOut)] else s.out)) ∧
    exec (.padrel .host m) s = .next { s with power := { s.power with hostPadlat := s.power.hostPadlat &&& ~~~m } }

/-- R295, R400 to R404: the supply. -/
def Obligations.SupplyEventsAct : Prop :=
  (∀ s u : State, u = { s with power := { s.power with source := if s.objBool 0xB000 8 then 1 else 2 } } →
    (s.power.source = 0 → exec .mainsAbsent s = .next
      (if s.tb.present = false ∧ s.objBool 0xB000 8 = true then { u with tb := { u.tb with src := 2, edgeRun := 0, slew := 0, missed := 0 } } else u)) ∧
    (s.power.source ≠ 0 → exec .mainsAbsent s = .next s) ∧
    exec .returnToMains s = .next { s with power := { s.power with source := 0 } }) ∧
  (∀ (s : State) (v : Nat),
    (s.objBool 0xB000 8 = true → exec (.auxOutOfRange v) s = .next (({ s with power := { s.power with
      auxEvents := s.power.auxEvents + 1, source := if s.power.source = 1 then 2 else s.power.source } }).raiseFault .field 7 3 2 (natLE 2 v))) ∧
    (s.objBool 0xB000 8 = false → exec (.auxOutOfRange v) s = .next s)) ∧
  (∀ s u w : State, s.power.warning = false → s.power.state = 0 →
    u = { s with power := { s.power with warning := true, warnings := s.power.warnings + 1, source := 2, entering := 0 } } →
    w = (((u.each (List.range 9) (State.abortTrack 3)).each (List.range 8) State.rampDown).calibInterrupt.radioHalt.storeAbandon) → w.power.trans = false →
    ∃ t : State, exec .powerFailWarning s = .next t ∧ t.power = { w.power with doomed := true } ∧
      (w.nvm.armed = true → w.nvm.gasps.length < 16 → ∃ g, t.nvm.gasps = w.nvm.gasps ++ [g] ∧ g.ts = w.tb.ts ∧ g.esn = w.journal.esn ∧
        g.counters = (List.range 16).map (fun k => (w.cmdSlot k).last + 1) ∧ g.storing = decide (w.settings.state = 1) ∧ g.consumed = false) ∧
      (w.nvm.armed = false → t.nvm.gasps = w.nvm.gasps) ∧ t.nvm.armed = false ∧
      (∀ o, w.nvm.busy = some o → o.erase = true → t.nvm.busy = none ∧ t.nvm.suspended = o :: w.nvm.suspended) ∧
      t = { w with nvm := t.nvm, power := t.power }) ∧
  (∀ s : State, (s.power.warning = true → exec .powerFailWarning s = .next s) ∧
    (s.power.warning = false → exec .warningClear s = .next s)) ∧
  (∀ s u : State, s.power.warning = true → s.power.hostAsleep = false →
    u = { s with power := { s.power with
      warning := false
      source := if s.power.source ≠ 2 then s.power.source else if s.tb.present = true ∨ s.objBool 0xB000 8 = false then 0 else 1 } } →
    exec .warningClear s = .next (u.fieldReset (some 1))) ∧
  (∀ s : State, ∃ t : State, exec .powerLoss s = .next t ∧ t.power = { state := 3 } ∧ (∀ c ∈ t.mem, 0x100 ≤ bankOf c.1) ∧ t.hostMem = [] ∧
    t.journal.ring = [] ∧ t.journal.esn = s.journal.esn ∧ t.tracks = [] ∧ t.roster = {} ∧ t.linkF = {} ∧ t.linkH = {} ∧ t.linkT = {} ∧
    t.observers = [] ∧ t.recent = [] ∧ t.fltF = {} ∧ t.fltH = {} ∧ t.settings.fieldCopies = s.settings.fieldCopies ∧
    t.settings.hostCopies = s.settings.hostCopies ∧ t.keys.store = s.keys.store ∧ t.nvm.log = s.nvm.log ∧ t.nvm.gasps = s.nvm.gasps ∧
    t.out = s.out)

/-- R268, R407, R408, R411 to R413, R419: levels and sleep entries. -/
def Obligations.LevelsAndSleepEntries : Prop :=
  (∀ (s : State) (l : Fin 4), s.power.state = 0 →
    (s.coreF.lock = false → s.power.trans = false → (l : Nat) ≠ s.power.level → exec (.performanceLevel l) s =
      .next { s with power := { s.power with trans := true, reqLevel := l, deferredLevel := none } }) ∧
    (s.coreF.lock = false → s.power.trans = false → (l : Nat) = s.power.level → exec (.performanceLevel l) s =
      .next { s with power := { s.power with reqLevel := l } }) ∧
    (s.coreF.lock = true ∨ s.power.trans = true → exec (.performanceLevel l) s =
      .next { s with power := { s.power with deferredLevel := some l.val } })) ∧
  (∀ (s : State) (l : Fin 4), s.power.state ≠ 0 → exec (.performanceLevel l) s = .next s) ∧
  (∀ s : State, (s.power.trans = false → exec .transitionEnd s = .next s) ∧
    (s.power.trans = true → s.power.warning = false → s.power.deferredLevel = none → exec .transitionEnd s = .next { s with
      power := { s.power with trans := false, level := s.power.reqLevel, transitions := s.power.transitions + 1 } }) ∧
    (∀ l, s.power.trans = true → s.power.warning = false → s.power.deferredLevel = some l → s.coreF.lock = false → l ≠ s.power.reqLevel →
      exec .transitionEnd s = .next { s with power := { s.power with
        level := s.power.reqLevel, transitions := s.power.transitions + 1, trans := true, reqLevel := l, deferredLevel := none } }) ∧
    (s.objNat 0xB001 1 = 4 → (∀ t < 9, (s.track t).st = 0) → s.power.state = 0 → s.coreF.lock = false → s.power.trans = false →
      s.power.level ≠ 1 → exec .levelDrop s = .next { s with power := { s.power with trans := true, reqLevel := 1, deferredLevel := none } }) ∧
    (s.objNat 0xB001 1 ≠ 4 → exec .levelDrop s = .next s)) ∧
  (∀ (s : State) (c : Instr) (req : Nat), (c, req) ∈ [(Instr.enterLantern, 1), (.enterCurfew, 2), (.enterCurfewDiscarding, 3)] →
    (s.serving = false → exec c s = .next s) ∧
    (s.serving = true →
      (s.power.entering ≠ 0 ∨ s.power.state ≠ 0 ∨ s.dbg.minutes ≠ 0 → exec c s = .next (s.answers 0xB010 1 .busy)) ∧
      (s.power.entering = 0 → s.power.state = 0 → s.dbg.minutes = 0 →
        (req = 2 → s.settings.changedF = true ∨ s.settings.changedH = true → exec c s = .next (s.answers 0xB010 1 .invalid)) ∧
        (req ≠ 2 ∨ (s.settings.changedF = false ∧ s.settings.changedH = false) →
          (s.power.warning = true → exec c s = .next (s.answers 0xB010 1 .powerFail)) ∧
          (s.power.warning = false → s.twin.role = 0 → exec c s = .next ((s.negotiate req).answers 0xB010 1 .ok)))))) ∧
  (∀ (s : State) (req : Nat), s.refusingBlock ≠ 0 → s.negotiate req =
    ({ s with power := { s.power with
      entering := 0, decl := s.refusingBlock, declined := true, lastEntry := 2, declines := s.power.declines + 1 } } : State).commit
        6 9 [b8 req, b8 s.refusingBlock]) ∧
  (∀ (s t : State) (curfew : Bool), t = s.powerDown curfew →
    t.power = { s.power with
      state := if curfew then 2 else 1, hostAsleep := true, entering := 0, window := curfew, lastEntry := 1, padlat := 0xF
      hostPadlat := 1, lanterns := s.power.lanterns + (if curfew then 0 else 1), curfews := s.power.curfews + (if curfew then 1 else 0) } ∧
    t.sense.scanner = !curfew ∧ (curfew = true → ∀ f < 16, (t.feeder f).biasOn = false) ∧
    t = { s with
      power := t.power, feeders := t.feeders, radio := t.radio, sense := t.sense, ring := t.ring, spi := t.spi, twin := t.twin })

/-- R409, R410, R413 to R418, R420, R423: waking. -/
def Obligations.WakesAct : Prop :=
  (∀ (s : State) (src : Fin 9), src ≠ 8 →
    (s.wakeEnabled src = false → exec (.wake src) s = .next s) ∧
    (s.wakeEnabled src = true → s.power.entering ≠ 0 → exec (.wake src) s = .next (s.decline s.power.entering 7)) ∧
    (s.wakeEnabled src = true → s.power.entering = 0 →
      (s.asleep (if (src : Nat) ≤ 3 then .host else .field) = false ∨ s.power.window = true ∨ s.levelHolds src = false →
        exec (.wake src) s = .next s) ∧
      (s.asleep (if (src : Nat) ≤ 3 then .host else .field) = true → s.power.window = false → s.levelHolds src = true → ∀ u : State,
        u = (if (s.power.state = 1 ∨ s.power.state = 2) ∧ s.power.hostAsleep = true then { s with power := { s.power with
          lastWake := src, wakeShown := src, wokeFrom := s.power.state, wakeTs := s.tb.ts, wakes := s.power.wakes + 1 } } else s) →
        ((src : Nat) ≤ 3 → s.power.state = 0 → exec (.wake src) s = .next u.hostWake) ∧
        ((src : Nat) ≤ 3 → s.power.state = 1 ∨ s.power.state = 2 → exec (.wake src) s = .next (u.emit (.wakeSymbol .field)).hostWake) ∧
        (3 < (src : Nat) → exec (.wake src) s = .next (if s.power.hostAsleep = true then u.emit (.wakeSymbol .host) else u).fieldWake)))) ∧
  (∀ s : State,
    (s.power.state = 1 → s.fieldWake = ((s.advance (usCt 300)).leaveLantern).restoreList 16 0 ∧
      ((s.advance (usCt 300)).leaveLantern).power.state = 0) ∧
    (s.power.state = 0 → s.fieldWake = s) ∧
    (s.power.hostAsleep = true → ∃ t : State, s.hostWake = t ∧ t.power.hostAsleep = false) ∧
    (s.power.state = 1 ∨ s.power.state = 2 → s.power.hostAsleep = false →
      exec (.wakeSymbol .field) s = .next (s.advance (usCt 20)).fieldWake ∧ exec (.wakeFailure .field) s = .next (s.fieldReset (some 6))) ∧
    (s.power.state = 0 → s.power.hostAsleep = true → exec (.wakeSymbol .host) s = .next s.hostWake) ∧
    (s.power.hostAsleep = true → exec (.wakeFailure .host) s = .next (({ s with power := { s.power with hostAsleep := false } }).hostHold)) ∧
    (s.power.state = 0 → exec (.wakeSymbol .field) s = .next s ∧ exec (.wakeFailure .field) s = .next s ∧ exec (.brownout .field) s = .next s ∧
      exec (.wake 8) s = .next s) ∧
    (s.power.hostAsleep = false → exec (.wakeSymbol .host) s = .next s ∧ exec (.wakeFailure .host) s = .next s ∧ exec (.brownout .host) s = .next s)) ∧
  (∀ s u v : State, s.power.state = 1 ∨ s.power.state = 2 → s.power.hostAsleep = true →
    u = { s with power := { s.power with
      lastWake := 8, wakeShown := 8, wokeFrom := s.power.state, wakeTs := s.tb.ts, wakes := s.power.wakes + 1 } } →
    v = (((u.emit (.wakeSymbol .host)).advance (usCt 9000)).fieldHw 2).restoreList 16 0 →
    exec (.brownout .field) s = .next ((v.fieldBoot (some 2) true).raiseFault .field 7 2 2 [b8 s.power.state]) ∧
    exec (.wake 8) s = exec (.brownout .field) s ∧
    exec (.brownout .host) s = .next (({ ({ u.emit (.wakeSymbol .field) with
      power := { u.power with hostAsleep := false } } : State).hostHold with hostMem := s.hostMem }).raiseFault .host 7 2 2 [b8 s.power.state])) ∧
  (∀ s u : State, u = { s with power := { s.power with lastWake := 8 } } →
    (s.power.state = 1 ∨ s.power.state = 2 → s.power.hostAsleep = false → exec (.brownout .field) s = .next
      (((((u.advance (usCt 9000)).fieldHw 2).restoreList 16 0).fieldBoot (some 2) true).raiseFault .field 7 2 2 [b8 s.power.state])) ∧
    (s.power.state = 0 → s.power.hostAsleep = true → exec (.brownout .host) s = .next
      (({ ({ u with power := { u.power with hostAsleep := false } } : State).hostHold with hostMem := s.hostMem }).raiseFault .host 7 2 2 [b8 0]))) ∧
  (∀ s u : State, u = { s with power := { s.power with window := false } } →
    (s.power.window = false → ∀ e, exec (.curfewWindowEnd e) s = .next s) ∧
    (s.power.window = true → (u.wakeEnabled 6 = false ∨ u.levelHolds 6 = false) →
      exec (.curfewWindowEnd none) s = .next u ∧
      (∀ k, k ∈ [1, 2, 5, 7] → u.wakeEnabled k = true → u.levelHolds k = true → exec (.curfewWindowEnd (some k)) s = .next (u.wakeNow k)))) ∧
  (∀ (s : State) (l : Int), (s.radio.state = 5 → l > signedOf 8 (s.objNat 0x7030 3) → exec (.sniffPeriod (some l)) s = .next (s.wakeEvent 4)) ∧
    (s.radio.state ≠ 5 ∨ l ≤ signedOf 8 (s.objNat 0x7030 3) → exec (.sniffPeriod (some l)) s = .next s) ∧
    exec (.sniffPeriod none) s = .next s)

/-- R428 to R432, R437: the radio's states. -/
def Obligations.RadioStatesFollowCommands : Prop :=
  ∀ (s0 s : State) (after : Then) (r : Radio), s = s0.loopTry → r = s.radio →
    let does (c : Instr) (t : State) : Prop := exec c s0 = .next (if hasRadio then t else s0)
    (s.power.padlat.getLsbD 0 = true → does (.sleep after) s ∧ does (.idle after) s ∧ does (.fsOn after) s ∧
      does (.rx after) { s with radio := { r with rxThen := after } }) ∧
    (s.power.padlat.getLsbD 0 = false → (∀ c ∈ r.queue, c.onAir = false) →
      (∀ (c : Instr) (g : Nat), (c, g) ∈ [(Instr.sleep after, 0), (.idle after, 1)] →
        does c { s with radio := { r with goal := g, moving := true, rxBusy := false, rxDrop := false } }) ∧
      ((r.state ≤ 1 ∨ r.state = 5) → r.calPend = false →
        does (.fsOn after) { s with radio := { r with goal := 2, settle := true } } ∧
        does (.rx after) { s with radio := { r with rxThen := after, goal := 3, settle := true } }) ∧
      ((r.state ≤ 1 ∨ r.state = 5) → r.calPend = true →
        does (.fsOn after) { s with radio := { r with goal := 2, cal := true, calPend := false, lock := false } } ∧
        does (.rx after) { s with radio := { r with rxThen := after, goal := 3, cal := true, calPend := false, lock := false } }) ∧
      (2 ≤ r.state → r.state ≤ 4 →
        does (.fsOn after) { s with radio := { r with goal := 2, moving := true, rxBusy := false, rxDrop := false } } ∧
        does (.rx after) { s with radio := { r with rxThen := after, goal := 3, moving := true } })) ∧
    (∀ c, s.power.padlat.getLsbD 0 = false → r.queue = [c] → c.onAir = true →
      does (.sleep after) { s with radio := { r with queue := [{ c with after := .sleep }] } } ∧
      does (.idle after) { s with radio := { r with queue := [{ c with after := .idle }] } } ∧
      does (.fsOn after) { s with radio := { r with queue := [{ c with after := .fsOn }] } } ∧
      does (.rx after) { s with radio := { r with rxThen := after, queue := [{ c with after := .rx }] } }) ∧
    ((r.settle = true ∨ r.moving = true) → r.calPend = false → r.queue = [] → does .settleEnd { s with radio := { r with
      settle := false, moving := false, state := r.goal, lock := decide (2 ≤ r.goal ∧ r.goal ≠ 5), freq := s.synthKhz r.goal
      fem := if s.power.padlat.getLsbD 0 then r.fem else if s.objBool 0x7010 4 then femOf r.goal s.fltF.safe else 0 } }) ∧
    (r.settle = false → r.moving = false → does .settleEnd s) ∧
    (((r.state = 1 ∨ r.state = 2 ∨ r.state = 3) ∧ r.rxBusy = false ∧ r.queue = [] ∧ r.cal = false ∧ r.settle = false →
      does .calibrate { s with radio := { r with calPend := false, cal := true, lock := false, goal := r.state } } ∧
      (∀ c : Int, 8 ≤ (c - r.calTemp).natAbs → does (.temperatureSample c) { s with radio := { r with
        temp := c, calPend := false, cal := true, lock := false, goal := r.state } }))) ∧
    ((r.state = 0 ∨ r.state = 4 ∨ r.rxBusy = true ∨ r.queue ≠ [] ∨ r.cal = true ∨ r.settle = true →
      does .calibrate { s with radio := { r with calPend := true } })) ∧
    (∀ c : Int, (c - r.calTemp).natAbs < 8 → r.calPend = false → does (.temperatureSample c) { s with radio := { r with temp := c } }) ∧
    (r.cal = true → does .synthesiserCalibrationDone { s with radio := { r with
      cal := false, cals := r.cals + 1, calTemp := r.temp, settle := true } }) ∧
    (r.cal = false → does .synthesiserCalibrationDone s) ∧
    (∀ (iq ab : Bool) (db : Nat),
      (r.state = 3 → r.cal = false → r.settle = false → r.moving = false → r.loop ≠ 1 → s.calib.staleRssi = false → r.rxBusy = false → iq = true → ab = false →
        does (.backgroundCalibration iq ab db) { s with radio := { r with imageDb := db } }) ∧
      (r.state ≠ 3 ∨ r.rxBusy = true ∨ iq = false ∨ ab = true → does (.backgroundCalibration iq ab db) s)) ∧
    (∃ n, (n = r.dutyNoted ∨ n = false) ∧ does .dutyBucket { s with radio := { r with duty := (0 :: r.duty).take 3600, dutyNoted := n } })

/-- R429, R430, R433, R434, R437 to R441, R456: transmission. -/
def Obligations.TransmissionsProceed : Prop :=
  (∀ (s0 s : State) (r : Radio) (after : Then) (urgent pri : Bool) (p : BitVec 8) (c : TxCmd), s = s0.loopTry → r = s.radio →
    c = { pkt := p.toNat, urgent := urgent, pri := pri, after := after } →
    let does (i : Instr) (t : State) : Prop := exec i s0 = .next (if hasRadio then t else s0)
    (s.txHeaderOk p.toNat = false → does (.tx after urgent pri p) { s with radio := { r with txIgnored := r.txIgnored + 1 } }) ∧
    (s.txHeaderOk p.toNat = true → (s.fltF.safe = true ∨ s.power.warning = true → does (.tx after urgent pri p) (s.txResult c 5)) ∧
      (s.fltF.safe = false → s.power.warning = false →
        (4 ≤ r.queue.length → does (.tx after urgent pri p) (s.txResult c 6)) ∧
        (r.queue.length < 4 → (urgent = false → does (.tx after urgent pri p) { s with radio := { r with queue := r.queue ++ [c] } }) ∧
          (urgent = true → (∀ x ∈ r.queue, x.urgent = false ∧ x.t0 = none) →
            does (.tx after urgent pri p) { s with radio := { r with queue := c :: r.queue } }))))) ∧
  (∀ (s0 s u : State) (r : Radio) (c d : TxCmd) (q : List TxCmd), s = s0.loopTry → r = s.radio → r.queue = c :: q →
    let does (i : Instr) (t : State) : Prop := exec i s0 = .next (if hasRadio then t else s0)
    (c.t0 = none → s.power.padlat.getLsbD 0 = false → ¬ (r.loop = 1 ∧ r.loopWait = false) → d = { c with t0 := some s.tb.cc } → u = { s with radio := { r with queue := d :: q } } →
      (s.fltF.safe = true ∨ s.power.warning = true → does .transmitHead (u.headEnd 5)) ∧
      (s.fltF.safe = false → s.power.warning = false →
        does .transmitHead (if u.dutyRefuses (u.slotUs c.pkt) c.urgent then u.noteDuty.headEnd 2 else u.txPrepare c))) ∧
    (c.t0 ≠ none ∨ s.power.padlat.getLsbD 0 = true ∨ (r.loop = 1 ∧ r.loopWait = false) → does .transmitHead s) ∧
    (∀ t, c.t0 = some t → c.onAir = false → c.waiting = false → c.leadDone = false → r.coexReq = true →
      ∀ grant v, v = s.advanceTo ((t + usCt (s.objNat 0x7010 7)) % 2 ^ 48) →
        does (.leadEnd grant) (State.txGo { v with radio := { v.radio with
          queue := (match v.radio.queue with | [] => [] | x :: l => { x with leadDone := true } :: l)
          coexGnt := grant } })) ∧
    (c.waiting = true → ∃ w, w = ({ s with radio := { r with queue := { c with
      waiting := false, leadDone := false, t0 := some s.tb.cc } :: q } } : State).txPrepare c ∧ does .coexRetry w) ∧
    (c.waiting = false → does .coexRetry s) ∧
    (c.onAir = true → ∀ (us : Nat) (bad : Bool) (h : List Byte) (v w : State), h = s.pktBytes (slotOff c.pkt) 16 →
      v = (if fieldLE h 0 1 = 1 then (s.addDuty (us + 2 * c.ramp)).modNode (fieldLE h 6 2) (fun n => { n with sent := n.sent + 1 })
        else s.addDuty (us + 2 * c.ramp)) →
      w = (if bad then ({ v with radio := { v.radio with femFaults := v.radio.femFaults + 1, reduced := true } } : State).raiseFault .field 12 3 2
        (natLE 2 v.radio.channel) else v) → does (.packetSent us bad) (w.packetEnd 0)) ∧
    (c.onAir = false → ∀ us bad, does (.packetSent us bad) s ∧ does .grantWithdrawn s) ∧
    (c.onAir = true → c.coex = false → does .grantWithdrawn s) ∧
    (c.onAir = true → c.coex = true → ∀ v : State, v = { s with radio := { r with withdrawals := r.withdrawals + 1, coexGnt := false } } →
      does .grantWithdrawn (if c.abort then (v.addDuty (v.cutUs c)).packetEnd 4 else v)) ∧
    ((2 ≤ r.state ∧ r.state ≤ 4) → c.onAir = true → ∀ v w : State,
      v = { s with radio := { r with lock := false, lockLosses := r.lockLosses + 1, rxBusy := false, rxDrop := false } } →
      w = (v.addDuty (v.cutUs c)).packetEnd 3 →
      does .lossOfLock (({ w with radio := { w.radio with cal := true, calPend := false, settle := false, goal := w.radio.state } } : State).raiseFault
        .field 12 1 2 (natLE 2 r.channel)))) ∧
  (∀ s : State, s.radio.queue = [] → (s.radio.state ≤ 1 ∨ s.radio.state = 5) → exec .lossOfLock s = .next (if hasRadio then s.loopTry else s)) ∧
  (∀ (s : State) (c : TxCmd) (q : List TxCmd), s.radio.queue = c :: q → c.t0 ≠ none → c.onAir = false → c.waiting = false →
    s.radio.cal = false → s.radio.settle = false → s.radio.moving = false → s.radio.rxBusy = false →
    (s.objBool 0x7010 6 = false ∨ (c.leadDone = true ∧ s.radio.coexGnt = true) → ∃ t : State, s.txGo = t ∧ t.radio.state = 4 ∧
      t.radio.txst = (s.tb.cc + usCt (if s.radio.state = 3 then 23 else 3)) % 2 ^ 48 % 2 ^ 32 ∧
      t.radio.queue = { c with
        onAir := true, coex := s.objBool 0x7010 6, abort := s.objBool 0x7010 8, ramp := s.objNat 0x7010 10 } :: q ∧
      t.out = s.out ++ [.radioPacket c.pkt s.radio.channel t.outputDbm (s.objNat 0x7010 10) (s.objNat 0x7020 2) (t.slotXhr c.pkt) (t.slotSymbols c.pkt)] ∧
      t.pktMem = (s.placeFcs c.pkt).pktMem ∧ t.radio.freq = s.centreKhz ∧ t.radio.coexReq = s.radio.coexReq ∧ t = { s with radio := t.radio, pktMem := t.pktMem, out := t.out }) ∧
    (s.objBool 0x7010 6 = true → c.leadDone = true → s.radio.coexGnt = false → c.retries < s.objNat 0x7010 9 → s.txGo = { s with
      radio := { s.radio with
        denials := s.radio.denials + 1
        coexReq := false
        coexPri := false
        queue := { c with waiting := true, retries := c.retries + 1 } :: q } })) ∧
  (∀ (s : State) (c : TxCmd), s.objBool 0x7010 6 = false → (2 ≤ s.radio.state ∧ s.radio.state ≤ 4) → s.radio.cal = false → s.txPrepare c = s.txGo)

/-- R430, R443, R446, R450 to R452, R454, R455, R457, R459: reception. -/
def Obligations.ReceptionProceeds : Prop :=
  ∀ (s0 s : State) (r : Radio), s = s0.loopTry → r = s.radio →
    let does (c : Instr) (t : State) : Prop := exec c s0 = .next (if hasRadio then t else s0)
    (∀ (opts en : List Nat) (o : Nat) (os : List Nat),
      en = opts.filter (fun o => decide (1 ≤ o ∧ o ≤ 4) && decide (bitsOf (s.objNat 0x7010 2) (o - 1) 1 = 1)) →
      (en = [] → does (.stfDetection opts) s) ∧
      (en = o :: os → r.rxBusy = true → does (.stfDetection opts) { s with radio := { r with ignoredPre := r.ignoredPre + 1 } }) ∧
      (en = o :: os → r.rxBusy = false → s.searching = false → does (.stfDetection opts) s) ∧
      (en = o :: os → r.rxBusy = false → r.state = 3 → r.cal = false → r.settle = false → r.moving = false → r.loop ≠ 1 →
        s.calib.staleRssi = false → ∃ m, m ∈ en ∧ (∀ x ∈ en, m ≤ x) ∧ does (.stfDetection opts) { s with radio := { r with
          rxBusy := true, rxDrop := false, phrDone := false, rxExt := false, rxNode := 0xFFFF, rxGen := 0, rxMcs := 0, rxLen := 0
          lockOpt := m, stfCc := s.tb.cc } })) ∧
    (∀ (ok : Bool) (rate len : Nat),
      (r.rxBusy = false ∨ r.phrDone = true → does (.phr ok rate len) s) ∧
      (r.rxBusy = true → r.phrDone = false →
        does (.phr false rate len) (State.txGo { s with radio := { r with rxBusy := false, phrFails := r.phrFails + 1 } }) ∧
        (rate = 31 → r.lockOpt = 1 → s.objBool 0x7020 1 = true →
          does (.phr true rate len) { s with radio := { r with phrDone := true, rxExt := true, rxMcs := 255, rxLen := len } }) ∧
        (∀ b, rate ≠ 31 → ndbps r.lockOpt rate = some b →
          does (.phr true rate len) { s with radio := { r with phrDone := true, rxExt := false, rxMcs := rate, rxLen := len } }) ∧
        (ndbps r.lockOpt rate = none → rate ≠ 31 ∨ r.lockOpt ≠ 1 ∨ s.objBool 0x7020 1 = false →
          does (.phr true rate len) { s with radio := { r with phrDone := true, rxDrop := true, rateFails := r.rateFails + 1, rxLen := len } }))) ∧
    (∀ (addr gen : Nat), (r.rxBusy = false ∨ r.rxExt = false ∨ r.rxDrop = true → ∀ ok, does (.xhr ok addr gen) s) ∧
      (r.rxBusy = true → r.rxExt = true → r.rxDrop = false →
        does (.xhr false addr gen) { s with radio := { r with rxDrop := true, xhrFails := r.xhrFails + 1 } } ∧
        (s.xhrNode addr = none → does (.xhr true addr gen) { s with radio := { r with rxDrop := true, xhrFails := r.xhrFails + 1 } }) ∧
        (∀ i, s.xhrNode addr = some i →
          does (.xhr true addr gen) (if gen ≠ 0 ∧ (gen = (s.node i).upGen ∨ ((s.node i).bothGens = true ∧ gen = (s.node i).prevGen)) then
            { s with radio := { r with rxNode := i, rxGen := gen } } else { s with radio := { r with rxDrop := true, xhrFails := r.xhrFails + 1 } })))) ∧
    (∀ k : DoorPacket, (r.rxBusy = false ∨ r.phrDone = false → does (.packetReceived k) s) ∧
      (r.rxBusy = true → r.phrDone = true →
        (r.rxDrop = true → does (.packetReceived k) s.rxEnd) ∧
        (r.rxDrop = false → fcsGood (s.psduOf k) = false → does (.packetReceived k) (State.rxEnd { s with radio := { r with fcsFails := r.fcsFails + 1 } })) ∧
        (r.rxDrop = false → fcsGood (s.psduOf k) = true → s.freeSlot = none →
          does (.packetReceived k) (State.rxEnd { s with radio := { r with ringFull := r.ringFull + 1 } })) ∧
        (∀ p, r.rxDrop = false → fcsGood (s.psduOf k) = true → s.freeSlot = some p →
          ((if r.rxExt = true then some r.rxNode else k.node) = none → does (.packetReceived k) (s.storePacket p k).rxEnd) ∧
          (∀ i, (if r.rxExt = true then some r.rxNode else k.node) = some i →
            ((s.storePacket p k).objBool (0x7400 + i) 1 = false → does (.packetReceived k) (s.storePacket p k).rxEnd) ∧
            ((s.storePacket p k).objBool (0x7400 + i) 1 = true →
              (k.msg = .other → does (.packetReceived k) ((s.storePacket p k).nodeHeard i k).rxEnd) ∧
              (∀ cl, k.msg = .doorReport cl → does (.packetReceived k) (((s.storePacket p k).nodeHeard i k).doorReport i cl k.rssi).rxEnd)))))) ∧
    (∀ n : Fin 1024, ((s.node n).newMap = none → does (.mapSetAck n) s) ∧
      (∀ m g, (s.node n).newMap = some (m, g) → does (.mapSetAck n) (s.modNode n fun x => { x with
        upMap := m, prevMap := x.upMap, prevGen := x.upGen, upGen := g, bothGens := true, newMap := none })) ∧
      (∀ g m, mapValid m = true → does (.mapReport n g m) (s.modNode n fun x => { x with downMap := m, downGen := g })) ∧
      (∀ g m, mapValid m = false → does (.mapReport n g m) { s with radio := { r with badMaps := r.badMaps + 1 } })) ∧
    (∀ m, (r.loop ≠ 1 ∨ r.loopWait = true → does (.doorLinkLoopbackEnd m) s) ∧
      (r.loop = 1 → r.loopWait = false → ∀ v, v = (if r.loopDuty = 0 then s else s.addDuty r.loopDuty) →
        does (.doorLinkLoopbackEnd m) (State.radioPins { v with radio := { v.radio with
          loop := if m = 100 then 2 else 3, loopSent := 100, loopMatched := min 100 m } })))

/-- R26: the checks of an arriving message. -/
def Obligations.ArrivingMessagesAreChecked : Prop :=
  ∀ (s : State) (e l : LinkEnd) (c : Instr) (f : List Byte) (pos : Option Bool) (peer : Peer) (rid n m : Nat) (q : DictReq) (v : List Byte)
    (x : CmdIn) (recs : List JRec) (p : PowerMsg) (n16 : Fin 16) (wv : WaveMsg) (rv : ReserveMsg) (cm : ChangeMsg) (km : KeysMsg) (dm : DictMsg)
      (hm : HostMsg) (b : Bool) (rp : List ResyncPart),
    (c, e) ∈ [(.linkHello l f pos, l), (.linkAck l f, l), (.linkResync l f, l), (.dictReq f peer rid q, .porterField),
      (.dictRsp f peer rid q n v, .porterHost), (.cmdReq f x, .porterField), (.cmdRsp f peer rid, .porterHost),
      (.porterEvent f recs, .porterHost), (.porterEventAck f n, .porterField), (.porterJournal f, .porterHost),
      (.porterJournalAck f m n, .porterField), (.powerState f l p, l), (.time f n, .porterHost), (.report f, .porterHost),
      (.faultMsg l f, l), (.porterEcho l f, l),
      (.heartbeat f, .twin), (.fieldQuery f n16, .twin), (.fieldReply f n16 n m, .twin), (.haltNotice f, .twin),
      (.handover f, .twin), (.pair f, .twin), (.mJournal f, .twin), (.mWave f wv, .twin), (.mClose f n m, .twin),
      (.mCounter f n16 n, .twin), (.mReserve f rv, .twin), (.mInflight f cm, .twin), (.mService f cm, .twin),
      (.mKeys f km, .twin), (.mDict f dm, .twin), (.mHost f hm, .twin), (.mPower f b, .twin), (.resyncData f rp, .twin)] → s.endRuns e = true → (s.link e).up = true →
    let len := fieldLE f 4 2
    let crcOk : Prop := f.length = 12 + len ∧ fieldLE f (8 + len) 4 = crc32c (f.take (8 + len))
    let headOk : Prop := fieldLE f 1 1 / 2 = 0 ∧ fieldLE f 6 2 = 0 ∧ len % 4 = 0 ∧ len ≤ 520
    let typeOk : Prop := typePermitted e s.twin.role (fieldLE f 0 1) = true
    let lenOk : Prop := lengthPermitted (fieldLE f 0 1) len = true
    let seqOk : Prop := unsequenced e (fieldLE f 0 1) = true ∨ fieldLE f 2 2 = (s.link e).expRx
    let drops (k : Link → Link) : Prop := exec c s = .next ((s.modLink e k).sendAck e)
    (¬ crcOk → drops fun l => { l with badCrc := l.badCrc + 1 }) ∧
    (crcOk → ¬ headOk → drops fun l => { l with badHeader := l.badHeader + 1 }) ∧
    (crcOk → headOk → ¬ typeOk → drops fun l => { l with badType := l.badType + 1 }) ∧
    (crcOk → headOk → typeOk → ¬ lenOk → drops fun l => { l with badLength := l.badLength + 1 }) ∧
    (crcOk → headOk → typeOk → lenOk → ¬ seqOk → drops fun l => { l with outOfSeq := l.outOfSeq + 1 }) ∧
    (crcOk → headOk → typeOk → lenOk → seqOk → ∀ (d : State → State), s.receive e (fieldLE f 0 1) f d =
      d (if unsequenced e (fieldLE f 0 1) = true then s else s.modLink e fun l => { l with expRx := (l.expRx + 1) % 65536, owe := true }))

/-- R22, R23, R28, R30, R39, R43, R324, R326, R374, R393, R412, R476: link messages and timers. -/
def Obligations.LinkMessagesAreDelivered : Prop :=
  (∀ (s u : State) (e : LinkEnd) (f : List Byte) (typ : Nat), s.endRuns e = true → (s.link e).up = true →
    frameCheck e s.twin.role (s.link e).expRx f = 0 → fieldLE f 0 1 = typ →
    u = (if unsequenced e typ = true then s else s.modLink e fun l => { l with expRx := (l.expRx + 1) % 65536, owe := true }) →
    (typ = 1 → e ≠ .twin → ∀ pos, exec (.linkHello e f pos) s = .next u) ∧
    (typ = 2 → exec (.linkAck e f) s = .next (u.takeAck e (fieldLE f 8 2))) ∧
    (typ = 3 → exec (.linkResync e f) s = .next (u.resyncAt e (fieldLE f 8 4 % 65536) (fieldLE f 12 4 % 65536))) ∧
    (e = .porterField →
      (typ = 0x10 → ∀ peer rid q, exec (.dictReq f peer rid q) s = .next (u.serveProxied peer rid q)) ∧
      (typ = 0x12 → ∀ c, exec (.cmdReq f c) s = .next (u.command c true)) ∧
      (typ = 0x21 → ∀ n, exec (.porterEventAck f n) s = .next { u with journal := { u.journal with hostEsn := max u.journal.hostEsn n } }) ∧
      (typ = 0x31 → ∀ k n, exec (.porterJournalAck f k n) s = .next (u.storeKnown k n)) ∧
      (typ = 0x60 → exec (.faultMsg e f) s = .next (u.journalFault .host (sliceBytes f 8 (fieldLE f 4 2))))) ∧
    (e = .porterHost →
      (∀ (peer : Peer) (rid : Nat) (k : Option DictReq) (c : Instr) (resp : List Byte),
        (∃ q st v, typ = 0x11 ∧ k = some q ∧ c = .dictRsp f peer rid q st v ∧ resp = dictUnit rid q st v) ∨
          (typ = 0x13 ∧ k = none ∧ c = .cmdRsp f peer rid ∧ resp = unitBytes 0x83 rid (sliceBytes f 8 (fieldLE f 4 2))) →
        (∀ p, u.proxied.find? (fun p => decide (p.peer = peer ∧ p.rid = rid ∧ p.q = k)) = some p → exec c s =
          .next (({ u with proxied := u.proxied.erase p } : State).reply (.unit peer p.unit resp))) ∧
        ((∀ p ∈ u.proxied, ¬ (p.peer = peer ∧ p.rid = rid ∧ p.q = k)) → exec c s = .next u)) ∧
      (typ = 0x20 → ∀ recs, exec (.porterEvent f recs) s = .next (u.hostEvents recs)) ∧
      (typ = 0x30 → exec (.porterJournal f) s = .next (u.hostRecords (frameRecords f))) ∧
      (typ = 0x40 → ∀ lead, exec (.powerState f e (.role lead)) s = .next (u.hostRole lead)) ∧
      (typ = 0x41 → ∀ n, exec (.time f n) s = .next { u with hostTs := n }) ∧
      (typ = 0x50 → ∀ b n, b = u.carrying ++ sliceBytes f 8 (fieldLE f 4 2) → n = 24 + 24 * fieldLE b 8 4 →
        (b.length < n → exec (.report f) s = .next { u with carrying := b }) ∧
        (n ≤ b.length → exec (.report f) s = .next { u with
          carrying := [], carried := b.take n
          out := u.out ++ (if u.serving then u.observers.map fun o => .report o.peer (b.take n) else []) })) ∧
      (typ = 0x60 → exec (.faultMsg e f) s = .next { u with
        records := (u.records ++ [sliceBytes f 8 (fieldLE f 4 2)]).drop (u.records.length + 1 - 64) })) ∧
    (typ = 0x40 → exec (.powerState f e .exchange) s = .next u) ∧
    (typ = 0x7F → u.calib.loop = 1 → u.calib.loopDepth = 6 → exec (.porterEcho e f) s =
      .next (u.modLink e fun l => { l with echoes := l.echoes + 1 })) ∧
    (typ = 0x7F → u.calib.loop ≠ 1 ∨ u.calib.loopDepth ≠ 6 → exec (.porterEcho e f) s = .next (u.send e 0x7F (.echo (sliceBytes f 8 (fieldLE f 4 2)))))) ∧
  (∀ (s : State) (e : LinkEnd), s.endRuns e = true →
    ((s.link e).queue = [] ∨ (s.link e).up = false → exec (.helloPeriod e) s = .next (s.sendHello e)) ∧
    ((s.link e).queue ≠ [] → (s.link e).up = true → exec (.helloPeriod e) s = .next s) ∧
    ((s.link e).owe = true → exec (.ackPeriod e) s = .next
      ((s.modLink e fun l => { l with owe := false }).send e 2 (.ack (s.link e).expRx))) ∧
    ((s.link e).owe = false → exec (.ackPeriod e) s = .next s) ∧
    ((s.link e).up = false → exec (.retransmitTimeout e) s = .next s ∧ exec (.linkLost e) s = .next s) ∧
    ((s.link e).up = true →
      exec (.retransmitTimeout e) s = .next ((s.link e).window.foldl (fun s m => s.emit (sentMessage e m.typ m.seq true m.body))
        (s.modLink e fun l => { l with retrans := l.retrans + (s.link e).window.length })) ∧
      (∀ u, u = s.modLink e (fun l => { l with up := false, losses := l.losses + 1 }) →
        (e = .porterField → exec (.linkLost e) s = .next (u.raiseFault .field 8 1 2 [])) ∧
        (e = .porterHost → u.refuseProxied.proxied = [] ∧
          exec (.linkLost e) s = .next (({ u.refuseProxied with carrying := [] } : State).raiseFault .host 8 1 2 [])) ∧
        (e = .twin → exec (.linkLost e) s = .next u.twinLost)))) ∧
  (∀ (s : State) (e : LinkEnd) (f : List Byte), s.endRuns e = false → exec (.helloPeriod e) s = .next s ∧ exec (.ackPeriod e) s = .next s ∧
    exec (.retransmitTimeout e) s = .next s ∧ exec (.linkLost e) s = .next s ∧ exec (.linkAck e f) s = .next s)

/-- R361, R362, R369 to R371, R374, R375: unsequenced twin messages. -/
def Obligations.TwinNoticesAct : Prop :=
  (∀ (s : State) (f : List Byte) (typ : Nat), s.endRuns .twin = true → s.linkT.up = true →
    frameCheck .twin s.twin.role s.linkT.expRx f = 0 → fieldLE f 0 1 = typ →
    (typ = 1 → ∀ (pos : Option Bool) (w v : State), w = { s with twin := { s.twin with peerNonce := sliceBytes f 8 8, peerEsn := fieldLE f 16 8 } } →
      v = { w with twin := { w.twin with posBad := false } } →
      (pos = some (!s.twin.posA) → exec (.linkHello .twin f pos) s = .next (if s.twin.posBad then w else
        State.raiseFault .field 9 2 2 [] { w with twin := { w.twin with posBad := true, paired := false } })) ∧
      (pos ≠ some (!s.twin.posA) → exec (.linkHello .twin f pos) s = .next (
        if s.twin.paired = true ∧ s.twin.peerNonce = sliceBytes f 8 8 then v else if s.twin.key = [] then v.unpaired else v.sendPair))) ∧
    (typ = 0x90 → ∀ w : State, w = { s with twin := { s.twin with hbMsg := true, leadTs := fieldLE f 8 8, sleeping := false } } →
      let m := max (fieldLE f 8 8) s.twin.mirrorTs
      (s.twin.role = 2 → s.twin.paired = true → s.tb.ts < m → exec (.heartbeat f) s = .next
        { w with
          tb := { s.tb with ts := m }
          twin := { w.twin with tsSteps := s.twin.tsSteps + 1 } }) ∧
      (s.twin.role ≠ 2 ∨ s.twin.paired = false ∨ m ≤ s.tb.ts → exec (.heartbeat f) s = .next w)) ∧
    (typ = 0x91 → ∀ (n : Fin 16) (x : Nat),
      ((∀ i < 8, (s.chain i).routed = false ∨ (s.chain i).feeder ≠ n.val) → exec (.fieldQuery f n) s = .next (s.send .twin 0x92 (.fieldReply n.val 0 0))) ∧
      (x < 8 → (s.chain x).routed = true → (s.chain x).feeder = n.val → (∀ i < x, (s.chain i).routed = false ∨ (s.chain i).feeder ≠ n.val) →
        exec (.fieldQuery f n) s = .next (s.send .twin 0x92 (.fieldReply n.val (s.chain x).fwd ((s.chain x).power * 1000).floor.toNat)))) ∧
    (typ = 0x92 → ∀ (n : Fin 16) (fwd cmd : Nat) (w : State), w = { s with twin := { s.twin with queries := s.twin.queries.filter (· ≠ n.val) } } →
      (s.twin.queries.contains n.val = false → exec (.fieldReply f n fwd cmd) s = .next s) ∧
      (s.twin.queries.contains n.val = true → cmd ≤ 2 * fwd → exec (.fieldReply f n fwd cmd) s = .next
        (State.raiseFault .field 5 3 2 [b8 n.val] { w with twin := { w.twin with masked := s.twin.masked ++ [n.val], answered := s.twin.answered + 1 } })) ∧
      (s.twin.queries.contains n.val = true → 2 * fwd < cmd → exec (.fieldReply f n fwd cmd) s = .next (w.trigger 2))) ∧
    (typ = 0x93 → exec (.haltNotice f) s = .next (s.trigger 3)) ∧
    (typ = 0x94 → exec (.handover f) s = .next (s.trigger 4)) ∧
    (typ = 0x95 → (s.twin.posBad = true → exec (.pair f) s = .next s) ∧
      (s.twin.posBad = false → s.twin.key ≠ [] → sliceBytes f 8 8 = cmac8 s.twin.key (4 :: (padTo 8 s.twin.nonce ++ natLE 8 s.twin.peerEsn)) →
        exec (.pair f) s = .next s.pairedNow) ∧
      (s.twin.posBad = false → s.twin.key = [] ∨ sliceBytes f 8 8 ≠ cmac8 s.twin.key (4 :: (padTo 8 s.twin.nonce ++ natLE 8 s.twin.peerEsn)) →
        exec (.pair f) s = .next s.unpaired))) ∧
  (∀ (s : State) (code : Nat), (s.twin.role ≠ 2 ∨ s.power.state ≠ 0 → s.trigger code = s) ∧
    (s.twin.role = 2 → s.power.state = 0 → s.trigger code = if s.twin.state = 4 then s.takeover code else s.raiseFault .field 9 7 3 [])) ∧
  (∀ s : State, s.pairedNow.twin.paired = true ∧ s.takeRole.twin.role = 1 ∧ s.takeRole.twin.state = 5 ∧ s.takeRole.twin.blocked = false ∧
    (s.twin.role = 1 → s.pairedNow.twin.state = 3) ∧
    (s.twin.role ≠ 1 → s.unpaired = State.raiseFault .field 9 1 2 [] { s with twin := { s.twin with
      paired := false
      state := if s.twin.role = 2 ∧ s.twin.state ≠ 7 then 2 else s.twin.state } }))

/-- R365, R366, R372 to R374, R422: mirrored items. -/
def Obligations.MirrorItemsAreTaken : Prop :=
  (∀ (s u : State) (f : List Byte) (typ : Nat), s.endRuns .twin = true → s.linkT.up = true →
    frameCheck .twin s.twin.role s.linkT.expRx f = 0 → fieldLE f 0 1 = typ → (0x80 ≤ typ ∧ typ ≤ 0x8A ∨ typ = 0xA0) →
    u = { s with linkT := { s.linkT with expRx := (s.linkT.expRx + 1) % 65536, owe := true } } →
    (typ = 0x80 → exec (.mJournal f) s = .next ((frameRecords f).foldl (fun s r => s.mirrorRecord r) u)) ∧
    (typ = 0x81 → ∀ (p k w : Nat) (l : List Nat) (res : List CoilResult),
      exec (.mWave f (.start p k w l)) s = .next { u with twin := { u.twin with
        sweep := some (p, k, w - 1)
        lit := l
        sweepCoils := if w ≤ 1 then u.planCoils p else s.twin.sweepCoils
        sweepRes := if w ≤ 1 then [] else s.twin.sweepRes } } ∧
      exec (.mWave f (.part res)) s = .next { u with twin := { u.twin with sweepRes := s.twin.sweepRes ++ res } } ∧
      exec (.mWave f (.finish res)) s = .next { u with twin := { u.twin with
        sweep := s.twin.sweep.map fun x => (x.1, x.2.1, x.2.2 + 1)
        lit := []
        sweepRes := s.twin.sweepRes ++ res } }) ∧
    (typ = 0x82 → ∀ gen dig, exec (.mClose f gen dig) s = .next (if gen = s.roster.gen then u else u.mirrorClose dig)) ∧
    (typ = 0x83 → ∀ (k : Fin 16) (n : Nat), ∃ t : State, exec (.mCounter f k n) s = .next t ∧
      t.twin = { s.twin with counters := s.twin.counters ++ [(k.val, n)] } ∧ t = { u with cmds := t.cmds, twin := t.twin } ∧
      (∀ i, (t.cmdSlot i).last = if i = k.val then max (s.cmdSlot k.val).last n else (s.cmdSlot i).last)) ∧
    (typ = 0x84 → ∀ r : ReserveMsg, ∃ t : State, exec (.mReserve f r) s = .next t ∧
      (r.kind = 0 → t.journal = { s.journal with esnLimit := r.first + 65536 } ∧ t.nvm = (s.nvm.recycle s.journal.esn).add 3 0 r.first) ∧
      (r.kind = 1 → (t.cmdSlot r.slot).reserved = r.first + 4096 ∧ t.nvm = (s.nvm.recycle s.journal.esn).add 4 r.slot r.first) ∧
      (2 ≤ r.kind → t = { u with
        journal := { s.journal with offLimit := r.first + 4194304 }, nvm := s.nvm.anchorAdd 1 r.first s.journal.esn })) ∧
    (typ = 0x85 → ∀ c : ChangeMsg,
      let rest := s.twin.inflight.filter fun d => !(closesChange c d.1)
      exec (.mInflight f c) s = .next { u with
        keys := if c.opened = false ∧ c.kind = 3 ∧ 256 ≤ c.what then
          { s.keys with verified := Tab.set 0 s.keys.verified (c.handle % 131072) (c.what / 256) } else s.keys
        twin := { u.twin with
        inflight := if c.opened then rest ++ [(c, s.twin.mirrorEsn)] else rest } }) ∧
    (typ = 0x86 → ∀ c : ChangeMsg,
      let rest := s.twin.services.filter fun d => !(closesChange c d)
      exec (.mService f c) s = .next { u with twin := { u.twin with
        services := if c.opened then rest ++ [c] else rest } }) ∧
    (typ = 0x87 → (∀ kind slot m, exec (.mKeys f (.key kind slot m)) s = .next (u.mirrorKey kind slot m)) ∧
      (∀ g add, exec (.mKeys f (.quarantine g add)) s = .next (u.mirrorQuarantine g add)) ∧
      (∀ g fails open_, exec (.mKeys f (.attempt g fails open_)) s = .next (u.setAttempt { tag := g, fails := fails, pending := open_ }))) ∧
    (typ = 0x88 → (∀ idx sub v, exec (.mDict f (.write idx sub v)) s = .next (u.mirrorSetting idx sub v)) ∧
      exec (.mDict f .store) s = .next u.storeSettings.2) ∧
    (typ = 0x89 → (∀ p mask, exec (.mHost f (.subscribe p mask)) s = .next (u.setObserver p mask).2) ∧
      (∀ p esn, exec (.mHost f (.eventAck p esn)) s = .next (u.ackEvents p esn)) ∧
      (∀ k off, exec (.mHost f (.storeAck k off)) s = .next (u.mirrorStore k off))) ∧
    (typ = 0x8A → ∀ curfew, exec (.mPower f curfew) s = .next ((((u.sendAck .twin).saveTs).porterStop).powerDown curfew)) ∧
    (typ = 0xA0 → ∀ parts : List ResyncPart, (s.fltF.calm = false → exec (.resyncData f parts) s = .next u) ∧
      (s.fltF.calm = true → s.twin.state = 3 → exec (.resyncData f parts) s = .next (parts.foldl State.copyPart u)) ∧
      (s.fltF.calm = true → s.twin.state ≠ 3 → exec (.resyncData f parts) s = .next (parts.foldl State.copyPart u.beginCopy)))) ∧
  (∀ (s : State) (r : JRec), r.group ≠ 7 → r.group ≠ 2 → (∀ k < 4, storeRequired s k = false) → s.journal.ring.length < 65536 →
    let t := s.mirrorRecord r
    t.journal.ring = s.journal.ring ++ [r] ∧ t.journal.esn = r.esn + 1 ∧ t.journal.next = (r.off + 64) % 2 ^ 48 ∧ t.journal.chain = r.rmac ∧
      t.twin.mirrorEsn = max s.twin.mirrorEsn r.esn ∧ t.twin.mirrorTs = max s.twin.mirrorTs r.ts) ∧
  (∀ (s : State) (dig p k n : Nat) (w : State), s.twin.sweep = some (p, k, n) →
    w = State.closeHeld 8 { s with
      twin := { s.twin with sweep := none, sweepCoils := [], sweepRes := [], lit := [] }
      sweeps := { s.sweeps with held := s.sweeps.held ++
        [{ plan := p, coils := s.twin.sweepCoils, results := mergeResults s.twin.sweepCoils s.abortedCoil s.twin.sweepRes }] } } →
    (w.roster.digest = dig → s.mirrorClose dig = w) ∧
    (w.roster.digest ≠ dig → s.mirrorClose dig = (((State.raiseFault .field 9 4 2 []
      { w with twin := { w.twin with mismatches := w.twin.mismatches + 1 } }).beginCopy).sendHello .twin).sendPair)) ∧
  (∀ s : State, s.beginCopy.twin.state = 3 ∧ s.beginCopy.roster = {} ∧
    s.beginCopy.journal.ring = s.journal.ring.filter (fun r => decide (r.esn ≤ s.twin.mirrorEsn)) ∧
    (s.copyPart .last).twin.state = 4 ∧ (s.copyPart .last).twin.resyncs = s.twin.resyncs + 1)

/-- R359, R363, R367, R370, R371, R374, R375, R378, R379, R422: twin timers, lines and roles. -/
def Obligations.TwinTimersAndLinesAct : Prop :=
  (∀ (s : State) (c : Instr), s.twin.state = 0 → c ∈ [.heartbeatTick, .hbInEdge, .heartbeatLineBroken, .heartbeatMissed, .haltIn] → exec c s = .next s) ∧
  (∀ s : State, s.twin.state ≠ 0 →
    (s.coreF.stopped = true ∨ s.dbg.halted = true ∨ s.power.state ≠ 0 → exec .heartbeatTick s = .next s) ∧
    (s.coreF.stopped = false → s.dbg.halted = false → s.power.state = 0 → exec .heartbeatTick s = .next
      (State.send .twin 0x90 (.heartbeat s.tb.ts) { s with
        twin := { s.twin with hbOut := !s.twin.hbOut }
        out := if s.power.padlat.getLsbD 2 then s.out else s.out ++ [.twinPin 9 (bit !s.twin.hbOut)] })) ∧
    exec .hbInEdge s = .next { s with twin := { s.twin with hbLine := true } } ∧
    (s.twin.hbMsg = true → exec .heartbeatLineBroken s = .next (State.raiseFault .field 9 8 1 [] { s with twin := { s.twin with hbLine := false } })) ∧
    (s.twin.hbMsg = false → exec .heartbeatLineBroken s = .next { s with twin := { s.twin with hbLine := false } }) ∧
    (s.twin.sleeping = true → exec .heartbeatMissed s = .next { s with twin := { s.twin with hbLine := false, hbMsg := false } }) ∧
    (s.twin.sleeping = false → exec .heartbeatMissed s = .next (State.trigger 1 { s with twin := { s.twin with hbLine := false, hbMsg := false } })) ∧
    exec .haltIn s = .next (State.trigger 3 { s with twin := { s.twin with haltIn := true } })) ∧
  (∀ (s : State) (n : Fin 16),
    let asks := s.twin.role = 2 ∧ s.objBool 0x9001 2 = true ∧
      ((∃ ca ∈ s.twin.lit, feederOf ca = n.val) ∨ ∃ c ∈ s.twin.services, feederOf c.ca = n.val) ∧
      s.twin.masked.contains n.val = false ∧ s.twin.queries.contains n.val = false
    (asks → exec (.fieldAbsent n) s = .next
      (State.send .twin 0x91 (.fieldQuery n.val) { s with twin := { s.twin with queries := s.twin.queries ++ [n.val] } })) ∧
    (¬ asks → exec (.fieldAbsent n) s = .next s) ∧
    (s.twin.queries.contains n.val = true → exec (.fieldQueryTimeout n) s = .next
      (State.trigger 2 { s with twin := { s.twin with queries := s.twin.queries.filter (· ≠ n.val) } })) ∧
    (s.twin.queries.contains n.val = false → exec (.fieldQueryTimeout n) s = .next s)) ∧
  (∀ s : State,
    let leads := s.twin.role = 1 ∧ (s.twin.state = 3 ∨ s.twin.state = 4) ∧ ∃ m ∈ s.linkT.window, 0x80 ≤ m.typ
    (leads → exec .mirrorTimeout s = .next (State.raiseFault .field 9 3 2 [] (State.releaseAll { s with twin := { s.twin with state := 5 } }))) ∧
    (¬ leads → exec .mirrorTimeout s = .next s) ∧
    (s.twin.handing = true → exec .handoverAbandoned s = .next (State.commit 6 13 [] { s with twin := { s.twin with handing := false } })) ∧
    (s.twin.handing = false → exec .handoverAbandoned s = .next s)) ∧
  (∀ (s u : State) (r : Bool), u = { s with twin := { s.twin with roleIn := r } } →
    (s.twin.state ≠ 1 → exec (.roleDecision r) s = .next s) ∧
    (s.twin.state = 1 →
      (r = true → exec (.roleDecision r) s = .next u.becomeSecond) ∧
      (r = false → s.twin.paired = true → let own := s.journal.esn - 1
        exec (.roleDecision r) s = .next (if s.twin.peerEsn < own ∨ own = s.twin.peerEsn ∧ s.twin.posA = true then u.takeRole.leadReady else u.becomeSecond)) ∧
      (r = false → s.twin.paired = false → s.linkT.up = true → exec (.roleDecision r) s = .next u) ∧
      (r = false → s.twin.paired = false → s.linkT.up = false → exec (.roleDecision r) s = .next
        (if s.twin.posA = true ∨ s.twin.role = 2 then u.takeRole.leadReady else { u with twin := { u.twin with role := 2 } })))) ∧
  (∀ s u : State, u = { s with twin := { s.twin with roleIn := true } } →
    (s.twin.role ≠ 1 → exec .yield s = .next u) ∧
    (s.twin.role = 1 → s.twin.roleTs + 10 < s.tb.ts → exec .yield s = .next (u.yieldLead false)) ∧
    (s.twin.role = 1 → s.tb.ts ≤ s.twin.roleTs + 10 → exec .yield s = .next (if s.twin.posA = true then u else u.yieldLead true)))

/-- R227 to R232, R237, R239: bursts judged, in Lantern; hold-offs. That a hold-off of 0 ms ends at once is the model's choice. -/
def Obligations.BurstsAreJudged : Prop :=
  (∀ (s v : State) (b : Burst) (c : SenseCoil) (cl ok noisy : Bool) (i0 q0 : Int) (dev p : Nat) (q : List Byte), s.power.state = 1 → s.sense.word = none →
    s.sense.scanCoils.head? = some b.ca → s.connected b.ca = true → p = s.objNat 0x2400 5 → q = s.senseProfile p →
    v = (s.advance (usCt (fieldLE q 1 1))).emit (.senseBurst b.ca (min (-6) (signedOf 8 (fieldLE q 0 1))) (fieldLE q 1 1)) →
    noisy = decide ((b.energy : Rat) > (v.rx (b.ca / 16)).floor + (s.objNat (0x3010 + b.ca / 16) 1 : Nat)) →
    c = s.coilSense b.ca → cl = (decide (s.objNat (0x2500 + b.ca) 4 < 64) && s.objBool 0x2401 (s.objNat (0x2500 + b.ca) 4 + 1)) →
    i0 = (if cl then c.closedI else c.openI) → q0 = (if cl then c.closedQ else c.openQ) → ok = (if cl then c.closedSet else c.openSet) →
    dev = min 65535 ((b.i - i0).natAbs + (b.q - q0).natAbs) →
    let held := c.hold = true ∨ c.doorHold = true
    let above := s.objNat (0x2500 + b.ca) 2 ≤ dev
    let noAdapt := fieldLE q 2 1 % 2 = 1
    let seen : SenseCoil := { c with dev := dev, last := (b.i, b.q) :: c.last.take 3 }
    let sets (x : SenseCoil) (i q : Int) : SenseCoil :=
      if cl then { x with closedI := i, closedQ := q, closedSet := true } else { x with openI := i, openQ := q, openSet := true }
    let toward (x y : Int) : Int := x + (y - x) / (2 ^ s.objNat 0x2400 1 : Nat)
    let latched : SenseCoil := { seen with latched := true, hold := decide (s.objNat (0x2500 + b.ca) 6 ≠ 0), detects := c.detects + 1 }
    ∃ x : State, exec (.burstEnd .lantern [b]) s = .next x.lanternNext ∧
      x.sense.scanCoils = s.sense.scanCoils.filter (· ≠ b.ca) ∧ x.sense.repeating = false ∧ x.sense.word = none ∧
      x.sense.repeatCa = (if noisy = true ∧ s.sense.repeating = false then some b.ca else none) ∧
      (∀ ca, ca ≠ b.ca → x.coilSense ca = s.coilSense ca) ∧
      x.coilSense b.ca = (if noisy then c else if ok = false then { (sets c b.i b.q) with dev := dev } else if held then seen
        else if above then (if s.objNat (0x2500 + b.ca) 6 = 0 then
          sets latched (meanOf (seen.last.map (·.1))) (meanOf (seen.last.map (·.2))) else latched)
        else if noAdapt then seen else sets seen (toward i0 b.i) (toward q0 b.q)) ∧
      x.sense.late = (if noisy = false ∧ ok = true ∧ ¬ held ∧ above then
        s.sense.late ++ [([b8 b.ca] ++ natLE 2 dev ++ [b8 (bit cl)] ++ natLE 2 (codeOf 16 i0) ++ natLE 2 (codeOf 16 q0) ++ [b8 p],
          s.objNat (0x2500 + b.ca) 5)] else s.sense.late) ∧
      x = { v with sense := x.sense }) ∧
  (∀ s : State, s.lanternNext = match s.sense.scanCoils with
    | [] => { s with sense := { s.sense with word := none } }
    | ca :: _ => if s.connected ca = true ∨ s.wordsAllowed = false then { s with sense := { s.sense with word := none } }
      else { s.sendWord ca with sense := { s.sense with word := some (ca, 1, s.tb.cc) } }) ∧
  (∀ (s : State) (b : Burst), s.power.state = 1 → s.sense.word = none → (s.sense.scanCoils.head? ≠ some b.ca ∨ s.connected b.ca = false) →
    exec (.burstEnd .lantern [b]) s = .next s) ∧
  (∀ (s : State) (bs : List Burst), s.power.state ≠ 1 → exec (.burstEnd .lantern bs) s = .next s) ∧
  (∀ (s : State) (ca : BitVec 8) (c : SenseCoil) (cl : Bool), c = s.coilSense ca.toNat → cl = s.doorClosed ca.toNat →
    (c.hold = false → exec (.holdOffEnd ca) s = .next s) ∧
    (c.hold = true → ∃ t : State, exec (.holdOffEnd ca) s = .next t ∧ (∀ a, a ≠ ca.toNat → t.coilSense a = s.coilSense a) ∧
      t.coilSense ca.toNat = (if c.last = [] then { c with hold := false }
        else if cl then { c with
          hold := false, closedI := meanOf (c.last.map (·.1)), closedQ := meanOf (c.last.map (·.2)), closedSet := true }
        else { c with
          hold := false, openI := meanOf (c.last.map (·.1)), openQ := meanOf (c.last.map (·.2)), openSet := true }) ∧
      t = { s with sense := t.sense }) ∧
    (∃ t : State, exec (.doorHoldOffEnd ca) s = .next t ∧ t.coilSense ca.toNat = { c with doorHold := false } ∧
      (∀ a, a ≠ ca.toNat → t.coilSense a = s.coilSense a) ∧ t = { s with sense := t.sense })) ∧
  (∀ l : List Int, l ≠ [] → l.length * meanOf l ≤ l.sum + l.length ∧ l.sum ≤ l.length * meanOf l + l.length)

/-- R225, R226, R228, R230, R233 to R237: senses and scans. -/
def Obligations.SensesProceed : Prop :=
  (∀ (s : State) (t : Fin 9) (g : Stage) (cc given : Nat) (late : Bool) (f : Nat), s.nvm.armed = true → s.Begins t 13 g cc given late → g.tsel = false →
    (s.readStage t).eccBad (senseAddr g.wave) 16 = false → senseOk (s.senseProfile g.wave) = true → f = feederOf g.target →
    let m : Member := { chain := t, ca := g.target, phase := 0, power := 0, clamp := false }
    let skipped := (∃ x < 8, ((s.chain x).routed = true ∨ (s.chain x).st ≠ 0) ∧ (s.chain x).feeder = f) ∨ (s.feeder f).status ≠ 1 ∨
      s.objBool (0x2200 + g.target) 1 = false ∨ (s.connected g.target = false ∧ s.wordsAllowed = false)
    s.sweeps.running = none → ((s.begun t cc given late g).rx f).calib = false →
    ∃ t' : State, exec (.sense t) s = .next t' ∧ (t'.track t).st = 2 ∧ (skipped → (t'.track t).members = []) ∧ (¬ skipped → (t'.track t).members = [m]) ∧
      (skipped ∨ s.connected g.target = true → (t'.track t).phase = .sense ∧ (t'.track t).burst.isNone = s.anyListen ∧
        t'.feeders = s.feeders ∧ t'.out = s.out) ∧
      (¬ skipped → s.connected g.target = false → (t'.track t).phase = .word 1 ∧
        (∃ w, w = selectWord g.target (s.cal g.target).tune ∧ t'.out = s.out ++ [.selectWord f w (biphase w)]) ∧
        t'.feeder f = { s.feeder f with acked := false, ack := false } ∧ ∀ v, v ≠ f → t'.feeder v = s.feeder v) ∧
      (∀ i, i ≠ (t : Nat) → t'.track i = s.track i) ∧
      t' = { s with
        tb := t'.tb, bins := t'.bins, rxs := t'.rxs, ecc := t'.ecc, tracks := t'.tracks, feeders := t'.feeders, out := t'.out }) ∧
  (∀ (s : State) (i r p : Nat) (prof : List Byte), (s.track 8).st = 0 → p = s.objNat 0x2400 3 → prof = s.senseProfile p →
    let on (row f : Nat) : Bool := s.objBool (0x2500 + (16 * f + row)) 1
    let goes := s.objNat 0x2400 2 ≠ 0 ∧ s.power.state = 0 ∧ senseOk prof = true
    (¬ goes ∨ (∀ r < 16, ∀ f < 16, on r f = false) → exec (.sense 8) s = .next s) ∧
    (goes → i < 16 → r = (s.sense.row + i) % 16 → (∀ j < i, ∀ f < 16, on ((s.sense.row + j) % 16) f = false) → (∃ f < 16, on r f = true) →
      ∃ x : State, exec (.sense 8) s = .next (x.senseOver 8 (senseCoils (x.track 8).data.sense (x.track 8).cur)) ∧ x.sense = { s.sense with row := (r + 1) % 16 } ∧
        x.track 8 = { s.track 8 with
          raw := rowStage r p, rowSense := true, startCc := s.tb.cc, dueCc := s.tb.cc
          data := { sense := sliceBytes prof 0 4 ++ natLE 2 (((List.range 16).filter (on r)).foldl (fun m f => m + 2 ^ f) 0) ++ zeros 10 } } ∧
        (∀ k, k ≠ 8 → x.track k = s.track k) ∧ x = { s with sense := x.sense, tracks := x.tracks })) ∧
  (∀ (s : State) (t : Fin 9), ((s.track t).phase ≠ .sense ∨ ((s.track t).burst = none ∧ s.anyListen = true) →
      ∀ bs, exec (.burstEnd (.track t) bs) s = .next s) ∧
    ((s.track t).phase ≠ .sense ∨ (s.track t).burst ≠ none ∨ s.anyListen = false → exec (.senseSkipped (.track t)) s = .next s)) ∧
  (∀ (s u v : State) (t : Fin 9) (b : Burst) (m : Member) (j : Judgement) (p : List Byte) (start : Nat) (shut : List Nat), (s.track t).phase = .sense →
    ((s.track t).burst = some shut ∧ start = (s.track t).markCc ∨
      (s.track t).burst = none ∧ s.anyListen = false ∧ start = s.tb.cc ∧ shut = [b.ca].filter s.doorClosed) →
    (s.track t).cur.tsel = false → (s.track t).cur.target = b.ca → (s.track t).members = [m] → m.ca = b.ca →
    p = (s.track t).data.sense → u = s.advanceTo ((start + usCt (fieldLE p 1 1)) % 2 ^ 48) →
    u.judgeBurst b (s.track t).cur.wave (shut.contains b.ca) (decide (bitsOf (fieldLE p 2 1) 0 1 = 1)) = (j, v) →
    exec (.burstEnd (.track t) [b]) s = .next ((v.emit (.senseBurst b.ca (signedOf 8 (fieldLE p 0 1)) (fieldLE p 1 1))).endSense t b.ca
      (if j.latched then 0 else if j.out = 4 then 4 else 1) j start)) ∧
  (∀ (s : State) (t out ca cc : Nat) (j : Judgement),
    ((s.track t).rowSense = false → (s.track t).cur.posts out = false → (s.track t).st ≠ 6 →
      ∃ t' : State, s.endSense t ca out j cc = t' ∧ s.movedOn t' t ((s.track t).cur.after (s.track t).stage out (s.track t).retries) ∧
        (t'.track t).lout = out ∧ (t'.track t).members = [] ∧ t' = { s with tracks := t'.tracks }) ∧
    ((s.track t).rowSense = true → ∃ t' : State, s.endSense t ca out j cc = t' ∧ (t'.track t).st = 0 ∧ (t'.track t).rowSense = false ∧
      (t'.track t).phase = .none ∧ (∀ i, i ≠ t → t'.track i = s.track i) ∧ t' = { s with tracks := t'.tracks })) ∧
  (∀ (s u v : State) (ca dev prof : Nat) (cl : Bool) (i0 q0 : Int), s.power.state ≠ 1 →
    i0 = (if cl then (s.coilSense ca).closedI else (s.coilSense ca).openI) → q0 = (if cl then (s.coilSense ca).closedQ else (s.coilSense ca).openQ) →
    v = State.modSense ca (fun c => { c with latched := true, hold := true, detects := c.detects + 1 }) s →
    u = (if s.objNat (0x2500 + ca) 6 = 0 then v.holdEnd ca else v).commit 3 1
      ([b8 ca] ++ natLE 2 dev ++ [b8 (bit cl)] ++ natLE 2 (codeOf 16 i0) ++ natLE 2 (codeOf 16 q0) ++ [b8 prof]) →
    s.detect ca dev prof cl = if s.objNat (0x2500 + ca) 5 < 16 then u.requestSweep (s.objNat (0x2500 + ca) 5) none else u) ∧
  (∀ (s u : State) (t : Fin 9) (ca : Nat), (s.track t).phase = .sense → (s.track t).burst = none → s.anyListen = true → (s.track t).rowSense = false →
    (s.track t).cur.tsel = false → (s.track t).cur.target = ca →
    u = s.advanceTo (((s.track t).markCc + usCt 1000) % 2 ^ 48) → (s.track t).cur.posts 1 = false → (s.track t).st ≠ 6 →
    ∃ t' : State, exec (.senseSkipped (.track t)) s = .next t' ∧ (t'.track t).lout = 1 ∧ t'.sense = { s.sense with skipped := s.sense.skipped + 1 } ∧
      (t'.track t).stage = (s.track t).cur.after (s.track t).stage 1 (s.track t).retries ∧ (∀ i, i ≠ (t : Nat) → t'.track i = s.track i) ∧
      t' = { s with tb := u.tb, bins := u.bins, rxs := u.rxs, tracks := t'.tracks, sense := t'.sense, fresh := s.fresh + 3 }) ∧
  (∀ s : State, (s.sense.scanCoils = [] → exec (.senseSkipped .lantern) s = .next s) ∧
    (∀ ca rest, s.sense.scanCoils = ca :: rest → s.sense.word = none → exec (.senseSkipped .lantern) s = .next (State.lanternNext { s with
      fresh := s.fresh + 3
      sense := { s.sense with scanCoils := rest.filter (· ≠ ca), repeating := false, word := none, skipped := s.sense.skipped + 1 } })) ∧
    (∀ ca rest cc u v w f, s.sense.scanCoils = ca :: rest → s.sense.word = some (ca, 1, cc) → f = feederOf ca → (s.feeder f).acked = false →
      u = s.advanceTo ((cc + usCt 60) % 2 ^ 48) →
      v = { (u.setFeeder f { s.feeder f with unacked := (s.feeder f).unacked + 1 }).sendWord ca with
        sense := { s.sense with word := some (ca, 2, u.tb.cc) } } → w = v.advanceTo ((u.tb.cc + usCt 60) % 2 ^ 48) →
      exec (.senseSkipped .lantern) s = .next (State.lanternNext { w.setFeeder f { w.feeder f with unacked := (s.feeder f).unacked + 2 } with
        fresh := s.fresh + 3
        sense := { s.sense with scanCoils := rest.filter (· ≠ ca), repeating := false, word := none, skipped := s.sense.skipped + 1 } }))) ∧
  (∀ s : State,
    let scans := s.power.state = 1 ∧ s.sense.scanner = true ∧ senseOk (s.senseProfile (s.objNat 0x2400 5)) = true
    let usable (ca : Nat) : Bool := s.objBool (0x2500 + ca) 3 && decide ((s.feeder (feederOf ca)).status = 1) && s.objBool (0x2200 + ca) 1
    (¬ scans → exec .lanternScan s = .next s) ∧
    (scans → ∃ x : State, exec .lanternScan s = .next x.lanternNext ∧ x.sense.scanCoils = (List.range 256).filter usable ∧ x.sense.repeatCa = none ∧
      x.sense.repeating = false ∧ x.sense.word = none ∧ x.sense.coils = s.sense.coils ∧
      x.sense.skipped = s.sense.skipped + ((List.range 256).filter fun ca => s.objBool (0x2500 + ca) 3 && !usable ca).length ∧
      x = { s with sense := x.sense, fresh := x.fresh })) ∧
  (∀ s : State, (s.sense.repeatCa = none ∨ s.power.state ≠ 1 → exec .impulseRepeat s = .next s) ∧
    (∀ ca u, s.sense.repeatCa = some ca → s.power.state = 1 → u = s.advance (usCt 2000) → exec .impulseRepeat s = .next (State.lanternNext { u with
      sense := { s.sense with scanCoils := ca :: s.sense.scanCoils, repeatCa := none, repeating := true, word := none } })))

/-- R462 to R467, R469, R472, R475 to R477: calibrations. -/
def Obligations.CalibrationsAct : Prop :=
  (∀ (s u : State) (t : Fin 9) (g : Stage) (cc given : Nat) (late : Bool), s.nvm.armed = true → s.Begins t 14 g cc given late → u = s.begun t cc given late g →
    (g.wave = 2 → u.calReady 2 (feederOf g.target) (some t) = true → ∃ t' : State, exec (.calib t) s = .next t' ∧
      t'.calib = { s.calib with
        running := some (2, feederOf g.target, some t), chain := none, state := 2, reason := 0, staleX := []
        staleV := [feederOf g.target], staleRssi := false } ∧
      t'.rx (feederOf g.target) = { u.rx (feederOf g.target) with calib := true, stale := some (u.rx (feederOf g.target)).depth } ∧
      (t'.track t).phase = .calib ∧ (t'.track t).st = 2 ∧ (∀ i, i ≠ (t : Nat) → t'.track i = s.track i) ∧
      t' = { u with tracks := t'.tracks, rxs := t'.rxs, calib := t'.calib }) ∧
    (g.wave = 2 → u.calReady 2 (feederOf g.target) (some t) = false → exec (.calib t) s = .next (u.setTrack t { u.track t with phase := .calibWait })) ∧
    (g.wave ∈ [1, 3, 4] → (t : Nat) ≠ 8 → exec (.calib t) s = .next ((if u.ownLent t then u else u.rampDown t).calStageGo t)) ∧
    (g.wave ∉ [1, 2, 3, 4] ∨ g.wave ≠ 2 ∧ (t : Nat) = 8 → exec (.calib t) s = .next ((s.readStage t).illegal t))) ∧
  (∀ (s : State) (code x : Nat),
    let auto := (code = 1 ∧ x < 8) ∨ (code = 2 ∧ x < 16) ∨ (code = 6 ∧ hasRadio = true ∧ s.objBool 0x7010 4 = true)
    (auto → (code, x) ∉ s.calib.due → exec (.calibrationDue code x) s = .next
      (State.calibTry { s with calib := { s.calib with due := s.calib.due ++ [(code, x)] } })) ∧
    (¬ auto ∨ (code, x) ∈ s.calib.due → exec (.calibrationDue code x) s = .next s)) ∧
  (∀ (s : State) (m : CalMeasure), s.calib.running = none → s.calibTry.calib.running = none → exec (.calibrationDone m) s = .next s.calibTry) ∧
  (∀ (s : State) (m : CalMeasure) (code x : Nat), s.calib.running = some (code, x, none) →
    exec (.calibrationDone m) s = .next (s.calFinish code x m).2.calibTry) ∧
  (∀ (s u : State) (m : CalMeasure) (code x t : Nat) (ok : Bool), s.calib.running = some (code, x, some t) →
    ((s.track t).phase = .calib → s.calFinish code x m = (ok, u) → exec (.calibrationDone m) s = .next (u.endSimple t (if ok then 0 else 3)).calibTry) ∧
    ((s.track t).phase ≠ .calib → s.calFinish code x { m with interrupted := true } = (ok, u) → exec (.calibrationDone m) s = .next u.calibTry)) ∧
  (∀ (s w : State) (m : CalMeasure) (code x : Nat) (v : Rat),
    v = (if code = 3 then (m.tune : Rat) else if code = 4 then m.pickupMv / 1000 / s.objQ 0xC001 1 else if code = 5 then s.calib.last else m.value) →
    let accepted := (code = 1 ∧ -3 ≤ m.value ∧ m.value ≤ 3) ∨ (code = 2 ∧ -1 ≤ m.value ∧ m.value ≤ 1) ∨
      (code = 3 ∧ 10 ≤ m.value ∧ m.tune ≤ 62) ∨ (code = 4 ∧ 1 ≤ m.pickupMv ∧ 1 / 5 ≤ v ∧ v ≤ 10) ∨ code = 5 ∨
      (code ∉ [1, 2, 3, 4, 5] ∧ 0 ≤ m.value ∧ m.value ≤ 30)
    let lost := (code = 3 ∨ code = 4) ∧ x ∈ m.unacked
    let words : State := s.each m.unacked fun ca => State.modFeeder (ca / 16) fun y => { y with unacked := y.unacked + 2 }
    let shown : State := if (code = 3 ∨ code = 4) ∧ x ∉ m.unacked ∧ m.interrupted = false then words.ackWord (x / 16) x else words
    let done : State := if code = 6 then shown.addDuty 1020 else shown
    w = { done with calib := { s.calib with runs := s.calib.runs + 1 } } →
    (m.interrupted = true → s.calFinish code x m = (false, (w.calEnd 4 4).commit 6 10 ([b8 code, b8 4] ++ natLE 2 x ++ natLE 4 (q16 v)))) ∧
    (m.interrupted = false → lost → s.calFinish code x m = (false, w.calEnd 4 2)) ∧
    (m.interrupted = false → ¬ lost → ¬ accepted → s.calFinish code x m =
      (false, (State.calEnd 4 1 { w with calib := { w.calib with last := v } }).commit 6 10 ([b8 code, b8 1] ++ natLE 2 x ++ natLE 4 (q16 v)))) ∧
    (m.interrupted = false → ¬ lost → accepted → s.calFinish code x m =
      (true, (State.calApply code x m { w with calib := { w.calib with last := v } }).calEnd 3 0))) ∧
  (∀ (s : State) (code x : Nat) (m : CalMeasure), (s.calApply code x m).calib.dirty = (s.calib.dirty || decide (3 ≤ code))) ∧
  (∀ (s : State) (x : Nat) (m : CalMeasure),
    (s.calApply 3 x m).cal x = { s.cal x with tune := m.tune } ∧ ((s.calApply 4 x m).cal x).k = m.pickupMv / 1000 / s.objQ 0xC001 1 ∧
    (s.calApply 5 x m).calib.gen = (if 255 ≤ s.calib.gen then 1 else s.calib.gen + 1) ∧
    (s.calApply 5 x m).calib.unsurveyed = (s.planCoils x).filter (fun ca => m.unacked.contains ca) ∧
    ((s.chain x).st = 0 → Tab.get (0, 0) (s.calApply 1 x m).calib.present x = (m.value, m.degrees)) ∧
    ((s.chain x).st ≠ 0 → (s.calApply 1 x m).calib.corrections =
      s.calib.corrections.filter (fun k => k.rx || decide (k.index ≠ x)) ++ [{ rx := false, index := x, amp := m.value, phase := m.degrees }]) ∧
    (s.calApply 2 x m).calib.corrections =
      s.calib.corrections.filter (fun k => !k.rx || decide (k.index ≠ x)) ++ [{ rx := true, index := x, amp := m.value, phase := 0 }]) ∧
  (∀ s : State, (s.calib.corrections.map fun k => if k.rx then 16 + k.index else k.index).Nodup →
    let key (k : Correction) : Nat := if k.rx then 16 + k.index else k.index
    let step (lim x y : Rat) : Rat := if y - x > lim then x + lim else if x - y > lim then x - lim else y
    let was (k : Correction) : Rat × Rat := Tab.get (0, 0) s.calib.present (key k)
    let becomes (k : Correction) : Rat × Rat := (step (1 / 10) (was k).1 k.amp, step (1 / 2) (was k).2 k.phase)
    ∃ t : State, exec .correctionStep s = .next t ∧ t = { s with calib := { s.calib with present := t.calib.present, corrections := t.calib.corrections } } ∧
      (∀ k ∈ s.calib.corrections, Tab.get (0, 0) t.calib.present (key k) = if s.stepWaits k then was k else becomes k) ∧
      (∀ n, (∀ k ∈ s.calib.corrections, key k ≠ n) → Tab.get (0, 0) t.calib.present n = Tab.get (0, 0) s.calib.present n) ∧
      t.calib.corrections = s.calib.corrections.filter fun k => s.stepWaits k || decide (becomes k ≠ (k.amp, k.phase))) ∧
  (∀ (s : State) (sent got : Nat) (good : Bool), (s.calib.loop ≠ 1 → exec (.hfLoopbackEnd sent got good) s = .next s) ∧
    (s.calib.loop = 1 →
      let needs := if s.calib.loopDepth = 1 then 176 else if s.calib.loopDepth ∈ [2, 6, 7] then 64 else 0
      exec (.hfLoopbackEnd sent got good) s = .next { s with calib := { s.calib with
        loop := if good = true ∧ got = sent ∧ needs ≤ sent then 2 else 3
        loopSent := min 65535 sent
        loopMatched := min 65535 got } }))

/-- R165 to R170, R202, R213 to R216, R219, R313: results of service exchanges. -/
def Obligations.ServiceResultsAreTaken : Prop :=
  (∀ (s v : State) (answers : List SlotObs) (g : Option GuestReturn) (x : Template) (o : Option SlotObs) (applied : Bool) (rs : List Request),
    x = Template.ofBytes s.template.tmpl →
    (s.template.status ≠ 1 ∨ s.guest.running.isSome = true → exec (.templateResult answers g) s = .next s) ∧
    (s.template.status = 1 → s.guest.running = none →
      runTemplate x s.template.frame s.template.uid s.template.params ((fieldLE s.template.frame 0 1).testBit 1)
        (if s.template.verify then 2 else x.retry + 1) s.template.verify answers = ((o, applied), rs) →
      v = { s with out := s.out ++ rs.map fun r => Output.request s.template.ca r } →
      let ends (st : Nat) (b : List Byte) : Prop :=
        (x.guest = 0xFF ∨ s.guest.state ≠ 2 → exec (.templateResult answers g) s = .next (v.endTemplate st b)) ∧
        (x.guest ≠ 0xFF → s.guest.state = 2 →
          (g = none → exec (.templateResult answers g) s = .next (v.callGuest x.guest st b)) ∧
          (∀ q, g = some q → exec (.templateResult answers g) s = .next ((v.callGuest x.guest st b).guestReturned q.status q.len q.resp)))
      (o = none → ends (if applied then 2 else 4) []) ∧
      (∀ (f : SlotObs) (body : List Byte), o = some f → body = (if x.proto = 3 then f.data.drop 1 else f.data) →
        (x.proto = 3 → (f.data.getD 0 0).toNat % 2 = 1 → ends 3 (body.take 32)) ∧
        ((x.proto ≠ 3 ∨ (f.data.getD 0 0).toNat % 2 = 0) → (body.length < x.rmin ∨ x.rmax < body.length) → ends 5 (body.take 32)) ∧
        ((x.proto ≠ 3 ∨ (f.data.getD 0 0).toNat % 2 = 0) → x.rmin ≤ body.length → body.length ≤ x.rmax → ends 2 body)))) ∧
  (∀ (x : Template) (frame uid params : List Byte) (high : Bool) (n : Nat) (f b : SlotObs) (rest : List SlotObs),
    (f.outcome = .ok → runTemplate x frame uid params high (n + 1) false (f :: rest) = ((some f, false), templateRequests x frame)) ∧
    (x.flag 3 = true → readsBack x = false → f.outcome ≠ .ok → f.outcome ≠ .split →
      runTemplate x frame uid params high (n + 1) false (f :: rest) = ((none, false), templateRequests x frame)) ∧
    (x.flag 3 = true → readsBack x = true → f.outcome ≠ .ok → f.outcome ≠ .split → b.outcome = .ok → readBackMatches x params b.data = true →
      runTemplate x frame uid params high (n + 1) false (f :: b :: rest) =
        ((none, true), templateRequests x frame ++ [readBackRequest x uid params high])) ∧
    (x.flag 3 = false → x.retry = 0 → f.outcome ≠ .ok → f.outcome ≠ .split →
      runTemplate x frame uid params high (n + 1) false (f :: rest) = ((none, false), templateRequests x frame))) ∧
  (∀ (s : State) (n st : Nat) (resp : List Byte) (c : State), s.sweeps.running = none →
    (s.guestReturned st n resp = State.endTemplate (if 2 ≤ st ∧ st ≤ 5 ∧ n ≤ 32 then st else 7) (if 2 ≤ st ∧ st ≤ 5 ∧ n ≤ 32 then resp.take n else [])
      { s with guest := { s.guest with running := none }, coreF := { s.coreF with guest := false, house := s.guest.saved } }) ∧
    (c = s.endTemplate st resp → c.template = { s.template with status := st, resp := resp, track := none } ∧
      (s.commits → s.logged c 8 1 ([b8 s.template.template, b8 st, b8 s.template.ca, b8 resp.length] ++ natLE 4 s.template.handle ++ padTo 24 resp)) ∧
      s.undelivered c = { s with template := c.template, keys := c.keys } ∧ (st < 3 ∨ 5 < st → c.keys = s.keys)) ∧
    (c = s.endApdu st resp → c.apdu = { s.apdu with status := st, resp := resp, track := none } ∧
      (st ≠ 3 → st ≠ 4 → (s.commits → s.logged c 8 2 ([b8 st, b8 s.apdu.ca] ++ natLE 2 resp.length ++ natLE 4 s.apdu.handle ++
          sliceBytes (zeros 2 ++ resp) resp.length 2)) ∧ c.keys = s.keys ∧ c.counts = s.counts) ∧
      c.roster.sessions = (if st = 3 ∨ st = 4 then s.roster.sessions.filter fun y => decide (y.idx ≠ s.apdu.handle % 131072) else s.roster.sessions) ∧
      s.undelivered c = { s with apdu := c.apdu, keys := c.keys, roster := { s.roster with sessions := c.roster.sessions }, counts := c.counts })) ∧
  (∀ (s u : State) (answers : List SlotObs) (st i : Nat) (resp : List Byte) (old : Option Session) (p : Part4), i = s.apdu.handle % 131072 →
    old = s.roster.sessions.find? (fun y => decide (y.idx = i)) →
    runExchange s.apdu.cfg s.apdu.uid s.apdu.frame old.isSome
      { answers := answers, session := old.getD { idx := i, typeB := decide (s.apdu.proto = 2) } } = (st, resp, p) →
    u = ((State.bumpBy p.recoveries 0x6101 2 { s with out := s.out ++ p.sent.map fun r => Output.request s.apdu.ca r }).bumpBy
      p.extensions 0x6101 4).bumpBy p.ppsFailures 0x6101 5 →
    (s.apdu.status ≠ 1 → exec (.apduResult answers) s = .next s) ∧
    (s.apdu.status = 1 → exec (.apduResult answers) s = .next (State.endApdu st resp { u with roster := { s.roster with
        sessions := (s.roster.sessions.filter fun y => decide (y.idx ≠ i)) ++ (if st = 2 then [p.session] else []) } }) ∧
      u.count 0x6101 2 = s.count 0x6101 2 + p.recoveries ∧ u.count 0x6101 4 = s.count 0x6101 4 + p.extensions ∧
      u.count 0x6101 5 = s.count 0x6101 5 + p.ppsFailures ∧ u = { s with counts := u.counts, out := u.out })) ∧
  (∀ (cfg : Part4Cfg) (uid cmd inf : List Byte) (p : Part4) (a : SlotObs) (rest : List SlotObs), p.answers = a :: rest → cmd ≠ [] →
    cmd.length ≤ p.session.fsc - 3 → blockOf a = .info false p.session.num inf → inf.length ≤ 2048 →
    ∃ q : Part4, runExchange cfg uid cmd true p = (2, inf, q) ∧ q.answers = rest ∧ q.session = { p.session with num := 1 - p.session.num } ∧
      q.recoveries = p.recoveries ∧ q.extensions = p.extensions ∧ ∃ r : Request, q.sent = p.sent ++ [r] ∧
      r.frame = infoBlock p.session.num false cmd ∧ r.window = fwtWindow (fwtOf p.session.fwi)) ∧
  (∀ (s : State) (r : SecurityEnd), s.keys.running = none → exec (.securityResult r) s = .next s) ∧
  (∀ (s v : State) (r : SecurityEnd) (a : SecAction) (k : SecHeld) (ok : Bool) (st : Nat) (b : List Byte) (rs : List Request) (old : List Nat),
    s.keys.running = some a → a.action = 1 → k = s.keys.kept → old = ((s.attempt k.tag).map (·.fails)).getD [] →
    (k.method = 1 ∧ k.run k.tmpl k.frame r.answers = ((st, b), rs) ∧ ok = decide (st = 2) ∧
        v = s.requests k.ca (rs.map fun q => { q with frame := [] }) ∨
      k.method ≠ 1 ∧ ok = k.proves r.answers ∧ v = s.requests k.ca [ask k.frame 4320 271232 4200 0]) →
    (ok = true → exec (.securityResult r) s = .next (((((v.setAttempt { tag := k.tag, fails := old, pending := false }).mirrorAttempt k.tag).secChange
      { handle := a.handle, typ := 1, profile := a.profile, status := 2, slot := 0 }).thenOrigin a).secEnd a 2 0)) ∧
    (ok = false → ∀ u w : State, u = v.setAttempt { tag := k.tag, fails := old ++ [s.tb.ts], pending := false } →
      w = (((State.mirrorAttempt k.tag { u with keys := { u.keys with failed := s.keys.failed + 1 } }).securityRecord 7 a.handle a.profile 3).clearSecured a.handle) →
      exec (.securityResult r) s = .next
        (((if w.objNat 0x5003 1 ≤ w.failCount k.tag then w.quarantine k.tag else w).thenOrigin a).secEnd a 3 0))) ∧
  (∀ (s v : State) (r : SecurityEnd) (a : SecAction) (k : SecHeld) (st1 st2 : Nat) (sig1 sig2 sig : List Byte) (rs1 rs2 : List Request),
    s.keys.running = some a → a.action ≠ 1 → k = s.keys.kept → k.run k.tmpl k.frame r.answers = ((st1, sig1), rs1) →
    (k.tmpl2 = [] ∧ st2 = 2 ∧ sig2 = [] ∧ rs2 = [] ∨ k.tmpl2 ≠ [] ∧ k.run k.tmpl2 k.frame2 r.answers2 = ((st2, sig2), rs2)) →
    v = (s.requests k.ca rs1).requests k.ca rs2 → sig = (if st1 = 2 ∧ st2 = 2 then sig1 ++ sig2 else []) →
    (∀ n, verifyingSlot k.issuers k.tag sig = some n → exec (.securityResult r) s = .next
      ((v.secChange { handle := a.handle, typ := 3, profile := a.profile, status := 2, slot := n }).secEnd a 2 (n + 1))) ∧
    (verifyingSlot k.issuers k.tag sig = none → exec (.securityResult r) s = .next
      ((v.securityRecord 8 a.handle a.profile 3).secEnd a 3 0))) ∧
  (∀ (s : State) (g : TagId), (s.attempt g = none → exec (.failuresLeaveWindow g) s = .next s) ∧
    (∀ a, s.attempt g = some a → a.pending = true → exec (.failuresLeaveWindow g) s = .next s) ∧
    (∀ a u, s.attempt g = some a → a.pending = false → u = s.advanceTs (a.fails.foldl max 0 + s.objNat 0x5003 2 * 3600000000) →
      exec (.failuresLeaveWindow g) s = .next { s with
        tb := u.tb, bins := u.bins, rxs := u.rxs
        keys := { s.keys with attempts := s.keys.attempts.filter fun b => decide (b.tag ≠ g) } })) ∧
  (∀ (s : State) (k : Fin 16), ((s.cmdSlot k).heldUntil = none → exec (.slotHoldEnd k) s = .next s) ∧
    (∀ n u, (s.cmdSlot k).heldUntil = some n → u = s.advanceTs n → ∃ t : State, exec (.slotHoldEnd k) s = .next t ∧
      t.cmdSlot k = { s.cmdSlot k with heldUntil := none, bad := [] } ∧ (∀ i, i ≠ (k : Nat) → t.cmdSlot i = s.cmdSlot i) ∧
      t = { s with tb := u.tb, bins := u.bins, rxs := u.rxs, cmds := t.cmds }))

/-- R172, R173, R181 to R183, R188, R190, R196, R197: sweeps and reports. -/
def Obligations.SweepsAndReportsProceed : Prop :=
  (∀ (s : State) (p : Nat) (at_ : Option Nat), s.requestSweep p at_ = if (s.plan p).invalid then s
    else if ∃ x ∈ s.sweeps.queue, x.1 = p then s.modPlan p fun x => { x with merged := x.merged + 1 }
    else { s with sweeps := { s.sweeps with queue := enterQueue p at_ s.sweeps.queue } }) ∧
  (∀ (p n : Nat) (q q' : List (Nat × Option Nat)), enterQueue p none q = q ++ [(p, none)] ∧
    ((∀ x ∈ q', x.2 = some n ∧ p < x.1) → (∀ x, q.getLast? = some x → x.2 ≠ some n ∨ x.1 ≤ p) →
      enterQueue p (some n) (q ++ q') = q ++ (p, some n) :: q')) ∧
  (∀ (s : State) (p : Fin 16), ((s.plan p).started = none ∨ s.objNat (0x4010 + p) 4 = 0 → exec (.sweepPeriod p) s = .next s) ∧
    (∀ n u, (s.plan p).started = some n → s.objNat (0x4010 + p) 4 ≠ 0 → u = s.advanceTs (n + 1000 * s.objNat (0x4010 + p) 4) →
      exec (.sweepPeriod p) s = .next (u.requestSweep p (some u.tb.ts)))) ∧
  (∀ s : State,
    let may := s.sweeps.running = none ∧ s.sweeps.held.length < 4 ∧ s.fltF.safe = false ∧
      s.twin.role ≠ 2 ∧ s.power.state = 0 ∧ s.power.doomed = false
    (s.sweeps.queue = [] ∨ ¬ may → exec .sweepBegin s = .next s) ∧
    (∀ p n rest u, may → s.sweeps.queue = (p, n) :: rest → u = State.compilePlan p { s with sweeps := { s.sweeps with queue := rest } } →
      let coils := s.planCoils p
      let needs := coils.map (s.coilNeed coils)
      let surveyed := decide (s.calib.gen ≠ 0)
      let waves := planWaves surveyed needs (s.planTracks p)
      let valid := s.planTracks p ≠ [] ∧ (∀ ca ∈ coils, s.objBool (0x2200 + ca) 1 = true ∧ s.namedTablesOk ca = true) ∧
        ∀ ca ∈ planConnects [] waves, s.objNat (0x2200 + ca) 9 = 0
      let free := (s.planTracks p).filter fun i => !(s.serviceTracks.contains i)
      (¬ valid → exec .sweepBegin s = .next u ∧ u.plan p = { s.plan p with invalid := true, waves := 0 }) ∧
      (valid → ∃ t r, exec .sweepBegin s = .next t ∧ t.sweeps.running = some r ∧ r.plan = p ∧ r.coils = coils ∧ r.needs = needs ∧
        r.surveyed = surveyed ∧ r.tracks = s.planTracks p ∧ r.protocols = s.objNat (0x4010 + p) 2 ∧ r.results = [] ∧ r.wave = 0 ∧ r.stopped = false ∧
        r.waves = (planWaves surveyed needs free).map (assignWave free) ∧
        t.plan p = { s.plan p with invalid := false, waves := waves.length, started := some s.tb.ts } ∧
        (∀ q, q ≠ p → t.plan q = s.plan q) ∧ t.sweeps.queue = rest ∧ t = { s with sweeps := t.sweeps }))) ∧
  (∀ (s : State) (obs : List CoilObs), s.sweeps.running = none → exec (.sweepClose obs) s = .next s) ∧
  (∀ (s : State) (obs : List CoilObs) (r : Running) (judged : List (Nat × List CoilResult × List Request)), s.sweeps.running = some r →
    r.current = [] ∨ s.twin.role = 0 →
    let seen (ca : Nat) : CoilObs :=
      (obs.find? fun o => decide (o.ca = ca)).getD { ca := ca, selectFailed := false, aborted := false, answers := [] }
    let plain (ca : Nat) : CoilNeed := { ca := ca, energises := [], inputs := [], chains := [], members := [], ins := [], outs := [ca], near := [] }
    judged = ((r.current.map (·.2)).filter fun ca => !(r.results.any fun x => x.own && decide (x.ca = ca))).map (fun ca =>
      (ca, s.judgeCoil r.protocols (((r.needs.filter fun c => decide (c.ca = ca)).head?).getD (plain ca)) (seen ca))) →
    let all := judged.flatMap fun p => p.2.1
    s.enterResults obs = { s with
      out := s.out ++ judged.flatMap fun p => p.2.2.map fun q => Output.request p.1 q
      sweeps := { s.sweeps with running := some { r with results := r.results ++ all.filter (fun x => r.coils.contains x.ca), current := [] } }
      roster := { s.roster with outside := s.roster.outside + (all.filter fun x => !(r.coils.contains x.ca)).length } }) ∧
  (∀ (s u : State) (obs : List CoilObs) (r : Running), u = s.enterResults obs → u.sweeps.running = some r → r.current = [] →
    let rest := r.coils.filter fun ca => !(r.results.any fun x => x.own && decide (x.ca = ca))
    (rest ≠ [] → r.stopped = false → exec (.sweepClose obs) s = .next u) ∧
    (rest = [] ∨ r.stopped = true → exec (.sweepClose obs) s = .next (State.closeHeld 8 { u with sweeps := { u.sweeps with
      running := none
      held := u.sweeps.held ++ [{ plan := r.plan, coils := r.coils, results := mergeResults r.coils u.abortedCoil r.results }] } }))) ∧
  (∀ (s : State) (mask : Nat) (need : CoilNeed) (o : CoilObs) (h : Hunt), h = huntAll mask s.fieldGuard (if o.aborted then [] else o.answers) →
    ∃ res others, s.judgeCoil mask need o = (res :: others, h.sent) ∧ res.ca = o.ca ∧ res.own = true ∧
      (∀ g, g ∈ res.tags ↔ ∃ p ∈ h.found, p.2 = g ∧ need.outs.getD p.1 o.ca = o.ca) ∧
      (∀ x ∈ others, x.own = false ∧ x.ca ≠ o.ca ∧ x.status = 1 ∧ ∃ p ∈ h.found, x.tags = [p.2] ∧ x.ca = need.outs.getD p.1 o.ca) ∧
      (h.failed = true → res.status = 3 ∧ res.reason = 1) ∧ (h.failed = false → o.selectFailed = true → res.status = 3 ∧ res.reason = 2) ∧
      (h.failed = false → o.selectFailed = false → (s.feeder (feederOf o.ca)).status ≠ 1 → res.status = 3 ∧ res.reason = 4) ∧
      (h.failed = false → o.selectFailed = false → (s.feeder (feederOf o.ca)).status = 1 →
        (o.aborted = true → res.status = 3 ∧ res.reason = 5) ∧ (o.aborted = false → h.incomplete = true → res.status = 2 ∧ res.reason = 6) ∧
        (o.aborted = false → h.incomplete = false → res.reason = 0 ∧ res.status = if res.tags = [] then 0 else 1))) ∧
  (∀ (guard : Nat) (a : SlotObs), (a.outcome = .silent → (huntOne 2 guard [a]).found = [] ∧ (huntOne 2 guard [a]).sent = [reqA false guard] ∧
      (huntOne 2 guard [a]).failed = false ∧ (huntOne 2 guard [a]).incomplete = false) ∧
    (a.outcome = .ok → a.data.length = 10 → (huntOne 0 guard [a]).found = [(a.out, { proto := 3, uid := a.data.drop 2 })] ∧
      (huntOne 0 guard [a]).sent = [inventoryV true false [] guard] ∧ (huntOne 0 guard [a]).failed = false ∧ (huntOne 0 guard [a]).incomplete = false)) ∧
  (∀ (s : State) (coils : List Nat) (rs : List CoilResult) (ca : Nat), ca ∈ coils → (∀ x ∈ rs, x.ca ≠ ca) →
    s.abortedCoil ca ∈ mergeResults coils s.abortedCoil rs ∧ (s.abortedCoil ca).status = 3 ∧
    (s.abortedCoil ca).reason = if (s.feeder (feederOf ca)).status = 1 then 5 else 4) ∧
  (∀ s : State, (s.sweeps.closing = none → exec .closeWaitEnd s = .next s) ∧
    (∀ c i n l u, s.sweeps.closing = some c → s.roster.released = (i, n) :: l → u = s.advanceTs (n + 10000000) →
      exec .closeWaitEnd s = .next ((State.closeWork c { u with sweeps := { s.sweeps with closing := none } }).closeHeld 8)) ∧
    (∀ c, s.sweeps.closing = some c → s.roster.released = [] →
      exec .closeWaitEnd s = .next ((State.closeWork c { s with sweeps := { s.sweeps with closing := none } }).closeHeld 8))) ∧
  (∀ s : State, (s.report.status ≠ 1 → exec .reportReady s = .next s) ∧
    (s.report.status = 1 →
      let k := s.objNat 0x4100 1
      let entries := match s.sweeps.closing with | some c => c.before | none => s.roster.entries
      let a := s.objNat 0x4100 3
      let b := s.objNat 0x4100 4
      let gen := if s.objNat 0x4100 2 = 0 then s.roster.gen else s.objNat 0x4100 2
      let holds (flags g : Nat) (recs : List ReportRec) : Prop := ∃ body : List Byte,
        body = [b8 k, b8 flags, b8 a, b8 b] ++ natLE 4 g ++ natLE 4 recs.length ++ zeros 4 ++ recs.flatten ∧
        exec .reportReady s = .next { s with report := { status := 2, bytes := body ++ natLE 8 (crc64 body), nrec := recs.length,
                                                         digest := fieldLE (natLE 8 (crc64 body)) 0 8 } }
      (k ≠ 3 → holds (bit s.roster.full + 2 * bit s.roster.overflowGen) s.roster.gen
        (sortBy recKey (((entries.filter fun p => decide (a ≤ p.2.ca ∧ p.2.ca ≤ b) && (decide (k = 2) || decide (p.2.pres = 2)))).map
          fun p => reportRec p.1 p.2 0 p.2.ca))) ∧
      (∀ flags recs, k = 3 → (s.roster.changes.find? fun x => decide (x.1 = gen)) = some (gen, flags, recs) →
        holds flags gen (recs.filter fun r => decide (a ≤ fieldLE r 0 1 ∧ fieldLE r 0 1 ≤ b))) ∧
      (k = 3 → (∀ x ∈ s.roster.changes, x.1 ≠ gen) → exec .reportReady s = .next { s with report := { s.report with status := 3 } })))

/-- R191: the transitions of a close. -/
def Obligations.PresenceFollowsSightings : Prop :=
  (∀ (s : State) (c : Closing) (g : TagId) (i ca b : Nat) (bs : List Nat) (e : Entry), s.findTag g = some (i, e) →
    let n := c.confirm
    let sighted (x : Entry) : Entry := { x with glast := (s.roster.gen + 1) % 2 ^ 32, seen := satAdd 16 e.seen 1, ambig := decide (bs ≠ []) }
    let event (x : Entry) (typ prev : Nat) : CloseEvent := { group := 1, typ := typ, record := reportRec i x typ prev, profile := 0, status := 0 }
    let gives (x : Entry) (evs : List CloseEvent) : Prop := ∃ t : State,
      s.closeItem { tag := g, seen := b :: bs, ca := ca } c = (true, { c with events := c.events ++ evs }, t) ∧ t.entry i = x ∧
        (∀ j, j ≠ i → t.entry j = s.entry j) ∧ t = { s with roster := { s.roster with entries := t.roster.entries } }
    (e.pres = 1 → b = e.ca → e.confirms + 1 < n → gives (sighted { e with confirms := min 15 (e.confirms + 1) }) []) ∧
    (e.pres = 1 → b = e.ca → n ≤ e.confirms + 1 → ∀ x, x = sighted { e with pres := 2, confirms := min 15 (e.confirms + 1), misses := 0 } →
      gives x [event x 1 e.ca]) ∧
    (e.pres = 1 → b ≠ e.ca → gives (sighted { e with ca := b, confirms := 1 }) []) ∧
    (e.pres = 2 → b = e.ca → gives (sighted { e with misses := 0 }) []) ∧
    (e.pres = 2 → b ≠ e.ca → gives (sighted { e with pres := 4, pca := b, confirms := 1, misses := 0 }) []) ∧
    (e.pres = 4 → b = e.ca → gives (sighted { e with pres := 2, pca := 0, misses := 0 }) []) ∧
    (e.pres = 4 → b ≠ e.ca → b = e.pca → e.confirms + 1 < n → gives (sighted { e with confirms := min 15 (e.confirms + 1) }) []) ∧
    (e.pres = 4 → b ≠ e.ca → b = e.pca → n ≤ e.confirms + 1 →
      ∀ x, x = sighted { e with pres := 2, ca := b, pca := 0, confirms := min 15 (e.confirms + 1), secured := false } →
        (e.secured = false → gives x [event x 3 e.ca]) ∧
        (e.secured = true → gives x [{ group := 2, typ := 2, record := reportRec i x 4 b, profile := 0xFF, status := 0 }, event x 3 e.ca])) ∧
    (e.pres = 4 → b ≠ e.ca → b ≠ e.pca → gives (sighted { e with pca := b, confirms := 1 }) []) ∧
    (e.pres = 3 → ∀ x, x = sighted { e with pres := if n ≤ 1 then 2 else 1, ca := b, pca := 0, confirms := 1, misses := 0 } →
      gives x (if n ≤ 1 then [event x 1 b] else []))) ∧
  (∀ (s : State) (c : Closing) (g : TagId) (i ca : Nat) (e : Entry), s.findTag g = some (i, e) →
    let m := c.miss
    let counted := ∀ x ∈ c.result.results, x.ca = e.ca → x.status ≤ 1
    let gives (x : Entry) (evs : List CloseEvent) : Prop := ∃ t : State,
      s.closeItem { tag := g, seen := [], ca := ca } c = (true, { c with events := c.events ++ evs }, t) ∧ t.entry i = x ∧
        (∀ j, j ≠ i → t.entry j = s.entry j) ∧ t = { s with roster := { s.roster with entries := t.roster.entries } }
    (¬ counted → s.closeItem { tag := g, seen := [], ca := ca } c = (true, c, s)) ∧
    (counted → e.pres = 1 → e.origin = false → s.closeItem { tag := g, seen := [], ca := ca } c = (true, c, s.releaseEntry i)) ∧
    (counted → e.pres = 2 ∨ e.pres = 4 → e.misses + 1 < m → gives { e with
      misses := min 15 (e.misses + 1), pres := 2, pca := if e.pres = 2 then e.pca else 0 } []) ∧
    (counted → e.pres = 2 ∨ e.pres = 4 → m ≤ e.misses + 1 →
      ∀ x, x = { e with misses := min 15 (e.misses + 1), pres := 3, pca := if e.pres = 2 then e.pca else 0, secured := false } →
        (e.secured = false → gives x [{ group := 1, typ := 2, record := reportRec i x 2 e.ca, profile := 0, status := 0 }]) ∧
        (e.secured = true → gives x [{ group := 2, typ := 2, record := reportRec i x 4 e.ca, profile := 0xFF, status := 0 },
          { group := 1, typ := 2, record := reportRec i x 2 e.ca, profile := 0, status := 0 }])) ∧
    (counted → e.pres = 3 → gives e [])) ∧
  (∀ (s : State) (c : Closing) (g : TagId) (ca : Nat), s.findTag g = none →
    s.closeItem { tag := g, seen := [], ca := ca } c = (true, c, s) ∧
    (∀ b bs x, s.roster.fresh < 131072 → x = ({
        uid := g.uid, proto := g.proto, igen := (if 32767 ≤ Tab.get 0 s.roster.igens s.roster.fresh then 1 else Tab.get 0 s.roster.igens s.roster.fresh + 1), gfirst := (s.roster.gen + 1) % 2 ^ 32, quar := s.keys.quarantine.contains g
        pres := if c.confirm ≤ 1 then 2 else 1, ca := b, pca := 0, confirms := 1, misses := 0
        glast := (s.roster.gen + 1) % 2 ^ 32, seen := 1, ambig := decide (bs ≠ []) } : Entry) →
      ∀ evs, evs = (if c.confirm ≤ 1 then
        [({ group := 1, typ := 1, record := reportRec s.roster.fresh x 1 b, profile := 0, status := 0 } : CloseEvent)] else []) → ∃ t : State,
      s.closeItem { tag := g, seen := b :: bs, ca := ca } c = (true, { c with events := c.events ++ evs }, t) ∧
      t.entry s.roster.fresh = x ∧ (∀ j, j ≠ s.roster.fresh → t.entry j = s.entry j) ∧ t.roster.fresh = s.roster.fresh + 1 ∧
      t.roster.released = s.roster.released.filter (fun p => decide (p.1 ≠ s.roster.fresh)) ∧
      t = { s with roster := { s.roster with
        entries := t.roster.entries, fresh := t.roster.fresh, igens := t.roster.igens, released := t.roster.released } }))

/-- R306 to R310, R322, R324, R325, R365, R399: units, acknowledgements and resends. -/
def Obligations.UnitsAreCheckedAndServed : Prop :=
  (∀ (s : State) (u : LdpIn) (c : Instr) (ty : Nat),
    (c, ty) ∈ [(Instr.read u, 1), (Instr.write u, 2), (Instr.subscribe u, 0x10), (Instr.eventAck u, 0x12), (Instr.journalAck u, 0x21)] →
    let b := u.bytes.drop 8
    let rid := fieldLE u.bytes 2 2
    let bodyFits : Prop := (ty = 1 → b.length = 4 ∧ fieldLE b 3 1 = 0) ∧ (ty = 2 → 4 ≤ b.length ∧ fieldLE b 3 1 = 0) ∧
      (ty = 0x10 → b.length = 4) ∧ (ty = 0x12 → b.length = 8) ∧
      (ty = 0x21 → b.length = 28 ∧ fieldLE b 1 3 = 0 ∧ fieldLE b 24 4 = 0)
    let good : Prop := 8 ≤ u.bytes.length ∧ fieldLE u.bytes 0 1 = 1 ∧ fieldLE u.bytes 4 2 + 8 = u.bytes.length ∧
      fieldLE u.bytes 4 2 ≤ 1400 ∧ fieldLE u.bytes 6 2 = 0 ∧ bodyFits
    let stored (a : Answered) : Prop := u.peer ≠ .spi ∧ a ∈ s.recent ∧ a.peer = u.peer ∧ a.unit = u.bytes ∧ s.tb.ts ≤ a.ts + 2000000
    (fieldLE u.bytes 1 1 ≠ ty ∨ s.serving = false → exec c s = .next s) ∧
    (fieldLE u.bytes 1 1 = ty → s.serving = true →
      (¬ good → exec c s = .next (s.sendUnit u.peer (unitBytes 0x7F rid [b8 25, 0, 0, 0]))) ∧
      (good → (∃ a, stored a) → ∃ a, stored a ∧ exec c s = .next (s.sendUnit u.peer a.resp)) ∧
      (good → (∀ a, ¬ stored a) →
        (∀ idx sub q, idx = fieldLE b 0 2 → sub = fieldLE b 2 1 →
          (ty = 1 ∧ q = DictReq.read idx sub ∨ ty = 2 ∧ q = DictReq.write idx sub (b.drop 4)) →
          let answer (st : Status) (v : List Byte) : Reply := .unit u.peer u.bytes
            (unitBytes (if ty = 1 then 0x81 else 0x82) rid (natLE 2 idx ++ [b8 sub, b8 st.code] ++ v))
          (∀ st, objectAt idx sub (decide (ty = 1)) = .error st → exec c s = .next (s.reply (answer st []))) ∧
          (∀ o, objectAt idx sub (decide (ty = 1)) = .ok o →
            (fieldIndex idx = true → s.linkH.up = false → exec c s = .next (s.reply (answer .porterDown []))) ∧
            (fieldIndex idx = true → s.linkH.up = true → exec c s = .next (({ s with
              proxied := s.proxied ++ [{ peer := u.peer, rid := rid, unit := u.bytes, q := some q }] } : State).send .porterHost 0x10
                (.dictReq u.peer rid q))) ∧
            (fieldIndex idx = false → ty = 1 → ∀ st v t, s.dictRead idx sub = (st, v, t) → exec c s = .next (t.reply (answer st v))) ∧
            (fieldIndex idx = false → ty = 2 → ∀ st t, s.dictWrite (decide (u.peer = .spi)) idx sub (b.drop 4) = (st, t) →
              exec c s = .next (t.replyAfter (if st = .ok then some (writeMirror idx sub (b.drop 4)) else none) (answer st []))))) ∧
        (ty = 0x10 →
          let mask := fieldLE u.bytes 8 4
          let known : Prop := ∃ o ∈ s.observers, o.peer = u.peer
          let full : Prop := u.peer ≠ .spi ∧ 8 ≤ (s.observers.filter fun o => decide (o.peer ≠ .spi)).length
          let now : List Observer :=
            if mask = 0 then s.observers.filter fun o => decide (o.peer ≠ u.peer)
            else if known then s.observers.map fun (o : Observer) => if o.peer = u.peer then { o with mask := mask } else o
            else s.observers ++ [{ peer := u.peer, mask := mask }]
          (mask ≠ 0 → ¬ known → full → exec c s = .next (s.reply (.unit u.peer u.bytes (unitBytes 0x90 rid [b8 9, 0, 0, 0])))) ∧
          (mask = 0 ∨ known ∨ ¬ full → exec c s = .next ((({ s with observers := now } : State).mirror 0x89
            (.mHost (.subscribe u.peer mask))).reply (.unit u.peer u.bytes (unitBytes 0x90 rid [0, 0, 0, 0]))))) ∧
        (ty = 0x12 → exec c s = .next (({ s with observers := s.observers.map fun (o : Observer) =>
          if o.peer = u.peer then { o with unacked := o.unacked.filter fun r => decide (r.esn > fieldLE b 0 8) } else o } : State).mirror 0x89
            (.mHost (.eventAck u.peer (fieldLE b 0 8))))) ∧
        (ty = 0x21 →
          let k := fieldLE b 0 1
          let a := fieldLE b 4 8 % 2 ^ 48
          let off : Prop := 3 < k ∨ storeEnabled s k = false ∨ offBelow a (s.store k).ack = true ∨ offBelow (s.store k).send a = true
          (off → exec c s = .next { s with journal := { s.journal with ignored := s.journal.ignored + 1 } }) ∧
          (¬ off → exec c s = .next ((((((s.modStore k fun x => { x with ack := a }).send .porterHost 0x31 (.journalAck k a)).mirror 0x89
            (.mHost (.storeAck k a))).repair k (fieldLE b 12 8 % 2 ^ 48) (fieldLE b 20 4)).streamOut k))))))) ∧
  (∀ (s : State) (p : Peer) (rid : Nat), exec (.nextRecord p rid) s = exec (.read { peer := p, bytes := unitBytes 1 rid [0x00, 0xA0, 0x07, 0] }) s) ∧
  (∀ s : State, s.dictRead 0xA000 7 = (.ok, s.records.headD [], { s with records := s.records.drop 1 })) ∧
  (∀ (s : State) (p : Peer),
    (s.serving = false ∨ s.twin.role = 2 ∨ (∀ o ∈ s.observers, o.peer ≠ p) → exec (.eventResend p) s = .next s) ∧
    (∀ o, s.serving = true → s.twin.role ≠ 2 → (s.observers.find? fun o => decide (o.peer = p)) = some o →
      exec (.eventResend p) s = .next (({ s with observers := s.observers.map fun (x : Observer) =>
        if x.peer = p then { x with dropped := false } else x } : State).sendEvents p o.dropped true o.unacked))) ∧
  (∀ (s : State) (k : Fin 4),
    (storeEnabled s k = false ∨ (s.store k).send = (s.store k).ack → exec (.journalResend k) s = .next s) ∧
    (storeEnabled s k = true → (s.store k).send ≠ (s.store k).ack →
      exec (.journalResend k) s = .next ((({ s with journal := { s.journal with resent := s.journal.resent +
        (s.heldRecords.filter fun r => !(offBelow r.off (s.store k).ack) && offBelow r.off (s.store k).send).length } } : State).modStore k
          fun x => { x with send := x.ack }).streamOut k)))

/-- R46, R281, R282, R284, R285, R291, R294, R327, R337, R390, R406, R409: memory, storage and resets. -/
def Obligations.StorageAndResetsAct : Prop :=
  (∀ s : State, (s.power.state ≠ 0 → exec .scrub s = .next s) ∧ (s.power.state = 0 → exec .scrub s = .next s.scrubField.scrubHost)) ∧
  (∀ (s u v : State) (w : Nat), w = s.ecc.pos → u = { s with ecc := { s.ecc with pos := (w + 1) % 2097152 } } →
    (Tab.get 0 s.ecc.bad w = 1 → v = { u with ecc := { u.ecc with
      bad := s.ecc.bad.erase w
      counts := Tab.set 0 s.ecc.counts (8 * w / 65536) (Tab.get 0 s.ecc.counts (8 * w / 65536) + 1) } }) →
    (Tab.get 0 s.ecc.bad w = 2 → v = u.eccFault (8 * w) 11 0) → (Tab.get 0 s.ecc.bad w ≠ 1 → Tab.get 0 s.ecc.bad w ≠ 2 → v = u) →
    s.scrubField = if v.ecc.pos = 0 then v.scrubPass else v) ∧
  (∀ (s u : State) (w : Nat), w = s.ecc.hostPos → u = { s with ecc := { s.ecc with hostPos := (w + 1) % 262144 } } →
    (Tab.get 0 s.ecc.hostBad w = 1 → s.scrubHost = { u with ecc := { u.ecc with
      hostBad := s.ecc.hostBad.erase w
      hostCorrected := s.ecc.hostCorrected + 1 } }) ∧
    (Tab.get 0 s.ecc.hostBad w = 2 → s.scrubHost = u.raiseFaultAt .host 1 2 (eccLevel (bankOf (8 * w))) (natLE 4 (8 * w))
      (some { adr := 8 * w, master := 11, typ := 0 })) ∧
    (Tab.get 0 s.ecc.hostBad w ≠ 1 → Tab.get 0 s.ecc.hostBad w ≠ 2 → s.scrubHost = u)) ∧
  (∀ s : State, ((∀ o, s.nvm.busy = some o → o.erase = true) → exec .nvmProgramDone s = .next s) ∧
    (∀ o, s.nvm.busy = some o → o.erase = false → ∃ u : State, exec .nvmProgramDone s = .next u.nvmServe ∧
      u = { s with mem := u.mem, nvm := { s.nvm with busy := none } } ∧
      (∀ a, Tab.get (memDefault a) u.mem a = if o.addr ≤ a ∧ a < o.addr + o.data.length then o.data.getD (a - o.addr) 0 else Tab.get (memDefault a) s.mem a))) ∧
  (∀ (s u : State) (ok : Bool), u = { s with nvm := { s.nvm with busy := none } } →
    ((∀ o, s.nvm.busy = some o → o.erase = false) → exec (.nvmEraseDone ok) s = .next s) ∧
    (∀ o, s.nvm.busy = some o → o.erase = true →
      exec (.nvmEraseDone true) s = .next (State.erased o.prio { u with nvm := (u.nvm.recycle s.journal.esn).complete o.sector }).nvmServe ∧
      exec (.nvmEraseDone false) s = .next (u.eraseFailed o).nvmServe)) ∧
  (∀ s : State,
    let may (o : NvmOp) : Prop := s.power.warning = true → o.prio ≤ 3 ∧ o.erase = false
    (s.nvm.busy ≠ none → s.nvmServe = s) ∧
    (s.nvm.busy = none → (∀ o ∈ s.nvm.queue, ¬ may o) → (s.power.warning = true ∨ s.nvm.suspended = []) → s.nvmServe = s) ∧
    (∀ e es, s.nvm.busy = none → (∀ o ∈ s.nvm.queue, may o → 3 < o.prio) → s.power.warning = false → s.nvm.suspended = e :: es →
      s.nvmServe = { s with nvm := { s.nvm with busy := some e, suspended := es } }) ∧
    (∀ before o after, s.nvm.busy = none → s.nvm.queue = before ++ o :: after → may o → o.prio ≤ 6 → (∀ x ∈ before, may x → o.prio < x.prio) →
      (∀ x ∈ after, may x → o.prio ≤ x.prio) → (o.prio ≤ 3 ∨ s.nvm.suspended = []) →
      s.nvmServe = State.nvmStart o { s with nvm := { s.nvm with queue := before ++ after } })) ∧
  (∀ (s : State) (f h : Bool), (s.settings.state ≠ 1 ∨ s.settings.waitResult ≠ none → exec (.storeComplete f h) s = .next s) ∧
    (∀ u r, s.settings.state = 1 → s.settings.waitResult = none → u = ((s.storeField f).storeHost h).nvmServe →
      r = (if f = false then 3 else if h = false then 4 else 2) →
      (u.linkH.up = false → exec (.storeComplete f h) s = .next { u with settings := { u.settings with waitResult := some r } }) ∧
      (u.linkH.up = true → exec (.storeComplete f h) s = .next (({ u with settings := { u.settings with
        state := r
        waitResult := none
        snapshot := [] } } : State).commit 6 1 ([b8 r, 0, 0, 0] ++ natLE 4 (seqInUse u.settings.fieldCopies) ++ natLE 4 (seqInUse u.settings.hostCopies)))))) ∧
  (∀ s : State, exec .journalCheckpoint s = .next { s with
    journal := { s.journal with checkpoint := s.journal.released }
    nvm := s.nvm.anchorAdd 2 s.journal.released s.journal.esn }) ∧
  (∀ s : State, (s.power.unstarted = true → exec .fieldReset s = .next ((s.fieldHw 0).fieldBoot none false)) ∧
    (s.power.unstarted = false → exec .fieldReset s = .next ((s.fieldHw 4).fieldBoot (some 4) s.ringClean))) ∧
  (∀ (s u : State) (c : Nat), u = s.fieldHw c →
    u.tb.ts = s.tb.ts ∧ (c ≠ 5 → u.tb.cc = 0 ∧ u.tb.mp = 0 ∧ u.tb.mcc = 0 ∧ u.tb.src = 2) ∧
    (c = 5 → u.tb.cc = s.tb.cc ∧ u.tb.mp = s.tb.mp ∧ u.tb.mcc = s.tb.mcc ∧ u.tb.src = 1) ∧
    u.tracks = [] ∧ u.chains = [] ∧ u.feeders = [] ∧ u.rxs = [] ∧ u.bins = [] ∧ u.coreF = {} ∧ u.guest = {} ∧ u.dbg = {} ∧ u.template = {} ∧
    u.apdu = {} ∧ u.sweeps = {} ∧ u.report = {} ∧ u.sense = {} ∧ u.linkF = {} ∧ u.linkT = {} ∧ u.nodes = [] ∧ u.pktMem = [] ∧
    (c = 2 ∨ c = 5 → u.roster = { s.roster with sessions := [] } ∧ u.keys.verified = s.keys.verified) ∧
    (c ≠ 2 → c ≠ 5 → u.roster = {} ∧ u.keys.verified = []) ∧
    (c = 3 → u.fltF = { s.fltF with halting := false, safe := !s.fltF.calm }) ∧ (c ≠ 3 → u.fltF = {}) ∧
    u.mem = s.mem.filter (fun x => decide (0x100 ≤ bankOf x.1)) ∧
    u.keys.store = s.keys.store ∧ u.keys.issuers = s.keys.issuers ∧ u.keys.attempts = s.keys.attempts ∧ u.keys.quarantine = s.keys.quarantine ∧
    u.nvm.log = s.nvm.log ∧ u.nvm.erases = s.nvm.erases ∧ u.nvm.gasps = s.nvm.gasps ∧ u.settings = s.settings ∧ u.calib.saved = s.calib.saved ∧
    u.journal = s.journal ∧ u.coreH = s.coreH ∧ u.hostMem = s.hostMem ∧ u.ring = s.ring ∧ u.spi = s.spi ∧ u.linkH = s.linkH ∧
    u.observers = s.observers ∧ u.records = s.records ∧ u.pending = s.pending) ∧
  (∀ s : State, ∃ t : State, exec .hostReset s = .next t ∧
    t.power = { s.power with
      hostReset := true
      hostReady := false
      hostFenced := false
      hostPadlat := 0
      hostWakeen := 0xFE } ∧
    t.ring = { relay := 0, relayOps := s.ring.relayOps + bit (decide (s.ring.relay ≠ 0)) } ∧ t.hostMem = [] ∧ t.records = [] ∧ t.observers = [] ∧
    t.recent = [] ∧ t.spi = {} ∧ t.linkH = {} ∧ t.coreH = {} ∧
    t.fltH = (if s.fltH.halting = true then { s.fltH with halting := false } else {}) ∧
    t.dict = s.dict.filter onField ∧ t.journal.stream = [] ∧ t.journal.ring = s.journal.ring ∧
    t.tb = s.tb ∧ t.tracks = s.tracks ∧ t.coreF = s.coreF ∧ t.roster = s.roster ∧ t.keys = s.keys ∧ t.mem = s.mem ∧ t.nvm = s.nvm ∧
    t.linkF = s.linkF ∧ t.linkT = s.linkT ∧ t.twin = s.twin ∧ t.sweeps = s.sweeps ∧ t.out = s.out) ∧
  (∀ s : State, (s.power.hostReady = true → exec .hostReady s = .next s) ∧
    (s.power.hostReady = false → s.power.restartWaits = false → ∃ t : State, exec .hostReady s = .next t ∧ t.power.hostReady = true ∧
      t.power.hostReset = false ∧ t.tb = s.tb ∧ t.tracks = s.tracks ∧ t.roster = s.roster ∧
      (∀ c cs, s.settings.hostCopies = c :: cs → t.dict = c.vals.foldl (fun d p => d.insert p.1 p.2) s.dict ∧ t.settings.defaultsH = false) ∧
      (s.settings.hostCopies = [] → t.dict = s.dict ∧ t.settings.defaultsH = true)))

/-- R330 to R343: the ring port. -/
def Obligations.RingPortActs : Prop :=
  (∀ (s : State) (p : Port) (f : RingIn), exec (.ringFrame p f) s = .next (s.ringFrame p f) ∧
    exec (.wakeFrame p f) s = exec (.ringFrame p { f with body := .wake }) s) ∧
  (∀ (s u v : State) (p : Port) (f : RingIn),
    let up : Prop := (s.ring.port p).link ≠ 0
    let framed : Prop := f.tagged = true ∧ f.sizeOk = true
    (¬ up → s.ringFrame p f = s) ∧
    (up → 1528 < f.len → s.ringFrame p f = s.modPort p fun x => { x with badFcs := x.badFcs + 1 }) ∧
    (up → f.len ≤ 1528 → ¬ framed → s.ringFrame p f = { s with ring := { s.ring with untagged := s.ring.untagged + 1 } }) ∧
    (up → f.len ≤ 1528 → framed → s.ownMac f.src = true → s.ringFrame p f = { s with ring := { s.ring with own := s.ring.own + 1 } }) ∧
    (up → f.len ≤ 1528 → framed → s.ownMac f.src = false →
      u = (if f.fcsOk = true then s else s.modPort p fun x => { x with badFcs := x.badFcs + 1 }) →
      v = (if u.ownMac f.dst = true then u else u.forward p f) →
      (f.fcsOk = true → v.ownMac f.dst = true ∨ f.dst = 2 ^ 48 - 1 ∨ f.dst = 0x01154E000100 → s.ringFrame p f = v.takeFrame p f) ∧
      (f.fcsOk = false ∨ (v.ownMac f.dst = false ∧ f.dst ≠ 2 ^ 48 - 1 ∧ f.dst ≠ 0x01154E000100) → s.ringFrame p f = v))) ∧
  (∀ (s : State) (p : Port) (f : RingIn),
    let q := otherPort p
    let stays : Prop := (s.ring.port q).link = 0 ∨ (f.src, f.seq, p) ∈ s.ring.sent
    (stays → s.forward p f = s) ∧
    (¬ stays → f.egressFull = true → s.forward p f = { s with ring := { s.ring with qfull := s.ring.qfull + 1 } }) ∧
    (¬ stays → f.egressFull = false → ∃ r : Ring, s.forward p f = { s with ring := r, out := s.out ++ [.ring q (decide (4 ≤ f.pcp) || decide (f.body = .supervision)) f] } ∧
      r.badEnd = s.ring.badEnd + (if f.fcsOk = true then 0 else 1) ∧ r.sent = (if f.fcsOk = true then s.ring.sent ++ [(f.src, f.seq, p)] else s.ring.sent) ∧
      r.port q = { s.ring.port q with link := if (s.ring.port q).link = 2 then 1 else (s.ring.port q).link } ∧ r.port p = s.ring.port p ∧ r = { s.ring with a := r.a, b := r.b, badEnd := r.badEnd, sent := r.sent })) ∧
  (∀ (s u : State) (p : Port) (f : RingIn), u = { s with ring := { s.ring with seen := s.ring.seen ++ [(f.src, f.seq)] } } →
    ((f.src, f.seq) ∈ s.ring.seen → s.takeFrame p f = { s with ring := { s.ring with dups := s.ring.dups + 1 } }) ∧
    ((f.src, f.seq) ∉ s.ring.seen → f.vid ≠ 0 → s.takeFrame p f = u) ∧
    ((f.src, f.seq) ∉ s.ring.seen → f.vid = 0 → s.takeFrame p f = u.deliverFrame p f)) ∧
  (∀ (s : State) (p : Port) (f : RingIn),
    (f.body = .supervision →
      (f.src ∈ s.ring.nodes → s.deliverFrame p f = s) ∧
      (f.src ∉ s.ring.nodes → 64 ≤ s.ring.nodes.length → s.deliverFrame p f = { s with ring := { s.ring with tableFull := s.ring.tableFull + 1 } }) ∧
      (f.src ∉ s.ring.nodes → s.ring.nodes.length < 64 → s.deliverFrame p f = { s with ring := { s.ring with nodes := s.ring.nodes ++ [f.src] } })) ∧
    (∀ ip d u, f.body = .ldp ip d u →
      (s.power.hostAsleep = true → s.deliverFrame p f = { s with ring := { s.ring with discarded := s.ring.discarded + 1 } }) ∧
      (s.power.hostAsleep = false → s.ownIp ip = false ∨ d ≠ s.ring.udp → s.deliverFrame p f = s) ∧
      (s.power.hostAsleep = false → s.ownIp ip = true → d = s.ring.udp → s.deliverFrame p f = State.ldpUnit u { s with ring := { s.ring with
        asked := s.ring.asked.filter (· ≠ u.peer) ++ if ip = s.ring.ip then [] else [u.peer] } })) ∧
    (∀ ip, f.body = .arp ip → s.deliverFrame p f = if s.ownIp ip = true then s.portSend p (.arp p ip) else s) ∧
    (∀ ip, f.body = .icmp ip → s.deliverFrame p f =
      if s.power.hostAsleep = true then { s with ring := { s.ring with discarded := s.ring.discarded + 1 } }
      else if s.objBool 0x8001 7 = true ∧ s.ownIp ip = true then s.portSend p (.icmp p ip) else s) ∧
    (f.body = .wake →
      (s.power.window = true → s.deliverFrame p f = s) ∧
      (s.power.window = false → s.power.hostAsleep = false → s.power.entering = 0 →
        s.deliverFrame p f = { s.wakeAck with ring := { s.wakeAck.ring with wakesRun := s.ring.wakesRun + 1 } }) ∧
      (∀ u : State, s.power.window = false → s.power.hostAsleep = true → u = s.wakeAck.wakeEvent 3 →
        s.deliverFrame p f = if u.power.hostAsleep = true then u else { u with ring := { u.ring with wakes := u.ring.wakes + 1 } })) ∧
    (f.body = .otherUdp ∨ f.body = .fragment ∨ f.body = .other → s.deliverFrame p f = s)) ∧
  (∀ (s u v : State) (a b : Bool) (back : List (Bool × Bool)), back = (a, b) :: s.ring.back.take 1 →
    u = { s with ring := { s.ring with back := back, supSeq := (s.ring.supSeq + 1) % 65536 } } →
    v = (u.portSend .a (.supervision .a s.ring.supSeq)).portSend .b (.supervision .b s.ring.supSeq) →
    let now : Bool := back.any (fun x => x.1) && back.any (fun x => x.2)
    (s.ring.relay = 0 → exec (.supervision a b) s = .next s) ∧
    (s.ring.relay ≠ 0 → s.power.hostAsleep = true ∨ now = s.ring.closed → exec (.supervision a b) s = .next v) ∧
    (s.ring.relay ≠ 0 → s.power.hostAsleep = false → now ≠ s.ring.closed →
      exec (.supervision a b) s = .next
        (let w : State := ({ v with ring := { v.ring with closed := now } } : State).commit 6 8 [if now = true then 1 else 0]
         if now = true then w else w.raiseFault .host 2 2 1 []))) ∧
  (∀ (s : State) (m n : Nat),
    exec (.nodeForget m) s = .next { s with ring := { s.ring with nodes := s.ring.nodes.filter fun x => decide (x ≠ m) } } ∧
    (∃ r : Ring, exec (.entryForget m n) s = .next { s with ring := r } ∧ r = { s.ring with seen := r.seen, sent := r.sent } ∧
      (∀ x, x ∈ r.seen ↔ x ∈ s.ring.seen ∧ x ≠ (m, n)) ∧ (∀ x y p, (x, y, p) ∈ r.sent ↔ (x, y, p) ∈ s.ring.sent ∧ (x, y) ≠ (m, n)))) ∧
  (∀ (s : State) (p : Port),
    (s.ring.relay = 0 ∨ (s.ring.port p).link ≠ 0 → exec (.linkUp p) s = .next s) ∧
    (s.ring.relay ≠ 0 → (s.ring.port p).link = 0 → exec (.linkUp p) s = .next (s.modPort p fun x => { x with link := 1, armed := false }).relaySet) ∧
    exec (.linkDown p) s = .next (s.modPort p fun x => if x.link = 0 then x else { x with link := 0, losses := x.losses + 1 }).relaySet ∧
    exec (.lowPowerIdle p) s = .next (if s.objBool 0x8002 3 = true ∧ (s.ring.port p).link = 1 then s.modPort p fun x => { x with link := 2 } else s)) ∧
  (∀ (s u : State) (r : Nat), r = s.relayState →
    u = { s with ring := { s.ring with relay := r, relayOps := s.ring.relayOps + (if (r = 0) = (s.ring.relay = 0) then 0 else 1) } } →
    (r = 0 ↔ s.power.hostReady = false ∨ s.power.hostReset = true ∨ s.ring.loop = 1) ∧
    (r ≠ 0 → (r = if s.ring.a.link ≠ 0 ∨ s.ring.b.link ≠ 0 then 1 else 2) ∧ s.relaySet = u) ∧
    (r = 0 → s.relaySet = { u with ring := { u.ring with a := u.ring.a.down, b := u.ring.b.down } })) ∧
  (∀ (s : State) (n m : Nat),
    (s.ring.loop ≠ 1 → exec (.ringLoopbackEnd n m) s = .next s) ∧
    (s.ring.loop = 1 → exec (.ringLoopbackEnd n m) s = .next ({ s with ring := { s.ring with
      loop := if 256 ≤ n ∧ m = n then 2 else 3
      loopSent := n
      loopMatched := m } } : State).relaySet)) ∧
  (∀ s : State,
    (s.ring.newAddr = false ∨ s.power.hostReady = false → exec .addressChange s = .next s) ∧
    (s.ring.newAddr = true → s.power.hostReady = true → ∃ u : State, u.ring.newAddr = false ∧ u.ring.udp = s.objNat 0x8001 5 ∧
      (s.objNat 0x8001 1 ≠ 0 → u.ring.ip = s.objNat 0x8001 1 ∧ u.fresh = s.fresh) ∧ u = { s with ring := { s.ring with newAddr := u.ring.newAddr, udp := u.ring.udp, ip := u.ring.ip }, fresh := u.fresh } ∧ exec .addressChange s = .next (u.arpBoth u.ring.ip)) ∧
    (s.ring.arps = 0 ∨ s.ring.service = false → exec .serviceArp s = .next s) ∧
    (∀ u : State, s.ring.arps ≠ 0 → s.ring.service = true → u = { s with ring := { s.ring with arps := s.ring.arps - 1 } } →
      exec .serviceArp s = .next (u.arpBoth (u.objNat 0x8006 1))))

/-- R349 to R354, R356, R357: the SPI host port. -/
def Obligations.SpiFramesAreAnswered : Prop :=
  (∀ (s : State) (k : Sel) (f : List Byte) (both : Bool),
    let t := fieldLE f 1 1
    let other (n : Nat) : Prop := t ≠ n ∧ (t = 0 ∨ t = 1 ∨ t = 0x7E)
    (other 0 → exec (.spiIdle k f both) s = .next s) ∧ (¬ other 0 → exec (.spiIdle k f both) s = .next (s.spiFrame k f both)) ∧
    (other 1 → exec (.spiUnit k f both) s = .next s) ∧ (¬ other 1 → exec (.spiUnit k f both) s = .next (s.spiFrame k f both)) ∧
    (other 0x7E → exec (.spiEcho k f both) s = .next s) ∧ (¬ other 0x7E → exec (.spiEcho k f both) s = .next (s.spiFrame k f both))) ∧
  (∀ (s u : State) (k : Sel) (f out : List Byte) (both : Bool), u = s.shiftOut k → out = (s.shiftBytes k).1 →
    let on : Prop := s.power.hostReady = true ∧ s.power.hostReset = false ∧ s.power.hostAsleep = false ∧ s.objBool 0x8800 0x0C = true
    let size := match k with | .sel0 => 48 | .sel1 => 520
    let room := size - 8
    let len := fieldLE f 2 1 % 4 * 256 + fieldLE f 3 1
    let e := s.spi.endp k
    let crcOk : Prop := fieldLE f (size - 4) 4 = crc32c (f.take (size - 4))
    let headOk : Prop := fieldLE f 2 1 / 16 = 0 ∧ len ≤ room ∧ sliceBytes f (4 + len) (room - len) = zeros (room - len) ∧ (fieldLE f 1 1 = 0 → len = 0)
    let typeOk : Prop := fieldLE f 1 1 = 0 ∨ fieldLE f 1 1 = 1 ∨ fieldLE f 1 1 = 0x7E
    let heard : Prop := on ∧ s.spi.echo = false ∧ both = false
    let repeats : Prop := crcOk ∧ headOk ∧ typeOk ∧ ∃ a, e.ref = some (a, f)
    (¬ on → s.spiFrame k f both = s) ∧
    (on → s.spi.echo = true → s.spiFrame k f both = { s with out := s.out ++ [.spiFrame k (padTo 1 (Config.randomBytes s.fresh 1) ++ f.take (f.length - 1))], fresh := s.fresh + 1 }) ∧
    (on → s.spi.echo = false → both = true → ∃ p : Spi, s.spiFrame k f both = { s with spi := p, fresh := s.fresh + 1 } ∧
      p.collisions = s.spi.collisions + 1 ∧ (p.endp k).reply = some { alive := fieldLE f 0 1, reason := 2, echo := none } ∧
      (∃ n, (p.endp (match k with | .sel0 => Sel.sel1 | .sel1 => Sel.sel0)).reply = some { alive := n, reason := 2, echo := none }) ∧
      p = { s.spi with
        collisions := p.collisions
        e0 := { s.spi.e0 with reply := p.e0.reply }
        e1 := { s.spi.e1 with reply := p.e1.reply } }) ∧
    (heard → f.length ≠ size → s.spiFrame k f both =
      State.spiRefuse k (fieldLE f 0 1) 2 { s with out := s.out ++ [.spiFrame k (out.take f.length)], fresh := s.fresh + 1 }) ∧
    (heard → f.length = size → repeats → s.spiFrame k f both = { s with
      spi := { s.spi with retrans := s.spi.retrans + 1 }
      out := s.out ++ [.spiFrame k e.orig] }) ∧
    (heard → f.length = size → ¬ repeats →
      (¬ crcOk → s.spiFrame k f both = u.spiRefuse k (fieldLE f 0 1) 1) ∧
      (crcOk → ¬ headOk → s.spiFrame k f both = u.spiRefuse k (fieldLE f 0 1) 2) ∧
      (crcOk → headOk → ¬ typeOk → s.spiFrame k f both = u.spiRefuse k (fieldLE f 0 1) 3) ∧
      (crcOk → headOk → typeOk → s.spiFrame k f both = u.spiJudge k f out))) ∧
  (∀ (s : State) (k : Sel) (f out : List Byte),
    let e := s.spi.endp k
    let a := fieldLE f 0 1
    let body := sliceBytes f 4 (fieldLE f 2 1 % 4 * 256 + fieldLE f 3 1)
    let fresh : Prop := e.ref = none ∨ ∃ b g, e.ref = some (b, g) ∧ a = (b + 1) % 256
    let same : Prop := ∃ g, e.ref = some (a, g)
    let fits : Prop := (e.part.getD []).length + body.length ≤ 2048
    (fresh → ¬ fits → s.spiJudge k f out = s.spiRefuse k a 5) ∧
    (¬ fresh → same → s.spiJudge k f out = s.spiRefuse k a 4) ∧
    (¬ fresh → ¬ same → s.spiJudge k f out =
      State.spiRefuse k a 4 { s with spi := s.spi.setEnd k { e with ref := some (a, f), orig := out } }) ∧
    let reply : SpiReply := { alive := a, reason := 0, echo := if fieldLE f 1 1 = 0x7E then some body else none }
    let m : Spi := s.spi.setEnd k { e with ref := some (a, f), orig := out, reply := some reply }
    (∀ (p : Spi) (u : State), fresh → fits → u = { s with spi := p } →
      p = (match k with | .sel0 => { m with acc0 := m.acc0 + 1 } | .sel1 => { m with acc1 := m.acc1 + 1 }) →
      s.spiJudge k f out = if fieldLE f 1 1 = 1 then
        u.spiSegment k (decide (fieldLE f 2 1 / 8 % 2 = 1)) (decide (fieldLE f 2 1 / 4 % 2 = 1)) body else u)) ∧
  (∀ (s : State) (k : Sel) (a r : Nat), ∃ p : Spi, s.spiRefuse k a r = { s with spi := p } ∧
    (p.endp k) = { s.spi.endp k with reply := some { alive := a, reason := r, echo := none } } ∧
    p.badCrc = s.spi.badCrc + (if r = 1 then 1 else 0) ∧ p.badFrame = s.spi.badFrame + (if r = 2 then 1 else 0) ∧
    p.badType = s.spi.badType + (if r = 3 then 1 else 0) ∧ p.aliveBreak = s.spi.aliveBreak + (if r = 4 then 1 else 0) ∧
    (1 ≤ r → r ≤ 5 → p.full = s.spi.full + (if r = 5 then 1 else 0)) ∧
    p = { s.spi with e0 := p.e0, e1 := p.e1, badCrc := p.badCrc, badFrame := p.badFrame, badType := p.badType, aliveBreak := p.aliveBreak, full := p.full }) ∧
  (∀ (s : State) (k : Sel) (r : SpiReply), (s.spi.endp k).reply = some r →
    (∀ p, r.echo = some p → s.shiftBytes k = (spiBytes k r.alive 0x7E r.reason (decide ((s.spi.endp k).outq ≠ [])) false false p, false)) ∧
    (r.echo = none → (s.spi.endp k).outq = [] → s.shiftBytes k = (spiBytes k r.alive 0 r.reason false false false [], false)) ∧
    (∀ p a z q, r.echo = none → (s.spi.endp k).outq = (p, a, z) :: q →
      s.shiftBytes k = (spiBytes k r.alive 1 r.reason (decide (q ≠ [])) a z p, true))) ∧
  (∀ (s u : State) (k : Sel) (start stop : Bool) (body unit : List Byte),
    let held := (s.spi.endp k).part
    let loses : Nat := if start = true ∧ held ≠ none then 1 else 0
    let part (p : Option (List Byte)) (n : Nat) : State := { s with spi := { (s.spi.setEnd k { (s.spi.endp k) with part := p }) with discards := s.spi.discards + n } }
    unit = (if start = true then [] else held.getD []) ++ body →
    (start = false → held = none → s.spiSegment k start stop body = part none 1) ∧
    (start = true ∨ held ≠ none →
      (1408 < unit.length → s.spiSegment k start stop body = part none (loses + 1)) ∧
      (unit.length ≤ 1408 → stop = false → s.spiSegment k start stop body = part (some unit) loses) ∧
      (unit.length ≤ 1408 → stop = true → u = part none loses →
        s.spiSegment k start stop body = if unitSel (fieldLE unit 1 1) ≠ k then u.spiQueue k (errorUnit unit)
          else u.ldpUnit { peer := .spi, bytes := unit }))) ∧
  (∀ s : State, (s.spi.echo = false → exec .echoDurationEnd s = .next s) ∧
    (s.spi.echo = true → ∃ t : State, exec .echoDurationEnd s = .next t ∧ t.spi = { s.spi with echo := false, echoArm := false } ∧
      t.objNat 0x8801 1 = 0 ∧ t = { s with spi := t.spi, dict := t.dict }))
end

