-- ==== Sys2Proof/Laws/Capture.lean ====
section
/-!
SUPPORT. What capture is triggered by, and the earliest of it.
-/

namespace Sys2Proof.Machine

open Sys2Proof

/-- What capture may be triggered by (R141, R143). -/
theorem mem_triggers (s : State) (c : Nat) : c ∈ s.triggers ↔ s.since c ≤ s.since s.capture.armCc ∧
      (s.objNat 0x3200 2 = 1 ∧ (∃ t < 9, (s.track t).began = some (s.objNat 0x3200 3, c)) ∨
       s.objNat 0x3200 2 = 2 ∧ (∃ f < 16, ∃ m, (s.rx f).mark = some m ∧ m.cc = c) ∨
       s.objNat 0x3200 2 = 3 ∧ ∃ t < 9, (s.track t).notOk = some c) := by
  unfold State.triggers
  rw [List.mem_filter, decide_eq_true_eq, and_comm]
  refine and_congr_right fun _ => ?_
  generalize s.objNat 0x3200 3 = k
  generalize s.objNat 0x3200 2 = n
  split
  · simp only [List.mem_filterMap, List.mem_range]
    constructor
    · rintro ⟨t, ht, h⟩
      refine .inl ⟨trivial, t, ht, ?_⟩
      cases hb : (s.track t).began with
      | none => rw [hb] at h; simp at h
      | some p => rw [hb] at h; obtain ⟨a, b⟩ := p; simp at h; obtain ⟨rfl, rfl⟩ := h; rfl
    · rintro (⟨-, t, ht, h⟩ | ⟨h, -⟩ | ⟨h, -⟩)
      · exact ⟨t, ht, by rw [h]; simp⟩
      · omega
      · omega
  · simp only [List.mem_filterMap, List.mem_range, Option.map_eq_some_iff]
    constructor
    · rintro ⟨f, hf, h⟩; exact .inr (.inl ⟨trivial, f, hf, h⟩)
    · rintro (⟨h, -⟩ | ⟨-, h⟩ | ⟨h, -⟩)
      · omega
      · exact h
      · omega
  · simp only [List.mem_filterMap, List.mem_range]
    constructor
    · rintro ⟨f, hf, h⟩; exact .inr (.inr ⟨trivial, f, hf, h⟩)
    · rintro (⟨h, -⟩ | ⟨h, -⟩ | ⟨-, h⟩)
      · omega
      · omega
      · exact h
  · rename_i h1 h2 h3
    simp
    exact ⟨fun h => absurd h h1, fun h => absurd h h2, fun h => absurd h h3⟩

/-- The earliest of some CCs, where every other one is later. -/
theorem earliest_some (s : State) (l : List Nat) (cc : Nat) (h : cc ∈ l)
    (hm : ∀ c ∈ l, c = cc ∨ s.since c < s.since cc) : s.earliest l = some cc := by
  induction l with
  | nil => cases h
  | cons a l ih =>
    unfold State.earliest
    have hm' : ∀ c ∈ l, c = cc ∨ s.since c < s.since cc := fun c hc => hm c (List.mem_cons_of_mem _ hc)
    by_cases hl : cc ∈ l
    · rw [ih hl hm']
      rcases hm a (List.mem_cons_self) with rfl | h'
      · simp
      · simp [h']
    · have ha : cc = a := by rcases List.mem_cons.mp h with h | h; exact h; exact absurd h hl
      subst ha
      split
      · rename_i b hb
        have : s.earliest l = some b → b ∈ l := by
          clear ih hm hm' h hl hb
          induction l generalizing b with
          | nil => intro h; cases h
          | cons a l ih =>
            unfold State.earliest
            split
            · rename_i b' hb'
              split
              · intro h; cases h; exact List.mem_cons_of_mem _ (ih _ hb')
              · intro h; cases h; exact List.mem_cons_self
            · intro h; cases h; exact List.mem_cons_self
        have hb' := this hb
        rcases hm' b hb' with rfl | h'
        · exact absurd hb' hl
        · rw [if_neg (by omega)]
      · rfl

end Sys2Proof.Machine
end

