-- ==== Sys2Proof/Laws/Journal.lean ====
section
/-!
SUPPORT. What sending a message, delivering a record and committing one can do.
-/

namespace Sys2Proof.Machine

open Sys2Proof

theorem pump_rest (e : LinkEnd) (n : Nat) (s : State) :
    ∃ lF lH lT o, s.pump e n = { s with linkF := lF, linkH := lH, linkT := lT, out := o } := by
  induction n generalizing s with
  | zero => exact ⟨s.linkF, s.linkH, s.linkT, s.out, rfl⟩
  | succ n ih =>
    unfold State.pump
    extract_lets l i
    split
    · exact ⟨s.linkF, s.linkH, s.linkT, s.out, rfl⟩
    · split
      · exact ⟨s.linkF, s.linkH, s.linkT, s.out, rfl⟩
      · extract_lets m s1
        obtain ⟨lF, lH, lT, o, h⟩ := ih (s1.emit (sentMessage e _ m.seq false _))
        refine ⟨lF, lH, lT, o, ?_⟩
        rw [h]
        cases e <;> rfl

theorem send_rest (e : LinkEnd) (typ : Nat) (b : Payload) (s : State) :
    ∃ lF lH lT o, s.send e typ b = { s with linkF := lF, linkH := lH, linkT := lT, out := o } := by
  unfold State.send
  split
  · exact ⟨s.linkF, s.linkH, s.linkT, _, rfl⟩
  · extract_lets s1
    obtain ⟨lF, lH, lT, o, h⟩ := pump_rest e (s1.link e).queue.length s1
    refine ⟨lF, lH, lT, o, ?_⟩
    rw [h]
    cases e <;> rfl

theorem mirror_rest (typ : Nat) (b : Payload) (s : State) :
    ∃ lF lH lT o, s.mirror typ b = { s with linkF := lF, linkH := lH, linkT := lT, out := o } := by
  unfold State.mirror
  split
  · exact send_rest _ _ _ _
  · exact ⟨s.linkF, s.linkH, s.linkT, s.out, rfl⟩

theorem deliver_rest (r : JRec) (s : State) :
    ∃ lF lH lT o, s.deliver r = { s with linkF := lF, linkH := lH, linkT := lT, out := o } := by
  unfold State.deliver
  split
  · exact send_rest _ _ _ _
  · extract_lets s1
    obtain ⟨_, _, _, _, h1⟩ := send_rest .porterField 0x20 (.event r) s
    obtain ⟨lF, lH, lT, o, h⟩ := send_rest .porterField 0x30 (.journal [r]) s1
    refine ⟨lF, lH, lT, o, ?_⟩
    rw [h]
    simp only [s1, h1]

theorem reserveEsn_rest (s : State) : ∃ n l lF lH lT o,
    s.reserveEsn = { s with journal := { s.journal with esnLimit := l }, nvm := n, linkF := lF, linkH := lH, linkT := lT, out := o } := by
  unfold State.reserveEsn
  dsimp only
  split
  · exact ⟨_, _, _, _, _, _, rfl⟩
  · obtain ⟨lF, lH, lT, o, h⟩ := mirror_rest 0x84 (.mReserve { kind := 0, slot := 0, first := s.journal.esnLimit })
      (State.logEntry 3 0 s.journal.esnLimit { s with journal := { s.journal with esnLimit := s.journal.esnLimit + 65536 } })
    exact ⟨_, _, _, _, _, _, h⟩

theorem reserveOff_rest (s : State) : ∃ n l lF lH lT o,
    s.reserveOff = { s with journal := { s.journal with offLimit := l }, nvm := n, linkF := lF, linkH := lH, linkT := lT, out := o } := by
  unfold State.reserveOff
  dsimp only
  split
  · exact ⟨_, _, _, _, _, _, rfl⟩
  · obtain ⟨lF, lH, lT, o, h⟩ := mirror_rest 0x84 (.mReserve { kind := 2, slot := 0, first := s.journal.offLimit })
      { s with journal := { s.journal with offLimit := s.journal.offLimit + 4194304 },
               nvm := s.nvm.anchorAdd 1 s.journal.offLimit s.journal.esn }
    exact ⟨_, _, _, _, _, _, h⟩

theorem announce_rest (r : JRec) (s : State) : ∃ lF lH lT tw o,
    s.announce r = { s with linkF := lF, linkH := lH, linkT := lT, twin := tw, out := o } := by
  unfold State.announce
  split
  · dsimp only
    obtain ⟨lF, lH, lT, o, h⟩ := send_rest .twin 0x80 (.mJournal r) { s with twin := { s.twin with heldRecs := s.twin.heldRecs ++ [r] } }
    exact ⟨_, _, _, _, _, h⟩
  · obtain ⟨_, _, _, _, h1⟩ := mirror_rest 0x80 (.mJournal r) s
    obtain ⟨lF, lH, lT, o, h⟩ := deliver_rest r (s.mirror 0x80 (.mJournal r))
    refine ⟨lF, lH, lT, s.twin, o, ?_⟩
    rw [h, h1]

/-- What appending a record does: the record enters the ring, and besides only reservations, messages and outputs
change. -/
theorem append_rest (g typ : Nat) (data : List Byte) (s : State) :
    ∃ j n lF lH lT tw o mac, s.append g typ data =
        { s with journal := j, nvm := n, linkF := lF, linkH := lH, linkT := lT, twin := tw, out := o } ∧
      j.ring = s.journal.ring ++
        [{ esn := s.journal.esn, ts := s.tb.ts, off := s.journal.next, group := g, typ := typ, data := padTo 32 data, rmac := mac }] ∧
      j.esn = s.journal.esn + 1 ∧ j.next = (s.journal.next + 64) % 2 ^ 48 := by
  obtain ⟨n, l1, _, _, _, _, h1⟩ := reserveEsn_rest s
  obtain ⟨n2, l2, _, _, _, _, h2⟩ := reserveOff_rest s.reserveEsn
  rw [h1] at h2
  unfold State.append
  rw [h1, h2]
  dsimp only
  obtain ⟨lF, lH, lT, tw, o, h⟩ := announce_rest (State.newRecord _ g typ data) (State.enterRecord (State.newRecord _ g typ data) _)
  rw [h]
  exact ⟨_, _, _, _, _, _, _, _, rfl, rfl, rfl, rfl⟩

theorem makeRoom_rest (s : State) : ∃ j n lF lH lT tw o,
    s.makeRoom = { s with journal := j, nvm := n, linkF := lF, linkH := lH, linkT := lT, twin := tw, out := o } := by
  unfold State.makeRoom
  dsimp only
  split
  · exact ⟨_, _, _, _, _, _, _, rfl⟩
  · split
    · obtain ⟨j, n, lF, lH, lT, tw, o, mac, h, -⟩ := append_rest 0 2 _ _
      rw [h]
      exact ⟨_, _, _, _, _, _, _, rfl⟩
    · exact ⟨_, _, _, _, _, _, _, rfl⟩

/-- All that committing a record can change. -/
theorem commit_rest (g typ : Nat) (data : List Byte) (s : State) : ∃ j n lF lH lT tw o,
    s.commit g typ data = { s with journal := j, nvm := n, linkF := lF, linkH := lH, linkT := lT, twin := tw, out := o } := by
  unfold State.commit
  split
  · exact ⟨_, _, _, _, _, _, _, rfl⟩
  · obtain ⟨j, n, lF, lH, lT, tw, o, h⟩ := makeRoom_rest s
    obtain ⟨j', n', lF', lH', lT', tw', o', mac, h', -⟩ := append_rest g typ data s.makeRoom
    refine ⟨j', n', lF', lH', lT', tw', o', ?_⟩
    rw [h', h]

/-- A committed record is the newest of the journal. -/
theorem logged_commit {s s' : State} (g typ : Nat) (data : List Byte) (hs : s'.commits) (hj : s'.journal = s.journal) :
    s.logged (s'.commit g typ data) g typ data := by
  obtain ⟨h1, h2, h3⟩ := hs
  have e : s'.commit g typ data = s'.append g typ data := by
    unfold State.commit State.makeRoom
    simp [h1, h2, h3]
  obtain ⟨j, n, lF, lH, lT, tw, o, mac, h, e1, e2, e3⟩ := append_rest g typ data s'
  rw [e, h]
  exact ⟨mac, hj ▸ e1, hj ▸ e2, hj ▸ e3⟩

variable (s : State)

@[simp] theorem send_pending (e : LinkEnd) (typ : Nat) (b : Payload) : (s.send e typ b).pending = s.pending := by obtain ⟨_, _, _, _, h⟩ := send_rest e typ b s; rw [h]
@[simp] theorem send_tb (e : LinkEnd) (typ : Nat) (b : Payload) : (s.send e typ b).tb = s.tb := by obtain ⟨_, _, _, _, h⟩ := send_rest e typ b s; rw [h]
@[simp] theorem send_tracks (e : LinkEnd) (typ : Nat) (b : Payload) : (s.send e typ b).tracks = s.tracks := by obtain ⟨_, _, _, _, h⟩ := send_rest e typ b s; rw [h]
@[simp] theorem send_chains (e : LinkEnd) (typ : Nat) (b : Payload) : (s.send e typ b).chains = s.chains := by obtain ⟨_, _, _, _, h⟩ := send_rest e typ b s; rw [h]
@[simp] theorem send_feeders (e : LinkEnd) (typ : Nat) (b : Payload) : (s.send e typ b).feeders = s.feeders := by obtain ⟨_, _, _, _, h⟩ := send_rest e typ b s; rw [h]
@[simp] theorem send_budget (e : LinkEnd) (typ : Nat) (b : Payload) : (s.send e typ b).budget = s.budget := by obtain ⟨_, _, _, _, h⟩ := send_rest e typ b s; rw [h]
@[simp] theorem send_coilCal (e : LinkEnd) (typ : Nat) (b : Payload) : (s.send e typ b).coilCal = s.coilCal := by obtain ⟨_, _, _, _, h⟩ := send_rest e typ b s; rw [h]
@[simp] theorem send_rxs (e : LinkEnd) (typ : Nat) (b : Payload) : (s.send e typ b).rxs = s.rxs := by obtain ⟨_, _, _, _, h⟩ := send_rest e typ b s; rw [h]
@[simp] theorem send_bins (e : LinkEnd) (typ : Nat) (b : Payload) : (s.send e typ b).bins = s.bins := by obtain ⟨_, _, _, _, h⟩ := send_rest e typ b s; rw [h]
@[simp] theorem send_capture (e : LinkEnd) (typ : Nat) (b : Payload) : (s.send e typ b).capture = s.capture := by obtain ⟨_, _, _, _, h⟩ := send_rest e typ b s; rw [h]
@[simp] theorem send_template (e : LinkEnd) (typ : Nat) (b : Payload) : (s.send e typ b).template = s.template := by obtain ⟨_, _, _, _, h⟩ := send_rest e typ b s; rw [h]
@[simp] theorem send_apdu (e : LinkEnd) (typ : Nat) (b : Payload) : (s.send e typ b).apdu = s.apdu := by obtain ⟨_, _, _, _, h⟩ := send_rest e typ b s; rw [h]
@[simp] theorem send_roster (e : LinkEnd) (typ : Nat) (b : Payload) : (s.send e typ b).roster = s.roster := by obtain ⟨_, _, _, _, h⟩ := send_rest e typ b s; rw [h]
@[simp] theorem send_sweeps (e : LinkEnd) (typ : Nat) (b : Payload) : (s.send e typ b).sweeps = s.sweeps := by obtain ⟨_, _, _, _, h⟩ := send_rest e typ b s; rw [h]
@[simp] theorem send_report (e : LinkEnd) (typ : Nat) (b : Payload) : (s.send e typ b).report = s.report := by obtain ⟨_, _, _, _, h⟩ := send_rest e typ b s; rw [h]
@[simp] theorem send_keys (e : LinkEnd) (typ : Nat) (b : Payload) : (s.send e typ b).keys = s.keys := by obtain ⟨_, _, _, _, h⟩ := send_rest e typ b s; rw [h]
@[simp] theorem send_sense (e : LinkEnd) (typ : Nat) (b : Payload) : (s.send e typ b).sense = s.sense := by obtain ⟨_, _, _, _, h⟩ := send_rest e typ b s; rw [h]
@[simp] theorem send_coreF (e : LinkEnd) (typ : Nat) (b : Payload) : (s.send e typ b).coreF = s.coreF := by obtain ⟨_, _, _, _, h⟩ := send_rest e typ b s; rw [h]
@[simp] theorem send_coreH (e : LinkEnd) (typ : Nat) (b : Payload) : (s.send e typ b).coreH = s.coreH := by obtain ⟨_, _, _, _, h⟩ := send_rest e typ b s; rw [h]
@[simp] theorem send_guest (e : LinkEnd) (typ : Nat) (b : Payload) : (s.send e typ b).guest = s.guest := by obtain ⟨_, _, _, _, h⟩ := send_rest e typ b s; rw [h]
@[simp] theorem send_debug (e : LinkEnd) (typ : Nat) (b : Payload) : (s.send e typ b).dbg = s.dbg := by obtain ⟨_, _, _, _, h⟩ := send_rest e typ b s; rw [h]
@[simp] theorem send_mem (e : LinkEnd) (typ : Nat) (b : Payload) : (s.send e typ b).mem = s.mem := by obtain ⟨_, _, _, _, h⟩ := send_rest e typ b s; rw [h]
@[simp] theorem send_hostMem (e : LinkEnd) (typ : Nat) (b : Payload) : (s.send e typ b).hostMem = s.hostMem := by obtain ⟨_, _, _, _, h⟩ := send_rest e typ b s; rw [h]
@[simp] theorem send_ecc (e : LinkEnd) (typ : Nat) (b : Payload) : (s.send e typ b).ecc = s.ecc := by obtain ⟨_, _, _, _, h⟩ := send_rest e typ b s; rw [h]
@[simp] theorem send_nvm (e : LinkEnd) (typ : Nat) (b : Payload) : (s.send e typ b).nvm = s.nvm := by obtain ⟨_, _, _, _, h⟩ := send_rest e typ b s; rw [h]
@[simp] theorem send_settings (e : LinkEnd) (typ : Nat) (b : Payload) : (s.send e typ b).settings = s.settings := by obtain ⟨_, _, _, _, h⟩ := send_rest e typ b s; rw [h]
@[simp] theorem send_aon (e : LinkEnd) (typ : Nat) (b : Payload) : (s.send e typ b).aon = s.aon := by obtain ⟨_, _, _, _, h⟩ := send_rest e typ b s; rw [h]
@[simp] theorem send_journal (e : LinkEnd) (typ : Nat) (b : Payload) : (s.send e typ b).journal = s.journal := by obtain ⟨_, _, _, _, h⟩ := send_rest e typ b s; rw [h]
@[simp] theorem send_observers (e : LinkEnd) (typ : Nat) (b : Payload) : (s.send e typ b).observers = s.observers := by obtain ⟨_, _, _, _, h⟩ := send_rest e typ b s; rw [h]
@[simp] theorem send_recent (e : LinkEnd) (typ : Nat) (b : Payload) : (s.send e typ b).recent = s.recent := by obtain ⟨_, _, _, _, h⟩ := send_rest e typ b s; rw [h]
@[simp] theorem send_proxied (e : LinkEnd) (typ : Nat) (b : Payload) : (s.send e typ b).proxied = s.proxied := by obtain ⟨_, _, _, _, h⟩ := send_rest e typ b s; rw [h]
@[simp] theorem send_cmds (e : LinkEnd) (typ : Nat) (b : Payload) : (s.send e typ b).cmds = s.cmds := by obtain ⟨_, _, _, _, h⟩ := send_rest e typ b s; rw [h]
@[simp] theorem send_hostTs (e : LinkEnd) (typ : Nat) (b : Payload) : (s.send e typ b).hostTs = s.hostTs := by obtain ⟨_, _, _, _, h⟩ := send_rest e typ b s; rw [h]
@[simp] theorem send_carried (e : LinkEnd) (typ : Nat) (b : Payload) : (s.send e typ b).carried = s.carried := by obtain ⟨_, _, _, _, h⟩ := send_rest e typ b s; rw [h]
@[simp] theorem send_carrying (e : LinkEnd) (typ : Nat) (b : Payload) : (s.send e typ b).carrying = s.carrying := by obtain ⟨_, _, _, _, h⟩ := send_rest e typ b s; rw [h]
@[simp] theorem send_fltF (e : LinkEnd) (typ : Nat) (b : Payload) : (s.send e typ b).fltF = s.fltF := by obtain ⟨_, _, _, _, h⟩ := send_rest e typ b s; rw [h]
@[simp] theorem send_fltH (e : LinkEnd) (typ : Nat) (b : Payload) : (s.send e typ b).fltH = s.fltH := by obtain ⟨_, _, _, _, h⟩ := send_rest e typ b s; rw [h]
@[simp] theorem send_records (e : LinkEnd) (typ : Nat) (b : Payload) : (s.send e typ b).records = s.records := by obtain ⟨_, _, _, _, h⟩ := send_rest e typ b s; rw [h]
@[simp] theorem send_ring (e : LinkEnd) (typ : Nat) (b : Payload) : (s.send e typ b).ring = s.ring := by obtain ⟨_, _, _, _, h⟩ := send_rest e typ b s; rw [h]
@[simp] theorem send_spi (e : LinkEnd) (typ : Nat) (b : Payload) : (s.send e typ b).spi = s.spi := by obtain ⟨_, _, _, _, h⟩ := send_rest e typ b s; rw [h]
@[simp] theorem send_twin (e : LinkEnd) (typ : Nat) (b : Payload) : (s.send e typ b).twin = s.twin := by obtain ⟨_, _, _, _, h⟩ := send_rest e typ b s; rw [h]
@[simp] theorem send_power (e : LinkEnd) (typ : Nat) (b : Payload) : (s.send e typ b).power = s.power := by obtain ⟨_, _, _, _, h⟩ := send_rest e typ b s; rw [h]
@[simp] theorem send_radio (e : LinkEnd) (typ : Nat) (b : Payload) : (s.send e typ b).radio = s.radio := by obtain ⟨_, _, _, _, h⟩ := send_rest e typ b s; rw [h]
@[simp] theorem send_pktMem (e : LinkEnd) (typ : Nat) (b : Payload) : (s.send e typ b).pktMem = s.pktMem := by obtain ⟨_, _, _, _, h⟩ := send_rest e typ b s; rw [h]
@[simp] theorem send_nodes (e : LinkEnd) (typ : Nat) (b : Payload) : (s.send e typ b).nodes = s.nodes := by obtain ⟨_, _, _, _, h⟩ := send_rest e typ b s; rw [h]
@[simp] theorem send_calib (e : LinkEnd) (typ : Nat) (b : Payload) : (s.send e typ b).calib = s.calib := by obtain ⟨_, _, _, _, h⟩ := send_rest e typ b s; rw [h]
@[simp] theorem send_dict (e : LinkEnd) (typ : Nat) (b : Payload) : (s.send e typ b).dict = s.dict := by obtain ⟨_, _, _, _, h⟩ := send_rest e typ b s; rw [h]
@[simp] theorem send_counts (e : LinkEnd) (typ : Nat) (b : Payload) : (s.send e typ b).counts = s.counts := by obtain ⟨_, _, _, _, h⟩ := send_rest e typ b s; rw [h]
@[simp] theorem send_fresh (e : LinkEnd) (typ : Nat) (b : Payload) : (s.send e typ b).fresh = s.fresh := by obtain ⟨_, _, _, _, h⟩ := send_rest e typ b s; rw [h]

@[simp] theorem mirror_pending (typ : Nat) (b : Payload) : (s.mirror typ b).pending = s.pending := by obtain ⟨_, _, _, _, h⟩ := mirror_rest typ b s; rw [h]
@[simp] theorem mirror_tb (typ : Nat) (b : Payload) : (s.mirror typ b).tb = s.tb := by obtain ⟨_, _, _, _, h⟩ := mirror_rest typ b s; rw [h]
@[simp] theorem mirror_tracks (typ : Nat) (b : Payload) : (s.mirror typ b).tracks = s.tracks := by obtain ⟨_, _, _, _, h⟩ := mirror_rest typ b s; rw [h]
@[simp] theorem mirror_chains (typ : Nat) (b : Payload) : (s.mirror typ b).chains = s.chains := by obtain ⟨_, _, _, _, h⟩ := mirror_rest typ b s; rw [h]
@[simp] theorem mirror_feeders (typ : Nat) (b : Payload) : (s.mirror typ b).feeders = s.feeders := by obtain ⟨_, _, _, _, h⟩ := mirror_rest typ b s; rw [h]
@[simp] theorem mirror_budget (typ : Nat) (b : Payload) : (s.mirror typ b).budget = s.budget := by obtain ⟨_, _, _, _, h⟩ := mirror_rest typ b s; rw [h]
@[simp] theorem mirror_coilCal (typ : Nat) (b : Payload) : (s.mirror typ b).coilCal = s.coilCal := by obtain ⟨_, _, _, _, h⟩ := mirror_rest typ b s; rw [h]
@[simp] theorem mirror_rxs (typ : Nat) (b : Payload) : (s.mirror typ b).rxs = s.rxs := by obtain ⟨_, _, _, _, h⟩ := mirror_rest typ b s; rw [h]
@[simp] theorem mirror_bins (typ : Nat) (b : Payload) : (s.mirror typ b).bins = s.bins := by obtain ⟨_, _, _, _, h⟩ := mirror_rest typ b s; rw [h]
@[simp] theorem mirror_capture (typ : Nat) (b : Payload) : (s.mirror typ b).capture = s.capture := by obtain ⟨_, _, _, _, h⟩ := mirror_rest typ b s; rw [h]
@[simp] theorem mirror_template (typ : Nat) (b : Payload) : (s.mirror typ b).template = s.template := by obtain ⟨_, _, _, _, h⟩ := mirror_rest typ b s; rw [h]
@[simp] theorem mirror_apdu (typ : Nat) (b : Payload) : (s.mirror typ b).apdu = s.apdu := by obtain ⟨_, _, _, _, h⟩ := mirror_rest typ b s; rw [h]
@[simp] theorem mirror_roster (typ : Nat) (b : Payload) : (s.mirror typ b).roster = s.roster := by obtain ⟨_, _, _, _, h⟩ := mirror_rest typ b s; rw [h]
@[simp] theorem mirror_sweeps (typ : Nat) (b : Payload) : (s.mirror typ b).sweeps = s.sweeps := by obtain ⟨_, _, _, _, h⟩ := mirror_rest typ b s; rw [h]
@[simp] theorem mirror_report (typ : Nat) (b : Payload) : (s.mirror typ b).report = s.report := by obtain ⟨_, _, _, _, h⟩ := mirror_rest typ b s; rw [h]
@[simp] theorem mirror_keys (typ : Nat) (b : Payload) : (s.mirror typ b).keys = s.keys := by obtain ⟨_, _, _, _, h⟩ := mirror_rest typ b s; rw [h]
@[simp] theorem mirror_sense (typ : Nat) (b : Payload) : (s.mirror typ b).sense = s.sense := by obtain ⟨_, _, _, _, h⟩ := mirror_rest typ b s; rw [h]
@[simp] theorem mirror_coreF (typ : Nat) (b : Payload) : (s.mirror typ b).coreF = s.coreF := by obtain ⟨_, _, _, _, h⟩ := mirror_rest typ b s; rw [h]
@[simp] theorem mirror_coreH (typ : Nat) (b : Payload) : (s.mirror typ b).coreH = s.coreH := by obtain ⟨_, _, _, _, h⟩ := mirror_rest typ b s; rw [h]
@[simp] theorem mirror_guest (typ : Nat) (b : Payload) : (s.mirror typ b).guest = s.guest := by obtain ⟨_, _, _, _, h⟩ := mirror_rest typ b s; rw [h]
@[simp] theorem mirror_debug (typ : Nat) (b : Payload) : (s.mirror typ b).dbg = s.dbg := by obtain ⟨_, _, _, _, h⟩ := mirror_rest typ b s; rw [h]
@[simp] theorem mirror_mem (typ : Nat) (b : Payload) : (s.mirror typ b).mem = s.mem := by obtain ⟨_, _, _, _, h⟩ := mirror_rest typ b s; rw [h]
@[simp] theorem mirror_hostMem (typ : Nat) (b : Payload) : (s.mirror typ b).hostMem = s.hostMem := by obtain ⟨_, _, _, _, h⟩ := mirror_rest typ b s; rw [h]
@[simp] theorem mirror_ecc (typ : Nat) (b : Payload) : (s.mirror typ b).ecc = s.ecc := by obtain ⟨_, _, _, _, h⟩ := mirror_rest typ b s; rw [h]
@[simp] theorem mirror_nvm (typ : Nat) (b : Payload) : (s.mirror typ b).nvm = s.nvm := by obtain ⟨_, _, _, _, h⟩ := mirror_rest typ b s; rw [h]
@[simp] theorem mirror_settings (typ : Nat) (b : Payload) : (s.mirror typ b).settings = s.settings := by obtain ⟨_, _, _, _, h⟩ := mirror_rest typ b s; rw [h]
@[simp] theorem mirror_aon (typ : Nat) (b : Payload) : (s.mirror typ b).aon = s.aon := by obtain ⟨_, _, _, _, h⟩ := mirror_rest typ b s; rw [h]
@[simp] theorem mirror_journal (typ : Nat) (b : Payload) : (s.mirror typ b).journal = s.journal := by obtain ⟨_, _, _, _, h⟩ := mirror_rest typ b s; rw [h]
@[simp] theorem mirror_observers (typ : Nat) (b : Payload) : (s.mirror typ b).observers = s.observers := by obtain ⟨_, _, _, _, h⟩ := mirror_rest typ b s; rw [h]
@[simp] theorem mirror_recent (typ : Nat) (b : Payload) : (s.mirror typ b).recent = s.recent := by obtain ⟨_, _, _, _, h⟩ := mirror_rest typ b s; rw [h]
@[simp] theorem mirror_proxied (typ : Nat) (b : Payload) : (s.mirror typ b).proxied = s.proxied := by obtain ⟨_, _, _, _, h⟩ := mirror_rest typ b s; rw [h]
@[simp] theorem mirror_cmds (typ : Nat) (b : Payload) : (s.mirror typ b).cmds = s.cmds := by obtain ⟨_, _, _, _, h⟩ := mirror_rest typ b s; rw [h]
@[simp] theorem mirror_hostTs (typ : Nat) (b : Payload) : (s.mirror typ b).hostTs = s.hostTs := by obtain ⟨_, _, _, _, h⟩ := mirror_rest typ b s; rw [h]
@[simp] theorem mirror_carried (typ : Nat) (b : Payload) : (s.mirror typ b).carried = s.carried := by obtain ⟨_, _, _, _, h⟩ := mirror_rest typ b s; rw [h]
@[simp] theorem mirror_carrying (typ : Nat) (b : Payload) : (s.mirror typ b).carrying = s.carrying := by obtain ⟨_, _, _, _, h⟩ := mirror_rest typ b s; rw [h]
@[simp] theorem mirror_fltF (typ : Nat) (b : Payload) : (s.mirror typ b).fltF = s.fltF := by obtain ⟨_, _, _, _, h⟩ := mirror_rest typ b s; rw [h]
@[simp] theorem mirror_fltH (typ : Nat) (b : Payload) : (s.mirror typ b).fltH = s.fltH := by obtain ⟨_, _, _, _, h⟩ := mirror_rest typ b s; rw [h]
@[simp] theorem mirror_records (typ : Nat) (b : Payload) : (s.mirror typ b).records = s.records := by obtain ⟨_, _, _, _, h⟩ := mirror_rest typ b s; rw [h]
@[simp] theorem mirror_ring (typ : Nat) (b : Payload) : (s.mirror typ b).ring = s.ring := by obtain ⟨_, _, _, _, h⟩ := mirror_rest typ b s; rw [h]
@[simp] theorem mirror_spi (typ : Nat) (b : Payload) : (s.mirror typ b).spi = s.spi := by obtain ⟨_, _, _, _, h⟩ := mirror_rest typ b s; rw [h]
@[simp] theorem mirror_twin (typ : Nat) (b : Payload) : (s.mirror typ b).twin = s.twin := by obtain ⟨_, _, _, _, h⟩ := mirror_rest typ b s; rw [h]
@[simp] theorem mirror_power (typ : Nat) (b : Payload) : (s.mirror typ b).power = s.power := by obtain ⟨_, _, _, _, h⟩ := mirror_rest typ b s; rw [h]
@[simp] theorem mirror_radio (typ : Nat) (b : Payload) : (s.mirror typ b).radio = s.radio := by obtain ⟨_, _, _, _, h⟩ := mirror_rest typ b s; rw [h]
@[simp] theorem mirror_pktMem (typ : Nat) (b : Payload) : (s.mirror typ b).pktMem = s.pktMem := by obtain ⟨_, _, _, _, h⟩ := mirror_rest typ b s; rw [h]
@[simp] theorem mirror_nodes (typ : Nat) (b : Payload) : (s.mirror typ b).nodes = s.nodes := by obtain ⟨_, _, _, _, h⟩ := mirror_rest typ b s; rw [h]
@[simp] theorem mirror_calib (typ : Nat) (b : Payload) : (s.mirror typ b).calib = s.calib := by obtain ⟨_, _, _, _, h⟩ := mirror_rest typ b s; rw [h]
@[simp] theorem mirror_dict (typ : Nat) (b : Payload) : (s.mirror typ b).dict = s.dict := by obtain ⟨_, _, _, _, h⟩ := mirror_rest typ b s; rw [h]
@[simp] theorem mirror_counts (typ : Nat) (b : Payload) : (s.mirror typ b).counts = s.counts := by obtain ⟨_, _, _, _, h⟩ := mirror_rest typ b s; rw [h]
@[simp] theorem mirror_fresh (typ : Nat) (b : Payload) : (s.mirror typ b).fresh = s.fresh := by obtain ⟨_, _, _, _, h⟩ := mirror_rest typ b s; rw [h]

@[simp] theorem commit_pending (g typ : Nat) (data : List Byte) : (s.commit g typ data).pending = s.pending := by obtain ⟨_, _, _, _, _, _, _, h⟩ := commit_rest g typ data s; rw [h]
@[simp] theorem commit_tb (g typ : Nat) (data : List Byte) : (s.commit g typ data).tb = s.tb := by obtain ⟨_, _, _, _, _, _, _, h⟩ := commit_rest g typ data s; rw [h]
@[simp] theorem commit_tracks (g typ : Nat) (data : List Byte) : (s.commit g typ data).tracks = s.tracks := by obtain ⟨_, _, _, _, _, _, _, h⟩ := commit_rest g typ data s; rw [h]
@[simp] theorem commit_chains (g typ : Nat) (data : List Byte) : (s.commit g typ data).chains = s.chains := by obtain ⟨_, _, _, _, _, _, _, h⟩ := commit_rest g typ data s; rw [h]
@[simp] theorem commit_feeders (g typ : Nat) (data : List Byte) : (s.commit g typ data).feeders = s.feeders := by obtain ⟨_, _, _, _, _, _, _, h⟩ := commit_rest g typ data s; rw [h]
@[simp] theorem commit_budget (g typ : Nat) (data : List Byte) : (s.commit g typ data).budget = s.budget := by obtain ⟨_, _, _, _, _, _, _, h⟩ := commit_rest g typ data s; rw [h]
@[simp] theorem commit_coilCal (g typ : Nat) (data : List Byte) : (s.commit g typ data).coilCal = s.coilCal := by obtain ⟨_, _, _, _, _, _, _, h⟩ := commit_rest g typ data s; rw [h]
@[simp] theorem commit_rxs (g typ : Nat) (data : List Byte) : (s.commit g typ data).rxs = s.rxs := by obtain ⟨_, _, _, _, _, _, _, h⟩ := commit_rest g typ data s; rw [h]
@[simp] theorem commit_bins (g typ : Nat) (data : List Byte) : (s.commit g typ data).bins = s.bins := by obtain ⟨_, _, _, _, _, _, _, h⟩ := commit_rest g typ data s; rw [h]
@[simp] theorem commit_capture (g typ : Nat) (data : List Byte) : (s.commit g typ data).capture = s.capture := by obtain ⟨_, _, _, _, _, _, _, h⟩ := commit_rest g typ data s; rw [h]
@[simp] theorem commit_template (g typ : Nat) (data : List Byte) : (s.commit g typ data).template = s.template := by obtain ⟨_, _, _, _, _, _, _, h⟩ := commit_rest g typ data s; rw [h]
@[simp] theorem commit_apdu (g typ : Nat) (data : List Byte) : (s.commit g typ data).apdu = s.apdu := by obtain ⟨_, _, _, _, _, _, _, h⟩ := commit_rest g typ data s; rw [h]
@[simp] theorem commit_roster (g typ : Nat) (data : List Byte) : (s.commit g typ data).roster = s.roster := by obtain ⟨_, _, _, _, _, _, _, h⟩ := commit_rest g typ data s; rw [h]
@[simp] theorem commit_sweeps (g typ : Nat) (data : List Byte) : (s.commit g typ data).sweeps = s.sweeps := by obtain ⟨_, _, _, _, _, _, _, h⟩ := commit_rest g typ data s; rw [h]
@[simp] theorem commit_report (g typ : Nat) (data : List Byte) : (s.commit g typ data).report = s.report := by obtain ⟨_, _, _, _, _, _, _, h⟩ := commit_rest g typ data s; rw [h]
@[simp] theorem commit_keys (g typ : Nat) (data : List Byte) : (s.commit g typ data).keys = s.keys := by obtain ⟨_, _, _, _, _, _, _, h⟩ := commit_rest g typ data s; rw [h]
@[simp] theorem commit_sense (g typ : Nat) (data : List Byte) : (s.commit g typ data).sense = s.sense := by obtain ⟨_, _, _, _, _, _, _, h⟩ := commit_rest g typ data s; rw [h]
@[simp] theorem commit_coreF (g typ : Nat) (data : List Byte) : (s.commit g typ data).coreF = s.coreF := by obtain ⟨_, _, _, _, _, _, _, h⟩ := commit_rest g typ data s; rw [h]
@[simp] theorem commit_coreH (g typ : Nat) (data : List Byte) : (s.commit g typ data).coreH = s.coreH := by obtain ⟨_, _, _, _, _, _, _, h⟩ := commit_rest g typ data s; rw [h]
@[simp] theorem commit_guest (g typ : Nat) (data : List Byte) : (s.commit g typ data).guest = s.guest := by obtain ⟨_, _, _, _, _, _, _, h⟩ := commit_rest g typ data s; rw [h]
@[simp] theorem commit_debug (g typ : Nat) (data : List Byte) : (s.commit g typ data).dbg = s.dbg := by obtain ⟨_, _, _, _, _, _, _, h⟩ := commit_rest g typ data s; rw [h]
@[simp] theorem commit_mem (g typ : Nat) (data : List Byte) : (s.commit g typ data).mem = s.mem := by obtain ⟨_, _, _, _, _, _, _, h⟩ := commit_rest g typ data s; rw [h]
@[simp] theorem commit_hostMem (g typ : Nat) (data : List Byte) : (s.commit g typ data).hostMem = s.hostMem := by obtain ⟨_, _, _, _, _, _, _, h⟩ := commit_rest g typ data s; rw [h]
@[simp] theorem commit_ecc (g typ : Nat) (data : List Byte) : (s.commit g typ data).ecc = s.ecc := by obtain ⟨_, _, _, _, _, _, _, h⟩ := commit_rest g typ data s; rw [h]
@[simp] theorem commit_settings (g typ : Nat) (data : List Byte) : (s.commit g typ data).settings = s.settings := by obtain ⟨_, _, _, _, _, _, _, h⟩ := commit_rest g typ data s; rw [h]
@[simp] theorem commit_aon (g typ : Nat) (data : List Byte) : (s.commit g typ data).aon = s.aon := by obtain ⟨_, _, _, _, _, _, _, h⟩ := commit_rest g typ data s; rw [h]
@[simp] theorem commit_observers (g typ : Nat) (data : List Byte) : (s.commit g typ data).observers = s.observers := by obtain ⟨_, _, _, _, _, _, _, h⟩ := commit_rest g typ data s; rw [h]
@[simp] theorem commit_recent (g typ : Nat) (data : List Byte) : (s.commit g typ data).recent = s.recent := by obtain ⟨_, _, _, _, _, _, _, h⟩ := commit_rest g typ data s; rw [h]
@[simp] theorem commit_proxied (g typ : Nat) (data : List Byte) : (s.commit g typ data).proxied = s.proxied := by obtain ⟨_, _, _, _, _, _, _, h⟩ := commit_rest g typ data s; rw [h]
@[simp] theorem commit_cmds (g typ : Nat) (data : List Byte) : (s.commit g typ data).cmds = s.cmds := by obtain ⟨_, _, _, _, _, _, _, h⟩ := commit_rest g typ data s; rw [h]
@[simp] theorem commit_hostTs (g typ : Nat) (data : List Byte) : (s.commit g typ data).hostTs = s.hostTs := by obtain ⟨_, _, _, _, _, _, _, h⟩ := commit_rest g typ data s; rw [h]
@[simp] theorem commit_carried (g typ : Nat) (data : List Byte) : (s.commit g typ data).carried = s.carried := by obtain ⟨_, _, _, _, _, _, _, h⟩ := commit_rest g typ data s; rw [h]
@[simp] theorem commit_carrying (g typ : Nat) (data : List Byte) : (s.commit g typ data).carrying = s.carrying := by obtain ⟨_, _, _, _, _, _, _, h⟩ := commit_rest g typ data s; rw [h]
@[simp] theorem commit_fltF (g typ : Nat) (data : List Byte) : (s.commit g typ data).fltF = s.fltF := by obtain ⟨_, _, _, _, _, _, _, h⟩ := commit_rest g typ data s; rw [h]
@[simp] theorem commit_fltH (g typ : Nat) (data : List Byte) : (s.commit g typ data).fltH = s.fltH := by obtain ⟨_, _, _, _, _, _, _, h⟩ := commit_rest g typ data s; rw [h]
@[simp] theorem commit_records (g typ : Nat) (data : List Byte) : (s.commit g typ data).records = s.records := by obtain ⟨_, _, _, _, _, _, _, h⟩ := commit_rest g typ data s; rw [h]
@[simp] theorem commit_ring (g typ : Nat) (data : List Byte) : (s.commit g typ data).ring = s.ring := by obtain ⟨_, _, _, _, _, _, _, h⟩ := commit_rest g typ data s; rw [h]
@[simp] theorem commit_spi (g typ : Nat) (data : List Byte) : (s.commit g typ data).spi = s.spi := by obtain ⟨_, _, _, _, _, _, _, h⟩ := commit_rest g typ data s; rw [h]
@[simp] theorem commit_power (g typ : Nat) (data : List Byte) : (s.commit g typ data).power = s.power := by obtain ⟨_, _, _, _, _, _, _, h⟩ := commit_rest g typ data s; rw [h]
@[simp] theorem commit_radio (g typ : Nat) (data : List Byte) : (s.commit g typ data).radio = s.radio := by obtain ⟨_, _, _, _, _, _, _, h⟩ := commit_rest g typ data s; rw [h]
@[simp] theorem commit_pktMem (g typ : Nat) (data : List Byte) : (s.commit g typ data).pktMem = s.pktMem := by obtain ⟨_, _, _, _, _, _, _, h⟩ := commit_rest g typ data s; rw [h]
@[simp] theorem commit_nodes (g typ : Nat) (data : List Byte) : (s.commit g typ data).nodes = s.nodes := by obtain ⟨_, _, _, _, _, _, _, h⟩ := commit_rest g typ data s; rw [h]
@[simp] theorem commit_calib (g typ : Nat) (data : List Byte) : (s.commit g typ data).calib = s.calib := by obtain ⟨_, _, _, _, _, _, _, h⟩ := commit_rest g typ data s; rw [h]
@[simp] theorem commit_dict (g typ : Nat) (data : List Byte) : (s.commit g typ data).dict = s.dict := by obtain ⟨_, _, _, _, _, _, _, h⟩ := commit_rest g typ data s; rw [h]
@[simp] theorem commit_counts (g typ : Nat) (data : List Byte) : (s.commit g typ data).counts = s.counts := by obtain ⟨_, _, _, _, _, _, _, h⟩ := commit_rest g typ data s; rw [h]
@[simp] theorem commit_fresh (g typ : Nat) (data : List Byte) : (s.commit g typ data).fresh = s.fresh := by obtain ⟨_, _, _, _, _, _, _, h⟩ := commit_rest g typ data s; rw [h]

@[simp] theorem undelivered_commit (s' : State) (g typ : Nat) (data : List Byte) :
    s.undelivered (s'.commit g typ data) = s.undelivered s' := by
  obtain ⟨j, n, lF, lH, lT, tw, o, h⟩ := commit_rest g typ data s'
  rw [h]; rfl

@[simp] theorem undelivered_send (s' : State) (e : LinkEnd) (typ : Nat) (b : Payload) :
    s.undelivered (s'.send e typ b) = s.undelivered s' := by
  obtain ⟨lF, lH, lT, o, h⟩ := send_rest e typ b s'
  rw [h]; rfl

@[simp] theorem undelivered_mirror (s' : State) (typ : Nat) (b : Payload) :
    s.undelivered (s'.mirror typ b) = s.undelivered s' := by
  obtain ⟨lF, lH, lT, o, h⟩ := mirror_rest typ b s'
  rw [h]; rfl

theorem undelivered_self : s.undelivered s = s := rfl

end Sys2Proof.Machine
end

