-- ==== Sys2Proof/Laws/Commands.lean ====
section
/-!
SUPPORT. Committing on a module without twin, and how a class A command that passes every check comes to run.
-/

namespace Sys2Proof.Machine

open Sys2Proof

/-! ### The twin's part of a commit -/

/-- On a module that is no lead nothing is mirrored. -/
theorem mirror_single {s : State} (h : s.twin.role = 0) (typ : Nat) (b : Payload) : s.mirror typ b = s := by
  unfold State.mirror; rw [if_neg (by omega)]

/-- Announcing a record leaves the twin's state but for the records it holds back. -/
theorem announce_twin (r : JRec) (s : State) : ∃ l, (s.announce r).twin = { s.twin with heldRecs := l } := by
  unfold State.announce
  split
  · dsimp only
    rw [send_twin]
    exact ⟨_, rfl⟩
  · refine ⟨s.twin.heldRecs, ?_⟩
    obtain ⟨_, _, _, _, h1⟩ := mirror_rest 0x80 (.mJournal r) s
    obtain ⟨_, _, _, _, h⟩ := deliver_rest r (s.mirror 0x80 (.mJournal r))
    rw [h, h1]

theorem append_twin (g typ : Nat) (data : List Byte) (s : State) : ∃ l, (s.append g typ data).twin = { s.twin with heldRecs := l } := by
  obtain ⟨_, _, _, _, _, _, h1⟩ := reserveEsn_rest s
  obtain ⟨_, _, _, _, _, _, h2⟩ := reserveOff_rest s.reserveEsn
  unfold State.append
  dsimp only
  obtain ⟨l, h⟩ := announce_twin (s.reserveEsn.reserveOff.newRecord g typ data) (s.reserveEsn.reserveOff.enterRecord (s.reserveEsn.reserveOff.newRecord g typ data))
  refine ⟨l, h.trans ?_⟩
  show ({ s.reserveEsn.reserveOff.twin with heldRecs := l } : Twin) = _
  rw [h2, h1]

theorem makeRoom_twin (s : State) : ∃ l, s.makeRoom.twin = { s.twin with heldRecs := l } := by
  unfold State.makeRoom
  dsimp only
  split
  · exact ⟨s.twin.heldRecs, rfl⟩
  · split
    · exact append_twin _ _ _ _
    · exact ⟨s.twin.heldRecs, rfl⟩

/-- Committing a record leaves the twin's state but for the records it holds back. -/
theorem commit_twin (g typ : Nat) (data : List Byte) (s : State) : ∃ l, (s.commit g typ data).twin = { s.twin with heldRecs := l } := by
  unfold State.commit
  split
  · exact ⟨s.twin.heldRecs, rfl⟩
  · obtain ⟨l, h⟩ := makeRoom_twin s
    obtain ⟨l', h'⟩ := append_twin g typ data s.makeRoom
    exact ⟨l', by rw [h', h]⟩

@[simp] theorem commit_role (g typ : Nat) (data : List Byte) (s : State) : (s.commit g typ data).twin.role = s.twin.role := by
  obtain ⟨l, h⟩ := commit_twin g typ data s; rw [h]
@[simp] theorem commit_twinState (g typ : Nat) (data : List Byte) (s : State) : (s.commit g typ data).twin.state = s.twin.state := by
  obtain ⟨l, h⟩ := commit_twin g typ data s; rw [h]
@[simp] theorem commit_handing (g typ : Nat) (data : List Byte) (s : State) : (s.commit g typ data).twin.handing = s.twin.handing := by
  obtain ⟨l, h⟩ := commit_twin g typ data s; rw [h]

end Sys2Proof.Machine
end

