-- ==== Sys2Proof/Laws/Exec.lean ====
section
/-!
SUPPORT. What exec calls for each command.
-/

namespace Sys2Proof.Machine

open Sys2Proof

@[simp] theorem exec_linkHello l f pos (s : State) : exec (.linkHello l f pos) s = execLinkHello l f pos s := (rfl)
@[simp] theorem exec_helloPeriod l (s : State) : exec (.helloPeriod l) s = execHelloPeriod l s := (rfl)
@[simp] theorem exec_linkAck l f (s : State) : exec (.linkAck l f) s = execLinkAck l f s := (rfl)
@[simp] theorem exec_ackPeriod l (s : State) : exec (.ackPeriod l) s = execAckPeriod l s := (rfl)
@[simp] theorem exec_retransmitTimeout l (s : State) : exec (.retransmitTimeout l) s = execRetransmitTimeout l s := (rfl)
@[simp] theorem exec_linkLost l (s : State) : exec (.linkLost l) s = execLinkLost l s := (rfl)
@[simp] theorem exec_linkResync l f (s : State) : exec (.linkResync l f) s = execLinkResync l f s := (rfl)
@[simp] theorem exec_dictReq f peer rid q (s : State) : exec (.dictReq f peer rid q) s = execDictReq f peer rid q s := (rfl)
@[simp] theorem exec_dictRsp f peer rid q status val (s : State) : exec (.dictRsp f peer rid q status val) s = execDictRsp f peer rid q status val s := (rfl)
@[simp] theorem exec_cmdReq f c (s : State) : exec (.cmdReq f c) s = execCmdReq f c s := (rfl)
@[simp] theorem exec_cmdRsp f peer rid (s : State) : exec (.cmdRsp f peer rid) s = execCmdRsp f peer rid s := (rfl)
@[simp] theorem exec_porterEvent f recs (s : State) : exec (.porterEvent f recs) s = execPorterEvent f recs s := (rfl)
@[simp] theorem exec_porterEventAck f esn (s : State) : exec (.porterEventAck f esn) s = execPorterEventAck f esn s := (rfl)
@[simp] theorem exec_porterJournal f (s : State) : exec (.porterJournal f) s = execPorterJournal f s := (rfl)
@[simp] theorem exec_porterJournalAck f store off (s : State) : exec (.porterJournalAck f store off) s = execPorterJournalAck f store off s := (rfl)
@[simp] theorem exec_powerState f l m (s : State) : exec (.powerState f l m) s = execPowerState f l m s := (rfl)
@[simp] theorem exec_time f ts (s : State) : exec (.time f ts) s = execTime f ts s := (rfl)
@[simp] theorem exec_report f (s : State) : exec (.report f) s = execReport f s := (rfl)
@[simp] theorem exec_faultMsg l f (s : State) : exec (.faultMsg l f) s = execFaultMsg l f s := (rfl)
@[simp] theorem exec_porterEcho l f (s : State) : exec (.porterEcho l f) s = execPorterEcho l f s := (rfl)
@[simp] theorem exec_tbcclRead (s : State) : exec (.tbcclRead) s = execTbcclRead s := (rfl)
@[simp] theorem exec_tsSave (s : State) : exec (.tsSave) s = execTsSave s := (rfl)
@[simp] theorem exec_referenceChange r (s : State) : exec (.referenceChange r) s = execReferenceChange r s := (rfl)
@[simp] theorem exec_zeroCrossEdge after (s : State) : exec (.zeroCrossEdge after) s = execZeroCrossEdge after s := (rfl)
@[simp] theorem exec_freeRunning (s : State) : exec (.freeRunning) s = execFreeRunning s := (rfl)
@[simp] theorem exec_mainsReport present (s : State) : exec (.mainsReport present) s = execMainsReport present s := (rfl)
@[simp] theorem exec_mainsCycleEnd (s : State) : exec (.mainsCycleEnd) s = execMainsCycleEnd s := (rfl)
@[simp] theorem exec_select t (s : State) : exec (.select t) s = execSelect t s := (rfl)
@[simp] theorem exec_shape t (s : State) : exec (.shape t) s = execShape t s := (rfl)
@[simp] theorem exec_emit t (s : State) : exec (.emit t) s = execEmit t s := (rfl)
@[simp] theorem exec_listen t (s : State) : exec (.listen t) s = execListen t s := (rfl)
@[simp] theorem exec_exchange t (s : State) : exec (.exchange t) s = execExchange t s := (rfl)
@[simp] theorem exec_waitStage t (s : State) : exec (.waitStage t) s = execWaitStage t s := (rfl)
@[simp] theorem exec_meet t (s : State) : exec (.meet t) s = execMeet t s := (rfl)
@[simp] theorem exec_meetRelease mask obs (s : State) : exec (.meetRelease mask obs) s = execMeetRelease mask obs s := (rfl)
@[simp] theorem exec_branch t (s : State) : exec (.branch t) s = execBranch t s := (rfl)
@[simp] theorem exec_defer t (s : State) : exec (.defer t) s = execDefer t s := (rfl)
@[simp] theorem exec_verdict t w (s : State) : exec (.verdict t w) s = execVerdict t w s := (rfl)
@[simp] theorem exec_post t (s : State) : exec (.post t) s = execPost t s := (rfl)
@[simp] theorem exec_callStage t (s : State) : exec (.callStage t) s = execCallStage t s := (rfl)
@[simp] theorem exec_returnStage t (s : State) : exec (.returnStage t) s = execReturnStage t s := (rfl)
@[simp] theorem exec_mark t (s : State) : exec (.mark t) s = execMark t s := (rfl)
@[simp] theorem exec_sense t (s : State) : exec (.sense t) s = execSense t s := (rfl)
@[simp] theorem exec_calib t (s : State) : exec (.calib t) s = execCalib t s := (rfl)
@[simp] theorem exec_halt t (s : State) : exec (.halt t) s = execHalt t s := (rfl)
@[simp] theorem exec_tout t (s : State) : exec (.tout t) s = execTout t s := (rfl)
@[simp] theorem exec_resourceWaitEnd t (s : State) : exec (.resourceWaitEnd t) s = execResourceWaitEnd t s := (rfl)
@[simp] theorem exec_horizonEnd t (s : State) : exec (.horizonEnd t) s = execHorizonEnd t s := (rfl)
@[simp] theorem exec_heldRelease t (s : State) : exec (.heldRelease t) s = execHeldRelease t s := (rfl)
@[simp] theorem exec_qpop t (s : State) : exec (.qpop t) s = execQpop t s := (rfl)
@[simp] theorem exec_qflush t (s : State) : exec (.qflush t) s = execQflush t s := (rfl)
@[simp] theorem exec_start t entry (s : State) : exec (.start t entry) s = execStart t entry s := (rfl)
@[simp] theorem exec_stop t (s : State) : exec (.stop t) s = execStop t s := (rfl)
@[simp] theorem exec_abort t (s : State) : exec (.abort t) s = execAbort t s := (rfl)
@[simp] theorem exec_acknowledgePulse p (s : State) : exec (.acknowledgePulse p) s = execAcknowledgePulse p s := (rfl)
@[simp] theorem exec_selectorSettle t (s : State) : exec (.selectorSettle t) s = execSelectorSettle t s := (rfl)
@[simp] theorem exec_budgetAdmission (s : State) : exec (.budgetAdmission) s = execBudgetAdmission s := (rfl)
@[simp] theorem exec_rampEnd x (s : State) : exec (.rampEnd x) s = execRampEnd x s := (rfl)
@[simp] theorem exec_trainingComplete f depth range ci cq (s : State) : exec (.trainingComplete f depth range ci cq) s = execTrainingComplete f depth range ci cq s := (rfl)
@[simp] theorem exec_feederAbsent f ma (s : State) : exec (.feederAbsent f ma) s = execFeederAbsent f ma s := (rfl)
@[simp] theorem exec_feederShort f (s : State) : exec (.feederShort f) s = execFeederShort f s := (rfl)
@[simp] theorem exec_feederOverload f ma (s : State) : exec (.feederOverload f ma) s = execFeederOverload f ma s := (rfl)
@[simp] theorem exec_feederFenced f fwd refl (s : State) : exec (.feederFenced f fwd refl) s = execFeederFenced f fwd refl s := (rfl)
@[simp] theorem exec_feederRecovery f ma (s : State) : exec (.feederRecovery f ma) s = execFeederRecovery f ma s := (rfl)
@[simp] theorem exec_aboveCap x mw (s : State) : exec (.aboveCap x mw) s = execAboveCap x mw s := (rfl)
@[simp] theorem exec_powerAtZero x mw (s : State) : exec (.powerAtZero x mw) s = execPowerAtZero x mw s := (rfl)
@[simp] theorem exec_peakTimeTick (s : State) : exec (.peakTimeTick) s = execPeakTimeTick s := (rfl)
@[simp] theorem exec_heatsinkSample sink amb (s : State) : exec (.heatsinkSample sink amb) s = execHeatsinkSample sink amb s := (rfl)
@[simp] theorem exec_sof t out dec m (s : State) : exec (.sof t out dec m) s = execSof t out dec m s := (rfl)
@[simp] theorem exec_frameReceived t r0 r1 alts e (s : State) : exec (.frameReceived t r0 r1 alts e) s = execFrameReceived t r0 r1 alts e s := (rfl)
@[simp] theorem exec_windowClose t (s : State) : exec (.windowClose t) s = execWindowClose t s := (rfl)
@[simp] theorem exec_impulseMark m (s : State) : exec (.impulseMark m) s = execImpulseMark m s := (rfl)
@[simp] theorem exec_markEnd f (s : State) : exec (.markEnd f) s = execMarkEnd f s := (rfl)
@[simp] theorem exec_mapClear v (s : State) : exec (.mapClear v) s = execMapClear v s := (rfl)
@[simp] theorem exec_captureArm v (s : State) : exec (.captureArm v) s = execCaptureArm v s := (rfl)
@[simp] theorem exec_captureTrigger (s : State) : exec (.captureTrigger) s = execCaptureTrigger s := (rfl)
@[simp] theorem exec_captureDone (s : State) : exec (.captureDone) s = execCaptureDone s := (rfl)
@[simp] theorem exec_apduStart v (s : State) : exec (.apduStart v) s = execApduStart v s := (rfl)
@[simp] theorem exec_apduResult answers (s : State) : exec (.apduResult answers) s = execApduResult answers s := (rfl)
@[simp] theorem exec_templateWrite n v (s : State) : exec (.templateWrite n v) s = execTemplateWrite n v s := (rfl)
@[simp] theorem exec_templateStart v (s : State) : exec (.templateStart v) s = execTemplateStart v s := (rfl)
@[simp] theorem exec_templateResult answers g (s : State) : exec (.templateResult answers g) s = execTemplateResult answers g s := (rfl)
@[simp] theorem exec_sweepStart p v (s : State) : exec (.sweepStart p v) s = execSweepStart p v s := (rfl)
@[simp] theorem exec_sweepPeriod p (s : State) : exec (.sweepPeriod p) s = execSweepPeriod p s := (rfl)
@[simp] theorem exec_sweepBegin (s : State) : exec (.sweepBegin) s = execSweepBegin s := (rfl)
@[simp] theorem exec_sweepClose obs (s : State) : exec (.sweepClose obs) s = execSweepClose obs s := (rfl)
@[simp] theorem exec_closeWaitEnd (s : State) : exec (.closeWaitEnd) s = execCloseWaitEnd s := (rfl)
@[simp] theorem exec_emptyRoster c (s : State) : exec (.emptyRoster c) s = execEmptyRoster c s := (rfl)
@[simp] theorem exec_reportBuild v (s : State) : exec (.reportBuild v) s = execReportBuild v s := (rfl)
@[simp] theorem exec_reportReady (s : State) : exec (.reportReady) s = execReportReady s := (rfl)
@[simp] theorem exec_loadWrappedKey c (s : State) : exec (.loadWrappedKey c) s = execLoadWrappedKey c s := (rfl)
@[simp] theorem exec_loadIssuerKey c (s : State) : exec (.loadIssuerKey c) s = execLoadIssuerKey c s := (rfl)
@[simp] theorem exec_eraseSlot c (s : State) : exec (.eraseSlot c) s = execEraseSlot c s := (rfl)
@[simp] theorem exec_releaseUid c (s : State) : exec (.releaseUid c) s = execReleaseUid c s := (rfl)
@[simp] theorem exec_securityStart v (s : State) : exec (.securityStart v) s = execSecurityStart v s := (rfl)
@[simp] theorem exec_securityResult r (s : State) : exec (.securityResult r) s = execSecurityResult r s := (rfl)
@[simp] theorem exec_failuresLeaveWindow tag (s : State) : exec (.failuresLeaveWindow tag) s = execFailuresLeaveWindow tag s := (rfl)
@[simp] theorem exec_burstEnd who bs (s : State) : exec (.burstEnd who bs) s = execBurstEnd who bs s := (rfl)
@[simp] theorem exec_senseSkipped who (s : State) : exec (.senseSkipped who) s = execSenseSkipped who s := (rfl)
@[simp] theorem exec_holdOffEnd ca (s : State) : exec (.holdOffEnd ca) s = execHoldOffEnd ca s := (rfl)
@[simp] theorem exec_doorGroupWrite g v (s : State) : exec (.doorGroupWrite g v) s = execDoorGroupWrite g v s := (rfl)
@[simp] theorem exec_doorHoldOffEnd ca (s : State) : exec (.doorHoldOffEnd ca) s = execDoorHoldOffEnd ca s := (rfl)
@[simp] theorem exec_lanternScan (s : State) : exec (.lanternScan) s = execLanternScan s := (rfl)
@[simp] theorem exec_impulseRepeat (s : State) : exec (.impulseRepeat) s = execImpulseRepeat s := (rfl)
@[simp] theorem exec_relearn v (s : State) : exec (.relearn v) s = execRelearn v s := (rfl)
@[simp] theorem exec_add k rd ra rb (s : State) : exec (.add k rd ra rb) s = execAdd k rd ra rb s := (rfl)
@[simp] theorem exec_sub k rd ra rb (s : State) : exec (.sub k rd ra rb) s = execSub k rd ra rb s := (rfl)
@[simp] theorem exec_and k rd ra rb (s : State) : exec (.and k rd ra rb) s = execAnd k rd ra rb s := (rfl)
@[simp] theorem exec_or k rd ra rb (s : State) : exec (.or k rd ra rb) s = execOr k rd ra rb s := (rfl)
@[simp] theorem exec_xor k rd ra rb (s : State) : exec (.xor k rd ra rb) s = execXor k rd ra rb s := (rfl)
@[simp] theorem exec_andn k rd ra rb (s : State) : exec (.andn k rd ra rb) s = execAndn k rd ra rb s := (rfl)
@[simp] theorem exec_clt k rd ra rb (s : State) : exec (.clt k rd ra rb) s = execClt k rd ra rb s := (rfl)
@[simp] theorem exec_cltu k rd ra rb (s : State) : exec (.cltu k rd ra rb) s = execCltu k rd ra rb s := (rfl)
@[simp] theorem exec_shl k rd ra sh (s : State) : exec (.shl k rd ra sh) s = execShl k rd ra sh s := (rfl)
@[simp] theorem exec_shr k rd ra sh (s : State) : exec (.shr k rd ra sh) s = execShr k rd ra sh s := (rfl)
@[simp] theorem exec_shra k rd ra sh (s : State) : exec (.shra k rd ra sh) s = execShra k rd ra sh s := (rfl)
@[simp] theorem exec_shlr k rd ra rb (s : State) : exec (.shlr k rd ra rb) s = execShlr k rd ra rb s := (rfl)
@[simp] theorem exec_shrr k rd ra rb (s : State) : exec (.shrr k rd ra rb) s = execShrr k rd ra rb s := (rfl)
@[simp] theorem exec_shrar k rd ra rb (s : State) : exec (.shrar k rd ra rb) s = execShrar k rd ra rb s := (rfl)
@[simp] theorem exec_mul k ra rb (s : State) : exec (.mul k ra rb) s = execMul k ra rb s := (rfl)
@[simp] theorem exec_mulu k ra rb (s : State) : exec (.mulu k ra rb) s = execMulu k ra rb s := (rfl)
@[simp] theorem exec_mac k ra rb (s : State) : exec (.mac k ra rb) s = execMac k ra rb s := (rfl)
@[simp] theorem exec_macu k ra rb (s : State) : exec (.macu k ra rb) s = execMacu k ra rb s := (rfl)
@[simp] theorem exec_productWrite k (s : State) : exec (.productWrite k) s = execProductWrite k s := (rfl)
@[simp] theorem exec_rdph k rd (s : State) : exec (.rdph k rd) s = execRdph k rd s := (rfl)
@[simp] theorem exec_rdpl k rd (s : State) : exec (.rdpl k rd) s = execRdpl k rd s := (rfl)
@[simp] theorem exec_wrph k ra (s : State) : exec (.wrph k ra) s = execWrph k ra s := (rfl)
@[simp] theorem exec_wrpl k ra (s : State) : exec (.wrpl k ra) s = execWrpl k ra s := (rfl)
@[simp] theorem exec_jmpr k ra (s : State) : exec (.jmpr k ra) s = execJmpr k ra s := (rfl)
@[simp] theorem exec_jmpf k ra (s : State) : exec (.jmpf k ra) s = execJmpf k ra s := (rfl)
@[simp] theorem exec_callr k ra (s : State) : exec (.callr k ra) s = execCallr k ra s := (rfl)
@[simp] theorem exec_ret k (s : State) : exec (.ret k) s = execRet k s := (rfl)
@[simp] theorem exec_addi k rd ra imm (s : State) : exec (.addi k rd ra imm) s = execAddi k rd ra imm s := (rfl)
@[simp] theorem exec_andi k rd ra imm (s : State) : exec (.andi k rd ra imm) s = execAndi k rd ra imm s := (rfl)
@[simp] theorem exec_ori k rd ra imm (s : State) : exec (.ori k rd ra imm) s = execOri k rd ra imm s := (rfl)
@[simp] theorem exec_xori k rd ra imm (s : State) : exec (.xori k rd ra imm) s = execXori k rd ra imm s := (rfl)
@[simp] theorem exec_clti k rd ra imm (s : State) : exec (.clti k rd ra imm) s = execClti k rd ra imm s := (rfl)
@[simp] theorem exec_cltiu k rd ra imm (s : State) : exec (.cltiu k rd ra imm) s = execCltiu k rd ra imm s := (rfl)
@[simp] theorem exec_ldhi k rd imm (s : State) : exec (.ldhi k rd imm) s = execLdhi k rd imm s := (rfl)
@[simp] theorem exec_ldw k rd ra imm (s : State) : exec (.ldw k rd ra imm) s = execLdw k rd ra imm s := (rfl)
@[simp] theorem exec_ldh k rd ra imm (s : State) : exec (.ldh k rd ra imm) s = execLdh k rd ra imm s := (rfl)
@[simp] theorem exec_ldhu k rd ra imm (s : State) : exec (.ldhu k rd ra imm) s = execLdhu k rd ra imm s := (rfl)
@[simp] theorem exec_ldb k rd ra imm (s : State) : exec (.ldb k rd ra imm) s = execLdb k rd ra imm s := (rfl)
@[simp] theorem exec_ldbu k rd ra imm (s : State) : exec (.ldbu k rd ra imm) s = execLdbu k rd ra imm s := (rfl)
@[simp] theorem exec_stw k rd ra imm (s : State) : exec (.stw k rd ra imm) s = execStw k rd ra imm s := (rfl)
@[simp] theorem exec_sth k rd ra imm (s : State) : exec (.sth k rd ra imm) s = execSth k rd ra imm s := (rfl)
@[simp] theorem exec_stb k rd ra imm (s : State) : exec (.stb k rd ra imm) s = execStb k rd ra imm s := (rfl)
@[simp] theorem exec_ldfw k rd ra imm (s : State) : exec (.ldfw k rd ra imm) s = execLdfw k rd ra imm s := (rfl)
@[simp] theorem exec_stfw k rd ra imm (s : State) : exec (.stfw k rd ra imm) s = execStfw k rd ra imm s := (rfl)
@[simp] theorem exec_beq k ra rb disp (s : State) : exec (.beq k ra rb disp) s = execBeq k ra rb disp s := (rfl)
@[simp] theorem exec_bne k ra rb disp (s : State) : exec (.bne k ra rb disp) s = execBne k ra rb disp s := (rfl)
@[simp] theorem exec_blt k ra rb disp (s : State) : exec (.blt k ra rb disp) s = execBlt k ra rb disp s := (rfl)
@[simp] theorem exec_bge k ra rb disp (s : State) : exec (.bge k ra rb disp) s = execBge k ra rb disp s := (rfl)
@[simp] theorem exec_bltu k ra rb disp (s : State) : exec (.bltu k ra rb disp) s = execBltu k ra rb disp s := (rfl)
@[simp] theorem exec_bgeu k ra rb disp (s : State) : exec (.bgeu k ra rb disp) s = execBgeu k ra rb disp s := (rfl)
@[simp] theorem exec_jmp k disp (s : State) : exec (.jmp k disp) s = execJmp k disp s := (rfl)
@[simp] theorem exec_call k disp (s : State) : exec (.call k disp) s = execCall k disp s := (rfl)
@[simp] theorem exec_rdsr k rd sr (s : State) : exec (.rdsr k rd sr) s = execRdsr k rd sr s := (rfl)
@[simp] theorem exec_wrsr k ra sr (s : State) : exec (.wrsr k ra sr) s = execWrsr k ra sr s := (rfl)
@[simp] theorem exec_lck k (s : State) : exec (.lck k) s = execLck k s := (rfl)
@[simp] theorem exec_ulk k (s : State) : exec (.ulk k) s = execUlk k s := (rfl)
@[simp] theorem exec_lockovr k (s : State) : exec (.lockovr k) s = execLockovr k s := (rfl)
@[simp] theorem exec_trap k code (s : State) : exec (.trap k code) s = execTrap k code s := (rfl)
@[simp] theorem exec_rfe k (s : State) : exec (.rfe k) s = execRfe k s := (rfl)
@[simp] theorem exec_wait k (s : State) : exec (.wait k) s = execWait k s := (rfl)
@[simp] theorem exec_brk k (s : State) : exec (.brk k) s = execBrk k s := (rfl)
@[simp] theorem exec_interrupt k (s : State) : exec (.interrupt k) s = execInterrupt k s := (rfl)
@[simp] theorem exec_guestPage v (s : State) : exec (.guestPage v) s = execGuestPage v s := (rfl)
@[simp] theorem exec_guestActivate c (s : State) : exec (.guestActivate c) s = execGuestActivate c s := (rfl)
@[simp] theorem exec_guestStop (s : State) : exec (.guestStop) s = execGuestStop s := (rfl)
@[simp] theorem exec_enableCoreDebug c (s : State) : exec (.enableCoreDebug c) s = execEnableCoreDebug c s := (rfl)
@[simp] theorem exec_debugExpiry (s : State) : exec (.debugExpiry) s = execDebugExpiry s := (rfl)
@[simp] theorem exec_debugHalt (s : State) : exec (.debugHalt) s = execDebugHalt s := (rfl)
@[simp] theorem exec_resume (s : State) : exec (.resume) s = execResume s := (rfl)
@[simp] theorem exec_step (s : State) : exec (.step) s = execStep s := (rfl)
@[simp] theorem exec_debugPeek a (s : State) : exec (.debugPeek a) s = execDebugPeek a s := (rfl)
@[simp] theorem exec_debugConsume a (s : State) : exec (.debugConsume a) s = execDebugConsume a s := (rfl)
@[simp] theorem exec_debugWrite a d (s : State) : exec (.debugWrite a d) s = execDebugWrite a d s := (rfl)
@[simp] theorem exec_lockstepMismatch a (s : State) : exec (.lockstepMismatch a) s = execLockstepMismatch a s := (rfl)
@[simp] theorem exec_performanceLevel level (s : State) : exec (.performanceLevel level) s = execPerformanceLevel level s := (rfl)
@[simp] theorem exec_transitionEnd (s : State) : exec (.transitionEnd) s = execTransitionEnd s := (rfl)
@[simp] theorem exec_levelDrop (s : State) : exec (.levelDrop) s = execLevelDrop s := (rfl)
@[simp] theorem exec_wdkick v (s : State) : exec (.wdkick v) s = execWdkick v s := (rfl)
@[simp] theorem exec_watchdog (s : State) : exec (.watchdog) s = execWatchdog s := (rfl)
@[simp] theorem exec_scrub (s : State) : exec (.scrub) s = execScrub s := (rfl)
@[simp] theorem exec_nvmProgramDone (s : State) : exec (.nvmProgramDone) s = execNvmProgramDone s := (rfl)
@[simp] theorem exec_nvmEraseDone verified (s : State) : exec (.nvmEraseDone verified) s = execNvmEraseDone verified s := (rfl)
@[simp] theorem exec_store v (s : State) : exec (.store v) s = execStore v s := (rfl)
@[simp] theorem exec_storeComplete fieldOk hostOk (s : State) : exec (.storeComplete fieldOk hostOk) s = execStoreComplete fieldOk hostOk s := (rfl)
@[simp] theorem exec_restoreDefaults v (s : State) : exec (.restoreDefaults v) s = execRestoreDefaults v s := (rfl)
@[simp] theorem exec_checkNewImage c (s : State) : exec (.checkNewImage c) s = execCheckNewImage c s := (rfl)
@[simp] theorem exec_journalCheckpoint (s : State) : exec (.journalCheckpoint) s = execJournalCheckpoint s := (rfl)
@[simp] theorem exec_fieldReset (s : State) : exec (.fieldReset) s = execFieldReset s := (rfl)
@[simp] theorem exec_hostReset (s : State) : exec (.hostReset) s = execHostReset s := (rfl)
@[simp] theorem exec_read u (s : State) : exec (.read u) s = execRead u s := (rfl)
@[simp] theorem exec_nextRecord peer rid (s : State) : exec (.nextRecord peer rid) s = execNextRecord peer rid s := (rfl)
@[simp] theorem exec_write u (s : State) : exec (.write u) s = execWrite u s := (rfl)
@[simp] theorem exec_counterClear idx v (s : State) : exec (.counterClear idx v) s = execCounterClear idx v s := (rfl)
@[simp] theorem exec_subscribe u (s : State) : exec (.subscribe u) s = execSubscribe u s := (rfl)
@[simp] theorem exec_eventAck u (s : State) : exec (.eventAck u) s = execEventAck u s := (rfl)
@[simp] theorem exec_eventResend peer (s : State) : exec (.eventResend peer) s = execEventResend peer s := (rfl)
@[simp] theorem exec_journalAck u (s : State) : exec (.journalAck u) s = execJournalAck u s := (rfl)
@[simp] theorem exec_journalResend k (s : State) : exec (.journalResend k) s = execJournalResend k s := (rfl)
@[simp] theorem exec_setRightsMask c (s : State) : exec (.setRightsMask c) s = execSetRightsMask c s := (rfl)
@[simp] theorem exec_slotHoldEnd slot (s : State) : exec (.slotHoldEnd slot) s = execSlotHoldEnd slot s := (rfl)
@[simp] theorem exec_ringFrame p f (s : State) : exec (.ringFrame p f) s = execRingFrame p f s := (rfl)
@[simp] theorem exec_wakeFrame p f (s : State) : exec (.wakeFrame p f) s = execWakeFrame p f s := (rfl)
@[simp] theorem exec_supervision backA backB (s : State) : exec (.supervision backA backB) s = execSupervision backA backB s := (rfl)
@[simp] theorem exec_nodeForget mac (s : State) : exec (.nodeForget mac) s = execNodeForget mac s := (rfl)
@[simp] theorem exec_entryForget mac seq (s : State) : exec (.entryForget mac seq) s = execEntryForget mac seq s := (rfl)
@[simp] theorem exec_linkUp p (s : State) : exec (.linkUp p) s = execLinkUp p s := (rfl)
@[simp] theorem exec_linkDown p (s : State) : exec (.linkDown p) s = execLinkDown p s := (rfl)
@[simp] theorem exec_hostReady (s : State) : exec (.hostReady) s = execHostReady s := (rfl)
@[simp] theorem exec_lowPowerIdle p (s : State) : exec (.lowPowerIdle p) s = execLowPowerIdle p s := (rfl)
@[simp] theorem exec_ringLoopback v (s : State) : exec (.ringLoopback v) s = execRingLoopback v s := (rfl)
@[simp] theorem exec_ringLoopbackEnd sent matched (s : State) : exec (.ringLoopbackEnd sent matched) s = execRingLoopbackEnd sent matched s := (rfl)
@[simp] theorem exec_addressChange (s : State) : exec (.addressChange) s = execAddressChange s := (rfl)
@[simp] theorem exec_serviceArp (s : State) : exec (.serviceArp) s = execServiceArp s := (rfl)
@[simp] theorem exec_spiIdle sel frame both (s : State) : exec (.spiIdle sel frame both) s = execSpiIdle sel frame both s := (rfl)
@[simp] theorem exec_spiUnit sel frame both (s : State) : exec (.spiUnit sel frame both) s = execSpiUnit sel frame both s := (rfl)
@[simp] theorem exec_spiEcho sel frame both (s : State) : exec (.spiEcho sel frame both) s = execSpiEcho sel frame both s := (rfl)
@[simp] theorem exec_shiftRegisterEcho peer v (s : State) : exec (.shiftRegisterEcho peer v) s = execShiftRegisterEcho peer v s := (rfl)
@[simp] theorem exec_echoDurationEnd (s : State) : exec (.echoDurationEnd) s = execEchoDurationEnd s := (rfl)
@[simp] theorem exec_heartbeatTick (s : State) : exec (.heartbeatTick) s = execHeartbeatTick s := (rfl)
@[simp] theorem exec_heartbeat f (s : State) : exec (.heartbeat f) s = execHeartbeat f s := (rfl)
@[simp] theorem exec_heartbeatMissed (s : State) : exec (.heartbeatMissed) s = execHeartbeatMissed s := (rfl)
@[simp] theorem exec_haltIn (s : State) : exec (.haltIn) s = execHaltIn s := (rfl)
@[simp] theorem exec_fieldAbsent f (s : State) : exec (.fieldAbsent f) s = execFieldAbsent f s := (rfl)
@[simp] theorem exec_fieldQuery f feeder (s : State) : exec (.fieldQuery f feeder) s = execFieldQuery f feeder s := (rfl)
@[simp] theorem exec_fieldReply f feeder fwd commanded (s : State) : exec (.fieldReply f feeder fwd commanded) s = execFieldReply f feeder fwd commanded s := (rfl)
@[simp] theorem exec_fieldQueryTimeout feeder (s : State) : exec (.fieldQueryTimeout feeder) s = execFieldQueryTimeout feeder s := (rfl)
@[simp] theorem exec_mJournal f (s : State) : exec (.mJournal f) s = execMJournal f s := (rfl)
@[simp] theorem exec_mWave f w (s : State) : exec (.mWave f w) s = execMWave f w s := (rfl)
@[simp] theorem exec_mClose f gen digest (s : State) : exec (.mClose f gen digest) s = execMClose f gen digest s := (rfl)
@[simp] theorem exec_mCounter f slot ctr (s : State) : exec (.mCounter f slot ctr) s = execMCounter f slot ctr s := (rfl)
@[simp] theorem exec_mReserve f r (s : State) : exec (.mReserve f r) s = execMReserve f r s := (rfl)
@[simp] theorem exec_mInflight f c (s : State) : exec (.mInflight f c) s = execMInflight f c s := (rfl)
@[simp] theorem exec_mService f c (s : State) : exec (.mService f c) s = execMService f c s := (rfl)
@[simp] theorem exec_mKeys f m (s : State) : exec (.mKeys f m) s = execMKeys f m s := (rfl)
@[simp] theorem exec_mDict f m (s : State) : exec (.mDict f m) s = execMDict f m s := (rfl)
@[simp] theorem exec_mHost f m (s : State) : exec (.mHost f m) s = execMHost f m s := (rfl)
@[simp] theorem exec_mPower f curfew (s : State) : exec (.mPower f curfew) s = execMPower f curfew s := (rfl)
@[simp] theorem exec_haltNotice f (s : State) : exec (.haltNotice f) s = execHaltNotice f s := (rfl)
@[simp] theorem exec_handover f (s : State) : exec (.handover f) s = execHandover f s := (rfl)
@[simp] theorem exec_pair f (s : State) : exec (.pair f) s = execPair f s := (rfl)
@[simp] theorem exec_resyncData f parts (s : State) : exec (.resyncData f parts) s = execResyncData f parts s := (rfl)
@[simp] theorem exec_roleDecision roleIn (s : State) : exec (.roleDecision roleIn) s = execRoleDecision roleIn s := (rfl)
@[simp] theorem exec_yield (s : State) : exec (.yield) s = execYield s := (rfl)
@[simp] theorem exec_mirrorTimeout (s : State) : exec (.mirrorTimeout) s = execMirrorTimeout s := (rfl)
@[simp] theorem exec_loadTwinKey c (s : State) : exec (.loadTwinKey c) s = execLoadTwinKey c s := (rfl)
@[simp] theorem exec_handOverLead c (s : State) : exec (.handOverLead c) s = execHandOverLead c s := (rfl)
@[simp] theorem exec_handoverAbandoned (s : State) : exec (.handoverAbandoned) s = execHandoverAbandoned s := (rfl)
@[simp] theorem exec_acknowledgeFaults v (s : State) : exec (.acknowledgeFaults v) s = execAcknowledgeFaults v s := (rfl)
@[simp] theorem exec_acknowledgeAnyLevel c (s : State) : exec (.acknowledgeAnyLevel c) s = execAcknowledgeAnyLevel c s := (rfl)
@[simp] theorem exec_ack mask (s : State) : exec (.ack mask) s = execAck mask s := (rfl)
@[simp] theorem exec_caprel (s : State) : exec (.caprel) s = execCaprel s := (rfl)
@[simp] theorem exec_releaseCapture v (s : State) : exec (.releaseCapture v) s = execReleaseCapture v s := (rfl)
@[simp] theorem exec_fltqConsume (s : State) : exec (.fltqConsume) s = execFltqConsume s := (rfl)
@[simp] theorem exec_restartDelay d (s : State) : exec (.restartDelay d) s = execRestartDelay d s := (rfl)
@[simp] theorem exec_carrierOutOfTolerance ppm (s : State) : exec (.carrierOutOfTolerance ppm) s = execCarrierOutOfTolerance ppm s := (rfl)
@[simp] theorem exec_pllUnlock (s : State) : exec (.pllUnlock) s = execPllUnlock s := (rfl)
@[simp] theorem exec_railOutOfRange rail mv (s : State) : exec (.railOutOfRange rail mv) s = execRailOutOfRange rail mv s := (rfl)
@[simp] theorem exec_injectFault c (s : State) : exec (.injectFault c) s = execInjectFault c s := (rfl)
@[simp] theorem exec_mainsAbsent (s : State) : exec (.mainsAbsent) s = execMainsAbsent s := (rfl)
@[simp] theorem exec_returnToMains (s : State) : exec (.returnToMains) s = execReturnToMains s := (rfl)
@[simp] theorem exec_auxOutOfRange v10 (s : State) : exec (.auxOutOfRange v10) s = execAuxOutOfRange v10 s := (rfl)
@[simp] theorem exec_powerFailWarning (s : State) : exec (.powerFailWarning) s = execPowerFailWarning s := (rfl)
@[simp] theorem exec_warningClear (s : State) : exec (.warningClear) s = execWarningClear s := (rfl)
@[simp] theorem exec_powerLoss (s : State) : exec (.powerLoss) s = execPowerLoss s := (rfl)
@[simp] theorem exec_enterLantern (s : State) : exec (.enterLantern) s = execEnterLantern s := (rfl)
@[simp] theorem exec_enterCurfew (s : State) : exec (.enterCurfew) s = execEnterCurfew s := (rfl)
@[simp] theorem exec_enterCurfewDiscarding (s : State) : exec (.enterCurfewDiscarding) s = execEnterCurfewDiscarding s := (rfl)
@[simp] theorem exec_curfewWindowEnd levelEvent (s : State) : exec (.curfewWindowEnd levelEvent) s = execCurfewWindowEnd levelEvent s := (rfl)
@[simp] theorem exec_wake src (s : State) : exec (.wake src) s = execWake src s := (rfl)
@[simp] theorem exec_wakeSymbol d (s : State) : exec (.wakeSymbol d) s = execWakeSymbol d s := (rfl)
@[simp] theorem exec_wakeFailure d (s : State) : exec (.wakeFailure d) s = execWakeFailure d s := (rfl)
@[simp] theorem exec_brownout d (s : State) : exec (.brownout d) s = execBrownout d s := (rfl)
@[simp] theorem exec_padrel d mask (s : State) : exec (.padrel d mask) s = execPadrel d mask s := (rfl)
@[simp] theorem exec_sleep after (s : State) : exec (.sleep after) s = execSleep after s := (rfl)
@[simp] theorem exec_idle after (s : State) : exec (.idle after) s = execIdle after s := (rfl)
@[simp] theorem exec_fsOn after (s : State) : exec (.fsOn after) s = execFsOn after s := (rfl)
@[simp] theorem exec_rx after (s : State) : exec (.rx after) s = execRx after s := (rfl)
@[simp] theorem exec_tx after urgent pri pkt (s : State) : exec (.tx after urgent pri pkt) s = execTx after urgent pri pkt s := (rfl)
@[simp] theorem exec_calibrate (s : State) : exec (.calibrate) s = execCalibrate s := (rfl)
@[simp] theorem exec_calibrateNow v (s : State) : exec (.calibrateNow v) s = execCalibrateNow v s := (rfl)
@[simp] theorem exec_transmitHead (s : State) : exec (.transmitHead) s = execTransmitHead s := (rfl)
@[simp] theorem exec_leadEnd grant (s : State) : exec (.leadEnd grant) s = execLeadEnd grant s := (rfl)
@[simp] theorem exec_coexRetry (s : State) : exec (.coexRetry) s = execCoexRetry s := (rfl)
@[simp] theorem exec_packetSent airUs lossBad (s : State) : exec (.packetSent airUs lossBad) s = execPacketSent airUs lossBad s := (rfl)
@[simp] theorem exec_settleEnd (s : State) : exec (.settleEnd) s = execSettleEnd s := (rfl)
@[simp] theorem exec_synthesiserCalibrationDone (s : State) : exec (.synthesiserCalibrationDone) s = execSynthesiserCalibrationDone s := (rfl)
@[simp] theorem exec_temperatureSample c (s : State) : exec (.temperatureSample c) s = execTemperatureSample c s := (rfl)
@[simp] theorem exec_backgroundCalibration iq abandoned imageDb (s : State) : exec (.backgroundCalibration iq abandoned imageDb) s = execBackgroundCalibration iq abandoned imageDb s := (rfl)
@[simp] theorem exec_lossOfLock (s : State) : exec (.lossOfLock) s = execLossOfLock s := (rfl)
@[simp] theorem exec_grantWithdrawn (s : State) : exec (.grantWithdrawn) s = execGrantWithdrawn s := (rfl)
@[simp] theorem exec_dutyBucket (s : State) : exec (.dutyBucket) s = execDutyBucket s := (rfl)
@[simp] theorem exec_sniffPeriod preamble (s : State) : exec (.sniffPeriod preamble) s = execSniffPeriod preamble s := (rfl)
@[simp] theorem exec_stfDetection opts (s : State) : exec (.stfDetection opts) s = execStfDetection opts s := (rfl)
@[simp] theorem exec_phr hcsOk rate len (s : State) : exec (.phr hcsOk rate len) s = execPhr hcsOk rate len s := (rfl)
@[simp] theorem exec_xhr hcsOk addr gen (s : State) : exec (.xhr hcsOk addr gen) s = execXhr hcsOk addr gen s := (rfl)
@[simp] theorem exec_packetReceived p (s : State) : exec (.packetReceived p) s = execPacketReceived p s := (rfl)
@[simp] theorem exec_mapSetAck node (s : State) : exec (.mapSetAck node) s = execMapSetAck node s := (rfl)
@[simp] theorem exec_mapReport node gen map (s : State) : exec (.mapReport node gen map) s = execMapReport node gen map s := (rfl)
@[simp] theorem exec_doorLinkLoopback v (s : State) : exec (.doorLinkLoopback v) s = execDoorLinkLoopback v s := (rfl)
@[simp] theorem exec_doorLinkLoopbackEnd matched (s : State) : exec (.doorLinkLoopbackEnd matched) s = execDoorLinkLoopbackEnd matched s := (rfl)
@[simp] theorem exec_calibrationStart v (s : State) : exec (.calibrationStart v) s = execCalibrationStart v s := (rfl)
@[simp] theorem exec_calibrationDue code target (s : State) : exec (.calibrationDue code target) s = execCalibrationDue code target s := (rfl)
@[simp] theorem exec_calibrationDone m (s : State) : exec (.calibrationDone m) s = execCalibrationDone m s := (rfl)
@[simp] theorem exec_correctionStep (s : State) : exec (.correctionStep) s = execCorrectionStep s := (rfl)
@[simp] theorem exec_commitCalibration c (s : State) : exec (.commitCalibration c) s = execCommitCalibration c s := (rfl)
@[simp] theorem exec_hfLoopback v (s : State) : exec (.hfLoopback v) s = execHfLoopback v s := (rfl)
@[simp] theorem exec_hfLoopbackEnd sent matched good (s : State) : exec (.hfLoopbackEnd sent matched good) s = execHfLoopbackEnd sent matched good s := (rfl)
@[simp] theorem exec_registerWrite bank off v (s : State) : exec (.registerWrite bank off v) s = execRegisterWrite bank off v s := (rfl)
@[simp] theorem exec_frameEnd t dur (s : State) : exec (.frameEnd t dur) s = execFrameEnd t dur s := (rfl)
@[simp] theorem exec_unassignedOpcode k w (s : State) : exec (.unassignedOpcode k w) s = execUnassignedOpcode k w s := (rfl)
@[simp] theorem exec_hbInEdge (s : State) : exec (.hbInEdge) s = execHbInEdge s := (rfl)
@[simp] theorem exec_heartbeatLineBroken (s : State) : exec (.heartbeatLineBroken) s = execHeartbeatLineBroken s := (rfl)
@[simp] theorem exec_collectorParityError (s : State) : exec (.collectorParityError) s = execCollectorParityError s := (rfl)

end Sys2Proof.Machine
end

