-- ==== Sys2Proof/Laws/Tab.lean ====
section
/-!
SUPPORT. Tables: reading after writing, and the canonical form that every table operation keeps.
-/

namespace Sys2Proof.Machine

variable {α : Type}

/-- An index of a table whose first index is at least `lo`, all of whose entries follow it. -/
def Tab.above (lo : Nat) (t : Tab α) : Prop := ∀ p ∈ t, lo < p.1

/-- The canonical form, said of the members. -/
theorem Tab.wf_cons [DecidableEq α] {d : Nat → α} {i : Nat} {v : α} {t : Tab α} :
    Tab.wf d ((i, v) :: t) = true ↔ v ≠ d i ∧ Tab.above i t ∧ Tab.wf d t = true := by
  induction t generalizing i v with
  | nil => simp [Tab.wf, Tab.above]
  | cons q t ih =>
    obtain ⟨j, w⟩ := q
    simp only [Tab.wf, Bool.and_eq_true, decide_eq_true_eq, ih, Tab.above, List.mem_cons, forall_eq_or_imp]
    constructor
    · rintro ⟨⟨h1, h2⟩, h3, h4, h5⟩
      exact ⟨h1, ⟨h2, fun p hp => Nat.lt_trans h2 (h4 p hp)⟩, h3, h4, h5⟩
    · rintro ⟨h1, ⟨h2, _⟩, h3, h4, h5⟩
      exact ⟨⟨h1, h2⟩, h3, h4, h5⟩

theorem Tab.wf_nil [DecidableEq α] {d : Nat → α} : Tab.wf d ([] : Tab α) = true := rfl

theorem Tab.above_erase {lo k : Nat} {t : Tab α} (h : Tab.above lo t) : Tab.above lo (Tab.erase t k) := by
  induction t with
  | nil => exact h
  | cons q t ih =>
    obtain ⟨j, w⟩ := q
    have ht : Tab.above lo t := fun p hp => h p (List.mem_cons_of_mem _ hp)
    by_cases hj : j = k
    · simpa [Tab.erase, hj] using ih ht
    · intro p hp
      simp only [Tab.erase, hj, if_false, List.mem_cons] at hp
      rcases hp with rfl | hp
      · exact h _ (List.mem_cons_self ..)
      · exact ih ht p hp

theorem Tab.wf_erase [DecidableEq α] {d : Nat → α} {t : Tab α} (h : Tab.wf d t = true) (k : Nat) :
    Tab.wf d (Tab.erase t k) = true := by
  induction t with
  | nil => exact h
  | cons q t ih =>
    obtain ⟨j, w⟩ := q
    obtain ⟨h1, h2, h3⟩ := Tab.wf_cons.1 h
    by_cases hj : j = k
    · simpa [Tab.erase, hj] using ih h3
    · simp only [Tab.erase, hj, if_false]
      exact Tab.wf_cons.2 ⟨h1, Tab.above_erase h2, ih h3⟩

/-- No entry of index `k`. -/
def Tab.lacks (k : Nat) (t : Tab α) : Prop := ∀ p ∈ t, p.1 ≠ k

theorem Tab.lacks_erase (k : Nat) (t : Tab α) : Tab.lacks k (Tab.erase t k) := by
  induction t with
  | nil => intro p hp; cases hp
  | cons q t ih =>
    obtain ⟨j, w⟩ := q
    by_cases hj : j = k
    · simpa [Tab.erase, hj] using ih
    · intro p hp
      simp only [Tab.erase, hj, if_false, List.mem_cons] at hp
      rcases hp with rfl | hp
      · exact hj
      · exact ih p hp

theorem Tab.above_insert {lo k : Nat} {v : α} {t : Tab α} (h : Tab.above lo t) (hk : lo < k) :
    Tab.above lo (Tab.insert t k v) := by
  induction t with
  | nil => intro p hp; simp only [Tab.insert, List.mem_singleton] at hp; subst hp; exact hk
  | cons q t ih =>
    obtain ⟨j, w⟩ := q
    have ht : Tab.above lo t := fun p hp => h p (List.mem_cons_of_mem _ hp)
    intro p hp
    unfold Tab.insert at hp
    split at hp
    · rcases List.mem_cons.1 hp with rfl | hp
      · exact hk
      · exact h p hp
    · rcases List.mem_cons.1 hp with rfl | hp
      · exact h _ (List.mem_cons_self ..)
      · exact ih ht p hp

theorem Tab.wf_insert [DecidableEq α] {d : Nat → α} {t : Tab α} {k : Nat} {v : α} (h : Tab.wf d t = true)
    (hl : Tab.lacks k t) (hv : v ≠ d k) : Tab.wf d (Tab.insert t k v) = true := by
  induction t with
  | nil => exact Tab.wf_cons.2 ⟨hv, (by intro p hp; cases hp), rfl⟩
  | cons q t ih =>
    obtain ⟨j, w⟩ := q
    obtain ⟨h1, h2, h3⟩ := Tab.wf_cons.1 h
    unfold Tab.insert
    split
    · rename_i hkj
      refine Tab.wf_cons.2 ⟨hv, ?_, h⟩
      intro p hp
      rcases List.mem_cons.1 hp with rfl | hp
      · exact hkj
      · exact Nat.lt_trans hkj (h2 p hp)
    · rename_i hkj
      have hne : j ≠ k := hl (j, w) (List.mem_cons_self ..)
      exact Tab.wf_cons.2 ⟨h1, Tab.above_insert h2 (by omega), ih h3 fun p hp => hl p (List.mem_cons_of_mem _ hp)⟩

/-- A write whose value an unlisted index does not read as, or that removes the entry, keeps the canonical form. -/
theorem Tab.wf_put [DecidableEq α] {d : Nat → α} {t : Tab α} (h : Tab.wf d t = true) (k : Nat) (v : α) :
    Tab.wf d (if v = d k then Tab.erase t k else Tab.insert (Tab.erase t k) k v) = true := by
  split
  · exact Tab.wf_erase h k
  · exact Tab.wf_insert (Tab.wf_erase h k) (Tab.lacks_erase k t) ‹_›

theorem Tab.wf_set [DecidableEq α] {d : α} {t : Tab α} (h : Tab.wf (fun _ => d) t = true) (k : Nat) (v : α) :
    Tab.wf (fun _ => d) (Tab.set d t k v) = true := Tab.wf_put h k v

theorem Tab.wf_filter [DecidableEq α] {d : Nat → α} {t : Tab α} (h : Tab.wf d t = true) (f : Nat × α → Bool) :
    Tab.wf d (t.filter f) = true := by
  induction t with
  | nil => exact h
  | cons q t ih =>
    obtain ⟨j, w⟩ := q
    obtain ⟨h1, h2, h3⟩ := Tab.wf_cons.1 h
    by_cases hf : f (j, w)
    · rw [List.filter_cons_of_pos hf]
      exact Tab.wf_cons.2 ⟨h1, fun p hp => h2 p (List.mem_filter.1 hp).1, ih h3⟩
    · rw [List.filter_cons_of_neg hf]; exact ih h3

/-! ### Reading after writing -/

theorem Tab.get_erase_same {d : α} (t : Tab α) (k : Nat) : Tab.get d (Tab.erase t k) k = d := by
  induction t with
  | nil => rfl
  | cons q t ih =>
    obtain ⟨j, w⟩ := q
    by_cases hj : j = k
    · simpa [Tab.erase, hj] using ih
    · simpa [Tab.erase, hj, Tab.get] using ih

theorem Tab.get_erase_other {d : α} (t : Tab α) {k j : Nat} (h : j ≠ k) : Tab.get d (Tab.erase t k) j = Tab.get d t j := by
  induction t with
  | nil => rfl
  | cons q t ih =>
    obtain ⟨i, w⟩ := q
    by_cases hi : i = k
    · subst hi; simp [Tab.erase, Tab.get, ih, Ne.symm h]
    · simp [Tab.erase, hi, Tab.get, ih]

theorem Tab.get_insert {d : α} (t : Tab α) {k : Nat} (h : Tab.lacks k t) (v : α) (j : Nat) :
    Tab.get d (Tab.insert t k v) j = if j = k then v else Tab.get d t j := by
  induction t with
  | nil => simp [Tab.insert, Tab.get, eq_comm]
  | cons q t ih =>
    obtain ⟨i, w⟩ := q
    have hi : i ≠ k := h (i, w) (List.mem_cons_self ..)
    have ih := ih fun p hp => h p (List.mem_cons_of_mem _ hp)
    unfold Tab.insert
    split
    · simp [Tab.get, eq_comm]
    · simp only [Tab.get, ih]
      by_cases hij : i = j
      · subst hij; simp [hi]
      · simp [hij]

/-- The value written is read back, and every other index reads as before. -/
theorem Tab.get_set [DecidableEq α] {d : α} (t : Tab α) (k : Nat) (v : α) (j : Nat) :
    Tab.get d (Tab.set d t k v) j = if j = k then v else Tab.get d t j := by
  unfold Tab.set
  split
  · rename_i hv
    by_cases hj : j = k
    · subst hj; simp [Tab.get_erase_same, hv]
    · simp [hj, Tab.get_erase_other _ hj]
  · rw [Tab.get_insert _ (Tab.lacks_erase k t)]
    by_cases hj : j = k
    · simp [hj]
    · simp [hj, Tab.get_erase_other _ hj]

theorem Tab.erase_lacks {t : Tab α} {k : Nat} (h : Tab.lacks k t) : Tab.erase t k = t := by
  induction t with
  | nil => rfl
  | cons q t ih =>
    obtain ⟨j, w⟩ := q
    have h1 : j ≠ k := h (j, w) (List.mem_cons_self ..)
    simp only [Tab.erase, if_neg h1]
    rw [ih fun p hp => h p (List.mem_cons_of_mem _ hp)]

theorem Tab.erase_insert {t : Tab α} {k : Nat} (h : Tab.lacks k t) (v : α) : Tab.erase (Tab.insert t k v) k = t := by
  induction t with
  | nil => simp [Tab.insert, Tab.erase]
  | cons q t ih =>
    obtain ⟨j, w⟩ := q
    have h1 : j ≠ k := h (j, w) (List.mem_cons_self ..)
    have h2 : Tab.lacks k t := fun p hp => h p (List.mem_cons_of_mem _ hp)
    unfold Tab.insert
    split
    · simp only [Tab.erase, if_true, if_neg h1, Tab.erase_lacks h2]
    · simp only [Tab.erase, if_neg h1, ih h2]

/-- Of two writes to one index the later stands. -/
theorem Tab.set_set [DecidableEq α] {d : α} (t : Tab α) (k : Nat) (v w : α) :
    Tab.set d (Tab.set d t k v) k w = Tab.set d t k w := by
  have e : Tab.erase (Tab.set d t k v) k = Tab.erase t k := by
    unfold Tab.set
    split
    · exact Tab.erase_lacks (Tab.lacks_erase k t)
    · exact Tab.erase_insert (Tab.lacks_erase k t) v
  show (if w = d then Tab.erase (Tab.set d t k v) k else Tab.insert (Tab.erase (Tab.set d t k v) k) k w) = _
  rw [e]
  rfl

end Sys2Proof.Machine
end

