-- ==== Sys2Proof/Laws/State.lean ====
section
/-!
SUPPORT. The named updates of State: what each leaves, field by field, and what reading back gives.
-/

namespace Sys2Proof.Machine

open Sys2Proof

variable (s : State)

@[simp] theorem setTrack_pending (i : Nat) (v : Track) : (s.setTrack i v).pending = s.pending := (rfl)
@[simp] theorem setTrack_tb (i : Nat) (v : Track) : (s.setTrack i v).tb = s.tb := (rfl)
@[simp] theorem setTrack_chains (i : Nat) (v : Track) : (s.setTrack i v).chains = s.chains := (rfl)
@[simp] theorem setTrack_feeders (i : Nat) (v : Track) : (s.setTrack i v).feeders = s.feeders := (rfl)
@[simp] theorem setTrack_budget (i : Nat) (v : Track) : (s.setTrack i v).budget = s.budget := (rfl)
@[simp] theorem setTrack_coilCal (i : Nat) (v : Track) : (s.setTrack i v).coilCal = s.coilCal := (rfl)
@[simp] theorem setTrack_rxs (i : Nat) (v : Track) : (s.setTrack i v).rxs = s.rxs := (rfl)
@[simp] theorem setTrack_bins (i : Nat) (v : Track) : (s.setTrack i v).bins = s.bins := (rfl)
@[simp] theorem setTrack_capture (i : Nat) (v : Track) : (s.setTrack i v).capture = s.capture := (rfl)
@[simp] theorem setTrack_template (i : Nat) (v : Track) : (s.setTrack i v).template = s.template := (rfl)
@[simp] theorem setTrack_apdu (i : Nat) (v : Track) : (s.setTrack i v).apdu = s.apdu := (rfl)
@[simp] theorem setTrack_roster (i : Nat) (v : Track) : (s.setTrack i v).roster = s.roster := (rfl)
@[simp] theorem setTrack_sweeps (i : Nat) (v : Track) : (s.setTrack i v).sweeps = s.sweeps := (rfl)
@[simp] theorem setTrack_report (i : Nat) (v : Track) : (s.setTrack i v).report = s.report := (rfl)
@[simp] theorem setTrack_keys (i : Nat) (v : Track) : (s.setTrack i v).keys = s.keys := (rfl)
@[simp] theorem setTrack_sense (i : Nat) (v : Track) : (s.setTrack i v).sense = s.sense := (rfl)
@[simp] theorem setTrack_coreF (i : Nat) (v : Track) : (s.setTrack i v).coreF = s.coreF := (rfl)
@[simp] theorem setTrack_coreH (i : Nat) (v : Track) : (s.setTrack i v).coreH = s.coreH := (rfl)
@[simp] theorem setTrack_guest (i : Nat) (v : Track) : (s.setTrack i v).guest = s.guest := (rfl)
@[simp] theorem setTrack_dbg (i : Nat) (v : Track) : (s.setTrack i v).dbg = s.dbg := (rfl)
@[simp] theorem setTrack_mem (i : Nat) (v : Track) : (s.setTrack i v).mem = s.mem := (rfl)
@[simp] theorem setTrack_hostMem (i : Nat) (v : Track) : (s.setTrack i v).hostMem = s.hostMem := (rfl)
@[simp] theorem setTrack_ecc (i : Nat) (v : Track) : (s.setTrack i v).ecc = s.ecc := (rfl)
@[simp] theorem setTrack_nvm (i : Nat) (v : Track) : (s.setTrack i v).nvm = s.nvm := (rfl)
@[simp] theorem setTrack_settings (i : Nat) (v : Track) : (s.setTrack i v).settings = s.settings := (rfl)
@[simp] theorem setTrack_aon (i : Nat) (v : Track) : (s.setTrack i v).aon = s.aon := (rfl)
@[simp] theorem setTrack_journal (i : Nat) (v : Track) : (s.setTrack i v).journal = s.journal := (rfl)
@[simp] theorem setTrack_observers (i : Nat) (v : Track) : (s.setTrack i v).observers = s.observers := (rfl)
@[simp] theorem setTrack_recent (i : Nat) (v : Track) : (s.setTrack i v).recent = s.recent := (rfl)
@[simp] theorem setTrack_proxied (i : Nat) (v : Track) : (s.setTrack i v).proxied = s.proxied := (rfl)
@[simp] theorem setTrack_cmds (i : Nat) (v : Track) : (s.setTrack i v).cmds = s.cmds := (rfl)
@[simp] theorem setTrack_linkF (i : Nat) (v : Track) : (s.setTrack i v).linkF = s.linkF := (rfl)
@[simp] theorem setTrack_linkH (i : Nat) (v : Track) : (s.setTrack i v).linkH = s.linkH := (rfl)
@[simp] theorem setTrack_linkT (i : Nat) (v : Track) : (s.setTrack i v).linkT = s.linkT := (rfl)
@[simp] theorem setTrack_hostTs (i : Nat) (v : Track) : (s.setTrack i v).hostTs = s.hostTs := (rfl)
@[simp] theorem setTrack_carried (i : Nat) (v : Track) : (s.setTrack i v).carried = s.carried := (rfl)
@[simp] theorem setTrack_fltF (i : Nat) (v : Track) : (s.setTrack i v).fltF = s.fltF := (rfl)
@[simp] theorem setTrack_fltH (i : Nat) (v : Track) : (s.setTrack i v).fltH = s.fltH := (rfl)
@[simp] theorem setTrack_records (i : Nat) (v : Track) : (s.setTrack i v).records = s.records := (rfl)
@[simp] theorem setTrack_ring (i : Nat) (v : Track) : (s.setTrack i v).ring = s.ring := (rfl)
@[simp] theorem setTrack_spi (i : Nat) (v : Track) : (s.setTrack i v).spi = s.spi := (rfl)
@[simp] theorem setTrack_twin (i : Nat) (v : Track) : (s.setTrack i v).twin = s.twin := (rfl)
@[simp] theorem setTrack_power (i : Nat) (v : Track) : (s.setTrack i v).power = s.power := (rfl)
@[simp] theorem setTrack_radio (i : Nat) (v : Track) : (s.setTrack i v).radio = s.radio := (rfl)
@[simp] theorem setTrack_pktMem (i : Nat) (v : Track) : (s.setTrack i v).pktMem = s.pktMem := (rfl)
@[simp] theorem setTrack_nodes (i : Nat) (v : Track) : (s.setTrack i v).nodes = s.nodes := (rfl)
@[simp] theorem setTrack_calib (i : Nat) (v : Track) : (s.setTrack i v).calib = s.calib := (rfl)
@[simp] theorem setTrack_dict (i : Nat) (v : Track) : (s.setTrack i v).dict = s.dict := (rfl)
@[simp] theorem setTrack_counts (i : Nat) (v : Track) : (s.setTrack i v).counts = s.counts := (rfl)
@[simp] theorem setTrack_out (i : Nat) (v : Track) : (s.setTrack i v).out = s.out := (rfl)
@[simp] theorem setTrack_fresh (i : Nat) (v : Track) : (s.setTrack i v).fresh = s.fresh := (rfl)

@[simp] theorem setChain_pending (i : Nat) (v : Chain) : (s.setChain i v).pending = s.pending := (rfl)
@[simp] theorem setChain_tb (i : Nat) (v : Chain) : (s.setChain i v).tb = s.tb := (rfl)
@[simp] theorem setChain_tracks (i : Nat) (v : Chain) : (s.setChain i v).tracks = s.tracks := (rfl)
@[simp] theorem setChain_feeders (i : Nat) (v : Chain) : (s.setChain i v).feeders = s.feeders := (rfl)
@[simp] theorem setChain_budget (i : Nat) (v : Chain) : (s.setChain i v).budget = s.budget := (rfl)
@[simp] theorem setChain_coilCal (i : Nat) (v : Chain) : (s.setChain i v).coilCal = s.coilCal := (rfl)
@[simp] theorem setChain_rxs (i : Nat) (v : Chain) : (s.setChain i v).rxs = s.rxs := (rfl)
@[simp] theorem setChain_bins (i : Nat) (v : Chain) : (s.setChain i v).bins = s.bins := (rfl)
@[simp] theorem setChain_capture (i : Nat) (v : Chain) : (s.setChain i v).capture = s.capture := (rfl)
@[simp] theorem setChain_template (i : Nat) (v : Chain) : (s.setChain i v).template = s.template := (rfl)
@[simp] theorem setChain_apdu (i : Nat) (v : Chain) : (s.setChain i v).apdu = s.apdu := (rfl)
@[simp] theorem setChain_roster (i : Nat) (v : Chain) : (s.setChain i v).roster = s.roster := (rfl)
@[simp] theorem setChain_sweeps (i : Nat) (v : Chain) : (s.setChain i v).sweeps = s.sweeps := (rfl)
@[simp] theorem setChain_report (i : Nat) (v : Chain) : (s.setChain i v).report = s.report := (rfl)
@[simp] theorem setChain_keys (i : Nat) (v : Chain) : (s.setChain i v).keys = s.keys := (rfl)
@[simp] theorem setChain_sense (i : Nat) (v : Chain) : (s.setChain i v).sense = s.sense := (rfl)
@[simp] theorem setChain_coreF (i : Nat) (v : Chain) : (s.setChain i v).coreF = s.coreF := (rfl)
@[simp] theorem setChain_coreH (i : Nat) (v : Chain) : (s.setChain i v).coreH = s.coreH := (rfl)
@[simp] theorem setChain_guest (i : Nat) (v : Chain) : (s.setChain i v).guest = s.guest := (rfl)
@[simp] theorem setChain_dbg (i : Nat) (v : Chain) : (s.setChain i v).dbg = s.dbg := (rfl)
@[simp] theorem setChain_mem (i : Nat) (v : Chain) : (s.setChain i v).mem = s.mem := (rfl)
@[simp] theorem setChain_hostMem (i : Nat) (v : Chain) : (s.setChain i v).hostMem = s.hostMem := (rfl)
@[simp] theorem setChain_ecc (i : Nat) (v : Chain) : (s.setChain i v).ecc = s.ecc := (rfl)
@[simp] theorem setChain_nvm (i : Nat) (v : Chain) : (s.setChain i v).nvm = s.nvm := (rfl)
@[simp] theorem setChain_settings (i : Nat) (v : Chain) : (s.setChain i v).settings = s.settings := (rfl)
@[simp] theorem setChain_aon (i : Nat) (v : Chain) : (s.setChain i v).aon = s.aon := (rfl)
@[simp] theorem setChain_journal (i : Nat) (v : Chain) : (s.setChain i v).journal = s.journal := (rfl)
@[simp] theorem setChain_observers (i : Nat) (v : Chain) : (s.setChain i v).observers = s.observers := (rfl)
@[simp] theorem setChain_recent (i : Nat) (v : Chain) : (s.setChain i v).recent = s.recent := (rfl)
@[simp] theorem setChain_proxied (i : Nat) (v : Chain) : (s.setChain i v).proxied = s.proxied := (rfl)
@[simp] theorem setChain_cmds (i : Nat) (v : Chain) : (s.setChain i v).cmds = s.cmds := (rfl)
@[simp] theorem setChain_linkF (i : Nat) (v : Chain) : (s.setChain i v).linkF = s.linkF := (rfl)
@[simp] theorem setChain_linkH (i : Nat) (v : Chain) : (s.setChain i v).linkH = s.linkH := (rfl)
@[simp] theorem setChain_linkT (i : Nat) (v : Chain) : (s.setChain i v).linkT = s.linkT := (rfl)
@[simp] theorem setChain_hostTs (i : Nat) (v : Chain) : (s.setChain i v).hostTs = s.hostTs := (rfl)
@[simp] theorem setChain_carried (i : Nat) (v : Chain) : (s.setChain i v).carried = s.carried := (rfl)
@[simp] theorem setChain_fltF (i : Nat) (v : Chain) : (s.setChain i v).fltF = s.fltF := (rfl)
@[simp] theorem setChain_fltH (i : Nat) (v : Chain) : (s.setChain i v).fltH = s.fltH := (rfl)
@[simp] theorem setChain_records (i : Nat) (v : Chain) : (s.setChain i v).records = s.records := (rfl)
@[simp] theorem setChain_ring (i : Nat) (v : Chain) : (s.setChain i v).ring = s.ring := (rfl)
@[simp] theorem setChain_spi (i : Nat) (v : Chain) : (s.setChain i v).spi = s.spi := (rfl)
@[simp] theorem setChain_twin (i : Nat) (v : Chain) : (s.setChain i v).twin = s.twin := (rfl)
@[simp] theorem setChain_power (i : Nat) (v : Chain) : (s.setChain i v).power = s.power := (rfl)
@[simp] theorem setChain_radio (i : Nat) (v : Chain) : (s.setChain i v).radio = s.radio := (rfl)
@[simp] theorem setChain_pktMem (i : Nat) (v : Chain) : (s.setChain i v).pktMem = s.pktMem := (rfl)
@[simp] theorem setChain_nodes (i : Nat) (v : Chain) : (s.setChain i v).nodes = s.nodes := (rfl)
@[simp] theorem setChain_calib (i : Nat) (v : Chain) : (s.setChain i v).calib = s.calib := (rfl)
@[simp] theorem setChain_dict (i : Nat) (v : Chain) : (s.setChain i v).dict = s.dict := (rfl)
@[simp] theorem setChain_counts (i : Nat) (v : Chain) : (s.setChain i v).counts = s.counts := (rfl)
@[simp] theorem setChain_out (i : Nat) (v : Chain) : (s.setChain i v).out = s.out := (rfl)
@[simp] theorem setChain_fresh (i : Nat) (v : Chain) : (s.setChain i v).fresh = s.fresh := (rfl)

@[simp] theorem setFeeder_pending (i : Nat) (v : Feeder) : (s.setFeeder i v).pending = s.pending := (rfl)
@[simp] theorem setFeeder_tb (i : Nat) (v : Feeder) : (s.setFeeder i v).tb = s.tb := (rfl)
@[simp] theorem setFeeder_tracks (i : Nat) (v : Feeder) : (s.setFeeder i v).tracks = s.tracks := (rfl)
@[simp] theorem setFeeder_chains (i : Nat) (v : Feeder) : (s.setFeeder i v).chains = s.chains := (rfl)
@[simp] theorem setFeeder_budget (i : Nat) (v : Feeder) : (s.setFeeder i v).budget = s.budget := (rfl)
@[simp] theorem setFeeder_coilCal (i : Nat) (v : Feeder) : (s.setFeeder i v).coilCal = s.coilCal := (rfl)
@[simp] theorem setFeeder_rxs (i : Nat) (v : Feeder) : (s.setFeeder i v).rxs = s.rxs := (rfl)
@[simp] theorem setFeeder_bins (i : Nat) (v : Feeder) : (s.setFeeder i v).bins = s.bins := (rfl)
@[simp] theorem setFeeder_capture (i : Nat) (v : Feeder) : (s.setFeeder i v).capture = s.capture := (rfl)
@[simp] theorem setFeeder_template (i : Nat) (v : Feeder) : (s.setFeeder i v).template = s.template := (rfl)
@[simp] theorem setFeeder_apdu (i : Nat) (v : Feeder) : (s.setFeeder i v).apdu = s.apdu := (rfl)
@[simp] theorem setFeeder_roster (i : Nat) (v : Feeder) : (s.setFeeder i v).roster = s.roster := (rfl)
@[simp] theorem setFeeder_sweeps (i : Nat) (v : Feeder) : (s.setFeeder i v).sweeps = s.sweeps := (rfl)
@[simp] theorem setFeeder_report (i : Nat) (v : Feeder) : (s.setFeeder i v).report = s.report := (rfl)
@[simp] theorem setFeeder_keys (i : Nat) (v : Feeder) : (s.setFeeder i v).keys = s.keys := (rfl)
@[simp] theorem setFeeder_sense (i : Nat) (v : Feeder) : (s.setFeeder i v).sense = s.sense := (rfl)
@[simp] theorem setFeeder_coreF (i : Nat) (v : Feeder) : (s.setFeeder i v).coreF = s.coreF := (rfl)
@[simp] theorem setFeeder_coreH (i : Nat) (v : Feeder) : (s.setFeeder i v).coreH = s.coreH := (rfl)
@[simp] theorem setFeeder_guest (i : Nat) (v : Feeder) : (s.setFeeder i v).guest = s.guest := (rfl)
@[simp] theorem setFeeder_dbg (i : Nat) (v : Feeder) : (s.setFeeder i v).dbg = s.dbg := (rfl)
@[simp] theorem setFeeder_mem (i : Nat) (v : Feeder) : (s.setFeeder i v).mem = s.mem := (rfl)
@[simp] theorem setFeeder_hostMem (i : Nat) (v : Feeder) : (s.setFeeder i v).hostMem = s.hostMem := (rfl)
@[simp] theorem setFeeder_ecc (i : Nat) (v : Feeder) : (s.setFeeder i v).ecc = s.ecc := (rfl)
@[simp] theorem setFeeder_nvm (i : Nat) (v : Feeder) : (s.setFeeder i v).nvm = s.nvm := (rfl)
@[simp] theorem setFeeder_settings (i : Nat) (v : Feeder) : (s.setFeeder i v).settings = s.settings := (rfl)
@[simp] theorem setFeeder_aon (i : Nat) (v : Feeder) : (s.setFeeder i v).aon = s.aon := (rfl)
@[simp] theorem setFeeder_journal (i : Nat) (v : Feeder) : (s.setFeeder i v).journal = s.journal := (rfl)
@[simp] theorem setFeeder_observers (i : Nat) (v : Feeder) : (s.setFeeder i v).observers = s.observers := (rfl)
@[simp] theorem setFeeder_recent (i : Nat) (v : Feeder) : (s.setFeeder i v).recent = s.recent := (rfl)
@[simp] theorem setFeeder_proxied (i : Nat) (v : Feeder) : (s.setFeeder i v).proxied = s.proxied := (rfl)
@[simp] theorem setFeeder_cmds (i : Nat) (v : Feeder) : (s.setFeeder i v).cmds = s.cmds := (rfl)
@[simp] theorem setFeeder_linkF (i : Nat) (v : Feeder) : (s.setFeeder i v).linkF = s.linkF := (rfl)
@[simp] theorem setFeeder_linkH (i : Nat) (v : Feeder) : (s.setFeeder i v).linkH = s.linkH := (rfl)
@[simp] theorem setFeeder_linkT (i : Nat) (v : Feeder) : (s.setFeeder i v).linkT = s.linkT := (rfl)
@[simp] theorem setFeeder_hostTs (i : Nat) (v : Feeder) : (s.setFeeder i v).hostTs = s.hostTs := (rfl)
@[simp] theorem setFeeder_carried (i : Nat) (v : Feeder) : (s.setFeeder i v).carried = s.carried := (rfl)
@[simp] theorem setFeeder_fltF (i : Nat) (v : Feeder) : (s.setFeeder i v).fltF = s.fltF := (rfl)
@[simp] theorem setFeeder_fltH (i : Nat) (v : Feeder) : (s.setFeeder i v).fltH = s.fltH := (rfl)
@[simp] theorem setFeeder_records (i : Nat) (v : Feeder) : (s.setFeeder i v).records = s.records := (rfl)
@[simp] theorem setFeeder_ring (i : Nat) (v : Feeder) : (s.setFeeder i v).ring = s.ring := (rfl)
@[simp] theorem setFeeder_spi (i : Nat) (v : Feeder) : (s.setFeeder i v).spi = s.spi := (rfl)
@[simp] theorem setFeeder_twin (i : Nat) (v : Feeder) : (s.setFeeder i v).twin = s.twin := (rfl)
@[simp] theorem setFeeder_power (i : Nat) (v : Feeder) : (s.setFeeder i v).power = s.power := (rfl)
@[simp] theorem setFeeder_radio (i : Nat) (v : Feeder) : (s.setFeeder i v).radio = s.radio := (rfl)
@[simp] theorem setFeeder_pktMem (i : Nat) (v : Feeder) : (s.setFeeder i v).pktMem = s.pktMem := (rfl)
@[simp] theorem setFeeder_nodes (i : Nat) (v : Feeder) : (s.setFeeder i v).nodes = s.nodes := (rfl)
@[simp] theorem setFeeder_calib (i : Nat) (v : Feeder) : (s.setFeeder i v).calib = s.calib := (rfl)
@[simp] theorem setFeeder_dict (i : Nat) (v : Feeder) : (s.setFeeder i v).dict = s.dict := (rfl)
@[simp] theorem setFeeder_counts (i : Nat) (v : Feeder) : (s.setFeeder i v).counts = s.counts := (rfl)
@[simp] theorem setFeeder_out (i : Nat) (v : Feeder) : (s.setFeeder i v).out = s.out := (rfl)
@[simp] theorem setFeeder_fresh (i : Nat) (v : Feeder) : (s.setFeeder i v).fresh = s.fresh := (rfl)

@[simp] theorem setRx_pending (i : Nat) (v : Rx) : (s.setRx i v).pending = s.pending := (rfl)
@[simp] theorem setRx_tb (i : Nat) (v : Rx) : (s.setRx i v).tb = s.tb := (rfl)
@[simp] theorem setRx_tracks (i : Nat) (v : Rx) : (s.setRx i v).tracks = s.tracks := (rfl)
@[simp] theorem setRx_chains (i : Nat) (v : Rx) : (s.setRx i v).chains = s.chains := (rfl)
@[simp] theorem setRx_feeders (i : Nat) (v : Rx) : (s.setRx i v).feeders = s.feeders := (rfl)
@[simp] theorem setRx_budget (i : Nat) (v : Rx) : (s.setRx i v).budget = s.budget := (rfl)
@[simp] theorem setRx_coilCal (i : Nat) (v : Rx) : (s.setRx i v).coilCal = s.coilCal := (rfl)
@[simp] theorem setRx_bins (i : Nat) (v : Rx) : (s.setRx i v).bins = s.bins := (rfl)
@[simp] theorem setRx_capture (i : Nat) (v : Rx) : (s.setRx i v).capture = s.capture := (rfl)
@[simp] theorem setRx_template (i : Nat) (v : Rx) : (s.setRx i v).template = s.template := (rfl)
@[simp] theorem setRx_apdu (i : Nat) (v : Rx) : (s.setRx i v).apdu = s.apdu := (rfl)
@[simp] theorem setRx_roster (i : Nat) (v : Rx) : (s.setRx i v).roster = s.roster := (rfl)
@[simp] theorem setRx_sweeps (i : Nat) (v : Rx) : (s.setRx i v).sweeps = s.sweeps := (rfl)
@[simp] theorem setRx_report (i : Nat) (v : Rx) : (s.setRx i v).report = s.report := (rfl)
@[simp] theorem setRx_keys (i : Nat) (v : Rx) : (s.setRx i v).keys = s.keys := (rfl)
@[simp] theorem setRx_sense (i : Nat) (v : Rx) : (s.setRx i v).sense = s.sense := (rfl)
@[simp] theorem setRx_coreF (i : Nat) (v : Rx) : (s.setRx i v).coreF = s.coreF := (rfl)
@[simp] theorem setRx_coreH (i : Nat) (v : Rx) : (s.setRx i v).coreH = s.coreH := (rfl)
@[simp] theorem setRx_guest (i : Nat) (v : Rx) : (s.setRx i v).guest = s.guest := (rfl)
@[simp] theorem setRx_dbg (i : Nat) (v : Rx) : (s.setRx i v).dbg = s.dbg := (rfl)
@[simp] theorem setRx_mem (i : Nat) (v : Rx) : (s.setRx i v).mem = s.mem := (rfl)
@[simp] theorem setRx_hostMem (i : Nat) (v : Rx) : (s.setRx i v).hostMem = s.hostMem := (rfl)
@[simp] theorem setRx_ecc (i : Nat) (v : Rx) : (s.setRx i v).ecc = s.ecc := (rfl)
@[simp] theorem setRx_nvm (i : Nat) (v : Rx) : (s.setRx i v).nvm = s.nvm := (rfl)
@[simp] theorem setRx_settings (i : Nat) (v : Rx) : (s.setRx i v).settings = s.settings := (rfl)
@[simp] theorem setRx_aon (i : Nat) (v : Rx) : (s.setRx i v).aon = s.aon := (rfl)
@[simp] theorem setRx_journal (i : Nat) (v : Rx) : (s.setRx i v).journal = s.journal := (rfl)
@[simp] theorem setRx_observers (i : Nat) (v : Rx) : (s.setRx i v).observers = s.observers := (rfl)
@[simp] theorem setRx_recent (i : Nat) (v : Rx) : (s.setRx i v).recent = s.recent := (rfl)
@[simp] theorem setRx_proxied (i : Nat) (v : Rx) : (s.setRx i v).proxied = s.proxied := (rfl)
@[simp] theorem setRx_cmds (i : Nat) (v : Rx) : (s.setRx i v).cmds = s.cmds := (rfl)
@[simp] theorem setRx_linkF (i : Nat) (v : Rx) : (s.setRx i v).linkF = s.linkF := (rfl)
@[simp] theorem setRx_linkH (i : Nat) (v : Rx) : (s.setRx i v).linkH = s.linkH := (rfl)
@[simp] theorem setRx_linkT (i : Nat) (v : Rx) : (s.setRx i v).linkT = s.linkT := (rfl)
@[simp] theorem setRx_hostTs (i : Nat) (v : Rx) : (s.setRx i v).hostTs = s.hostTs := (rfl)
@[simp] theorem setRx_carried (i : Nat) (v : Rx) : (s.setRx i v).carried = s.carried := (rfl)
@[simp] theorem setRx_fltF (i : Nat) (v : Rx) : (s.setRx i v).fltF = s.fltF := (rfl)
@[simp] theorem setRx_fltH (i : Nat) (v : Rx) : (s.setRx i v).fltH = s.fltH := (rfl)
@[simp] theorem setRx_records (i : Nat) (v : Rx) : (s.setRx i v).records = s.records := (rfl)
@[simp] theorem setRx_ring (i : Nat) (v : Rx) : (s.setRx i v).ring = s.ring := (rfl)
@[simp] theorem setRx_spi (i : Nat) (v : Rx) : (s.setRx i v).spi = s.spi := (rfl)
@[simp] theorem setRx_twin (i : Nat) (v : Rx) : (s.setRx i v).twin = s.twin := (rfl)
@[simp] theorem setRx_power (i : Nat) (v : Rx) : (s.setRx i v).power = s.power := (rfl)
@[simp] theorem setRx_radio (i : Nat) (v : Rx) : (s.setRx i v).radio = s.radio := (rfl)
@[simp] theorem setRx_pktMem (i : Nat) (v : Rx) : (s.setRx i v).pktMem = s.pktMem := (rfl)
@[simp] theorem setRx_nodes (i : Nat) (v : Rx) : (s.setRx i v).nodes = s.nodes := (rfl)
@[simp] theorem setRx_calib (i : Nat) (v : Rx) : (s.setRx i v).calib = s.calib := (rfl)
@[simp] theorem setRx_dict (i : Nat) (v : Rx) : (s.setRx i v).dict = s.dict := (rfl)
@[simp] theorem setRx_counts (i : Nat) (v : Rx) : (s.setRx i v).counts = s.counts := (rfl)
@[simp] theorem setRx_out (i : Nat) (v : Rx) : (s.setRx i v).out = s.out := (rfl)
@[simp] theorem setRx_fresh (i : Nat) (v : Rx) : (s.setRx i v).fresh = s.fresh := (rfl)

@[simp] theorem setEntry_pending (i : Nat) (v : Entry) : (s.setEntry i v).pending = s.pending := (rfl)
@[simp] theorem setEntry_tb (i : Nat) (v : Entry) : (s.setEntry i v).tb = s.tb := (rfl)
@[simp] theorem setEntry_tracks (i : Nat) (v : Entry) : (s.setEntry i v).tracks = s.tracks := (rfl)
@[simp] theorem setEntry_chains (i : Nat) (v : Entry) : (s.setEntry i v).chains = s.chains := (rfl)
@[simp] theorem setEntry_feeders (i : Nat) (v : Entry) : (s.setEntry i v).feeders = s.feeders := (rfl)
@[simp] theorem setEntry_budget (i : Nat) (v : Entry) : (s.setEntry i v).budget = s.budget := (rfl)
@[simp] theorem setEntry_coilCal (i : Nat) (v : Entry) : (s.setEntry i v).coilCal = s.coilCal := (rfl)
@[simp] theorem setEntry_rxs (i : Nat) (v : Entry) : (s.setEntry i v).rxs = s.rxs := (rfl)
@[simp] theorem setEntry_bins (i : Nat) (v : Entry) : (s.setEntry i v).bins = s.bins := (rfl)
@[simp] theorem setEntry_capture (i : Nat) (v : Entry) : (s.setEntry i v).capture = s.capture := (rfl)
@[simp] theorem setEntry_template (i : Nat) (v : Entry) : (s.setEntry i v).template = s.template := (rfl)
@[simp] theorem setEntry_apdu (i : Nat) (v : Entry) : (s.setEntry i v).apdu = s.apdu := (rfl)
@[simp] theorem setEntry_sweeps (i : Nat) (v : Entry) : (s.setEntry i v).sweeps = s.sweeps := (rfl)
@[simp] theorem setEntry_report (i : Nat) (v : Entry) : (s.setEntry i v).report = s.report := (rfl)
@[simp] theorem setEntry_keys (i : Nat) (v : Entry) : (s.setEntry i v).keys = s.keys := (rfl)
@[simp] theorem setEntry_sense (i : Nat) (v : Entry) : (s.setEntry i v).sense = s.sense := (rfl)
@[simp] theorem setEntry_coreF (i : Nat) (v : Entry) : (s.setEntry i v).coreF = s.coreF := (rfl)
@[simp] theorem setEntry_coreH (i : Nat) (v : Entry) : (s.setEntry i v).coreH = s.coreH := (rfl)
@[simp] theorem setEntry_guest (i : Nat) (v : Entry) : (s.setEntry i v).guest = s.guest := (rfl)
@[simp] theorem setEntry_dbg (i : Nat) (v : Entry) : (s.setEntry i v).dbg = s.dbg := (rfl)
@[simp] theorem setEntry_mem (i : Nat) (v : Entry) : (s.setEntry i v).mem = s.mem := (rfl)
@[simp] theorem setEntry_hostMem (i : Nat) (v : Entry) : (s.setEntry i v).hostMem = s.hostMem := (rfl)
@[simp] theorem setEntry_ecc (i : Nat) (v : Entry) : (s.setEntry i v).ecc = s.ecc := (rfl)
@[simp] theorem setEntry_nvm (i : Nat) (v : Entry) : (s.setEntry i v).nvm = s.nvm := (rfl)
@[simp] theorem setEntry_settings (i : Nat) (v : Entry) : (s.setEntry i v).settings = s.settings := (rfl)
@[simp] theorem setEntry_aon (i : Nat) (v : Entry) : (s.setEntry i v).aon = s.aon := (rfl)
@[simp] theorem setEntry_journal (i : Nat) (v : Entry) : (s.setEntry i v).journal = s.journal := (rfl)
@[simp] theorem setEntry_observers (i : Nat) (v : Entry) : (s.setEntry i v).observers = s.observers := (rfl)
@[simp] theorem setEntry_recent (i : Nat) (v : Entry) : (s.setEntry i v).recent = s.recent := (rfl)
@[simp] theorem setEntry_proxied (i : Nat) (v : Entry) : (s.setEntry i v).proxied = s.proxied := (rfl)
@[simp] theorem setEntry_cmds (i : Nat) (v : Entry) : (s.setEntry i v).cmds = s.cmds := (rfl)
@[simp] theorem setEntry_linkF (i : Nat) (v : Entry) : (s.setEntry i v).linkF = s.linkF := (rfl)
@[simp] theorem setEntry_linkH (i : Nat) (v : Entry) : (s.setEntry i v).linkH = s.linkH := (rfl)
@[simp] theorem setEntry_linkT (i : Nat) (v : Entry) : (s.setEntry i v).linkT = s.linkT := (rfl)
@[simp] theorem setEntry_hostTs (i : Nat) (v : Entry) : (s.setEntry i v).hostTs = s.hostTs := (rfl)
@[simp] theorem setEntry_carried (i : Nat) (v : Entry) : (s.setEntry i v).carried = s.carried := (rfl)
@[simp] theorem setEntry_fltF (i : Nat) (v : Entry) : (s.setEntry i v).fltF = s.fltF := (rfl)
@[simp] theorem setEntry_fltH (i : Nat) (v : Entry) : (s.setEntry i v).fltH = s.fltH := (rfl)
@[simp] theorem setEntry_records (i : Nat) (v : Entry) : (s.setEntry i v).records = s.records := (rfl)
@[simp] theorem setEntry_ring (i : Nat) (v : Entry) : (s.setEntry i v).ring = s.ring := (rfl)
@[simp] theorem setEntry_spi (i : Nat) (v : Entry) : (s.setEntry i v).spi = s.spi := (rfl)
@[simp] theorem setEntry_twin (i : Nat) (v : Entry) : (s.setEntry i v).twin = s.twin := (rfl)
@[simp] theorem setEntry_power (i : Nat) (v : Entry) : (s.setEntry i v).power = s.power := (rfl)
@[simp] theorem setEntry_radio (i : Nat) (v : Entry) : (s.setEntry i v).radio = s.radio := (rfl)
@[simp] theorem setEntry_pktMem (i : Nat) (v : Entry) : (s.setEntry i v).pktMem = s.pktMem := (rfl)
@[simp] theorem setEntry_nodes (i : Nat) (v : Entry) : (s.setEntry i v).nodes = s.nodes := (rfl)
@[simp] theorem setEntry_calib (i : Nat) (v : Entry) : (s.setEntry i v).calib = s.calib := (rfl)
@[simp] theorem setEntry_dict (i : Nat) (v : Entry) : (s.setEntry i v).dict = s.dict := (rfl)
@[simp] theorem setEntry_counts (i : Nat) (v : Entry) : (s.setEntry i v).counts = s.counts := (rfl)
@[simp] theorem setEntry_out (i : Nat) (v : Entry) : (s.setEntry i v).out = s.out := (rfl)
@[simp] theorem setEntry_fresh (i : Nat) (v : Entry) : (s.setEntry i v).fresh = s.fresh := (rfl)

@[simp] theorem setObj_pending (i j : Nat) (v : List Byte) : (s.setObj i j v).pending = s.pending := (rfl)
@[simp] theorem setObj_tb (i j : Nat) (v : List Byte) : (s.setObj i j v).tb = s.tb := (rfl)
@[simp] theorem setObj_tracks (i j : Nat) (v : List Byte) : (s.setObj i j v).tracks = s.tracks := (rfl)
@[simp] theorem setObj_chains (i j : Nat) (v : List Byte) : (s.setObj i j v).chains = s.chains := (rfl)
@[simp] theorem setObj_feeders (i j : Nat) (v : List Byte) : (s.setObj i j v).feeders = s.feeders := (rfl)
@[simp] theorem setObj_budget (i j : Nat) (v : List Byte) : (s.setObj i j v).budget = s.budget := (rfl)
@[simp] theorem setObj_coilCal (i j : Nat) (v : List Byte) : (s.setObj i j v).coilCal = s.coilCal := (rfl)
@[simp] theorem setObj_rxs (i j : Nat) (v : List Byte) : (s.setObj i j v).rxs = s.rxs := (rfl)
@[simp] theorem setObj_bins (i j : Nat) (v : List Byte) : (s.setObj i j v).bins = s.bins := (rfl)
@[simp] theorem setObj_capture (i j : Nat) (v : List Byte) : (s.setObj i j v).capture = s.capture := (rfl)
@[simp] theorem setObj_template (i j : Nat) (v : List Byte) : (s.setObj i j v).template = s.template := (rfl)
@[simp] theorem setObj_apdu (i j : Nat) (v : List Byte) : (s.setObj i j v).apdu = s.apdu := (rfl)
@[simp] theorem setObj_roster (i j : Nat) (v : List Byte) : (s.setObj i j v).roster = s.roster := (rfl)
@[simp] theorem setObj_sweeps (i j : Nat) (v : List Byte) : (s.setObj i j v).sweeps = s.sweeps := (rfl)
@[simp] theorem setObj_report (i j : Nat) (v : List Byte) : (s.setObj i j v).report = s.report := (rfl)
@[simp] theorem setObj_keys (i j : Nat) (v : List Byte) : (s.setObj i j v).keys = s.keys := (rfl)
@[simp] theorem setObj_sense (i j : Nat) (v : List Byte) : (s.setObj i j v).sense = s.sense := (rfl)
@[simp] theorem setObj_coreF (i j : Nat) (v : List Byte) : (s.setObj i j v).coreF = s.coreF := (rfl)
@[simp] theorem setObj_coreH (i j : Nat) (v : List Byte) : (s.setObj i j v).coreH = s.coreH := (rfl)
@[simp] theorem setObj_guest (i j : Nat) (v : List Byte) : (s.setObj i j v).guest = s.guest := (rfl)
@[simp] theorem setObj_dbg (i j : Nat) (v : List Byte) : (s.setObj i j v).dbg = s.dbg := (rfl)
@[simp] theorem setObj_mem (i j : Nat) (v : List Byte) : (s.setObj i j v).mem = s.mem := (rfl)
@[simp] theorem setObj_hostMem (i j : Nat) (v : List Byte) : (s.setObj i j v).hostMem = s.hostMem := (rfl)
@[simp] theorem setObj_ecc (i j : Nat) (v : List Byte) : (s.setObj i j v).ecc = s.ecc := (rfl)
@[simp] theorem setObj_nvm (i j : Nat) (v : List Byte) : (s.setObj i j v).nvm = s.nvm := (rfl)
@[simp] theorem setObj_settings (i j : Nat) (v : List Byte) : (s.setObj i j v).settings = s.settings := (rfl)
@[simp] theorem setObj_aon (i j : Nat) (v : List Byte) : (s.setObj i j v).aon = s.aon := (rfl)
@[simp] theorem setObj_journal (i j : Nat) (v : List Byte) : (s.setObj i j v).journal = s.journal := (rfl)
@[simp] theorem setObj_observers (i j : Nat) (v : List Byte) : (s.setObj i j v).observers = s.observers := (rfl)
@[simp] theorem setObj_recent (i j : Nat) (v : List Byte) : (s.setObj i j v).recent = s.recent := (rfl)
@[simp] theorem setObj_proxied (i j : Nat) (v : List Byte) : (s.setObj i j v).proxied = s.proxied := (rfl)
@[simp] theorem setObj_cmds (i j : Nat) (v : List Byte) : (s.setObj i j v).cmds = s.cmds := (rfl)
@[simp] theorem setObj_linkF (i j : Nat) (v : List Byte) : (s.setObj i j v).linkF = s.linkF := (rfl)
@[simp] theorem setObj_linkH (i j : Nat) (v : List Byte) : (s.setObj i j v).linkH = s.linkH := (rfl)
@[simp] theorem setObj_linkT (i j : Nat) (v : List Byte) : (s.setObj i j v).linkT = s.linkT := (rfl)
@[simp] theorem setObj_hostTs (i j : Nat) (v : List Byte) : (s.setObj i j v).hostTs = s.hostTs := (rfl)
@[simp] theorem setObj_carried (i j : Nat) (v : List Byte) : (s.setObj i j v).carried = s.carried := (rfl)
@[simp] theorem setObj_fltF (i j : Nat) (v : List Byte) : (s.setObj i j v).fltF = s.fltF := (rfl)
@[simp] theorem setObj_fltH (i j : Nat) (v : List Byte) : (s.setObj i j v).fltH = s.fltH := (rfl)
@[simp] theorem setObj_records (i j : Nat) (v : List Byte) : (s.setObj i j v).records = s.records := (rfl)
@[simp] theorem setObj_ring (i j : Nat) (v : List Byte) : (s.setObj i j v).ring = s.ring := (rfl)
@[simp] theorem setObj_spi (i j : Nat) (v : List Byte) : (s.setObj i j v).spi = s.spi := (rfl)
@[simp] theorem setObj_twin (i j : Nat) (v : List Byte) : (s.setObj i j v).twin = s.twin := (rfl)
@[simp] theorem setObj_power (i j : Nat) (v : List Byte) : (s.setObj i j v).power = s.power := (rfl)
@[simp] theorem setObj_radio (i j : Nat) (v : List Byte) : (s.setObj i j v).radio = s.radio := (rfl)
@[simp] theorem setObj_pktMem (i j : Nat) (v : List Byte) : (s.setObj i j v).pktMem = s.pktMem := (rfl)
@[simp] theorem setObj_nodes (i j : Nat) (v : List Byte) : (s.setObj i j v).nodes = s.nodes := (rfl)
@[simp] theorem setObj_calib (i j : Nat) (v : List Byte) : (s.setObj i j v).calib = s.calib := (rfl)
@[simp] theorem setObj_counts (i j : Nat) (v : List Byte) : (s.setObj i j v).counts = s.counts := (rfl)
@[simp] theorem setObj_out (i j : Nat) (v : List Byte) : (s.setObj i j v).out = s.out := (rfl)
@[simp] theorem setObj_fresh (i j : Nat) (v : List Byte) : (s.setObj i j v).fresh = s.fresh := (rfl)

@[simp] theorem bump_pending (i j : Nat) : (s.bump i j).pending = s.pending := (rfl)
@[simp] theorem bump_tb (i j : Nat) : (s.bump i j).tb = s.tb := (rfl)
@[simp] theorem bump_tracks (i j : Nat) : (s.bump i j).tracks = s.tracks := (rfl)
@[simp] theorem bump_chains (i j : Nat) : (s.bump i j).chains = s.chains := (rfl)
@[simp] theorem bump_feeders (i j : Nat) : (s.bump i j).feeders = s.feeders := (rfl)
@[simp] theorem bump_budget (i j : Nat) : (s.bump i j).budget = s.budget := (rfl)
@[simp] theorem bump_coilCal (i j : Nat) : (s.bump i j).coilCal = s.coilCal := (rfl)
@[simp] theorem bump_rxs (i j : Nat) : (s.bump i j).rxs = s.rxs := (rfl)
@[simp] theorem bump_bins (i j : Nat) : (s.bump i j).bins = s.bins := (rfl)
@[simp] theorem bump_capture (i j : Nat) : (s.bump i j).capture = s.capture := (rfl)
@[simp] theorem bump_template (i j : Nat) : (s.bump i j).template = s.template := (rfl)
@[simp] theorem bump_apdu (i j : Nat) : (s.bump i j).apdu = s.apdu := (rfl)
@[simp] theorem bump_roster (i j : Nat) : (s.bump i j).roster = s.roster := (rfl)
@[simp] theorem bump_sweeps (i j : Nat) : (s.bump i j).sweeps = s.sweeps := (rfl)
@[simp] theorem bump_report (i j : Nat) : (s.bump i j).report = s.report := (rfl)
@[simp] theorem bump_keys (i j : Nat) : (s.bump i j).keys = s.keys := (rfl)
@[simp] theorem bump_sense (i j : Nat) : (s.bump i j).sense = s.sense := (rfl)
@[simp] theorem bump_coreF (i j : Nat) : (s.bump i j).coreF = s.coreF := (rfl)
@[simp] theorem bump_coreH (i j : Nat) : (s.bump i j).coreH = s.coreH := (rfl)
@[simp] theorem bump_guest (i j : Nat) : (s.bump i j).guest = s.guest := (rfl)
@[simp] theorem bump_dbg (i j : Nat) : (s.bump i j).dbg = s.dbg := (rfl)
@[simp] theorem bump_mem (i j : Nat) : (s.bump i j).mem = s.mem := (rfl)
@[simp] theorem bump_hostMem (i j : Nat) : (s.bump i j).hostMem = s.hostMem := (rfl)
@[simp] theorem bump_ecc (i j : Nat) : (s.bump i j).ecc = s.ecc := (rfl)
@[simp] theorem bump_nvm (i j : Nat) : (s.bump i j).nvm = s.nvm := (rfl)
@[simp] theorem bump_settings (i j : Nat) : (s.bump i j).settings = s.settings := (rfl)
@[simp] theorem bump_aon (i j : Nat) : (s.bump i j).aon = s.aon := (rfl)
@[simp] theorem bump_journal (i j : Nat) : (s.bump i j).journal = s.journal := (rfl)
@[simp] theorem bump_observers (i j : Nat) : (s.bump i j).observers = s.observers := (rfl)
@[simp] theorem bump_recent (i j : Nat) : (s.bump i j).recent = s.recent := (rfl)
@[simp] theorem bump_proxied (i j : Nat) : (s.bump i j).proxied = s.proxied := (rfl)
@[simp] theorem bump_cmds (i j : Nat) : (s.bump i j).cmds = s.cmds := (rfl)
@[simp] theorem bump_linkF (i j : Nat) : (s.bump i j).linkF = s.linkF := (rfl)
@[simp] theorem bump_linkH (i j : Nat) : (s.bump i j).linkH = s.linkH := (rfl)
@[simp] theorem bump_linkT (i j : Nat) : (s.bump i j).linkT = s.linkT := (rfl)
@[simp] theorem bump_hostTs (i j : Nat) : (s.bump i j).hostTs = s.hostTs := (rfl)
@[simp] theorem bump_carried (i j : Nat) : (s.bump i j).carried = s.carried := (rfl)
@[simp] theorem bump_fltF (i j : Nat) : (s.bump i j).fltF = s.fltF := (rfl)
@[simp] theorem bump_fltH (i j : Nat) : (s.bump i j).fltH = s.fltH := (rfl)
@[simp] theorem bump_records (i j : Nat) : (s.bump i j).records = s.records := (rfl)
@[simp] theorem bump_ring (i j : Nat) : (s.bump i j).ring = s.ring := (rfl)
@[simp] theorem bump_spi (i j : Nat) : (s.bump i j).spi = s.spi := (rfl)
@[simp] theorem bump_twin (i j : Nat) : (s.bump i j).twin = s.twin := (rfl)
@[simp] theorem bump_power (i j : Nat) : (s.bump i j).power = s.power := (rfl)
@[simp] theorem bump_radio (i j : Nat) : (s.bump i j).radio = s.radio := (rfl)
@[simp] theorem bump_pktMem (i j : Nat) : (s.bump i j).pktMem = s.pktMem := (rfl)
@[simp] theorem bump_nodes (i j : Nat) : (s.bump i j).nodes = s.nodes := (rfl)
@[simp] theorem bump_calib (i j : Nat) : (s.bump i j).calib = s.calib := (rfl)
@[simp] theorem bump_dict (i j : Nat) : (s.bump i j).dict = s.dict := (rfl)
@[simp] theorem bump_out (i j : Nat) : (s.bump i j).out = s.out := (rfl)
@[simp] theorem bump_fresh (i j : Nat) : (s.bump i j).fresh = s.fresh := (rfl)

@[simp] theorem emit_pending (o : Output) : (s.emit o).pending = s.pending := (rfl)
@[simp] theorem emit_tb (o : Output) : (s.emit o).tb = s.tb := (rfl)
@[simp] theorem emit_tracks (o : Output) : (s.emit o).tracks = s.tracks := (rfl)
@[simp] theorem emit_chains (o : Output) : (s.emit o).chains = s.chains := (rfl)
@[simp] theorem emit_feeders (o : Output) : (s.emit o).feeders = s.feeders := (rfl)
@[simp] theorem emit_budget (o : Output) : (s.emit o).budget = s.budget := (rfl)
@[simp] theorem emit_coilCal (o : Output) : (s.emit o).coilCal = s.coilCal := (rfl)
@[simp] theorem emit_rxs (o : Output) : (s.emit o).rxs = s.rxs := (rfl)
@[simp] theorem emit_bins (o : Output) : (s.emit o).bins = s.bins := (rfl)
@[simp] theorem emit_capture (o : Output) : (s.emit o).capture = s.capture := (rfl)
@[simp] theorem emit_template (o : Output) : (s.emit o).template = s.template := (rfl)
@[simp] theorem emit_apdu (o : Output) : (s.emit o).apdu = s.apdu := (rfl)
@[simp] theorem emit_roster (o : Output) : (s.emit o).roster = s.roster := (rfl)
@[simp] theorem emit_sweeps (o : Output) : (s.emit o).sweeps = s.sweeps := (rfl)
@[simp] theorem emit_report (o : Output) : (s.emit o).report = s.report := (rfl)
@[simp] theorem emit_keys (o : Output) : (s.emit o).keys = s.keys := (rfl)
@[simp] theorem emit_sense (o : Output) : (s.emit o).sense = s.sense := (rfl)
@[simp] theorem emit_coreF (o : Output) : (s.emit o).coreF = s.coreF := (rfl)
@[simp] theorem emit_coreH (o : Output) : (s.emit o).coreH = s.coreH := (rfl)
@[simp] theorem emit_guest (o : Output) : (s.emit o).guest = s.guest := (rfl)
@[simp] theorem emit_dbg (o : Output) : (s.emit o).dbg = s.dbg := (rfl)
@[simp] theorem emit_mem (o : Output) : (s.emit o).mem = s.mem := (rfl)
@[simp] theorem emit_hostMem (o : Output) : (s.emit o).hostMem = s.hostMem := (rfl)
@[simp] theorem emit_ecc (o : Output) : (s.emit o).ecc = s.ecc := (rfl)
@[simp] theorem emit_nvm (o : Output) : (s.emit o).nvm = s.nvm := (rfl)
@[simp] theorem emit_settings (o : Output) : (s.emit o).settings = s.settings := (rfl)
@[simp] theorem emit_aon (o : Output) : (s.emit o).aon = s.aon := (rfl)
@[simp] theorem emit_journal (o : Output) : (s.emit o).journal = s.journal := (rfl)
@[simp] theorem emit_observers (o : Output) : (s.emit o).observers = s.observers := (rfl)
@[simp] theorem emit_recent (o : Output) : (s.emit o).recent = s.recent := (rfl)
@[simp] theorem emit_proxied (o : Output) : (s.emit o).proxied = s.proxied := (rfl)
@[simp] theorem emit_cmds (o : Output) : (s.emit o).cmds = s.cmds := (rfl)
@[simp] theorem emit_linkF (o : Output) : (s.emit o).linkF = s.linkF := (rfl)
@[simp] theorem emit_linkH (o : Output) : (s.emit o).linkH = s.linkH := (rfl)
@[simp] theorem emit_linkT (o : Output) : (s.emit o).linkT = s.linkT := (rfl)
@[simp] theorem emit_hostTs (o : Output) : (s.emit o).hostTs = s.hostTs := (rfl)
@[simp] theorem emit_carried (o : Output) : (s.emit o).carried = s.carried := (rfl)
@[simp] theorem emit_fltF (o : Output) : (s.emit o).fltF = s.fltF := (rfl)
@[simp] theorem emit_fltH (o : Output) : (s.emit o).fltH = s.fltH := (rfl)
@[simp] theorem emit_records (o : Output) : (s.emit o).records = s.records := (rfl)
@[simp] theorem emit_ring (o : Output) : (s.emit o).ring = s.ring := (rfl)
@[simp] theorem emit_spi (o : Output) : (s.emit o).spi = s.spi := (rfl)
@[simp] theorem emit_twin (o : Output) : (s.emit o).twin = s.twin := (rfl)
@[simp] theorem emit_power (o : Output) : (s.emit o).power = s.power := (rfl)
@[simp] theorem emit_radio (o : Output) : (s.emit o).radio = s.radio := (rfl)
@[simp] theorem emit_pktMem (o : Output) : (s.emit o).pktMem = s.pktMem := (rfl)
@[simp] theorem emit_nodes (o : Output) : (s.emit o).nodes = s.nodes := (rfl)
@[simp] theorem emit_calib (o : Output) : (s.emit o).calib = s.calib := (rfl)
@[simp] theorem emit_dict (o : Output) : (s.emit o).dict = s.dict := (rfl)
@[simp] theorem emit_counts (o : Output) : (s.emit o).counts = s.counts := (rfl)
@[simp] theorem emit_fresh (o : Output) : (s.emit o).fresh = s.fresh := (rfl)

@[simp] theorem setCore_pending (k : Die) (c : Kenier) : (s.setCore k c).pending = s.pending := by cases k <;> rfl
@[simp] theorem setCore_tb (k : Die) (c : Kenier) : (s.setCore k c).tb = s.tb := by cases k <;> rfl
@[simp] theorem setCore_tracks (k : Die) (c : Kenier) : (s.setCore k c).tracks = s.tracks := by cases k <;> rfl
@[simp] theorem setCore_chains (k : Die) (c : Kenier) : (s.setCore k c).chains = s.chains := by cases k <;> rfl
@[simp] theorem setCore_feeders (k : Die) (c : Kenier) : (s.setCore k c).feeders = s.feeders := by cases k <;> rfl
@[simp] theorem setCore_budget (k : Die) (c : Kenier) : (s.setCore k c).budget = s.budget := by cases k <;> rfl
@[simp] theorem setCore_coilCal (k : Die) (c : Kenier) : (s.setCore k c).coilCal = s.coilCal := by cases k <;> rfl
@[simp] theorem setCore_rxs (k : Die) (c : Kenier) : (s.setCore k c).rxs = s.rxs := by cases k <;> rfl
@[simp] theorem setCore_bins (k : Die) (c : Kenier) : (s.setCore k c).bins = s.bins := by cases k <;> rfl
@[simp] theorem setCore_capture (k : Die) (c : Kenier) : (s.setCore k c).capture = s.capture := by cases k <;> rfl
@[simp] theorem setCore_template (k : Die) (c : Kenier) : (s.setCore k c).template = s.template := by cases k <;> rfl
@[simp] theorem setCore_apdu (k : Die) (c : Kenier) : (s.setCore k c).apdu = s.apdu := by cases k <;> rfl
@[simp] theorem setCore_roster (k : Die) (c : Kenier) : (s.setCore k c).roster = s.roster := by cases k <;> rfl
@[simp] theorem setCore_sweeps (k : Die) (c : Kenier) : (s.setCore k c).sweeps = s.sweeps := by cases k <;> rfl
@[simp] theorem setCore_report (k : Die) (c : Kenier) : (s.setCore k c).report = s.report := by cases k <;> rfl
@[simp] theorem setCore_keys (k : Die) (c : Kenier) : (s.setCore k c).keys = s.keys := by cases k <;> rfl
@[simp] theorem setCore_sense (k : Die) (c : Kenier) : (s.setCore k c).sense = s.sense := by cases k <;> rfl
@[simp] theorem setCore_guest (k : Die) (c : Kenier) : (s.setCore k c).guest = s.guest := by cases k <;> rfl
@[simp] theorem setCore_dbg (k : Die) (c : Kenier) : (s.setCore k c).dbg = s.dbg := by cases k <;> rfl
@[simp] theorem setCore_mem (k : Die) (c : Kenier) : (s.setCore k c).mem = s.mem := by cases k <;> rfl
@[simp] theorem setCore_hostMem (k : Die) (c : Kenier) : (s.setCore k c).hostMem = s.hostMem := by cases k <;> rfl
@[simp] theorem setCore_ecc (k : Die) (c : Kenier) : (s.setCore k c).ecc = s.ecc := by cases k <;> rfl
@[simp] theorem setCore_nvm (k : Die) (c : Kenier) : (s.setCore k c).nvm = s.nvm := by cases k <;> rfl
@[simp] theorem setCore_settings (k : Die) (c : Kenier) : (s.setCore k c).settings = s.settings := by cases k <;> rfl
@[simp] theorem setCore_aon (k : Die) (c : Kenier) : (s.setCore k c).aon = s.aon := by cases k <;> rfl
@[simp] theorem setCore_journal (k : Die) (c : Kenier) : (s.setCore k c).journal = s.journal := by cases k <;> rfl
@[simp] theorem setCore_observers (k : Die) (c : Kenier) : (s.setCore k c).observers = s.observers := by cases k <;> rfl
@[simp] theorem setCore_recent (k : Die) (c : Kenier) : (s.setCore k c).recent = s.recent := by cases k <;> rfl
@[simp] theorem setCore_proxied (k : Die) (c : Kenier) : (s.setCore k c).proxied = s.proxied := by cases k <;> rfl
@[simp] theorem setCore_cmds (k : Die) (c : Kenier) : (s.setCore k c).cmds = s.cmds := by cases k <;> rfl
@[simp] theorem setCore_linkF (k : Die) (c : Kenier) : (s.setCore k c).linkF = s.linkF := by cases k <;> rfl
@[simp] theorem setCore_linkH (k : Die) (c : Kenier) : (s.setCore k c).linkH = s.linkH := by cases k <;> rfl
@[simp] theorem setCore_linkT (k : Die) (c : Kenier) : (s.setCore k c).linkT = s.linkT := by cases k <;> rfl
@[simp] theorem setCore_hostTs (k : Die) (c : Kenier) : (s.setCore k c).hostTs = s.hostTs := by cases k <;> rfl
@[simp] theorem setCore_carried (k : Die) (c : Kenier) : (s.setCore k c).carried = s.carried := by cases k <;> rfl
@[simp] theorem setCore_fltF (k : Die) (c : Kenier) : (s.setCore k c).fltF = s.fltF := by cases k <;> rfl
@[simp] theorem setCore_fltH (k : Die) (c : Kenier) : (s.setCore k c).fltH = s.fltH := by cases k <;> rfl
@[simp] theorem setCore_records (k : Die) (c : Kenier) : (s.setCore k c).records = s.records := by cases k <;> rfl
@[simp] theorem setCore_ring (k : Die) (c : Kenier) : (s.setCore k c).ring = s.ring := by cases k <;> rfl
@[simp] theorem setCore_spi (k : Die) (c : Kenier) : (s.setCore k c).spi = s.spi := by cases k <;> rfl
@[simp] theorem setCore_twin (k : Die) (c : Kenier) : (s.setCore k c).twin = s.twin := by cases k <;> rfl
@[simp] theorem setCore_power (k : Die) (c : Kenier) : (s.setCore k c).power = s.power := by cases k <;> rfl
@[simp] theorem setCore_radio (k : Die) (c : Kenier) : (s.setCore k c).radio = s.radio := by cases k <;> rfl
@[simp] theorem setCore_pktMem (k : Die) (c : Kenier) : (s.setCore k c).pktMem = s.pktMem := by cases k <;> rfl
@[simp] theorem setCore_nodes (k : Die) (c : Kenier) : (s.setCore k c).nodes = s.nodes := by cases k <;> rfl
@[simp] theorem setCore_calib (k : Die) (c : Kenier) : (s.setCore k c).calib = s.calib := by cases k <;> rfl
@[simp] theorem setCore_dict (k : Die) (c : Kenier) : (s.setCore k c).dict = s.dict := by cases k <;> rfl
@[simp] theorem setCore_counts (k : Die) (c : Kenier) : (s.setCore k c).counts = s.counts := by cases k <;> rfl
@[simp] theorem setCore_out (k : Die) (c : Kenier) : (s.setCore k c).out = s.out := by cases k <;> rfl
@[simp] theorem setCore_fresh (k : Die) (c : Kenier) : (s.setCore k c).fresh = s.fresh := by cases k <;> rfl

@[simp] theorem setCollector_pending (k : Die) (c : Collector) : (s.setCollector k c).pending = s.pending := by cases k <;> rfl
@[simp] theorem setCollector_tb (k : Die) (c : Collector) : (s.setCollector k c).tb = s.tb := by cases k <;> rfl
@[simp] theorem setCollector_tracks (k : Die) (c : Collector) : (s.setCollector k c).tracks = s.tracks := by cases k <;> rfl
@[simp] theorem setCollector_chains (k : Die) (c : Collector) : (s.setCollector k c).chains = s.chains := by cases k <;> rfl
@[simp] theorem setCollector_feeders (k : Die) (c : Collector) : (s.setCollector k c).feeders = s.feeders := by cases k <;> rfl
@[simp] theorem setCollector_budget (k : Die) (c : Collector) : (s.setCollector k c).budget = s.budget := by cases k <;> rfl
@[simp] theorem setCollector_coilCal (k : Die) (c : Collector) : (s.setCollector k c).coilCal = s.coilCal := by cases k <;> rfl
@[simp] theorem setCollector_rxs (k : Die) (c : Collector) : (s.setCollector k c).rxs = s.rxs := by cases k <;> rfl
@[simp] theorem setCollector_bins (k : Die) (c : Collector) : (s.setCollector k c).bins = s.bins := by cases k <;> rfl
@[simp] theorem setCollector_capture (k : Die) (c : Collector) : (s.setCollector k c).capture = s.capture := by cases k <;> rfl
@[simp] theorem setCollector_template (k : Die) (c : Collector) : (s.setCollector k c).template = s.template := by cases k <;> rfl
@[simp] theorem setCollector_apdu (k : Die) (c : Collector) : (s.setCollector k c).apdu = s.apdu := by cases k <;> rfl
@[simp] theorem setCollector_roster (k : Die) (c : Collector) : (s.setCollector k c).roster = s.roster := by cases k <;> rfl
@[simp] theorem setCollector_sweeps (k : Die) (c : Collector) : (s.setCollector k c).sweeps = s.sweeps := by cases k <;> rfl
@[simp] theorem setCollector_report (k : Die) (c : Collector) : (s.setCollector k c).report = s.report := by cases k <;> rfl
@[simp] theorem setCollector_keys (k : Die) (c : Collector) : (s.setCollector k c).keys = s.keys := by cases k <;> rfl
@[simp] theorem setCollector_sense (k : Die) (c : Collector) : (s.setCollector k c).sense = s.sense := by cases k <;> rfl
@[simp] theorem setCollector_coreF (k : Die) (c : Collector) : (s.setCollector k c).coreF = s.coreF := by cases k <;> rfl
@[simp] theorem setCollector_coreH (k : Die) (c : Collector) : (s.setCollector k c).coreH = s.coreH := by cases k <;> rfl
@[simp] theorem setCollector_guest (k : Die) (c : Collector) : (s.setCollector k c).guest = s.guest := by cases k <;> rfl
@[simp] theorem setCollector_dbg (k : Die) (c : Collector) : (s.setCollector k c).dbg = s.dbg := by cases k <;> rfl
@[simp] theorem setCollector_mem (k : Die) (c : Collector) : (s.setCollector k c).mem = s.mem := by cases k <;> rfl
@[simp] theorem setCollector_hostMem (k : Die) (c : Collector) : (s.setCollector k c).hostMem = s.hostMem := by cases k <;> rfl
@[simp] theorem setCollector_ecc (k : Die) (c : Collector) : (s.setCollector k c).ecc = s.ecc := by cases k <;> rfl
@[simp] theorem setCollector_nvm (k : Die) (c : Collector) : (s.setCollector k c).nvm = s.nvm := by cases k <;> rfl
@[simp] theorem setCollector_settings (k : Die) (c : Collector) : (s.setCollector k c).settings = s.settings := by cases k <;> rfl
@[simp] theorem setCollector_aon (k : Die) (c : Collector) : (s.setCollector k c).aon = s.aon := by cases k <;> rfl
@[simp] theorem setCollector_journal (k : Die) (c : Collector) : (s.setCollector k c).journal = s.journal := by cases k <;> rfl
@[simp] theorem setCollector_observers (k : Die) (c : Collector) : (s.setCollector k c).observers = s.observers := by cases k <;> rfl
@[simp] theorem setCollector_recent (k : Die) (c : Collector) : (s.setCollector k c).recent = s.recent := by cases k <;> rfl
@[simp] theorem setCollector_proxied (k : Die) (c : Collector) : (s.setCollector k c).proxied = s.proxied := by cases k <;> rfl
@[simp] theorem setCollector_cmds (k : Die) (c : Collector) : (s.setCollector k c).cmds = s.cmds := by cases k <;> rfl
@[simp] theorem setCollector_linkF (k : Die) (c : Collector) : (s.setCollector k c).linkF = s.linkF := by cases k <;> rfl
@[simp] theorem setCollector_linkH (k : Die) (c : Collector) : (s.setCollector k c).linkH = s.linkH := by cases k <;> rfl
@[simp] theorem setCollector_linkT (k : Die) (c : Collector) : (s.setCollector k c).linkT = s.linkT := by cases k <;> rfl
@[simp] theorem setCollector_hostTs (k : Die) (c : Collector) : (s.setCollector k c).hostTs = s.hostTs := by cases k <;> rfl
@[simp] theorem setCollector_carried (k : Die) (c : Collector) : (s.setCollector k c).carried = s.carried := by cases k <;> rfl
@[simp] theorem setCollector_records (k : Die) (c : Collector) : (s.setCollector k c).records = s.records := by cases k <;> rfl
@[simp] theorem setCollector_ring (k : Die) (c : Collector) : (s.setCollector k c).ring = s.ring := by cases k <;> rfl
@[simp] theorem setCollector_spi (k : Die) (c : Collector) : (s.setCollector k c).spi = s.spi := by cases k <;> rfl
@[simp] theorem setCollector_twin (k : Die) (c : Collector) : (s.setCollector k c).twin = s.twin := by cases k <;> rfl
@[simp] theorem setCollector_power (k : Die) (c : Collector) : (s.setCollector k c).power = s.power := by cases k <;> rfl
@[simp] theorem setCollector_radio (k : Die) (c : Collector) : (s.setCollector k c).radio = s.radio := by cases k <;> rfl
@[simp] theorem setCollector_pktMem (k : Die) (c : Collector) : (s.setCollector k c).pktMem = s.pktMem := by cases k <;> rfl
@[simp] theorem setCollector_nodes (k : Die) (c : Collector) : (s.setCollector k c).nodes = s.nodes := by cases k <;> rfl
@[simp] theorem setCollector_calib (k : Die) (c : Collector) : (s.setCollector k c).calib = s.calib := by cases k <;> rfl
@[simp] theorem setCollector_dict (k : Die) (c : Collector) : (s.setCollector k c).dict = s.dict := by cases k <;> rfl
@[simp] theorem setCollector_counts (k : Die) (c : Collector) : (s.setCollector k c).counts = s.counts := by cases k <;> rfl
@[simp] theorem setCollector_out (k : Die) (c : Collector) : (s.setCollector k c).out = s.out := by cases k <;> rfl
@[simp] theorem setCollector_fresh (k : Die) (c : Collector) : (s.setCollector k c).fresh = s.fresh := by cases k <;> rfl

@[simp] theorem setLink_pending (e : LinkEnd) (l : Link) : (s.setLink e l).pending = s.pending := by cases e <;> rfl
@[simp] theorem setLink_tb (e : LinkEnd) (l : Link) : (s.setLink e l).tb = s.tb := by cases e <;> rfl
@[simp] theorem setLink_tracks (e : LinkEnd) (l : Link) : (s.setLink e l).tracks = s.tracks := by cases e <;> rfl
@[simp] theorem setLink_chains (e : LinkEnd) (l : Link) : (s.setLink e l).chains = s.chains := by cases e <;> rfl
@[simp] theorem setLink_feeders (e : LinkEnd) (l : Link) : (s.setLink e l).feeders = s.feeders := by cases e <;> rfl
@[simp] theorem setLink_budget (e : LinkEnd) (l : Link) : (s.setLink e l).budget = s.budget := by cases e <;> rfl
@[simp] theorem setLink_coilCal (e : LinkEnd) (l : Link) : (s.setLink e l).coilCal = s.coilCal := by cases e <;> rfl
@[simp] theorem setLink_rxs (e : LinkEnd) (l : Link) : (s.setLink e l).rxs = s.rxs := by cases e <;> rfl
@[simp] theorem setLink_bins (e : LinkEnd) (l : Link) : (s.setLink e l).bins = s.bins := by cases e <;> rfl
@[simp] theorem setLink_capture (e : LinkEnd) (l : Link) : (s.setLink e l).capture = s.capture := by cases e <;> rfl
@[simp] theorem setLink_template (e : LinkEnd) (l : Link) : (s.setLink e l).template = s.template := by cases e <;> rfl
@[simp] theorem setLink_apdu (e : LinkEnd) (l : Link) : (s.setLink e l).apdu = s.apdu := by cases e <;> rfl
@[simp] theorem setLink_roster (e : LinkEnd) (l : Link) : (s.setLink e l).roster = s.roster := by cases e <;> rfl
@[simp] theorem setLink_sweeps (e : LinkEnd) (l : Link) : (s.setLink e l).sweeps = s.sweeps := by cases e <;> rfl
@[simp] theorem setLink_report (e : LinkEnd) (l : Link) : (s.setLink e l).report = s.report := by cases e <;> rfl
@[simp] theorem setLink_keys (e : LinkEnd) (l : Link) : (s.setLink e l).keys = s.keys := by cases e <;> rfl
@[simp] theorem setLink_sense (e : LinkEnd) (l : Link) : (s.setLink e l).sense = s.sense := by cases e <;> rfl
@[simp] theorem setLink_coreF (e : LinkEnd) (l : Link) : (s.setLink e l).coreF = s.coreF := by cases e <;> rfl
@[simp] theorem setLink_coreH (e : LinkEnd) (l : Link) : (s.setLink e l).coreH = s.coreH := by cases e <;> rfl
@[simp] theorem setLink_guest (e : LinkEnd) (l : Link) : (s.setLink e l).guest = s.guest := by cases e <;> rfl
@[simp] theorem setLink_dbg (e : LinkEnd) (l : Link) : (s.setLink e l).dbg = s.dbg := by cases e <;> rfl
@[simp] theorem setLink_mem (e : LinkEnd) (l : Link) : (s.setLink e l).mem = s.mem := by cases e <;> rfl
@[simp] theorem setLink_hostMem (e : LinkEnd) (l : Link) : (s.setLink e l).hostMem = s.hostMem := by cases e <;> rfl
@[simp] theorem setLink_ecc (e : LinkEnd) (l : Link) : (s.setLink e l).ecc = s.ecc := by cases e <;> rfl
@[simp] theorem setLink_nvm (e : LinkEnd) (l : Link) : (s.setLink e l).nvm = s.nvm := by cases e <;> rfl
@[simp] theorem setLink_settings (e : LinkEnd) (l : Link) : (s.setLink e l).settings = s.settings := by cases e <;> rfl
@[simp] theorem setLink_aon (e : LinkEnd) (l : Link) : (s.setLink e l).aon = s.aon := by cases e <;> rfl
@[simp] theorem setLink_journal (e : LinkEnd) (l : Link) : (s.setLink e l).journal = s.journal := by cases e <;> rfl
@[simp] theorem setLink_observers (e : LinkEnd) (l : Link) : (s.setLink e l).observers = s.observers := by cases e <;> rfl
@[simp] theorem setLink_recent (e : LinkEnd) (l : Link) : (s.setLink e l).recent = s.recent := by cases e <;> rfl
@[simp] theorem setLink_proxied (e : LinkEnd) (l : Link) : (s.setLink e l).proxied = s.proxied := by cases e <;> rfl
@[simp] theorem setLink_cmds (e : LinkEnd) (l : Link) : (s.setLink e l).cmds = s.cmds := by cases e <;> rfl
@[simp] theorem setLink_hostTs (e : LinkEnd) (l : Link) : (s.setLink e l).hostTs = s.hostTs := by cases e <;> rfl
@[simp] theorem setLink_carried (e : LinkEnd) (l : Link) : (s.setLink e l).carried = s.carried := by cases e <;> rfl
@[simp] theorem setLink_fltF (e : LinkEnd) (l : Link) : (s.setLink e l).fltF = s.fltF := by cases e <;> rfl
@[simp] theorem setLink_fltH (e : LinkEnd) (l : Link) : (s.setLink e l).fltH = s.fltH := by cases e <;> rfl
@[simp] theorem setLink_records (e : LinkEnd) (l : Link) : (s.setLink e l).records = s.records := by cases e <;> rfl
@[simp] theorem setLink_ring (e : LinkEnd) (l : Link) : (s.setLink e l).ring = s.ring := by cases e <;> rfl
@[simp] theorem setLink_spi (e : LinkEnd) (l : Link) : (s.setLink e l).spi = s.spi := by cases e <;> rfl
@[simp] theorem setLink_twin (e : LinkEnd) (l : Link) : (s.setLink e l).twin = s.twin := by cases e <;> rfl
@[simp] theorem setLink_power (e : LinkEnd) (l : Link) : (s.setLink e l).power = s.power := by cases e <;> rfl
@[simp] theorem setLink_radio (e : LinkEnd) (l : Link) : (s.setLink e l).radio = s.radio := by cases e <;> rfl
@[simp] theorem setLink_pktMem (e : LinkEnd) (l : Link) : (s.setLink e l).pktMem = s.pktMem := by cases e <;> rfl
@[simp] theorem setLink_nodes (e : LinkEnd) (l : Link) : (s.setLink e l).nodes = s.nodes := by cases e <;> rfl
@[simp] theorem setLink_calib (e : LinkEnd) (l : Link) : (s.setLink e l).calib = s.calib := by cases e <;> rfl
@[simp] theorem setLink_dict (e : LinkEnd) (l : Link) : (s.setLink e l).dict = s.dict := by cases e <;> rfl
@[simp] theorem setLink_counts (e : LinkEnd) (l : Link) : (s.setLink e l).counts = s.counts := by cases e <;> rfl
@[simp] theorem setLink_out (e : LinkEnd) (l : Link) : (s.setLink e l).out = s.out := by cases e <;> rfl
@[simp] theorem setLink_fresh (e : LinkEnd) (l : Link) : (s.setLink e l).fresh = s.fresh := by cases e <;> rfl

/-! ### Reading back -/

@[simp] theorem track_setTrack (i j : Nat) (v : Track) : (s.setTrack i v).track j = if j = i then v else s.track j :=
  Tab.get_set _ _ _ _
@[simp] theorem chain_setTrack (i j : Nat) (v : Track) : (s.setTrack i v).chain j = s.chain j := (rfl)
@[simp] theorem feeder_setTrack (i j : Nat) (v : Track) : (s.setTrack i v).feeder j = s.feeder j := (rfl)
@[simp] theorem rx_setTrack (i j : Nat) (v : Track) : (s.setTrack i v).rx j = s.rx j := (rfl)
@[simp] theorem chain_setChain (i j : Nat) (v : Chain) : (s.setChain i v).chain j = if j = i then v else s.chain j :=
  Tab.get_set _ _ _ _
@[simp] theorem track_setChain (i j : Nat) (v : Chain) : (s.setChain i v).track j = s.track j := (rfl)
@[simp] theorem feeder_setChain (i j : Nat) (v : Chain) : (s.setChain i v).feeder j = s.feeder j := (rfl)
@[simp] theorem rx_setChain (i j : Nat) (v : Chain) : (s.setChain i v).rx j = s.rx j := (rfl)
@[simp] theorem feeder_setFeeder (i j : Nat) (v : Feeder) : (s.setFeeder i v).feeder j = if j = i then v else s.feeder j :=
  Tab.get_set _ _ _ _
@[simp] theorem track_setFeeder (i j : Nat) (v : Feeder) : (s.setFeeder i v).track j = s.track j := (rfl)
@[simp] theorem chain_setFeeder (i j : Nat) (v : Feeder) : (s.setFeeder i v).chain j = s.chain j := (rfl)
@[simp] theorem rx_setRx (i j : Nat) (v : Rx) : (s.setRx i v).rx j = if j = i then v else s.rx j := Tab.get_set _ _ _ _
@[simp] theorem track_setRx (i j : Nat) (v : Rx) : (s.setRx i v).track j = s.track j := (rfl)
@[simp] theorem chain_setRx (i j : Nat) (v : Rx) : (s.setRx i v).chain j = s.chain j := (rfl)
@[simp] theorem entry_setEntry (i j : Nat) (v : Entry) : (s.setEntry i v).entry j = if j = i then v else s.entry j :=
  Tab.get_set _ _ _ _
@[simp] theorem core_setCore (k : Die) (c : Kenier) : (s.setCore k c).core k = c := by cases k <;> rfl
@[simp] theorem collector_setCollector (k : Die) (c : Collector) : (s.setCollector k c).collector k = c := by cases k <;> rfl
@[simp] theorem link_setLink (e : LinkEnd) (l : Link) : (s.setLink e l).link e = l := by cases e <;> rfl
@[simp] theorem obj_setObj_same (i j : Nat) (v : List Byte) : (s.setObj i j v).obj i j = v := by
  unfold State.obj State.setObj
  dsimp only
  split
  · rename_i h; rw [Tab.get_erase_same, h]
  · rw [Tab.get_insert _ (Tab.lacks_erase _ _), if_pos rfl]
theorem obj_setObj_other (i j : Nat) (v : List Byte) {k l : Nat} (h : objKey k l ≠ objKey i j) : (s.setObj i j v).obj k l = s.obj k l := by
  unfold State.obj State.setObj
  dsimp only
  split
  · rw [Tab.get_erase_other _ h]
  · rw [Tab.get_insert _ (Tab.lacks_erase _ _), if_neg h, Tab.get_erase_other _ h]
theorem setTrack_setTrack (i : Nat) (v w : Track) : (s.setTrack i v).setTrack i w = s.setTrack i w :=
  congrArg (fun x => { s with tracks := x }) (Tab.set_set _ _ _ _)
theorem setChain_setChain (i : Nat) (v w : Chain) : (s.setChain i v).setChain i w = s.setChain i w :=
  congrArg (fun x => { s with chains := x }) (Tab.set_set _ _ _ _)
theorem setFeeder_setFeeder (i : Nat) (v w : Feeder) : (s.setFeeder i v).setFeeder i w = s.setFeeder i w :=
  congrArg (fun x => { s with feeders := x }) (Tab.set_set _ _ _ _)
theorem setRx_setRx (i : Nat) (v w : Rx) : (s.setRx i v).setRx i w = s.setRx i w :=
  congrArg (fun x => { s with rxs := x }) (Tab.set_set _ _ _ _)

end Sys2Proof.Machine
end

