-- ==== Sys2Proof/Laws/Faults.lean ====
section
/-!
SUPPORT. What raising a fault does when its class stands at no level.
-/

namespace Sys2Proof.Machine

open Sys2Proof

/-- A fault raised at level 1 or 2 on the field side, its class not outstanding and the queue with room: it is recorded
and nothing else happens (R382 to R384, R391). -/
theorem raise_low {s : State} {cls raised : Nat} (cause : Nat) (detail : List Byte) (h1 : raised < 3) (h2 : s.fltF.level cls = 0)
    (h3 : s.fltF.queue.length < 64) :
    s.raiseFault .field cls cause raised detail =
      { s with fltF := { s.fltF with
          outst := Tab.set 0 s.fltF.outst cls raised, fseq := (s.fltF.fseq + 1) % 65536,
          queue := s.fltF.queue ++ [faultRecord s .field cls raised raised false false cause (s.fltF.fseq % 65536) detail] } } := by
  have e1 : ¬ raised = 3 := by omega
  have e2 : ¬ raised = 4 := by omega
  have e3 : ¬ 3 ≤ raised := by omega
  have e4 : ¬ 64 ≤ s.fltF.queue.length := by omega
  simp [State.raiseFault, State.raiseFaultAt, State.collector, State.setCollector, h2, e1, e2, e3, e4, State.react, State.when]

theorem recorded_raise {s s' : State} {cls raised : Nat} (cause : Nat) (detail : List Byte) (h1 : raised < 3) (h2 : s'.clear cls)
    (h3 : s'.fltF = s.fltF) : s.recorded (s'.raiseFault .field cls cause raised detail) cls cause raised := by
  rw [raise_low cause detail h1 h2.1 h2.2]
  refine ⟨_, congrArg (fun c : Collector => c.queue ++ _) h3, rfl, ?_, ?_, ?_⟩
  · simp [faultRecord, bit, b8]
  · simp [faultRecord, sliceBytes, natLE, List.range, List.range.loop]
  · simp [Collector.level, Tab.get_set]

end Sys2Proof.Machine
end

