-- ==== Sys2Proof/Laws/Time.lean ====
section
/-!
SUPPORT. What the passing of time can change: the timebase, the impulse map and the marks that run on into a cycle.
-/

namespace Sys2Proof.Machine

open Sys2Proof

/-- A property that every operation of a list keeps holds after all of them. -/
theorem each_keeps {P : State → Prop} (l : List Nat) {f : Nat → State → State} (hf : ∀ i s, P s → P (f i s)) {s : State}
    (h : P s) : P (s.each l f) := by
  unfold State.each
  induction l generalizing s with
  | nil => exact h
  | cons i l ih => exact ih (hf i s h)

/-- `t` is `s` but for the impulse map and the receive chains. -/
def State.marked (s t : State) : Prop := ∃ b r, t = { s with bins := b, rxs := r }

theorem marked_self (s : State) : s.marked s := ⟨s.bins, s.rxs, rfl⟩

theorem hitBins_marked (a b : Nat) {s t : State} (h : s.marked t) : s.marked (t.hitBins a b) := by
  unfold State.hitBins
  split
  · exact h
  · refine each_keeps _ (fun i u hu => ?_) h
    obtain ⟨b, r, rfl⟩ := hu
    exact ⟨_, _, rfl⟩

theorem runMark_marked (v : Nat) {s t : State} (h : s.marked t) : s.marked (t.runMark v) := by
  unfold State.runMark
  split
  · rename_i m _
    obtain ⟨b, r, h'⟩ := hitBins_marked m.fromBin 63 h
    exact ⟨b, _, by unfold State.modRx; rw [h']; rfl⟩
  · exact h

theorem splitMark_marked (v : Nat) {s t : State} (h : s.marked t) : s.marked (t.splitMark v) := by
  unfold State.splitMark
  split
  · rename_i m _
    obtain ⟨b, r, h'⟩ := hitBins_marked m.fromBin t.binNow h
    exact ⟨b, _, by unfold State.modRx; rw [h']; rfl⟩
  · exact h

/-- What a step of mp does to the marks in progress (R54, R136). -/
theorem splitMarks_rest (s : State) : ∃ b r, s.each (List.range 16) State.splitMark = { s with bins := b, rxs := r } :=
  each_keeps (P := s.marked) _ (fun i _ hu => splitMark_marked i hu) (marked_self s)

theorem mapCycle_marked {s t : State} (h : s.marked t) : s.marked t.mapCycle := by
  unfold State.mapCycle
  split
  · exact h
  · obtain ⟨b, r, rfl⟩ := h
    exact ⟨_, _, rfl⟩

theorem cycleEnd_rest (s : State) : ∃ b r, s.cycleEnd = { s with
    bins := b, rxs := r, tb := { s.tb with mcc := (s.tb.mcc + 1) % 2 ^ 32, slew := s.tb.slew - s.slewNow, missed := if s.tb.edged then 0 else s.tb.missed + 1, edged := false } } := by
  obtain ⟨b, r, h⟩ : s.marked ((s.each (List.range 16) State.runMark).mapCycle) :=
    mapCycle_marked (each_keeps _ (fun i u hu => runMark_marked i hu) (marked_self s))
  refine ⟨b, r, ?_⟩
  unfold State.cycleEnd
  rw [h]
  rfl

theorem advanceLoop_rest (fuel n : Nat) (s : State) : ∃ tb b r, s.advanceLoop fuel n = { s with tb := tb, bins := b, rxs := r } := by
  induction fuel generalizing n s with
  | zero => exact ⟨_, _, _, rfl⟩
  | succ k ih =>
    unfold State.advanceLoop
    dsimp only
    split
    · obtain ⟨b, r, h⟩ := cycleEnd_rest { s with tb := { (s.tb.count s.ctToWrap) with mp := max 0 (s.tb.mp + s.mpRate * s.ctToWrap - 65536) } }
      obtain ⟨tb, b', r', h'⟩ := ih (n - s.ctToWrap) (State.cycleEnd { s with tb := { (s.tb.count s.ctToWrap) with mp := max 0 (s.tb.mp + s.mpRate * s.ctToWrap - 65536) } })
      refine ⟨tb, b', r', ?_⟩
      rw [h', h]
    · exact ⟨_, _, _, rfl⟩

theorem advance_rest (n : Nat) (s : State) : ∃ tb b r, s.advance n = { s with tb := tb, bins := b, rxs := r } := by
  unfold State.advance
  split
  · exact ⟨_, _, _, rfl⟩
  · split
    · exact ⟨_, _, _, rfl⟩
    · exact advanceLoop_rest _ _ _

theorem advanceTo_rest (cc : Nat) (s : State) : ∃ tb b r, s.advanceTo cc = { s with tb := tb, bins := b, rxs := r } := by
  unfold State.advanceTo
  split
  · exact ⟨_, _, _, rfl⟩
  · exact advance_rest _ _

variable (s : State)

@[simp] theorem advance_zero : s.advance 0 = s := by simp [State.advance]

@[simp] theorem advance_pending (n : Nat) : (s.advance n).pending = s.pending := by obtain ⟨_, _, _, h⟩ := advance_rest n s; rw [h]
@[simp] theorem advance_tracks (n : Nat) : (s.advance n).tracks = s.tracks := by obtain ⟨_, _, _, h⟩ := advance_rest n s; rw [h]
@[simp] theorem advance_chains (n : Nat) : (s.advance n).chains = s.chains := by obtain ⟨_, _, _, h⟩ := advance_rest n s; rw [h]
@[simp] theorem advance_feeders (n : Nat) : (s.advance n).feeders = s.feeders := by obtain ⟨_, _, _, h⟩ := advance_rest n s; rw [h]
@[simp] theorem advance_budget (n : Nat) : (s.advance n).budget = s.budget := by obtain ⟨_, _, _, h⟩ := advance_rest n s; rw [h]
@[simp] theorem advance_coilCal (n : Nat) : (s.advance n).coilCal = s.coilCal := by obtain ⟨_, _, _, h⟩ := advance_rest n s; rw [h]
@[simp] theorem advance_capture (n : Nat) : (s.advance n).capture = s.capture := by obtain ⟨_, _, _, h⟩ := advance_rest n s; rw [h]
@[simp] theorem advance_template (n : Nat) : (s.advance n).template = s.template := by obtain ⟨_, _, _, h⟩ := advance_rest n s; rw [h]
@[simp] theorem advance_apdu (n : Nat) : (s.advance n).apdu = s.apdu := by obtain ⟨_, _, _, h⟩ := advance_rest n s; rw [h]
@[simp] theorem advance_roster (n : Nat) : (s.advance n).roster = s.roster := by obtain ⟨_, _, _, h⟩ := advance_rest n s; rw [h]
@[simp] theorem advance_sweeps (n : Nat) : (s.advance n).sweeps = s.sweeps := by obtain ⟨_, _, _, h⟩ := advance_rest n s; rw [h]
@[simp] theorem advance_report (n : Nat) : (s.advance n).report = s.report := by obtain ⟨_, _, _, h⟩ := advance_rest n s; rw [h]
@[simp] theorem advance_keys (n : Nat) : (s.advance n).keys = s.keys := by obtain ⟨_, _, _, h⟩ := advance_rest n s; rw [h]
@[simp] theorem advance_sense (n : Nat) : (s.advance n).sense = s.sense := by obtain ⟨_, _, _, h⟩ := advance_rest n s; rw [h]
@[simp] theorem advance_coreF (n : Nat) : (s.advance n).coreF = s.coreF := by obtain ⟨_, _, _, h⟩ := advance_rest n s; rw [h]
@[simp] theorem advance_coreH (n : Nat) : (s.advance n).coreH = s.coreH := by obtain ⟨_, _, _, h⟩ := advance_rest n s; rw [h]
@[simp] theorem advance_guest (n : Nat) : (s.advance n).guest = s.guest := by obtain ⟨_, _, _, h⟩ := advance_rest n s; rw [h]
@[simp] theorem advance_debug (n : Nat) : (s.advance n).dbg = s.dbg := by obtain ⟨_, _, _, h⟩ := advance_rest n s; rw [h]
@[simp] theorem advance_mem (n : Nat) : (s.advance n).mem = s.mem := by obtain ⟨_, _, _, h⟩ := advance_rest n s; rw [h]
@[simp] theorem advance_hostMem (n : Nat) : (s.advance n).hostMem = s.hostMem := by obtain ⟨_, _, _, h⟩ := advance_rest n s; rw [h]
@[simp] theorem advance_ecc (n : Nat) : (s.advance n).ecc = s.ecc := by obtain ⟨_, _, _, h⟩ := advance_rest n s; rw [h]
@[simp] theorem advance_nvm (n : Nat) : (s.advance n).nvm = s.nvm := by obtain ⟨_, _, _, h⟩ := advance_rest n s; rw [h]
@[simp] theorem advance_settings (n : Nat) : (s.advance n).settings = s.settings := by obtain ⟨_, _, _, h⟩ := advance_rest n s; rw [h]
@[simp] theorem advance_aon (n : Nat) : (s.advance n).aon = s.aon := by obtain ⟨_, _, _, h⟩ := advance_rest n s; rw [h]
@[simp] theorem advance_journal (n : Nat) : (s.advance n).journal = s.journal := by obtain ⟨_, _, _, h⟩ := advance_rest n s; rw [h]
@[simp] theorem advance_observers (n : Nat) : (s.advance n).observers = s.observers := by obtain ⟨_, _, _, h⟩ := advance_rest n s; rw [h]
@[simp] theorem advance_recent (n : Nat) : (s.advance n).recent = s.recent := by obtain ⟨_, _, _, h⟩ := advance_rest n s; rw [h]
@[simp] theorem advance_proxied (n : Nat) : (s.advance n).proxied = s.proxied := by obtain ⟨_, _, _, h⟩ := advance_rest n s; rw [h]
@[simp] theorem advance_cmds (n : Nat) : (s.advance n).cmds = s.cmds := by obtain ⟨_, _, _, h⟩ := advance_rest n s; rw [h]
@[simp] theorem advance_linkF (n : Nat) : (s.advance n).linkF = s.linkF := by obtain ⟨_, _, _, h⟩ := advance_rest n s; rw [h]
@[simp] theorem advance_linkH (n : Nat) : (s.advance n).linkH = s.linkH := by obtain ⟨_, _, _, h⟩ := advance_rest n s; rw [h]
@[simp] theorem advance_linkT (n : Nat) : (s.advance n).linkT = s.linkT := by obtain ⟨_, _, _, h⟩ := advance_rest n s; rw [h]
@[simp] theorem advance_hostTs (n : Nat) : (s.advance n).hostTs = s.hostTs := by obtain ⟨_, _, _, h⟩ := advance_rest n s; rw [h]
@[simp] theorem advance_carried (n : Nat) : (s.advance n).carried = s.carried := by obtain ⟨_, _, _, h⟩ := advance_rest n s; rw [h]
@[simp] theorem advance_carrying (n : Nat) : (s.advance n).carrying = s.carrying := by obtain ⟨_, _, _, h⟩ := advance_rest n s; rw [h]
@[simp] theorem advance_fltF (n : Nat) : (s.advance n).fltF = s.fltF := by obtain ⟨_, _, _, h⟩ := advance_rest n s; rw [h]
@[simp] theorem advance_fltH (n : Nat) : (s.advance n).fltH = s.fltH := by obtain ⟨_, _, _, h⟩ := advance_rest n s; rw [h]
@[simp] theorem advance_records (n : Nat) : (s.advance n).records = s.records := by obtain ⟨_, _, _, h⟩ := advance_rest n s; rw [h]
@[simp] theorem advance_ring (n : Nat) : (s.advance n).ring = s.ring := by obtain ⟨_, _, _, h⟩ := advance_rest n s; rw [h]
@[simp] theorem advance_spi (n : Nat) : (s.advance n).spi = s.spi := by obtain ⟨_, _, _, h⟩ := advance_rest n s; rw [h]
@[simp] theorem advance_twin (n : Nat) : (s.advance n).twin = s.twin := by obtain ⟨_, _, _, h⟩ := advance_rest n s; rw [h]
@[simp] theorem advance_power (n : Nat) : (s.advance n).power = s.power := by obtain ⟨_, _, _, h⟩ := advance_rest n s; rw [h]
@[simp] theorem advance_radio (n : Nat) : (s.advance n).radio = s.radio := by obtain ⟨_, _, _, h⟩ := advance_rest n s; rw [h]
@[simp] theorem advance_pktMem (n : Nat) : (s.advance n).pktMem = s.pktMem := by obtain ⟨_, _, _, h⟩ := advance_rest n s; rw [h]
@[simp] theorem advance_nodes (n : Nat) : (s.advance n).nodes = s.nodes := by obtain ⟨_, _, _, h⟩ := advance_rest n s; rw [h]
@[simp] theorem advance_calib (n : Nat) : (s.advance n).calib = s.calib := by obtain ⟨_, _, _, h⟩ := advance_rest n s; rw [h]
@[simp] theorem advance_dict (n : Nat) : (s.advance n).dict = s.dict := by obtain ⟨_, _, _, h⟩ := advance_rest n s; rw [h]
@[simp] theorem advance_counts (n : Nat) : (s.advance n).counts = s.counts := by obtain ⟨_, _, _, h⟩ := advance_rest n s; rw [h]
@[simp] theorem advance_out (n : Nat) : (s.advance n).out = s.out := by obtain ⟨_, _, _, h⟩ := advance_rest n s; rw [h]
@[simp] theorem advance_fresh (n : Nat) : (s.advance n).fresh = s.fresh := by obtain ⟨_, _, _, h⟩ := advance_rest n s; rw [h]

@[simp] theorem advanceTo_pending (n : Nat) : (s.advanceTo n).pending = s.pending := by obtain ⟨_, _, _, h⟩ := advanceTo_rest n s; rw [h]
@[simp] theorem advanceTo_tracks (n : Nat) : (s.advanceTo n).tracks = s.tracks := by obtain ⟨_, _, _, h⟩ := advanceTo_rest n s; rw [h]
@[simp] theorem advanceTo_chains (n : Nat) : (s.advanceTo n).chains = s.chains := by obtain ⟨_, _, _, h⟩ := advanceTo_rest n s; rw [h]
@[simp] theorem advanceTo_feeders (n : Nat) : (s.advanceTo n).feeders = s.feeders := by obtain ⟨_, _, _, h⟩ := advanceTo_rest n s; rw [h]
@[simp] theorem advanceTo_budget (n : Nat) : (s.advanceTo n).budget = s.budget := by obtain ⟨_, _, _, h⟩ := advanceTo_rest n s; rw [h]
@[simp] theorem advanceTo_coilCal (n : Nat) : (s.advanceTo n).coilCal = s.coilCal := by obtain ⟨_, _, _, h⟩ := advanceTo_rest n s; rw [h]
@[simp] theorem advanceTo_capture (n : Nat) : (s.advanceTo n).capture = s.capture := by obtain ⟨_, _, _, h⟩ := advanceTo_rest n s; rw [h]
@[simp] theorem advanceTo_template (n : Nat) : (s.advanceTo n).template = s.template := by obtain ⟨_, _, _, h⟩ := advanceTo_rest n s; rw [h]
@[simp] theorem advanceTo_apdu (n : Nat) : (s.advanceTo n).apdu = s.apdu := by obtain ⟨_, _, _, h⟩ := advanceTo_rest n s; rw [h]
@[simp] theorem advanceTo_roster (n : Nat) : (s.advanceTo n).roster = s.roster := by obtain ⟨_, _, _, h⟩ := advanceTo_rest n s; rw [h]
@[simp] theorem advanceTo_sweeps (n : Nat) : (s.advanceTo n).sweeps = s.sweeps := by obtain ⟨_, _, _, h⟩ := advanceTo_rest n s; rw [h]
@[simp] theorem advanceTo_report (n : Nat) : (s.advanceTo n).report = s.report := by obtain ⟨_, _, _, h⟩ := advanceTo_rest n s; rw [h]
@[simp] theorem advanceTo_keys (n : Nat) : (s.advanceTo n).keys = s.keys := by obtain ⟨_, _, _, h⟩ := advanceTo_rest n s; rw [h]
@[simp] theorem advanceTo_sense (n : Nat) : (s.advanceTo n).sense = s.sense := by obtain ⟨_, _, _, h⟩ := advanceTo_rest n s; rw [h]
@[simp] theorem advanceTo_coreF (n : Nat) : (s.advanceTo n).coreF = s.coreF := by obtain ⟨_, _, _, h⟩ := advanceTo_rest n s; rw [h]
@[simp] theorem advanceTo_coreH (n : Nat) : (s.advanceTo n).coreH = s.coreH := by obtain ⟨_, _, _, h⟩ := advanceTo_rest n s; rw [h]
@[simp] theorem advanceTo_guest (n : Nat) : (s.advanceTo n).guest = s.guest := by obtain ⟨_, _, _, h⟩ := advanceTo_rest n s; rw [h]
@[simp] theorem advanceTo_debug (n : Nat) : (s.advanceTo n).dbg = s.dbg := by obtain ⟨_, _, _, h⟩ := advanceTo_rest n s; rw [h]
@[simp] theorem advanceTo_mem (n : Nat) : (s.advanceTo n).mem = s.mem := by obtain ⟨_, _, _, h⟩ := advanceTo_rest n s; rw [h]
@[simp] theorem advanceTo_hostMem (n : Nat) : (s.advanceTo n).hostMem = s.hostMem := by obtain ⟨_, _, _, h⟩ := advanceTo_rest n s; rw [h]
@[simp] theorem advanceTo_ecc (n : Nat) : (s.advanceTo n).ecc = s.ecc := by obtain ⟨_, _, _, h⟩ := advanceTo_rest n s; rw [h]
@[simp] theorem advanceTo_nvm (n : Nat) : (s.advanceTo n).nvm = s.nvm := by obtain ⟨_, _, _, h⟩ := advanceTo_rest n s; rw [h]
@[simp] theorem advanceTo_settings (n : Nat) : (s.advanceTo n).settings = s.settings := by obtain ⟨_, _, _, h⟩ := advanceTo_rest n s; rw [h]
@[simp] theorem advanceTo_aon (n : Nat) : (s.advanceTo n).aon = s.aon := by obtain ⟨_, _, _, h⟩ := advanceTo_rest n s; rw [h]
@[simp] theorem advanceTo_journal (n : Nat) : (s.advanceTo n).journal = s.journal := by obtain ⟨_, _, _, h⟩ := advanceTo_rest n s; rw [h]
@[simp] theorem advanceTo_observers (n : Nat) : (s.advanceTo n).observers = s.observers := by obtain ⟨_, _, _, h⟩ := advanceTo_rest n s; rw [h]
@[simp] theorem advanceTo_recent (n : Nat) : (s.advanceTo n).recent = s.recent := by obtain ⟨_, _, _, h⟩ := advanceTo_rest n s; rw [h]
@[simp] theorem advanceTo_proxied (n : Nat) : (s.advanceTo n).proxied = s.proxied := by obtain ⟨_, _, _, h⟩ := advanceTo_rest n s; rw [h]
@[simp] theorem advanceTo_cmds (n : Nat) : (s.advanceTo n).cmds = s.cmds := by obtain ⟨_, _, _, h⟩ := advanceTo_rest n s; rw [h]
@[simp] theorem advanceTo_linkF (n : Nat) : (s.advanceTo n).linkF = s.linkF := by obtain ⟨_, _, _, h⟩ := advanceTo_rest n s; rw [h]
@[simp] theorem advanceTo_linkH (n : Nat) : (s.advanceTo n).linkH = s.linkH := by obtain ⟨_, _, _, h⟩ := advanceTo_rest n s; rw [h]
@[simp] theorem advanceTo_linkT (n : Nat) : (s.advanceTo n).linkT = s.linkT := by obtain ⟨_, _, _, h⟩ := advanceTo_rest n s; rw [h]
@[simp] theorem advanceTo_hostTs (n : Nat) : (s.advanceTo n).hostTs = s.hostTs := by obtain ⟨_, _, _, h⟩ := advanceTo_rest n s; rw [h]
@[simp] theorem advanceTo_carried (n : Nat) : (s.advanceTo n).carried = s.carried := by obtain ⟨_, _, _, h⟩ := advanceTo_rest n s; rw [h]
@[simp] theorem advanceTo_carrying (n : Nat) : (s.advanceTo n).carrying = s.carrying := by obtain ⟨_, _, _, h⟩ := advanceTo_rest n s; rw [h]
@[simp] theorem advanceTo_fltF (n : Nat) : (s.advanceTo n).fltF = s.fltF := by obtain ⟨_, _, _, h⟩ := advanceTo_rest n s; rw [h]
@[simp] theorem advanceTo_fltH (n : Nat) : (s.advanceTo n).fltH = s.fltH := by obtain ⟨_, _, _, h⟩ := advanceTo_rest n s; rw [h]
@[simp] theorem advanceTo_records (n : Nat) : (s.advanceTo n).records = s.records := by obtain ⟨_, _, _, h⟩ := advanceTo_rest n s; rw [h]
@[simp] theorem advanceTo_ring (n : Nat) : (s.advanceTo n).ring = s.ring := by obtain ⟨_, _, _, h⟩ := advanceTo_rest n s; rw [h]
@[simp] theorem advanceTo_spi (n : Nat) : (s.advanceTo n).spi = s.spi := by obtain ⟨_, _, _, h⟩ := advanceTo_rest n s; rw [h]
@[simp] theorem advanceTo_twin (n : Nat) : (s.advanceTo n).twin = s.twin := by obtain ⟨_, _, _, h⟩ := advanceTo_rest n s; rw [h]
@[simp] theorem advanceTo_power (n : Nat) : (s.advanceTo n).power = s.power := by obtain ⟨_, _, _, h⟩ := advanceTo_rest n s; rw [h]
@[simp] theorem advanceTo_radio (n : Nat) : (s.advanceTo n).radio = s.radio := by obtain ⟨_, _, _, h⟩ := advanceTo_rest n s; rw [h]
@[simp] theorem advanceTo_pktMem (n : Nat) : (s.advanceTo n).pktMem = s.pktMem := by obtain ⟨_, _, _, h⟩ := advanceTo_rest n s; rw [h]
@[simp] theorem advanceTo_nodes (n : Nat) : (s.advanceTo n).nodes = s.nodes := by obtain ⟨_, _, _, h⟩ := advanceTo_rest n s; rw [h]
@[simp] theorem advanceTo_calib (n : Nat) : (s.advanceTo n).calib = s.calib := by obtain ⟨_, _, _, h⟩ := advanceTo_rest n s; rw [h]
@[simp] theorem advanceTo_dict (n : Nat) : (s.advanceTo n).dict = s.dict := by obtain ⟨_, _, _, h⟩ := advanceTo_rest n s; rw [h]
@[simp] theorem advanceTo_counts (n : Nat) : (s.advanceTo n).counts = s.counts := by obtain ⟨_, _, _, h⟩ := advanceTo_rest n s; rw [h]
@[simp] theorem advanceTo_out (n : Nat) : (s.advanceTo n).out = s.out := by obtain ⟨_, _, _, h⟩ := advanceTo_rest n s; rw [h]
@[simp] theorem advanceTo_fresh (n : Nat) : (s.advanceTo n).fresh = s.fresh := by obtain ⟨_, _, _, h⟩ := advanceTo_rest n s; rw [h]

@[simp] theorem advance_track (n t : Nat) : (s.advance n).track t = s.track t := by unfold State.track; simp
@[simp] theorem advanceTo_track (n t : Nat) : (s.advanceTo n).track t = s.track t := by unfold State.track; simp
@[simp] theorem advance_chain (n t : Nat) : (s.advance n).chain t = s.chain t := by unfold State.chain; simp
@[simp] theorem advanceTo_chain (n t : Nat) : (s.advanceTo n).chain t = s.chain t := by unfold State.chain; simp
@[simp] theorem advance_feeder (n t : Nat) : (s.advance n).feeder t = s.feeder t := by unfold State.feeder; simp
@[simp] theorem advanceTo_feeder (n t : Nat) : (s.advanceTo n).feeder t = s.feeder t := by unfold State.feeder; simp

end Sys2Proof.Machine
end

