-- ==== Sys2Proof/Laws/Stages.lean ====
section
/-!
SUPPORT. How a stage begins and goes on: what reading it and reaching its start change, and its successor.
-/

namespace Sys2Proof.Machine

open Sys2Proof

variable {s : State} {t kind cc given : Nat} {late air : Bool} {g : Stage}

theorem eccFix_rest (a n : Nat) (s : State) : ∃ e, s.eccFix a n = { s with ecc := e } := by
  unfold State.eccFix
  refine each_keeps (P := fun u => ∃ e, u = { s with ecc := e }) _ (fun i u hu => ?_) ⟨s.ecc, rfl⟩
  obtain ⟨e, rfl⟩ := hu
  exact ⟨_, rfl⟩

theorem eccFixes_rest (l : List (Nat × Nat)) (s : State) : ∃ e, l.foldl (fun s r => s.eccFix r.1 r.2) s = { s with ecc := e } := by
  induction l generalizing s with
  | nil => exact ⟨s.ecc, rfl⟩
  | cons r l ih =>
    obtain ⟨e, h⟩ := eccFix_rest r.1 r.2 s
    obtain ⟨e', h'⟩ := ih (s.eccFix r.1 r.2)
    refine ⟨e', ?_⟩
    show l.foldl _ (s.eccFix r.1 r.2) = _
    rw [h', h]

theorem readStage_rest (t : Nat) (s : State) : ∃ e, s.readStage t =
    ({ s with ecc := e } : State).setTrack t
      { s.track t with raw := s.stageBytes t, data := s.stageData t (Stage.ofBytes (s.stageBytes t)) } := by
  obtain ⟨e, h⟩ := eccFix_rest (stageAddr (s.track t).stage) 32 s
  unfold State.readStage State.modTrack
  dsimp only
  rw [h]
  obtain ⟨e', h'⟩ := eccFixes_rest (({ s with ecc := e } : State).stageReads t (Stage.ofBytes (s.stageBytes t))) { s with ecc := e }
  refine ⟨e', ?_⟩
  rw [h']
  rfl

/-- What has changed when the action of a stage starts: the track's notes on it, and what time and reading change. -/
theorem begun_rest (s : State) (t cc given : Nat) (late : Bool) (g : Stage) : ∃ e tb b r, s.begun t cc given late g =
    ({ s with ecc := e, tb := tb, bins := b, rxs := r } : State).setTrack t
      { s.track t with
          raw := s.stageBytes t, data := s.stageData t (Stage.ofBytes (s.stageBytes t)), dueCc := given, startCc := tb.cc, began := some ((s.track t).stage, tb.cc),
          markCc := tb.cc, first := false, late := (s.track t).late || late,
          toutCc := if g.tout = 0 then none else some (((if late then cc else given) + 1024 * g.tout) % 2 ^ 48) } := by
  obtain ⟨e, h⟩ := readStage_rest t s
  obtain ⟨tb, b, r, h'⟩ := advanceTo_rest cc (({ s with ecc := e } : State).setTrack t
    { s.track t with raw := s.stageBytes t, data := s.stageData t (Stage.ofBytes (s.stageBytes t)) })
  refine ⟨e, tb, b, r, ?_⟩
  unfold State.begun State.startAction
  rw [h, h']
  simp only [State.modTrack, State.track, State.setTrack, Tab.get_set, if_true]
  rw [Tab.set_set]

@[simp] theorem begun_pending : (s.begun t cc given late g).pending = s.pending := by obtain ⟨_, _, _, _, h⟩ := begun_rest s t cc given late g; rw [h]; rfl
@[simp] theorem begun_chains : (s.begun t cc given late g).chains = s.chains := by obtain ⟨_, _, _, _, h⟩ := begun_rest s t cc given late g; rw [h]; rfl
@[simp] theorem begun_feeders : (s.begun t cc given late g).feeders = s.feeders := by obtain ⟨_, _, _, _, h⟩ := begun_rest s t cc given late g; rw [h]; rfl
@[simp] theorem begun_budget : (s.begun t cc given late g).budget = s.budget := by obtain ⟨_, _, _, _, h⟩ := begun_rest s t cc given late g; rw [h]; rfl
@[simp] theorem begun_coilCal : (s.begun t cc given late g).coilCal = s.coilCal := by obtain ⟨_, _, _, _, h⟩ := begun_rest s t cc given late g; rw [h]; rfl
@[simp] theorem begun_capture : (s.begun t cc given late g).capture = s.capture := by obtain ⟨_, _, _, _, h⟩ := begun_rest s t cc given late g; rw [h]; rfl
@[simp] theorem begun_template : (s.begun t cc given late g).template = s.template := by obtain ⟨_, _, _, _, h⟩ := begun_rest s t cc given late g; rw [h]; rfl
@[simp] theorem begun_apdu : (s.begun t cc given late g).apdu = s.apdu := by obtain ⟨_, _, _, _, h⟩ := begun_rest s t cc given late g; rw [h]; rfl
@[simp] theorem begun_roster : (s.begun t cc given late g).roster = s.roster := by obtain ⟨_, _, _, _, h⟩ := begun_rest s t cc given late g; rw [h]; rfl
@[simp] theorem begun_sweeps : (s.begun t cc given late g).sweeps = s.sweeps := by obtain ⟨_, _, _, _, h⟩ := begun_rest s t cc given late g; rw [h]; rfl
@[simp] theorem begun_report : (s.begun t cc given late g).report = s.report := by obtain ⟨_, _, _, _, h⟩ := begun_rest s t cc given late g; rw [h]; rfl
@[simp] theorem begun_keys : (s.begun t cc given late g).keys = s.keys := by obtain ⟨_, _, _, _, h⟩ := begun_rest s t cc given late g; rw [h]; rfl
@[simp] theorem begun_sense : (s.begun t cc given late g).sense = s.sense := by obtain ⟨_, _, _, _, h⟩ := begun_rest s t cc given late g; rw [h]; rfl
@[simp] theorem begun_coreF : (s.begun t cc given late g).coreF = s.coreF := by obtain ⟨_, _, _, _, h⟩ := begun_rest s t cc given late g; rw [h]; rfl
@[simp] theorem begun_coreH : (s.begun t cc given late g).coreH = s.coreH := by obtain ⟨_, _, _, _, h⟩ := begun_rest s t cc given late g; rw [h]; rfl
@[simp] theorem begun_guest : (s.begun t cc given late g).guest = s.guest := by obtain ⟨_, _, _, _, h⟩ := begun_rest s t cc given late g; rw [h]; rfl
@[simp] theorem begun_debug : (s.begun t cc given late g).dbg = s.dbg := by obtain ⟨_, _, _, _, h⟩ := begun_rest s t cc given late g; rw [h]; rfl
@[simp] theorem begun_mem : (s.begun t cc given late g).mem = s.mem := by obtain ⟨_, _, _, _, h⟩ := begun_rest s t cc given late g; rw [h]; rfl
@[simp] theorem begun_hostMem : (s.begun t cc given late g).hostMem = s.hostMem := by obtain ⟨_, _, _, _, h⟩ := begun_rest s t cc given late g; rw [h]; rfl
@[simp] theorem begun_nvm : (s.begun t cc given late g).nvm = s.nvm := by obtain ⟨_, _, _, _, h⟩ := begun_rest s t cc given late g; rw [h]; rfl
@[simp] theorem begun_settings : (s.begun t cc given late g).settings = s.settings := by obtain ⟨_, _, _, _, h⟩ := begun_rest s t cc given late g; rw [h]; rfl
@[simp] theorem begun_aon : (s.begun t cc given late g).aon = s.aon := by obtain ⟨_, _, _, _, h⟩ := begun_rest s t cc given late g; rw [h]; rfl
@[simp] theorem begun_journal : (s.begun t cc given late g).journal = s.journal := by obtain ⟨_, _, _, _, h⟩ := begun_rest s t cc given late g; rw [h]; rfl
@[simp] theorem begun_observers : (s.begun t cc given late g).observers = s.observers := by obtain ⟨_, _, _, _, h⟩ := begun_rest s t cc given late g; rw [h]; rfl
@[simp] theorem begun_recent : (s.begun t cc given late g).recent = s.recent := by obtain ⟨_, _, _, _, h⟩ := begun_rest s t cc given late g; rw [h]; rfl
@[simp] theorem begun_proxied : (s.begun t cc given late g).proxied = s.proxied := by obtain ⟨_, _, _, _, h⟩ := begun_rest s t cc given late g; rw [h]; rfl
@[simp] theorem begun_cmds : (s.begun t cc given late g).cmds = s.cmds := by obtain ⟨_, _, _, _, h⟩ := begun_rest s t cc given late g; rw [h]; rfl
@[simp] theorem begun_linkF : (s.begun t cc given late g).linkF = s.linkF := by obtain ⟨_, _, _, _, h⟩ := begun_rest s t cc given late g; rw [h]; rfl
@[simp] theorem begun_linkH : (s.begun t cc given late g).linkH = s.linkH := by obtain ⟨_, _, _, _, h⟩ := begun_rest s t cc given late g; rw [h]; rfl
@[simp] theorem begun_linkT : (s.begun t cc given late g).linkT = s.linkT := by obtain ⟨_, _, _, _, h⟩ := begun_rest s t cc given late g; rw [h]; rfl
@[simp] theorem begun_hostTs : (s.begun t cc given late g).hostTs = s.hostTs := by obtain ⟨_, _, _, _, h⟩ := begun_rest s t cc given late g; rw [h]; rfl
@[simp] theorem begun_carried : (s.begun t cc given late g).carried = s.carried := by obtain ⟨_, _, _, _, h⟩ := begun_rest s t cc given late g; rw [h]; rfl
@[simp] theorem begun_fltF : (s.begun t cc given late g).fltF = s.fltF := by obtain ⟨_, _, _, _, h⟩ := begun_rest s t cc given late g; rw [h]; rfl
@[simp] theorem begun_fltH : (s.begun t cc given late g).fltH = s.fltH := by obtain ⟨_, _, _, _, h⟩ := begun_rest s t cc given late g; rw [h]; rfl
@[simp] theorem begun_records : (s.begun t cc given late g).records = s.records := by obtain ⟨_, _, _, _, h⟩ := begun_rest s t cc given late g; rw [h]; rfl
@[simp] theorem begun_ring : (s.begun t cc given late g).ring = s.ring := by obtain ⟨_, _, _, _, h⟩ := begun_rest s t cc given late g; rw [h]; rfl
@[simp] theorem begun_spi : (s.begun t cc given late g).spi = s.spi := by obtain ⟨_, _, _, _, h⟩ := begun_rest s t cc given late g; rw [h]; rfl
@[simp] theorem begun_twin : (s.begun t cc given late g).twin = s.twin := by obtain ⟨_, _, _, _, h⟩ := begun_rest s t cc given late g; rw [h]; rfl
@[simp] theorem begun_power : (s.begun t cc given late g).power = s.power := by obtain ⟨_, _, _, _, h⟩ := begun_rest s t cc given late g; rw [h]; rfl
@[simp] theorem begun_radio : (s.begun t cc given late g).radio = s.radio := by obtain ⟨_, _, _, _, h⟩ := begun_rest s t cc given late g; rw [h]; rfl
@[simp] theorem begun_pktMem : (s.begun t cc given late g).pktMem = s.pktMem := by obtain ⟨_, _, _, _, h⟩ := begun_rest s t cc given late g; rw [h]; rfl
@[simp] theorem begun_nodes : (s.begun t cc given late g).nodes = s.nodes := by obtain ⟨_, _, _, _, h⟩ := begun_rest s t cc given late g; rw [h]; rfl
@[simp] theorem begun_calib : (s.begun t cc given late g).calib = s.calib := by obtain ⟨_, _, _, _, h⟩ := begun_rest s t cc given late g; rw [h]; rfl
@[simp] theorem begun_dict : (s.begun t cc given late g).dict = s.dict := by obtain ⟨_, _, _, _, h⟩ := begun_rest s t cc given late g; rw [h]; rfl
@[simp] theorem begun_counts : (s.begun t cc given late g).counts = s.counts := by obtain ⟨_, _, _, _, h⟩ := begun_rest s t cc given late g; rw [h]; rfl
@[simp] theorem begun_out : (s.begun t cc given late g).out = s.out := by obtain ⟨_, _, _, _, h⟩ := begun_rest s t cc given late g; rw [h]; rfl
@[simp] theorem begun_fresh : (s.begun t cc given late g).fresh = s.fresh := by obtain ⟨_, _, _, _, h⟩ := begun_rest s t cc given late g; rw [h]; rfl

theorem begun_self : (s.begun t cc given late g).track t =
    { s.track t with
        raw := s.stageBytes t, data := s.stageData t (Stage.ofBytes (s.stageBytes t)), dueCc := given, startCc := (s.begun t cc given late g).tb.cc,
        began := some ((s.track t).stage, (s.begun t cc given late g).tb.cc), markCc := (s.begun t cc given late g).tb.cc,
        first := false, late := (s.track t).late || late,
        toutCc := if g.tout = 0 then none else some (((if late then cc else given) + 1024 * g.tout) % 2 ^ 48) } := by
  obtain ⟨_, _, _, _, h⟩ := begun_rest s t cc given late g
  rw [h]
  simp
@[simp] theorem begun_other {u : Nat} (h : u ≠ t) : (s.begun t cc given late g).track u = s.track u := by
  obtain ⟨_, _, _, _, h'⟩ := begun_rest s t cc given late g
  rw [h', track_setTrack, if_neg h]
  rfl
/-- `u` is `s` but for the timebase, the impulse map, the receive chains, the ECC counters and the tracks. -/
def State.timed (s u : State) : Prop := ∃ tb b r e k, u = { s with tb := tb, bins := b, rxs := r, ecc := e, tracks := k }
theorem State.timed.eq {u : State} (h : s.timed u) :
    u = { s with tb := u.tb, bins := u.bins, rxs := u.rxs, ecc := u.ecc, tracks := u.tracks } := by
  obtain ⟨_, _, _, _, _, rfl⟩ := h; rfl
theorem timed_begun : s.timed (s.begun t cc given late g) := by
  obtain ⟨_, _, _, _, h⟩ := begun_rest s t cc given late g
  exact ⟨_, _, _, _, _, h⟩
theorem State.timed.advance {u : State} (h : s.timed u) (n : Nat) : s.timed (u.advance n) := by
  obtain ⟨_, _, _, h'⟩ := advance_rest n u
  obtain ⟨_, _, _, _, _, rfl⟩ := h
  rw [h']
  exact ⟨_, _, _, _, _, rfl⟩
theorem State.timed.setTrack {u : State} (h : s.timed u) (i : Nat) (v : Track) : s.timed (u.setTrack i v) := by
  obtain ⟨_, _, _, _, _, rfl⟩ := h
  exact ⟨_, _, _, _, _, rfl⟩
theorem State.Begins.cur (h : s.Begins t kind g cc given late) : ((s.begun t cc given late g).track t).cur = g := by
  rw [begun_self]; exact h.stage.symm
/-- What is known of the state `u` in which a stage's action starts; name that state before reasoning about it, since the
arithmetic of its instant does not evaluate. -/
structure State.Begun (s u : State) (t cc given : Nat) (late : Bool) (g : Stage) : Prop where
  timed : s.timed u
  other : ∀ i, i ≠ t → u.track i = s.track i
  raw : (u.track t).raw = s.stageBytes t
  data : (u.track t).data = s.stageData t g
  dueCc : (u.track t).dueCc = given
  startCc : (u.track t).startCc = u.tb.cc
  toutCc : (u.track t).toutCc = if g.tout = 0 then none else some (((if late then cc else given) + 1024 * g.tout) % 2 ^ 48)
  entry : (u.track t).entry = (s.track t).entry
  stage : (u.track t).stage = (s.track t).stage
  st : (u.track t).st = (s.track t).st
  lout : (u.track t).lout = (s.track t).lout
  sreason : (u.track t).sreason = (s.track t).sreason
  busyStart : (u.track t).busyStart = (s.track t).busyStart
  vlate : (u.track t).vlate = (s.track t).vlate
  stack : (u.track t).stack = (s.track t).stack
  retries : (u.track t).retries = (s.track t).retries
  next : (u.track t).next = (s.track t).next
  isRetry : (u.track t).isRetry = (s.track t).isRetry
  rxh : (u.track t).rxh = (s.track t).rxh
  predEnd : (u.track t).predEnd = (s.track t).predEnd
  meetCc : (u.track t).meetCc = (s.track t).meetCc
  meetMask : (u.track t).meetMask = (s.track t).meetMask
  coil : (u.track t).coil = (s.track t).coil
  members : (u.track t).members = (s.track t).members
  repl : (u.track t).repl = (s.track t).repl
  phase : (u.track t).phase = (s.track t).phase
  win : (u.track t).win = (s.track t).win
  pseq : (u.track t).pseq = (s.track t).pseq
  queue : (u.track t).queue = (s.track t).queue
  flushed : (u.track t).flushed = (s.track t).flushed
  entering : (u.track t).entering = (s.track t).entering
  enterCc : (u.track t).enterCc = (s.track t).enterCc
  flushReq : (u.track t).flushReq = (s.track t).flushReq
  posted : (u.track t).posted = (s.track t).posted
  sent : (u.track t).sent = (s.track t).sent
  service : (u.track t).service = (s.track t).service
  burst : (u.track t).burst = (s.track t).burst
  rowSense : (u.track t).rowSense = (s.track t).rowSense
  heldHalt : (u.track t).heldHalt = (s.track t).heldHalt
  held : (u.track t).held = (s.track t).held
  stallCt : (u.track t).stallCt = (s.track t).stallCt
  heldPkt : (u.track t).heldPkt = (s.track t).heldPkt
  heldThen : (u.track t).heldThen = (s.track t).heldThen
  heldIrq : (u.track t).heldIrq = (s.track t).heldIrq
theorem begun_of {u : State} {sb : List Byte} (h2 : s.timed u) (h1 : ∀ i, i ≠ t → u.track i = s.track i) (hb : s.stageBytes t = sb)
    (hd : s.stageData t (Stage.ofBytes sb) = s.stageData t g)
    (h : u.track t =
      { s.track t with
          raw := sb, data := s.stageData t (Stage.ofBytes sb), dueCc := given, startCc := u.tb.cc, began := some ((s.track t).stage, u.tb.cc),
          markCc := u.tb.cc, first := false,
          late := (s.track t).late || late,
          toutCc := if g.tout = 0 then none else some (((if late then cc else given) + 1024 * g.tout) % 2 ^ 48) }) :
    s.Begun u t cc given late g := by
  constructor
  · exact h2
  · exact h1
  · rw [h, hb]
  · rw [h]; exact hd
  all_goals rw [h]
theorem begun_spec (s : State) (t cc given : Nat) (late : Bool) (g : Stage) (hg : g = Stage.ofBytes (s.stageBytes t)) :
    ∃ u, s.begun t cc given late g = u ∧ s.Begun u t cc given late g :=
  ⟨_, rfl, begun_of timed_begun (fun _ h => begun_other h) rfl (by rw [hg]) begun_self⟩
theorem State.Begun.cur {u : State} (hu : s.Begun u t cc given late g) (h : s.Begins t kind g cc given late) : (u.track t).cur = g := by
  unfold Track.cur; rw [hu.raw]; exact h.stage.symm
theorem State.Begins.st (h : s.Begins t kind g cc given late) : (s.track t).st = 1 := by
  have := h.may; simp only [State.mayBegin, Bool.and_eq_true, decide_eq_true_eq] at this; exact this.1.1.1
theorem State.Begins.phase (h : s.Begins t kind g cc given late) : (s.track t).phase = .none := by
  have := h.may; simp only [State.mayBegin, Bool.and_eq_true, decide_eq_true_eq] at this; exact this.1.1.2

/-- A stage that begins, its checks good, runs its action from its start. -/
theorem beginStage_begins {chk : Stage → State → Check} (act : Stage → State → State) (h : s.Begins t kind g cc given late)
    (ha : air = true → s.nvm.armed = true) (hc : chk g (s.readStage t) = .good) :
    s.beginStage t kind air chk act = act g (s.begun t cc given late g) := by
  obtain ⟨h1, h2, h3, h4, h5, h6, h7, h8⟩ := h
  have ha' : ¬ (g.kind ≠ kind ∨ (air = true ∧ ¬ s.nvm.armed = true)) := by
    rintro (h | ⟨h, h'⟩)
    · exact h h3
    · exact h' (ha h)
  have hb : ¬ (g.rsv0 ≠ 0 ∨ g.rsv2 ≠ 0 ∨ (t = 8 ∧ kind ≤ 4)) := by
    rintro (h | h | h)
    · exact h h5
    · exact h h6
    · exact h7 h
  unfold State.beginStage
  dsimp only
  rw [← h2, if_neg (by rw [h1]; simp), if_neg (by rw [h4]; simp), if_neg ha', if_neg hb, h8]
  dsimp only
  rw [hc]
  unfold State.begun
  rfl

/-- The successor chosen is that of R66, and choosing touches nothing else that a stage's end reads. -/
theorem chosen_rest (tr : Track) (out : Nat) : ∃ i x k, tr.chosen out =
    { tr with next := tr.cur.after tr.stage out tr.retries, isRetry := i, rxh := x, retries := k } := by
  unfold Track.chosen Stage.after
  by_cases h1 : tr.cur.succ tr.stage out = tr.stage
  · by_cases h2 : tr.retries < tr.cur.retry
    · exact ⟨true, false, tr.retries + 1, by simp [h1, h2]⟩
    · exact ⟨false, true, if tr.cur.next = tr.stage then tr.retries else 0, by simp [h1, h2]⟩
  · exact ⟨false, false, 0, by simp [h1]⟩

@[simp] theorem chosen_next (tr : Track) (out : Nat) : (tr.chosen out).next = tr.cur.after tr.stage out tr.retries := by
  obtain ⟨_, _, _, h⟩ := chosen_rest tr out; rw [h]
@[simp] theorem chosen_entry (tr : Track) (out : Nat) : (tr.chosen out).entry = tr.entry := by obtain ⟨_, _, _, h⟩ := chosen_rest tr out; rw [h]
@[simp] theorem chosen_stage (tr : Track) (out : Nat) : (tr.chosen out).stage = tr.stage := by obtain ⟨_, _, _, h⟩ := chosen_rest tr out; rw [h]
@[simp] theorem chosen_st (tr : Track) (out : Nat) : (tr.chosen out).st = tr.st := by obtain ⟨_, _, _, h⟩ := chosen_rest tr out; rw [h]
@[simp] theorem chosen_lout (tr : Track) (out : Nat) : (tr.chosen out).lout = tr.lout := by obtain ⟨_, _, _, h⟩ := chosen_rest tr out; rw [h]
@[simp] theorem chosen_sreason (tr : Track) (out : Nat) : (tr.chosen out).sreason = tr.sreason := by obtain ⟨_, _, _, h⟩ := chosen_rest tr out; rw [h]
@[simp] theorem chosen_late (tr : Track) (out : Nat) : (tr.chosen out).late = tr.late := by obtain ⟨_, _, _, h⟩ := chosen_rest tr out; rw [h]
@[simp] theorem chosen_busyStart (tr : Track) (out : Nat) : (tr.chosen out).busyStart = tr.busyStart := by obtain ⟨_, _, _, h⟩ := chosen_rest tr out; rw [h]
@[simp] theorem chosen_vlate (tr : Track) (out : Nat) : (tr.chosen out).vlate = tr.vlate := by obtain ⟨_, _, _, h⟩ := chosen_rest tr out; rw [h]
@[simp] theorem chosen_stack (tr : Track) (out : Nat) : (tr.chosen out).stack = tr.stack := by obtain ⟨_, _, _, h⟩ := chosen_rest tr out; rw [h]
@[simp] theorem chosen_predEnd (tr : Track) (out : Nat) : (tr.chosen out).predEnd = tr.predEnd := by obtain ⟨_, _, _, h⟩ := chosen_rest tr out; rw [h]
@[simp] theorem chosen_first (tr : Track) (out : Nat) : (tr.chosen out).first = tr.first := by obtain ⟨_, _, _, h⟩ := chosen_rest tr out; rw [h]
@[simp] theorem chosen_markCc (tr : Track) (out : Nat) : (tr.chosen out).markCc = tr.markCc := by obtain ⟨_, _, _, h⟩ := chosen_rest tr out; rw [h]
@[simp] theorem chosen_meetCc (tr : Track) (out : Nat) : (tr.chosen out).meetCc = tr.meetCc := by obtain ⟨_, _, _, h⟩ := chosen_rest tr out; rw [h]
@[simp] theorem chosen_meetMask (tr : Track) (out : Nat) : (tr.chosen out).meetMask = tr.meetMask := by obtain ⟨_, _, _, h⟩ := chosen_rest tr out; rw [h]
@[simp] theorem chosen_coil (tr : Track) (out : Nat) : (tr.chosen out).coil = tr.coil := by obtain ⟨_, _, _, h⟩ := chosen_rest tr out; rw [h]
@[simp] theorem chosen_members (tr : Track) (out : Nat) : (tr.chosen out).members = tr.members := by obtain ⟨_, _, _, h⟩ := chosen_rest tr out; rw [h]
@[simp] theorem chosen_repl (tr : Track) (out : Nat) : (tr.chosen out).repl = tr.repl := by obtain ⟨_, _, _, h⟩ := chosen_rest tr out; rw [h]
@[simp] theorem chosen_raw (tr : Track) (out : Nat) : (tr.chosen out).raw = tr.raw := by obtain ⟨_, _, _, h⟩ := chosen_rest tr out; rw [h]
@[simp] theorem chosen_phase (tr : Track) (out : Nat) : (tr.chosen out).phase = tr.phase := by obtain ⟨_, _, _, h⟩ := chosen_rest tr out; rw [h]
@[simp] theorem chosen_startCc (tr : Track) (out : Nat) : (tr.chosen out).startCc = tr.startCc := by obtain ⟨_, _, _, h⟩ := chosen_rest tr out; rw [h]
@[simp] theorem chosen_dueCc (tr : Track) (out : Nat) : (tr.chosen out).dueCc = tr.dueCc := by obtain ⟨_, _, _, h⟩ := chosen_rest tr out; rw [h]
@[simp] theorem chosen_toutCc (tr : Track) (out : Nat) : (tr.chosen out).toutCc = tr.toutCc := by obtain ⟨_, _, _, h⟩ := chosen_rest tr out; rw [h]
@[simp] theorem chosen_win (tr : Track) (out : Nat) : (tr.chosen out).win = tr.win := by obtain ⟨_, _, _, h⟩ := chosen_rest tr out; rw [h]
@[simp] theorem chosen_pseq (tr : Track) (out : Nat) : (tr.chosen out).pseq = tr.pseq := by obtain ⟨_, _, _, h⟩ := chosen_rest tr out; rw [h]
@[simp] theorem chosen_queue (tr : Track) (out : Nat) : (tr.chosen out).queue = tr.queue := by obtain ⟨_, _, _, h⟩ := chosen_rest tr out; rw [h]
@[simp] theorem chosen_flushed (tr : Track) (out : Nat) : (tr.chosen out).flushed = tr.flushed := by obtain ⟨_, _, _, h⟩ := chosen_rest tr out; rw [h]
@[simp] theorem chosen_held (tr : Track) (out : Nat) : (tr.chosen out).held = tr.held := by obtain ⟨_, _, _, h⟩ := chosen_rest tr out; rw [h]
@[simp] theorem chosen_stallCt (tr : Track) (out : Nat) : (tr.chosen out).stallCt = tr.stallCt := by obtain ⟨_, _, _, h⟩ := chosen_rest tr out; rw [h]
@[simp] theorem chosen_heldPkt (tr : Track) (out : Nat) : (tr.chosen out).heldPkt = tr.heldPkt := by obtain ⟨_, _, _, h⟩ := chosen_rest tr out; rw [h]
@[simp] theorem chosen_heldThen (tr : Track) (out : Nat) : (tr.chosen out).heldThen = tr.heldThen := by obtain ⟨_, _, _, h⟩ := chosen_rest tr out; rw [h]
@[simp] theorem chosen_heldIrq (tr : Track) (out : Nat) : (tr.chosen out).heldIrq = tr.heldIrq := by obtain ⟨_, _, _, h⟩ := chosen_rest tr out; rw [h]
@[simp] theorem chosen_data (tr : Track) (out : Nat) : (tr.chosen out).data = tr.data := by obtain ⟨_, _, _, h⟩ := chosen_rest tr out; rw [h]
@[simp] theorem chosen_sent (tr : Track) (out : Nat) : (tr.chosen out).sent = tr.sent := by obtain ⟨_, _, _, h⟩ := chosen_rest tr out; rw [h]
@[simp] theorem chosen_posted (tr : Track) (out : Nat) : (tr.chosen out).posted = tr.posted := by obtain ⟨_, _, _, h⟩ := chosen_rest tr out; rw [h]
@[simp] theorem chosen_entering (tr : Track) (out : Nat) : (tr.chosen out).entering = tr.entering := by obtain ⟨_, _, _, h⟩ := chosen_rest tr out; rw [h]
@[simp] theorem chosen_enterCc (tr : Track) (out : Nat) : (tr.chosen out).enterCc = tr.enterCc := by obtain ⟨_, _, _, h⟩ := chosen_rest tr out; rw [h]
@[simp] theorem chosen_flushReq (tr : Track) (out : Nat) : (tr.chosen out).flushReq = tr.flushReq := by obtain ⟨_, _, _, h⟩ := chosen_rest tr out; rw [h]
@[simp] theorem chosen_heldHalt (tr : Track) (out : Nat) : (tr.chosen out).heldHalt = tr.heldHalt := by obtain ⟨_, _, _, h⟩ := chosen_rest tr out; rw [h]
@[simp] theorem chosen_service (tr : Track) (out : Nat) : (tr.chosen out).service = tr.service := by obtain ⟨_, _, _, h⟩ := chosen_rest tr out; rw [h]
@[simp] theorem chosen_burst (tr : Track) (out : Nat) : (tr.chosen out).burst = tr.burst := by obtain ⟨_, _, _, h⟩ := chosen_rest tr out; rw [h]
@[simp] theorem chosen_rowSense (tr : Track) (out : Nat) : (tr.chosen out).rowSense = tr.rowSense := by obtain ⟨_, _, _, h⟩ := chosen_rest tr out; rw [h]

/-- A stage without packet ends: its track waits for the start of the successor of R66. -/
theorem endPlain_rest (u : State) (t out : Nat) (h : (u.track t).st ≠ 6) : ∃ tr : Track, u.endPlain t out = u.setTrack t tr ∧
    tr.predEnd = u.tb.cc ∧ tr.st = 1 ∧ tr.phase = .none ∧
    tr.stage = (u.track t).cur.after (u.track t).stage out (u.track t).retries ∧ tr.stack = (u.track t).stack ∧
    tr.queue = (u.track t).queue ∧ tr.lout = (u.track t).lout ∧ tr.meetCc = (u.track t).meetCc := by
  obtain ⟨i, x, k, e⟩ := chosen_rest { u.track t with predEnd := u.tb.cc } out
  simp only [State.endPlain, State.choose, State.goOn, State.modTrack, track_setTrack, if_true, setTrack_setTrack, e, h,
    if_false, State.resume]
  exact ⟨_, rfl, rfl, rfl, rfl, rfl, rfl, rfl, rfl, rfl⟩

/-- An air stage that posts no packet ends: LOUT and the successor of R66. -/
theorem endAir_rest (u : State) (t out : Nat) (d : Bool) (r : ResultInfo) (rest : List (Nat × List Byte)) (h : (u.track t).st ≠ 6)
    (hp : (u.track t).cur.posts out = false) : ∃ tr : Track, u.endAir t out d r rest = u.setTrack t tr ∧
    tr.predEnd = u.tb.cc ∧ tr.st = 1 ∧ tr.phase = .none ∧ tr.win = none ∧
    tr.stage = (u.track t).cur.after (u.track t).stage out (u.track t).retries ∧ tr.lout = out ∧ tr.stack = (u.track t).stack ∧
    tr.queue = (u.track t).queue ∧ tr.coil = (u.track t).coil ∧ tr.members = (u.track t).members := by
  have hq : ∀ x : Track, x.raw = (u.track t).raw → x.cur.posts out = false := fun x hx => by unfold Track.cur at *; rw [hx]; exact hp
  unfold State.endAir
  simp only [State.choose, State.goOn, State.modTrack, track_setTrack, if_true, setTrack_setTrack]
  rw [if_neg (by rw [hq _ (by simp)]; decide)]
  simp only [chosen_st, h, if_false, State.resume, track_setTrack, if_true, setTrack_setTrack]
  exact ⟨_, rfl, by simp, rfl, rfl, by simp, by simp [Track.cur], by simp, by simp, by simp, by simp, by simp⟩

theorem mkPacket_length (ds : List (Nat × List Byte)) : (mkPacket ds).length = min 4 ds.length := by simp [mkPacket]

/-- What settling changes: the queue and what enters it; with no flush waiting, nothing is lost. -/
theorem settle_rest (cc : Nat) (tr : Track) : ∃ q e f d, tr.settle cc = { tr with queue := q, entering := e, flushReq := f, flushed := d } ∧
    (tr.flushReq = false → f = false ∧ d = tr.flushed ∧ q ++ e = tr.contents) := by
  unfold Track.settle
  by_cases h1 : tr.entering = [] ∨ cc = tr.enterCc
  · rw [if_pos h1]; exact ⟨_, _, _, _, rfl, fun h => ⟨h, rfl, rfl⟩⟩
  · rw [if_neg h1]
    by_cases h2 : tr.flushReq = true
    · rw [if_pos h2]; exact ⟨_, _, _, _, rfl, fun h => by rw [h2] at h; cases h⟩
    · rw [if_neg h2]; exact ⟨_, _, _, _, rfl, fun h => ⟨h, rfl, by simp [Track.contents]⟩⟩

/-- What has entered a queue by now depends on nothing else of the track. -/
theorem settle_contents (cc : Nat) {x y : Track} (h1 : x.queue = y.queue) (h2 : x.entering = y.entering) (h3 : x.enterCc = y.enterCc)
    (h4 : x.flushReq = y.flushReq) : (x.settle cc).contents = (y.settle cc).contents := by
  unfold Track.settle
  rw [h1, h2, h3, h4]
  by_cases a : y.entering = [] ∨ cc = y.enterCc
  · rw [if_pos a, if_pos a]; simp [Track.contents, h1, h2]
  · rw [if_neg a, if_neg a]
    by_cases b : y.flushReq = true
    · rw [if_pos b, if_pos b]; rfl
    · rw [if_neg b, if_neg b]; rfl

/-- A packet that enters joins the contents at their end. -/
theorem push_rest (pkt : List (List Byte)) (cc : Nat) (tr : Track) : ∃ q e c, tr.push pkt cc = { tr with queue := q, entering := e, enterCc := c } ∧
    q ++ e = tr.contents ++ pkt := by
  unfold Track.push
  by_cases h : tr.entering = []
  · rw [if_pos h]
    refine ⟨_, _, _, rfl, ?_⟩
    cases pkt <;> simp [Track.contents, h]
  · rw [if_neg h]
    exact ⟨_, _, _, rfl, by simp [Track.contents]⟩

/-- A packet enters a queue with room, and the track goes on. -/
theorem post_rest (u : State) (t : Nat) (pkt : List (List Byte)) (irq : Bool)
    (hr : (u.trackNow t).contents.length + pkt.length ≤ 32) :
    ∃ tr : Track, u.post t pkt 1 irq = (u.when irq (State.irqSet .field t)).setTrack t tr ∧ tr.contents = (u.trackNow t).contents ++ pkt ∧
    tr.st = 1 ∧ tr.phase = .none ∧ tr.stage = (u.track t).next ∧ tr.predEnd = (u.track t).predEnd ∧ tr.lout = (u.track t).lout ∧
    tr.stack = (u.track t).stack ∧ tr.pseq = (u.track t).pseq ∧ tr.coil = (u.track t).coil ∧ tr.members = (u.track t).members := by
  unfold State.post
  obtain ⟨q, e, f, d, hs, -⟩ := settle_rest u.tb.cc (u.track t)
  have hn : u.trackNow t = { u.track t with queue := q, entering := e, flushReq := f, flushed := d } := hs
  obtain ⟨x, hx⟩ : ∃ x, u.track t = x := ⟨_, rfl⟩
  rw [hx] at hn ⊢
  rw [hn] at hr ⊢
  have hroom : Track.room { x with queue := q, entering := e, flushReq := f, flushed := d } pkt = true := by
    simpa [Track.room, Track.contents] using hr
  dsimp only
  rw [if_pos hroom]
  obtain ⟨q', e', c', hp, hq'⟩ := push_rest pkt u.tb.cc { x with queue := q, entering := e, flushReq := f, flushed := d }
  rw [hp]
  have hw : ∀ y : Track, State.when irq (State.irqSet .field t) (u.setTrack t y) = (u.when irq (State.irqSet .field t)).setTrack t y :=
    fun y => by unfold State.when; split <;> rfl
  rw [hw]
  simp only [State.resume, track_setTrack, if_true, setTrack_setTrack]
  exact ⟨_, rfl, hq', rfl, rfl, rfl, rfl, rfl, rfl, rfl, rfl, rfl⟩

/-- How an air stage's end is made up: the track with its outcome and successor, then the packet or none. -/
theorem endAir_eq (u : State) (t out : Nat) (d : Bool) (r : ResultInfo) (rest : List (Nat × List Byte)) : ∃ y : Track,
    u.endAir t out d r rest = (if y.cur.posts out then
        (u.setTrack t { y with pseq := (y.pseq + 1) % 65536, posted := true }).post t (mkPacket (resultDesc y out d r :: rest)) (if y.st = 6 then 2 else 1) y.cur.pirq
      else (u.setTrack t y).goOn t) ∧
    y.cur = (u.track t).cur ∧ y.st = (u.track t).st ∧ y.predEnd = u.tb.cc ∧ y.lout = out ∧ y.pseq = (u.track t).pseq ∧
    y.next = (u.track t).cur.after (u.track t).stage out (u.track t).retries ∧ y.queue = (u.track t).queue ∧
    y.stack = (u.track t).stack ∧ y.coil = (u.track t).coil ∧ y.members = (u.track t).members ∧ y.startCc = (u.track t).startCc ∧
    y.stage = (u.track t).stage ∧ y.dueCc = (u.track t).dueCc ∧ y.entering = (u.track t).entering ∧
    y.flushReq = (u.track t).flushReq ∧ y.enterCc = (u.track t).enterCc := by
  unfold State.endAir
  simp only [State.choose, State.modTrack, track_setTrack, if_true, setTrack_setTrack]
  exact ⟨_, rfl, by simp [Track.cur], by simp, by simp, by simp, by simp, by simp [Track.cur], by simp, by simp, by simp, by simp,
    by simp, by simp, by simp, by simp, by simp, by simp⟩

/-- An air stage that posts its packet into a queue with room ends: the packet enters, and the track goes on as without. -/
theorem endAir_posts (u : State) (t out : Nat) (d : Bool) (r : ResultInfo) (rest : List (Nat × List Byte)) (h : (u.track t).st ≠ 6)
    (hp : (u.track t).cur.posts out = true) (hr : (u.trackNow t).contents.length + min 4 (rest.length + 1) ≤ 32) :
    ∃ tr y : Track, u.endAir t out d r rest = (u.when (u.track t).cur.pirq (State.irqSet .field t)).setTrack t tr ∧
    tr.predEnd = u.tb.cc ∧ tr.st = 1 ∧ tr.phase = .none ∧
    tr.stage = (u.track t).cur.after (u.track t).stage out (u.track t).retries ∧ tr.lout = out ∧ tr.stack = (u.track t).stack ∧
    tr.contents = (u.trackNow t).contents ++ mkPacket (resultDesc y out d r :: rest) ∧ tr.pseq = ((u.track t).pseq + 1) % 65536 ∧
    tr.coil = (u.track t).coil ∧ tr.members = (u.track t).members := by
  obtain ⟨y, he, y1, y2, y3, y4, y5, y6, y7, y8, y9, y10, -, -, -, y14, y15, y16⟩ := endAir_eq u t out d r rest
  rw [he, y1, if_pos hp, if_neg (by rw [y2]; exact h)]
  obtain ⟨z, hz⟩ : ∃ z : Track, z = { y with pseq := (y.pseq + 1) % 65536, posted := true } := ⟨_, rfl⟩
  rw [← hz]
  have hl : (u.setTrack t z).track t = z := by simp
  have hcz : ((u.setTrack t z).trackNow t).contents = (u.trackNow t).contents := by
    unfold State.trackNow
    rw [hl, setTrack_tb]
    subst hz
    exact settle_contents _ y7 y14 y16 y15
  obtain ⟨tr, e, t1, t2, t3, t4, t5, t6, t7, t8, t9, t10⟩ := post_rest (u.setTrack t z) t (mkPacket (resultDesc y out d r :: rest))
    (u.track t).cur.pirq (by rw [mkPacket_length, hcz]; simpa using hr)
  rw [hl] at t4 t5 t6 t7 t8 t9 t10
  have hw : State.when (u.track t).cur.pirq (State.irqSet .field t) (u.setTrack t z) =
      (u.when (u.track t).cur.pirq (State.irqSet .field t)).setTrack t z := by unfold State.when; split <;> rfl
  rw [e, hw, setTrack_setTrack]
  rw [hcz] at t1
  subst hz
  exact ⟨tr, y, rfl, t5.trans y3, t2, t3, t4.trans y6, t6.trans y4, t7.trans y8, t1, t8.trans (by simp [y5]),
    t9.trans y9, t10.trans y10⟩

/-! ### Stopping -/

theorem cut_self (u : State) : u.cut u := ⟨_, _, _, _, _, _, _, _, rfl⟩
theorem State.cut.trans {u v w : State} (h : u.cut v) (h' : v.cut w) : u.cut w := by
  obtain ⟨_, _, _, _, _, _, _, _, rfl⟩ := h; obtain ⟨_, _, _, _, _, _, _, _, rfl⟩ := h'; exact ⟨_, _, _, _, _, _, _, _, rfl⟩
theorem cut_setTrack (u : State) (i : Nat) (x : Track) : u.cut (u.setTrack i x) := ⟨_, _, _, _, _, _, _, _, rfl⟩
theorem cut_setChain (u : State) (i : Nat) (x : Chain) : u.cut (u.setChain i x) := ⟨_, _, _, _, _, _, _, _, rfl⟩
theorem cut_setRx (u : State) (i : Nat) (x : Rx) : u.cut (u.setRx i x) := ⟨_, _, _, _, _, _, _, _, rfl⟩
theorem cut_mirror (u : State) (typ : Nat) (b : Payload) : u.cut (u.mirror typ b) := by
  obtain ⟨_, _, _, _, h⟩ := mirror_rest typ b u; rw [h]; exact ⟨_, _, _, _, _, _, _, _, rfl⟩
theorem cut_endCredential (u : State) (t : Nat) : u.cut (u.endCredential t) := by
  unfold State.endCredential
  split
  · exact cut_self u
  · exact (cut_setTrack u _ _).trans (cut_mirror _ _ _)
theorem cut_dropChain (u : State) (x : Nat) : u.cut (u.dropChain x) :=
  (cut_setChain _ _ _).trans (cut_setChain _ _ _)
theorem cut_dropChains (u : State) (t : Nat) : u.cut (u.dropChains t) := by
  unfold State.dropChains
  have h : u.cut (u.each (u.lentChains t) State.dropChain) := each_keeps _ (fun i v hv => hv.trans (cut_dropChain v i)) (cut_self u)
  dsimp only
  split
  · split
    · exact h.trans (cut_dropChain _ _)
    · exact h
  · exact h
theorem cut_dropTraining (u : State) (t : Nat) : u.cut (u.dropTraining t) := by
  unfold State.dropTraining
  dsimp only
  split
  · exact each_keeps _ (fun i v hv => hv.trans (cut_setRx _ _ _)) (cut_self u)
  · exact cut_self u

theorem dropChain_track (u : State) (x i : Nat) : (u.dropChain x).track i = u.track i := rfl
theorem dropChains_track (u : State) (t i : Nat) : (u.dropChains t).track i = u.track i := by
  unfold State.dropChains
  have h : (u.each (u.lentChains t) State.dropChain).track i = u.track i :=
    each_keeps (P := fun v => v.track i = u.track i) _ (fun j v hv => (dropChain_track v j i).trans hv) rfl
  dsimp only
  split
  · split
    · exact (dropChain_track _ _ _).trans h
    · exact h
  · exact h
theorem dropTraining_track (u : State) (t i : Nat) : (u.dropTraining t).track i = u.track i := by
  unfold State.dropTraining
  dsimp only
  split
  · exact each_keeps (P := fun v => v.track i = u.track i) _ (fun j v hv => (track_setRx v j i _).trans hv) rfl
  · rfl

theorem endCredential_rest (u : State) (t i : Nat) : (u.endCredential t).track i =
    if i = t then { u.track t with service := none } else u.track i := by
  unfold State.endCredential
  split
  · rename_i h
    by_cases hi : i = t
    · subst hi; rw [if_pos rfl]
      obtain ⟨x, hx⟩ : ∃ x, u.track i = x := ⟨_, rfl⟩
      rw [hx] at h ⊢; cases x; simp_all
    · rw [if_neg hi]
  · rw [show ∀ (v : State) (a : Nat) (b : Payload), (v.mirror a b).track i = v.track i from fun v a b => by
      obtain ⟨_, _, _, _, h⟩ := mirror_rest a b v; rw [h]; rfl]
    unfold State.modTrack
    rw [track_setTrack]

/-- Stopping and aborting a track touch the tracks, chains, receive chains and the budget only, and close a credential read at
a twin's second. -/
theorem cut_stopTrack (u : State) (t reason : Nat) (post : Bool) : u.cut (u.stopTrack t reason post) := by
  obtain ⟨w, hw, hc⟩ : ∃ w, ((u.dropTraining t).dropChains t).endCredential t = w ∧ u.cut w :=
    ⟨_, rfl, ((cut_dropTraining u t).trans (cut_dropChains _ t)).trans (cut_endCredential _ t)⟩
  unfold State.stopTrack
  rw [hw]
  have h : ∀ x, u.cut (({ w with budget := { w.budget with waiters := w.budget.waiters.filter (· ≠ t) } } : State).setTrack t x) :=
    fun x => hc.trans ⟨_, _, _, _, _, _, _, _, rfl⟩
  dsimp only
  cases post
  · exact h _
  · rw [if_pos rfl]
    unfold State.postHalt
    dsimp only
    split
    · exact (h _).trans (cut_setTrack _ _ _)
    · exact (h _).trans (cut_setTrack _ _ _)
theorem cut_rampDown (u : State) (x : Nat) : u.cut (u.rampDown x) := cut_setChain _ _ _
theorem cut_endLent (u : State) (t : Nat) : u.cut (u.endLent t) := by
  unfold State.endLent
  split
  · exact cut_self u
  · split
    · exact cut_self u
    · exact (cut_dropChain _ _).trans (cut_setTrack _ _ _)
theorem cut_abortTrack (u : State) (reason t : Nat) : u.cut (u.abortTrack reason t) := by
  unfold State.abortTrack
  dsimp only
  split
  · exact cut_self u
  · split
    · exact cut_setTrack _ _ _
    · split
      · exact cut_setTrack _ _ _
      · split
        · exact (cut_endLent _ _).trans (cut_stopTrack _ _ _ _)
        · exact ((cut_endLent _ _).trans (cut_stopTrack _ _ _ _)).trans (cut_setTrack _ _ _)

end Sys2Proof.Machine
end

