-- ==== Sys2Proof/Laws/Kenier.lean ====
section
/-! SUPPORT. What issuing an instruction does (R251, R252, R257, R258, R260, R261, R272). -/

namespace Sys2Proof.Machine

open Sys2Proof

/-- An instruction whose conditions hold acts. -/
theorem State.Issues.issue {s : State} {k : Die} {r : IssueRule} (h : s.Issues k r) (act : State → State) :
    s.issue k r act = act (s.awake k) := by
  obtain ⟨runs, awake, lock, past, aligned, fetch, read, slot, guest, budget⟩ := h
  have h1 : ¬ (s.coreRuns k = false ∨ ((s.core k).waiting = true ∧ s.irqReady k = false)) := by
    rintro (h | ⟨h, h'⟩)
    · simp [runs] at h
    · simp [awake h] at h'
  have h2 : ¬ ((s.core k).lock = true ∧ ((s.core k).lockCycles ≥ 32 ∨ ((s.core k).lockCt ≥ 8 ∧ ¬ r.closes = true))) := by
    rintro ⟨h, h'⟩
    obtain ⟨a, b, -⟩ := lock h
    rcases h' with h' | ⟨h', n⟩
    · omega
    · exact b.elim (by omega) n
  have h3 : ¬ ((s.modCore k fun c => { c with waiting := false }).wordBad k (s.core k).pc.toNat = true) := by
    intro h
    have e : (s.modCore k fun c => { c with waiting := false }).wordBad k (s.core k).pc.toNat = s.wordBad k (s.core k).pc.toNat := by
      cases k <;> rfl
    rw [e, read] at h
    cases h
  have h4 : ¬ ((s.core k).lock = true ∧ ¬ r.inLock = true) := fun h => h.2 (lock h.1).2.2
  have h5 : ¬ ((s.core k).slot.isSome = true ∧ ¬ r.inSlot = true) := fun h => h.2 (slot h.1)
  have h6 : ¬ ((s.core k).guest = true ∧ ¬ r.inGuest = true) := fun h => h.2 (guest h.1)
  have h7 : ¬ ((s.modCore k fun c => { c with waiting := false }).guestSpent k = true ∧ (s.core k).slot = none) := by
    rintro ⟨h, n⟩
    have e : (s.modCore k fun c => { c with waiting := false }).guestSpent k = s.guestSpent k := by cases k <;> rfl
    rw [e] at h
    exact budget h n
  unfold State.issue
  dsimp only
  rw [if_neg h1, if_neg h2, if_neg h7, past]
  change (if false = true then _ else _) = _
  rw [if_neg (by decide), if_neg (by simp [aligned]), if_neg (by simp [fetch])]
  exact (if_neg h3).trans ((if_neg h4).trans ((if_neg h5).trans (if_neg h6)))

theorem wordFix_rest (k : Die) (a : Nat) (s : State) : ∃ e, s.wordFix k a = { s with ecc := e } := by
  cases k
  · exact eccFix_rest a 1 s
  · unfold State.wordFix State.hostEccFix; dsimp only; split
    · exact ⟨_, rfl⟩
    · exact ⟨s.ecc, rfl⟩

/-- What issuing changes: the core's wait, and the accounts of check bits. -/
theorem awake_rest (k : Die) (s : State) : ∃ e, s.awake k = ({ s with ecc := e } : State).setCore k { s.core k with waiting := false } := by
  obtain ⟨e, h⟩ := wordFix_rest k (s.core k).pc.toNat (s.modCore k fun c => { c with waiting := false })
  refine ⟨e, ?_⟩
  unfold State.awake
  rw [h]
  cases k <;> rfl

theorem awake_core (k : Die) (s : State) : (s.awake k).core k = { s.core k with waiting := false } := by
  obtain ⟨e, h⟩ := awake_rest k s
  rw [h, core_setCore]

@[simp] theorem awake_reg (k : Die) (s : State) (r : RegNo) : ((s.awake k).core k).reg r = (s.core k).reg r := by rw [awake_core]; rfl
@[simp] theorem awake_pc (k : Die) (s : State) : ((s.awake k).core k).pc = (s.core k).pc := by rw [awake_core]
@[simp] theorem awake_guest (k : Die) (s : State) : ((s.awake k).core k).guest = (s.core k).guest := by rw [awake_core]
@[simp] theorem awake_lock (k : Die) (s : State) : ((s.awake k).core k).lock = (s.core k).lock := by rw [awake_core]
@[simp] theorem awake_slot (k : Die) (s : State) : ((s.awake k).core k).slot = (s.core k).slot := by rw [awake_core]
@[simp] theorem awake_ph (k : Die) (s : State) : ((s.awake k).core k).ph = (s.core k).ph := by rw [awake_core]
@[simp] theorem awake_pl (k : Die) (s : State) : ((s.awake k).core k).pl = (s.core k).pl := by rw [awake_core]
@[simp] theorem awake_products (k : Die) (s : State) : ((s.awake k).core k).products = (s.core k).products := by rw [awake_core]
@[simp] theorem awake_bare (k : Die) (s : State) : ((s.awake k).core k).bare = (s.core k).bare := by rw [awake_core]
@[simp] theorem awake_cycle (k : Die) (s : State) : ((s.awake k).core k).cycle = (s.core k).cycle := by rw [awake_core]
@[simp] theorem awake_live (k : Die) (s : State) : ((s.awake k).core k).live = (s.core k).live := by rw [awake_core]; rfl
@[simp] theorem awake_target (k : Die) (s : State) (d : BitVec 16) : ((s.awake k).core k).target d = (s.core k).target d := by
  rw [awake_core]; rfl
@[simp] theorem awake_address (k : Die) (s : State) (far : Bool) (ra : RegNo) (i : BitVec 16) :
    ((s.awake k).core k).address far ra i = (s.core k).address far ra i := by rw [awake_core]; rfl

/-! ### What completing an instruction changes -/

theorem arriveAll_frame (n : Nat) (c : Kenier) : c.arriveAll n =
    { c with ph := (c.arriveAll n).ph, pl := (c.arriveAll n).pl, products := (c.arriveAll n).products } := by
  induction n generalizing c with
  | zero => rfl
  | succ n ih =>
    have ha : c.arrive = { c with ph := c.arrive.ph, pl := c.arrive.pl, products := c.arrive.products } := by
      unfold Kenier.arrive; split <;> rfl
    change c.arrive.arriveAll n = _
    have h := ih c.arrive
    show _ = { c with ph := (c.arrive.arriveAll n).ph, pl := (c.arrive.arriveAll n).pl, products := (c.arrive.arriveAll n).products }
    rw [ha] at h ⊢
    exact h

theorem age_frame (c : Kenier) : ∃ ph pl ps st, c.age = { c with ph := ph, pl := pl, products := ps, stale := st } := by
  unfold Kenier.age
  dsimp only
  rw [arriveAll_frame]
  exact ⟨_, _, _, _, rfl⟩

theorem age_ph {c : Kenier} (h : c.products = []) : c.age.ph = c.ph ∧ c.age.pl = c.pl := by
  unfold Kenier.age; rw [h]; exact ⟨rfl, rfl⟩

theorem setReg_frame (r : RegNo) (v : Word) (d : Nat) (c : Kenier) :
    c.setReg r v d = { c with win := (c.setReg r v d).win, house := (c.setReg r v d).house, stale := (c.setReg r v d).stale } := by
  unfold Kenier.setReg; dsimp only; split
  · rfl
  · split <;> rfl

theorem setReg_win (rd : RegNo) (v : Word) (d : Nat) (c : Kenier) (i : Nat) :
    Tab.get 0 (c.setReg rd v d).win i = if rd.toNat < 24 ∧ i = windowed c.wnow rd then v else Tab.get 0 c.win i := by
  unfold Kenier.setReg
  by_cases h1 : rd.toNat = 24
  · rw [if_pos h1, if_neg (by omega)]
  · rw [if_neg h1]; dsimp only
    by_cases h2 : rd.toNat < 24
    · rw [if_pos h2]; simp only [h2, true_and, Tab.get_set]
    · rw [if_neg h2, if_neg (show ¬ (rd.toNat < 24 ∧ i = windowed c.wnow rd) from fun h => h2 h.1)]

theorem setReg_house (rd : RegNo) (v : Word) (d : Nat) (c : Kenier) (i : Nat) :
    Tab.get 0 (c.setReg rd v d).house i = if 24 < rd.toNat ∧ i = rd.toNat % 8 then v else Tab.get 0 c.house i := by
  unfold Kenier.setReg
  by_cases h1 : rd.toNat = 24
  · rw [if_pos h1, if_neg (by omega)]
  · rw [if_neg h1]; dsimp only
    by_cases h2 : rd.toNat < 24
    · rw [if_pos h2, if_neg (show ¬ (24 < rd.toNat ∧ i = rd.toNat % 8) by omega)]
    · have h3 : 24 < rd.toNat := by omega
      rw [if_neg h2]; simp only [h3, true_and, Tab.get_set]

theorem stepDone_frame (k : Die) (s : State) : ∃ g, s.stepDone k = { s with dbg := g } ∧ (k = .host → g = s.dbg) := by
  cases k
  · unfold State.stepDone; split
    · exact ⟨_, rfl, fun h => by cases h⟩
    · split
      · exact ⟨_, rfl, fun h => by cases h⟩
      · exact ⟨_, rfl, fun h => by cases h⟩
  · unfold State.stepDone; rw [if_neg (by simp), if_neg (by simp)]; exact ⟨_, rfl, fun _ => rfl⟩

theorem cycles_frame (k : Die) (n : Nat) (s : State) : ∃ cy lc g, s.cycles k n =
    ({ s with guest := g } : State).setCore k { s.core k with cycle := cy, lockCycles := lc } ∧ (k = .host → g = s.guest) := by
  cases k
  · by_cases hg : (s.core .field).guest = true
    · refine ⟨(s.coreF.cycle + n) % 2 ^ 64, if s.coreF.lock then s.coreF.lockCycles + n else s.coreF.lockCycles,
        { s.guest with cycles := s.guest.cycles + n }, ?_, by intro h; cases h⟩
      unfold State.cycles State.when; dsimp only; rw [if_pos (by rw [hg]; rfl)]; rfl
    · refine ⟨(s.coreF.cycle + n) % 2 ^ 64, if s.coreF.lock then s.coreF.lockCycles + n else s.coreF.lockCycles,
        s.guest, ?_, by intro h; cases h⟩
      unfold State.cycles State.when; dsimp only; rw [if_neg (by simpa using hg)]; rfl
  · exact ⟨_, _, s.guest, rfl, fun _ => rfl⟩

theorem spend_frame (k : Die) (s : State) : ∃ cy lc g, s.spend k =
    ({ s with fresh := s.fresh + 1, guest := g } : State).setCore k { s.core k with cycle := cy, lockCycles := lc } ∧ (k = .host → g = s.guest) := by
  obtain ⟨cy, lc, g, h, hg⟩ := cycles_frame k (1 + Config.stallCycles s.fresh) s.draw
  refine ⟨cy, lc, g, ?_, hg⟩
  unfold State.spend
  rw [h]
  cases k <;> rfl

theorem retire_frame (k : Die) (s : State) : ∃ cy lc lct g d ph pl ps st, s.retire k =
    ({ s with fresh := s.fresh + 1, guest := g, dbg := d } : State).setCore k
      (({ s.core k with cycle := cy, lockCycles := lc, lockCt := lct, ph := ph, pl := pl, products := ps, stale := st } : Kenier).advance) ∧
      (k = .host → g = s.guest ∧ d = s.dbg) ∧ ((s.core k).products = [] → ph = (s.core k).ph ∧ pl = (s.core k).pl) := by
  obtain ⟨cy, lc, g, h, hg⟩ := spend_frame k s
  obtain ⟨d, h2, hd⟩ := stepDone_frame k ((s.spend k).modCore k fun c => { c with lockCt := if c.lock then c.lockCt + 1 else 0 }.age.advance)
  unfold State.retire
  dsimp only
  rw [h2, h]
  obtain ⟨ph, pl, ps, st, ha⟩ := age_frame { s.core k with cycle := cy, lockCycles := lc, lockCt := if (s.core k).lock then (s.core k).lockCt + 1 else 0 }
  refine ⟨cy, lc, (if (s.core k).lock then (s.core k).lockCt + 1 else 0), g, d, ph, pl, ps, st, ?_, ?_, ?_⟩
  rotate_left
  · intro hk; refine ⟨hg hk, ?_⟩; rw [hd hk, h]; subst hk; rfl
  · intro hp
    have := age_ph (c := { s.core k with cycle := cy, lockCycles := lc, lockCt := if (s.core k).lock then (s.core k).lockCt + 1 else 0 }) hp
    rw [ha] at this; exact this
  · cases k
    · show _ = ({ s with fresh := s.fresh + 1, guest := g, dbg := d } : State).setCore .field _
      simp only [State.modCore, core_setCore]
      have : ({ s.core .field with cycle := cy, lockCycles := lc, lockCt := if (s.core .field).lock then (s.core .field).lockCt + 1 else 0, ph := ph, pl := pl, products := ps, stale := st } : Kenier) = _ := ha.symm
      rw [this]; rfl
    · simp only [State.modCore, core_setCore]
      have : ({ s.core .host with cycle := cy, lockCycles := lc, lockCt := if (s.core .host).lock then (s.core .host).lockCt + 1 else 0, ph := ph, pl := pl, products := ps, stale := st } : Kenier) = _ := ha.symm
      rw [this]; rfl

theorem advance_spec (c : Kenier) : ∃ wn pc past slot, c.advance = { c with wnow := wn, pc := pc, past := past, slot := slot } ∧
    (c.slot = none → wn = c.wnow ∧ slot = none ∧ (if c.pc.toNat % 65536 = 0xFFFC then pc = c.pc ∧ past = true else pc = c.pc + 4 ∧ past = c.past)) ∧
    (∀ x, c.slot = some x → x.window < 3 → slot = none ∧ pc = BitVec.ofNat 25 x.target ∧
      wn = (if x.window = 1 then c.wnow + 1 else if x.window = 2 then c.wnow - 1 else c.wnow)) := by
  unfold Kenier.advance
  cases hs : c.slot with
  | none =>
    dsimp only; unfold Kenier.step; split
    · rename_i h; exact ⟨c.wnow, c.pc, true, none, by rw [← hs], fun _ => ⟨rfl, rfl, ⟨rfl, rfl⟩⟩, fun _ h => by cases h⟩
    · rename_i h; exact ⟨c.wnow, c.pc + 4, c.past, none, by rw [← hs], fun _ => ⟨rfl, rfl, ⟨rfl, rfl⟩⟩, fun _ h => by cases h⟩
  | some x =>
    dsimp only; split
    · rename_i h3; unfold Kenier.step; split
      · exact ⟨c.wnow, c.pc, true, none, rfl, (fun h => by cases h), (fun y hy h => by cases hy; omega)⟩
      · exact ⟨c.wnow, c.pc + 4, c.past, none, rfl, (fun h => by cases h), (fun y hy h => by cases hy; omega)⟩
    · exact ⟨_, _, _, _, rfl, (fun h => by cases h), (fun y hy h => by cases hy; exact ⟨rfl, rfl, rfl⟩)⟩

end Sys2Proof.Machine
end

