-- ==== Sys2Proof/Laws/Kept.lean ====
section
/-!
SUPPORT. What every operation keeps: the queue of waiting commands, and the canonical form of the three memories.
-/

namespace Sys2Proof.Machine

open Sys2Proof

/-- The queue is `q`, and the memories are in their canonical form. -/
structure Kept (q : List Instr) (s : State) : Prop where
  queue : s.pending = q
  mem : Tab.wf memDefault s.mem = true
  hostMem : Tab.wf (fun _ => (0 : Byte)) s.hostMem = true
  pktMem : Tab.wf (fun _ => (0 : Byte)) s.pktMem = true

variable {q : List Instr} {s : State}

@[simp] theorem Kept.queue_iff (h : Kept q s) : (s.pending = q) ↔ True := iff_true_intro h.queue
@[simp] theorem Kept.mem_iff (h : Kept q s) : Tab.wf memDefault s.mem = true := h.mem
theorem Kept.of_same {t : State} (h : Kept q s) (h1 : t.pending = s.pending) (h2 : t.mem = s.mem) (h3 : t.hostMem = s.hostMem)
    (h4 : t.pktMem = s.pktMem) : Kept q t := ⟨h1 ▸ h.queue, h2 ▸ h.mem, h3 ▸ h.hostMem, h4 ▸ h.pktMem⟩

end Sys2Proof.Machine
end

