-- ==== Sys2Proof/Laws/Memory.lean ====
section
/-!
SUPPORT. Reading and writing field memory: what a store changes, and that the canonical form stands.
-/

namespace Sys2Proof.Machine

open Sys2Proof

/-- A read of a memory after one byte has been written. -/
theorem memory_get_set (m : List Host.Cell) (a b : Nat) (v : Byte) :
    Tab.get (memDefault b) (Memory.set m a v) b = if b = a then v else Tab.get (memDefault b) m b := by
  by_cases h : b = a
  · subst h
    unfold Memory.set
    split
    · rename_i hv; rw [Tab.get_erase_same, hv, if_pos rfl]
    · rw [Tab.get_insert _ (Tab.lacks_erase b m), if_pos rfl, if_pos rfl]
  · rw [if_neg h]
    unfold Memory.set
    split
    · exact Tab.get_erase_other m h
    · rw [Tab.get_insert _ (Tab.lacks_erase a m), if_neg h, Tab.get_erase_other m h]

/-- One byte written keeps the canonical form. -/
theorem memory_set_wf {m : List Host.Cell} (h : Memory.wf m) (a : Nat) (v : Byte) : Memory.wf (Memory.set m a v) := Tab.wf_put h a v

/-- An address whose byte is held in plain memory cells: SRAM beside the roster, journal and capture banks (R279). -/
def plain (a : Nat) : Prop := bankOf a < 0x40 ∨ (0xC0 ≤ bankOf a ∧ bankOf a < 0xD0) ∨ (0xF0 ≤ bankOf a ∧ bankOf a < 0x100)

theorem writeByte_plain {a : Nat} (h : plain a) (v : Byte) (s : State) : s.writeByte a v = { s with mem := Memory.set s.mem a v } := by
  unfold plain at h
  unfold State.writeByte
  dsimp only
  rw [if_neg (by omega), if_neg (by omega)]

/-- A byte of plain memory reads as its cell. -/
theorem readByte_plain {a : Nat} (h : plain a) (s : State) : s.readByte a = Tab.get (memDefault a) s.mem a := by
  unfold plain at h
  unfold State.readByte
  dsimp only
  rw [if_neg (by omega), if_neg (by omega), if_neg (by omega), if_neg (by omega), if_neg (by omega), if_neg (by omega), if_neg (by omega)]

section
variable (s : State) (m : List Host.Cell)
theorem entry_cells (i : Nat) : ({ s with mem := m } : State).entry i = s.entry i := (rfl)
theorem ringRecord_cells (i : Nat) : ({ s with mem := m } : State).ringRecord i = s.ringRecord i := (rfl)
theorem captureNow_cells : ({ s with mem := m } : State).captureNow = s.captureNow := (rfl)
theorem gaspByte_cells (a : Nat) : ({ s with mem := m } : State).gaspByte a = s.gaspByte a := by
  unfold State.gaspByte; dsimp only
end

/-- A byte of the capture banks as a function of what it depends on. -/
def captureAt (l : List CaptureRun) (cell : Byte) (q b : Nat) : Byte :=
  match captureOwner l q with
  | some (r, k) => if b % 64 < 4 then (r.header k).getD (b % 64) 0 else Config.captureByte r.fill (64 * k + b % 64)
  | none => cell
theorem captureByte_eq (s : State) (b : Nat) : s.captureByte b =
    captureAt (s.captureNow :: s.capture.old) (Tab.get (memDefault b) s.mem b) ((b - addrOf 0xD0 0) / 64) b := (rfl)

theorem captureByte_cells {m : List Host.Cell} (s : State) (b : Nat) (e : Tab.get (memDefault b) m b = Tab.get (memDefault b) s.mem b) :
    ({ s with mem := m } : State).captureByte b = s.captureByte b := by
  rw [captureByte_eq, captureByte_eq, e]
  rfl

/-- A byte of field memory as a function of what it depends on. -/
def byteAt (e : Entry) (i : Nat) (r : Option JRec) (cap log anchor gasp cell : Byte) (a : Nat) : Byte :=
  let b := bankOf a
  if 0x40 ≤ b ∧ b < 0x80 then (e.bytes i).getD (a % 32) 0
  else if 0x80 ≤ b ∧ b < 0xC0 then
    match r with
    | some r => (jrecBytes r).getD (a % 64) 0
    | none => 0
  else if 0xD0 ≤ b ∧ b < 0xF0 then cap
  else if b = 0x135 then log
  else if b = 0x138 then anchor
  else if 0x136 ≤ b ∧ b < 0x138 then gasp
  else if 0x130 ≤ b ∧ b < 0x140 then Config.nvmByte a
  else cell
theorem readByte_eq (s : State) (a : Nat) : s.readByte a =
    byteAt (s.entry ((a - addrOf 0x40 0) / 32)) ((a - addrOf 0x40 0) / 32) (s.ringRecord ((a - addrOf 0x80 0) / 64)) (s.captureByte a)
      (logByte s.nvm.log s.nvm.logDropped a) (logByte s.nvm.anchor s.nvm.anchorDropped a) (s.gaspByte a) (Tab.get (memDefault a) s.mem a) a := (rfl)

/-- A byte is read from the cells by its own cell only. -/
theorem readByte_cells {m : List Host.Cell} (s : State) (b : Nat) (e : Tab.get (memDefault b) m b = Tab.get (memDefault b) s.mem b) :
    ({ s with mem := m } : State).readByte b = s.readByte b := by
  rw [readByte_eq, readByte_eq, entry_cells, ringRecord_cells, gaspByte_cells, captureByte_cells s b e, e]

/-- A stored byte is read back, and every other byte reads as before. -/
theorem readByte_writeByte {a : Nat} (h : plain a) (v : Byte) (s : State) (b : Nat) :
    (s.writeByte a v).readByte b = if b = a then v else s.readByte b := by
  rw [writeByte_plain h]
  by_cases hb : b = a
  · subst hb
    rw [readByte_plain h, if_pos rfl]
    exact (memory_get_set s.mem b b v).trans (if_pos rfl)
  · rw [if_neg hb]
    exact readByte_cells s b ((memory_get_set s.mem a b v).trans (if_neg hb))

theorem writeBytes_rest (l : List Byte) (a : Nat) (s : State) (h : ∀ i, i < l.length → plain (a + i)) :
    ∃ m, s.writeBytes a l = { s with mem := m } ∧
      ∀ b, (s.writeBytes a l).readByte b = if a ≤ b ∧ b < a + l.length then l.getD (b - a) 0 else s.readByte b := by
  induction l generalizing a s with
  | nil => exact ⟨s.mem, rfl, fun b => by rw [if_neg (by simp only [List.length_nil]; omega)]; rfl⟩
  | cons v l ih =>
    have h0 : plain a := h 0 (by simp)
    obtain ⟨m, e, e'⟩ := ih (a + 1) (s.writeByte a v) (fun i hi => by
      have := h (i + 1) (by simpa using hi); rwa [show a + 1 + i = a + (i + 1) by omega])
    refine ⟨m, ?_, ?_⟩
    · show State.writeBytes (a + 1) l (s.writeByte a v) = _
      rw [e, writeByte_plain h0]
    · intro b
      show (State.writeBytes (a + 1) l (s.writeByte a v)).readByte b = _
      rw [e', readByte_writeByte h0]
      by_cases hb : b = a
      · subst hb; rw [if_neg (by omega), if_pos rfl, if_pos (by simp)]; simp
      · by_cases hc : a + 1 ≤ b ∧ b < a + 1 + l.length
        · rw [if_pos hc, if_pos (by simp; omega), show b - a = (b - (a + 1)) + 1 by omega]; simp
        · rw [if_neg hc, if_neg hb, if_neg (by simp; omega)]

end Sys2Proof.Machine
end

