-- ==== Sys2Proof/WellFormed.lean ====
section
/-!
DEFINITION. Well-formed commands: every number of a command within the range that the spec gives its field, and every byte
string within its length. A meaning is defined for every command; an ill-formed one stands for nothing that can arrive.
-/

namespace Sys2Proof

/-- A number of `n` bits. -/
def fits (n v : Nat) : Bool := decide (v < 2 ^ n)

/-- A peer's address and port (R310, R340). -/
def Peer.wf (p : Peer) : Bool := match p with | .ring ip udp => fits 32 ip && fits 16 udp | .spi => true

/-- A message of a link: at most 532 bytes (R24). -/
def frameWf (f : List Byte) : Bool := decide (f.length ≤ 532)

/-- A unit: at most 1,408 bytes with its header (R306). -/
def LdpIn.wf (u : LdpIn) : Bool := u.peer.wf && decide (u.bytes.length ≤ 1408)

/-- A class A command: a request identifier of 16 bits and a body that a unit holds (R306, R311). -/
def CmdIn.wf (c : CmdIn) : Bool := c.peer.wf && fits 16 c.rid && decide (c.body.length ≤ 1400)

/-- An index and sub-index (R300). -/
def objWf (idx sub : Nat) : Bool := fits 16 idx && fits 8 sub

/-- A value of a dictionary object: what a WRITE unit holds (R306, R307). -/
def valueWf (v : List Byte) : Bool := decide (v.length ≤ 1396)

/-- A proxied request (R22, R25). -/
def DictReq.wf (q : DictReq) : Bool :=
  match q with | .read i s => objWf i s | .write i s v => objWf i s && decide (v.length ≤ 264)

/-- A journal record (R320). -/
def JRec.wf (r : JRec) : Bool :=
  fits 64 r.esn && fits 64 r.ts && fits 48 r.off && fits 8 r.group && fits 8 r.typ && decide (r.data.length = 32) && decide (r.rmac.length = 8)

/-- A tag: one of the four protocols and a UID of at most 10 bytes (R172, R186). -/
def TagId.wf (t : TagId) : Bool := decide (1 ≤ t.proto ∧ t.proto ≤ 4) && decide (t.uid.length ≤ 10)

/-- What one stage of an exchange gave (R131, R184). -/
def SlotObs.wf (a : SlotObs) : Bool := fits 16 a.bits && decide (a.data.length ≤ 280) && decide (a.data1.length ≤ 280) && decide (a.out < 2)

/-- The answers on one coil. -/
def CoilObs.wf (o : CoilObs) : Bool := fits 8 o.ca && o.answers.all fun l => l.all SlotObs.wf

/-- A coil result (R172, R173). -/
def CoilResult.wf (r : CoilResult) : Bool := fits 8 r.ca && decide (r.status ≤ 3) && fits 8 r.reason && r.tags.all TagId.wf

/-- A decoder type (R126). -/
def decoderWf (d : Nat) : Bool := decide (1 ≤ d ∧ d ≤ 11)

/-- A received frame: no byte beyond its bits, and a collision within it (R60, R139, R148). -/
def RxFrame.wf (r : RxFrame) : Bool :=
  fits 16 r.bits && decide (r.data.length * 8 < r.bits + 8) && fits 16 r.dbfs && fits 16 r.dbc && fits 16 r.residual && fits 16 r.phase

/-- Another decoder's frame (R129, R139). -/
def AltFrame.wf (a : AltFrame) : Bool := decide (a.out < 2) && decoderWf a.dec && fits 16 a.bits

/-- A chain's signal over a frame: at most three steps down from the highest range (R124). -/
def AgcRun.wf (a : AgcRun) : Bool := decide (a.overs ≤ 3)

/-- A number in Q1.15. -/
def q15Wf (x : Int) : Bool := decide (-32768 ≤ x ∧ x < 32768)

/-- A burst's measurement (R224). -/
def Burst.wf (b : Burst) : Bool := fits 8 b.ca && q15Wf b.i && q15Wf b.q

/-- A guest handler's return (R271). -/
def GuestReturn.wf (g : GuestReturn) : Bool := fits 32 g.status && fits 32 g.len

/-- An HSR frame: MAC addresses, sequence number, VLAN tag (R332 to R334). -/
def RingIn.wf (f : RingIn) : Bool := fits 48 f.src && fits 48 f.dst && fits 16 f.seq && fits 12 f.vid && fits 3 f.pcp

/-- A wave message (R365). -/
def WaveMsg.wf (w : WaveMsg) : Bool :=
  match w with
  | .start plan _ _ coils => decide (plan < 16) && coils.all (fits 8)
  | .part rs => rs.all CoilResult.wf
  | .finish rs => rs.all CoilResult.wf

/-- A tag-state change or service exchange: kinds 1 to 4 (R365, R499). -/
def ChangeMsg.wf (c : ChangeMsg) : Bool := decide (1 ≤ c.kind ∧ c.kind ≤ 4) && fits 32 c.handle && fits 8 c.ca && fits 16 c.what

/-- A reservation: an ESN block, a counter block of a slot, or an offset block (R365). -/
def ReserveMsg.wf (r : ReserveMsg) : Bool := decide (r.kind ≤ 2) && decide (r.slot < 16)

/-- A mirrored key change (R365). -/
def KeysMsg.wf (m : KeysMsg) : Bool :=
  match m with
  | .key kind slot _ => decide (kind ≤ 5) && fits 8 slot
  | .quarantine t _ => t.wf
  | .attempt t fails _ => t.wf && decide (fails.length ≤ 5)

/-- A mirrored position (R365). -/
def HostMsg.wf (m : HostMsg) : Bool :=
  match m with
  | .subscribe p mask => p.wf && fits 32 mask
  | .eventAck p esn => p.wf && fits 64 esn
  | .storeAck k off => decide (k < 4) && fits 48 off

/-- A mirrored setting (R365). -/
def DictMsg.wf (m : DictMsg) : Bool := match m with | .write i s v => objWf i s && valueWf v | .store => true

/-- A part of the copy (R374). -/
def ResyncPart.wf (p : ResyncPart) : Bool :=
  match p with
  | .counter k l => decide (k < 16) && fits 48 l
  | .reserve m => m.wf
  | .key kind slot _ => decide (kind ≤ 5) && fits 8 slot
  | .attempt t _ _ => t.wf
  | .record r => r.wf
  | .roster gen fresh => fits 32 gen && fits 18 fresh
  | .verified i k => fits 17 i && decide (k ≤ 32)
  | .released l => l.all fun p => fits 17 p.1 && fits 64 p.2
  | .igens l => l.all fun p => fits 17 p.1 && fits 15 p.2
  | .entry i b => fits 17 i && decide (b.length = 32)
  | .quarantine t => t.wf
  | .setting i s v => objWf i s && valueWf v
  | .last => true

/-- A door-link packet: a node below 1,024, a PSDU of at most 2,047 bytes (R442, R457). -/
def DoorPacket.wf (p : DoorPacket) : Bool :=
  (match p.node with | some n => decide (n < 1024) | none => true) && decide (p.psdu.length ≤ 2047) &&
  decide (p.seed ≤ 3) && p.symbols.all fun l => decide (l.length ≤ 384)

/-- A coupling of the survey (R471). -/
def Coupling.wf (c : Coupling) : Bool := fits 8 c.src && fits 8 c.victim && fits 16 c.mag && fits 16 c.phase

/-- What a calibration measured (R463, R471). -/
def CalMeasure.wf (m : CalMeasure) : Bool := fits 6 m.tune && m.couplings.all Coupling.wf && m.unacked.all (fits 8)

/-- A well-formed command. A constructor that the last arm covers bounds every operand by its type. -/
def Instr.wf (i : Instr) : Bool :=
  match i with
  | .linkHello _ f _ => frameWf f
  | .linkAck _ f => frameWf f
  | .linkResync _ f => frameWf f
  | .dictReq f p rid q => frameWf f && p.wf && fits 16 rid && q.wf
  | .dictRsp f p rid q st v => frameWf f && p.wf && fits 16 rid && q.wf && fits 8 st && valueWf v
  | .cmdReq f c => frameWf f && c.wf
  | .cmdRsp f p rid => frameWf f && p.wf && fits 16 rid
  | .porterEvent f rs => frameWf f && rs.all JRec.wf
  | .porterEventAck f esn => frameWf f && fits 64 esn
  | .porterJournal f => frameWf f
  | .porterJournalAck f k off => frameWf f && decide (k < 4) && fits 48 off
  | .powerState f _ _ => frameWf f
  | .time f ts => frameWf f && fits 64 ts
  | .report f => frameWf f
  | .faultMsg _ f => frameWf f
  | .porterEcho _ f => frameWf f
  | .meetRelease _ obs => obs.all CoilObs.wf
  | .trainingComplete _ depth _ _ _ => fits 8 depth
  | .acknowledgePulse p => fits 8 p.ma && fits 16 p.startNs && fits 16 p.lenNs
  | .feederAbsent _ ma => fits 8 ma
  | .feederOverload _ ma => fits 8 ma
  | .feederFenced _ fwd refl => fits 16 fwd && fits 16 refl
  | .feederRecovery _ ma => fits 8 ma
  | .aboveCap _ mw => fits 16 mw
  | .powerAtZero _ mw => fits 16 mw
  | .sof _ out dec m => decide (out < 2) && decoderWf dec && fits 32 m.ct && fits 32 m.lead
  | .frameReceived _ r0 r1 alts e =>
    r0.wf && (match r1 with | some r => r.wf | none => true) && alts.all AltFrame.wf && e.agc.all AgcRun.wf
  | .mapClear v => valueWf v
  | .frameEnd _ dur => fits 32 dur
  | .captureArm v => valueWf v
  | .apduStart v => valueWf v
  | .apduResult a => a.all SlotObs.wf
  | .templateWrite n v => decide (n < 64) && valueWf v
  | .templateStart v => valueWf v
  | .templateResult a g => a.all SlotObs.wf && (match g with | some x => x.wf | none => true)
  | .sweepStart _ v => valueWf v
  | .sweepClose obs => obs.all CoilObs.wf
  | .emptyRoster c => c.wf
  | .reportBuild v => valueWf v
  | .loadWrappedKey c => c.wf
  | .loadIssuerKey c => c.wf
  | .eraseSlot c => c.wf
  | .releaseUid c => c.wf
  | .securityStart v => valueWf v
  | .securityResult r => r.answers.all SlotObs.wf && r.answers2.all SlotObs.wf
  | .failuresLeaveWindow t => t.wf
  | .burstEnd _ bs => bs.all Burst.wf
  | .doorGroupWrite _ v => valueWf v
  | .relearn v => valueWf v
  | .guestPage v => valueWf v
  | .guestActivate c => c.wf
  | .enableCoreDebug c => c.wf
  | .store v => valueWf v
  | .restoreDefaults v => valueWf v
  | .checkNewImage c => c.wf
  | .read u => u.wf
  | .nextRecord p rid => p.wf && fits 16 rid
  | .write u => u.wf
  | .counterClear idx v => fits 16 idx && valueWf v
  | .subscribe u => u.wf
  | .eventAck u => u.wf
  | .eventResend p => p.wf
  | .journalAck u => u.wf
  | .setRightsMask c => c.wf
  | .ringFrame _ f => f.wf
  | .wakeFrame _ f => f.wf
  | .nodeForget m => fits 48 m
  | .entryForget m seq => fits 48 m && fits 16 seq
  | .ringLoopback v => valueWf v
  | .spiIdle _ f _ => decide (f.length ≤ 520)
  | .spiUnit _ f _ => decide (f.length ≤ 520)
  | .spiEcho _ f _ => decide (f.length ≤ 520)
  | .shiftRegisterEcho p v => p.wf && valueWf v
  | .heartbeat f => frameWf f
  | .fieldQuery f _ => frameWf f
  | .fieldReply f _ _ _ => frameWf f
  | .mJournal f => frameWf f
  | .mWave f w => frameWf f && w.wf
  | .mClose f gen digest => frameWf f && fits 32 gen && fits 64 digest
  | .mCounter f _ ctr => frameWf f && fits 48 ctr
  | .mReserve f r => frameWf f && r.wf
  | .mInflight f c => frameWf f && c.wf
  | .mService f c => frameWf f && c.wf
  | .mKeys f m => frameWf f && m.wf
  | .mDict f m => frameWf f && m.wf
  | .mHost f m => frameWf f && m.wf
  | .mPower f _ => frameWf f
  | .haltNotice f => frameWf f
  | .handover f => frameWf f
  | .pair f => frameWf f
  | .resyncData f parts => frameWf f && parts.all ResyncPart.wf
  | .loadTwinKey c => c.wf
  | .handOverLead c => c.wf
  | .acknowledgeFaults v => valueWf v
  | .acknowledgeAnyLevel c => c.wf
  | .releaseCapture v => valueWf v
  | .injectFault c => c.wf
  | .railOutOfRange rail mv => fits 8 rail && fits 16 mv
  | .calibrateNow v => valueWf v
  | .stfDetection opts => opts.all fun o => decide (1 ≤ o ∧ o ≤ 4)
  | .phr _ rate len => fits 5 rate && fits 11 len
  | .xhr _ addr gen => fits 16 addr && fits 8 gen
  | .packetReceived p => p.wf
  | .mapReport _ gen map => fits 8 gen && decide (map.length = 24)
  | .doorLinkLoopback v => valueWf v
  | .calibrationStart v => valueWf v
  | .calibrationDue code target => fits 8 code && fits 8 target
  | .calibrationDone m => m.wf
  | .commitCalibration c => c.wf
  | .hfLoopback v => valueWf v
  | _ => true

end Sys2Proof
end

