-- ==== Sys2Proof/Tests/Slice0.lean ====
section
/-!
SUPPORT. Tests of the model: every check of WellFormed.lean refuses an ill-formed term, worked examples of the spec, and for
every obligation with hypotheses states and operands that meet them, clause by clause.
-/

namespace Sys2Proof.Tests

open Sys2Proof Sys2Proof.Machine
set_option Elab.async false

/-! ### WellFormed: an ill-formed term for each check -/

/-- A message one byte too long (R24). -/
def badFrame : List Byte := List.replicate 533 0

/-- A request identifier of 17 bits. -/
def badCmd : CmdIn := { peer := .spi, rid := 65536, body := [] }

/-- A unit one byte too long (R306). -/
def badUnit : LdpIn := { peer := .spi, bytes := List.replicate 1409 0 }

/-- A value one byte too long (R306). -/
def badValue : List Byte := List.replicate 1397 0

/-- A record of which the stored MAC has seven bytes (R320). -/
def badRec : JRec := { esn := 0, ts := 0, off := 0, group := 0, typ := 0, data := List.replicate 32 0, rmac := List.replicate 7 0 }

/-- A tag of protocol 5. -/
def badTag : TagId := { proto := 5, uid := [] }

/-- An answer with more bits than LEN can show. -/
def badAnswer : SlotObs := { outcome := .ok, bits := 65536, data := [], data1 := [], out := 0 }

/-- A coil observation with that answer. -/
def badObs : CoilObs := { ca := 0, selectFailed := false, aborted := false, answers := [[badAnswer]] }

/-- A plain received frame of one byte. -/
def oneByte : RxFrame :=
  { data := [0], bits := 8, collision := none, collisionCt := 0, parityErr := none, symbolErr := false,
    framing := { sofLow := 1472, sofHigh := 320, eof := 1472, egt := 0, stopMissing := false }, eofAbsent := false,
    dbfs := 0, dbc := 0, residual := 0, phase := 0 }

/-- A frame of a ring port, all fields in range. -/
def ringIn : RingIn :=
  { src := 1, dst := 2 ^ 48 - 1, seq := 0, tagged := true, sizeOk := true, len := 100, fcsOk := true, vid := 0, pcp := 0,
    egressFull := false, body := .other }

/-- A packet without node. -/
def packet : DoorPacket := { node := none, mcs := 0, psdu := [], rssi := 0, snrs := [], msg := .other }

/-- A measurement. -/
def measure : CalMeasure := { value := 0, degrees := 0, tune := 0, pickupMv := 0, couplings := [], unacked := [], interrupted := false }

theorem test_wf_refuses_values :
    fits 8 256 = false ∧ (Peer.ring (2 ^ 32) 0).wf = false ∧ (Peer.ring 0 65536).wf = false ∧ frameWf badFrame = false ∧
    badUnit.wf = false ∧ LdpIn.wf { peer := .ring (2 ^ 32) 0, bytes := [] } = false ∧ badCmd.wf = false ∧
    CmdIn.wf { peer := .spi, rid := 0, body := List.replicate 1401 0 } = false ∧ objWf 65536 0 = false ∧ objWf 0 256 = false ∧
    valueWf badValue = false ∧ decoderWf 0 = false ∧ decoderWf 12 = false ∧ q15Wf 32768 = false ∧ q15Wf (-32769) = false := by
  decide +kernel

theorem test_wf_refuses_records :
    (DictReq.read 65536 0).wf = false ∧ (DictReq.write 0 256 []).wf = false ∧ (DictReq.write 0 0 (List.replicate 265 0)).wf = false ∧
    badRec.wf = false ∧ JRec.wf { badRec with rmac := List.replicate 8 0, data := [] } = false ∧
    JRec.wf { badRec with rmac := List.replicate 8 0, esn := 2 ^ 64 } = false ∧ JRec.wf { badRec with rmac := List.replicate 8 0, group := 256 } = false ∧
    badTag.wf = false ∧ TagId.wf { proto := 1, uid := List.replicate 11 0 } = false ∧ badObs.wf = false ∧ CoilObs.wf { badObs with ca := 256, answers := [] } = false ∧
    SlotObs.wf { badAnswer with bits := 0, out := 2 } = false ∧ SlotObs.wf { badAnswer with bits := 0, data := List.replicate 281 0 } = false ∧
    SlotObs.wf { badAnswer with bits := 0, data1 := List.replicate 281 0 } = false ∧
    CoilResult.wf { ca := 0, status := 4, reason := 0, own := true, tags := [] } = false ∧
    CoilResult.wf { ca := 0, status := 0, reason := 256, own := true, tags := [] } = false ∧
    CoilResult.wf { ca := 0, status := 0, reason := 0, own := true, tags := [badTag] } = false := by
  decide +kernel

theorem test_wf_refuses_measurements :
    RxFrame.wf { oneByte with bits := 65536 } = false ∧ RxFrame.wf { oneByte with dbfs := 65536 } = false ∧
    RxFrame.wf { oneByte with dbc := 65536 } = false ∧ RxFrame.wf { oneByte with residual := 65536 } = false ∧
    RxFrame.wf { oneByte with phase := 65536 } = false ∧ RxFrame.wf { oneByte with bits := 0 } = false ∧ oneByte.wf = true ∧
    AltFrame.wf { out := 2, dec := 1, bits := 0, outcome := .ok } = false ∧ AltFrame.wf { out := 0, dec := 0, bits := 0, outcome := .ok } = false ∧
    AltFrame.wf { out := 0, dec := 1, bits := 65536, outcome := .ok } = false ∧ AgcRun.wf { overs := 4, peaks := [] } = false ∧
    Burst.wf { ca := 256, i := 0, q := 0, energy := 0 } = false ∧ Burst.wf { ca := 0, i := 32768, q := 0, energy := 0 } = false ∧
    Burst.wf { ca := 0, i := 0, q := -32769, energy := 0 } = false ∧
    GuestReturn.wf { status := 2 ^ 32, len := 0, resp := [] } = false ∧ GuestReturn.wf { status := 0, len := 2 ^ 32, resp := [] } = false := by
  decide +kernel

theorem test_wf_refuses_messages :
    RingIn.wf { ringIn with src := 2 ^ 48 } = false ∧ RingIn.wf { ringIn with seq := 65536 } = false ∧ RingIn.wf { ringIn with vid := 4096 } = false ∧
    RingIn.wf { ringIn with pcp := 8 } = false ∧ ringIn.wf = true ∧
    (WaveMsg.start 16 0 0 []).wf = false ∧ (WaveMsg.start 0 0 0 [256]).wf = false ∧ (WaveMsg.finish [⟨0, 4, 0, true, []⟩]).wf = false ∧ (WaveMsg.part [⟨0, 4, 0, true, []⟩]).wf = false ∧
    ChangeMsg.wf { opened := true, kind := 0, handle := 0, ca := 0, what := 0 } = false ∧
    ChangeMsg.wf { opened := true, kind := 5, handle := 0, ca := 0, what := 0 } = false ∧
    ReserveMsg.wf { kind := 3, slot := 0, first := 0 } = false ∧ ReserveMsg.wf { kind := 0, slot := 16, first := 0 } = false ∧
    (KeysMsg.key 6 0 []).wf = false ∧ (KeysMsg.quarantine badTag true).wf = false ∧ (KeysMsg.attempt badTag [] true).wf = false ∧
    (KeysMsg.attempt ⟨1, []⟩ [0, 0, 0, 0, 0, 0] true).wf = false ∧ (HostMsg.subscribe .spi (2 ^ 32)).wf = false ∧
    (HostMsg.eventAck .spi (2 ^ 64)).wf = false ∧ (HostMsg.storeAck 4 0).wf = false ∧ (DictMsg.write 65536 0 []).wf = false := by
  decide +kernel

theorem test_wf_refuses_copies :
    (ResyncPart.counter 16 0).wf = false ∧ (ResyncPart.reserve ⟨3, 0, 0⟩).wf = false ∧ (ResyncPart.key 6 0 []).wf = false ∧
    (ResyncPart.attempt badTag [] true).wf = false ∧ (ResyncPart.record badRec).wf = false ∧ (ResyncPart.roster (2 ^ 32) 0).wf = false ∧ (ResyncPart.roster 0 (2 ^ 18)).wf = false ∧
    (ResyncPart.verified (2 ^ 17) 0).wf = false ∧ (ResyncPart.verified 0 33).wf = false ∧ (ResyncPart.released [(2 ^ 17, 0)]).wf = false ∧
    (ResyncPart.igens [(0, 2 ^ 15)]).wf = false ∧
    (ResyncPart.entry 0 []).wf = false ∧ (ResyncPart.quarantine badTag).wf = false ∧ (ResyncPart.setting 0 256 []).wf = false ∧
    DoorPacket.wf { packet with node := some 1024 } = false ∧ DoorPacket.wf { packet with psdu := List.replicate 2048 0 } = false ∧
    DoorPacket.wf { packet with seed := 4 } = false ∧ DoorPacket.wf { packet with symbols := [List.replicate 385 false] } = false ∧
    Coupling.wf { src := 0, victim := 256, mag := 0, phase := 0 } = false ∧ CalMeasure.wf { measure with tune := 64 } = false ∧
    CalMeasure.wf { measure with unacked := [256] } = false := by decide +kernel

/-- Every message row refuses a message that is too long (R24). -/
theorem test_wf_refuses_frames :
    ([.linkHello .twin badFrame none, .linkAck .twin badFrame, .linkResync .twin badFrame, .dictReq badFrame .spi 0 (.read 0 0),
      .dictRsp badFrame .spi 0 (.read 0 0) 0 [], .cmdReq badFrame ⟨.spi, 0, []⟩, .cmdRsp badFrame .spi 0, .porterEvent badFrame [],
      .porterEventAck badFrame 0, .porterJournal badFrame, .porterJournalAck badFrame 0 0, .powerState badFrame .twin .exchange, .time badFrame 0,
      .report badFrame, .faultMsg .twin badFrame, .porterEcho .twin badFrame, .heartbeat badFrame, .fieldQuery badFrame 0,
      .fieldReply badFrame 0 0 0] : List Instr).all (fun i => !i.wf) = true ∧
    ([.mJournal badFrame, .mWave badFrame (.finish []), .mClose badFrame 0 0, .mCounter badFrame 0 0, .mReserve badFrame ⟨0, 0, 0⟩,
      .mInflight badFrame ⟨true, 1, 0, 0, 0⟩, .mService badFrame ⟨true, 1, 0, 0, 0⟩, .mKeys badFrame (.key 0 0 []), .mDict badFrame .store,
      .mHost badFrame (.storeAck 0 0), .mPower badFrame true, .haltNotice badFrame, .handover badFrame, .pair badFrame,
      .resyncData badFrame []] : List Instr).all (fun i => !i.wf) = true := by decide +kernel

/-- The message rows refuse contents that are out of range. -/
theorem test_wf_refuses_contents :
    ([.dictReq [] .spi 65536 (.read 0 0), .dictReq [] .spi 0 (.read 0 256), .dictRsp [] .spi 0 (.read 0 0) 256 [], .dictRsp [] .spi 0 (.read 0 0) 0 badValue,
      .cmdReq [] badCmd, .cmdRsp [] .spi 65536, .porterEvent [] [badRec], .porterEventAck [] (2 ^ 64), .porterJournalAck [] 4 0,
      .porterJournalAck [] 0 (2 ^ 48), .time [] (2 ^ 64)] : List Instr).all (fun i => !i.wf) = true ∧
    ([.mWave [] (.start 16 0 0 []), .mClose [] (2 ^ 32) 0, .mClose [] 0 (2 ^ 64), .mCounter [] 0 (2 ^ 48), .mReserve [] ⟨3, 0, 0⟩,
      .mInflight [] ⟨true, 5, 0, 0, 0⟩, .mService [] ⟨true, 0, 0, 0, 0⟩, .mKeys [] (.key 6 0 []), .mDict [] (.write 65536 0 []),
      .mHost [] (.storeAck 4 0), .resyncData [] [.counter 16 0]] : List Instr).all (fun i => !i.wf) = true := by decide +kernel

/-- The rows of the field, the receivers and the exchanges refuse operands out of range. -/
theorem test_wf_refuses_field_rows :
    ([.meetRelease 0 [badObs], .trainingComplete 0 256 0 0 0, .feederAbsent 0 256, .feederOverload 0 256, .feederFenced 0 65536 0,
      .feederFenced 0 0 65536, .feederRecovery 0 256, .aboveCap 0 65536, .powerAtZero 0 65536, .sof 0 2 1 ⟨0, 0⟩, .sof 0 0 0 ⟨0, 0⟩,
      .sof 0 0 1 ⟨2 ^ 32, 0⟩, .sof 0 0 1 ⟨0, 2 ^ 32⟩, .acknowledgePulse ⟨0, 256, 0, 0⟩, .acknowledgePulse ⟨0, 0, 65536, 0⟩,
      .acknowledgePulse ⟨0, 0, 0, 65536⟩, .frameEnd 0 (2 ^ 32),
      .frameReceived 0 { oneByte with bits := 0 } none [] ⟨[], 0⟩, .frameReceived 0 oneByte (some { oneByte with bits := 0 }) [] ⟨[], 0⟩,
      .frameReceived 0 oneByte none [⟨0, 0, 0, .ok⟩] ⟨[], 0⟩, .frameReceived 0 oneByte none [] ⟨[⟨4, []⟩], 0⟩, .mapClear badValue, .captureArm badValue] : List Instr).all (fun i => !i.wf) = true ∧
    ([.apduStart badValue, .apduResult [badAnswer], .templateWrite 64 [], .templateWrite 0 badValue, .templateStart badValue,
      .templateResult [badAnswer] none, .templateResult [] (some ⟨2 ^ 32, 0, []⟩), .sweepStart 0 badValue, .sweepClose [badObs],
      .emptyRoster badCmd, .reportBuild badValue, .securityStart badValue, .securityResult ⟨[badAnswer], []⟩, .securityResult ⟨[], [badAnswer]⟩, .failuresLeaveWindow badTag,
      .burstEnd .lantern [⟨256, 0, 0, 0⟩], .doorGroupWrite 0 badValue, .relearn badValue] : List Instr).all (fun i => !i.wf) = true := by
  decide +kernel

/-- The rows of the commands, the ports and the links refuse operands out of range. -/
theorem test_wf_refuses_port_rows :
    ([.loadWrappedKey badCmd, .loadIssuerKey badCmd, .eraseSlot badCmd, .releaseUid badCmd, .guestPage badValue, .guestActivate badCmd,
      .enableCoreDebug badCmd, .store badValue, .restoreDefaults badValue, .checkNewImage badCmd, .setRightsMask badCmd, .loadTwinKey badCmd,
      .handOverLead badCmd, .acknowledgeAnyLevel badCmd, .injectFault badCmd, .commitCalibration badCmd] : List Instr).all (fun i => !i.wf) = true ∧
    ([.read badUnit, .write badUnit, .subscribe badUnit, .eventAck badUnit, .journalAck badUnit, .nextRecord (.ring (2 ^ 32) 0) 0, .nextRecord .spi 65536,
      .counterClear 65536 [], .counterClear 0 badValue, .eventResend (.ring 0 65536), .ringFrame .a { ringIn with src := 2 ^ 48 },
      .wakeFrame .a { ringIn with seq := 65536 }, .nodeForget (2 ^ 48), .entryForget (2 ^ 48) 0, .entryForget 0 65536, .ringLoopback badValue,
      .spiIdle .sel0 (List.replicate 521 0) false, .spiUnit .sel0 (List.replicate 521 0) false, .spiEcho .sel0 (List.replicate 521 0) false,
      .shiftRegisterEcho (.ring (2 ^ 32) 0) [], .shiftRegisterEcho .spi badValue] : List Instr).all (fun i => !i.wf) = true ∧
    ([.acknowledgeFaults badValue, .releaseCapture badValue, .railOutOfRange 256 0, .railOutOfRange 0 65536, .calibrateNow badValue, .stfDetection [0],
      .stfDetection [5], .phr true 32 0, .phr true 0 2048, .xhr true 65536 0, .xhr true 0 256, .packetReceived { packet with node := some 1024 },
      .mapReport 0 256 (List.replicate 24 0), .mapReport 0 0 [], .doorLinkLoopback badValue, .calibrationStart badValue, .calibrationDue 256 0,
      .calibrationDue 0 256, .calibrationDone { measure with tune := 64 }, .hfLoopback badValue] : List Instr).all (fun i => !i.wf) = true := by
  decide +kernel

/-! ### Witnesses: every clause of an obligation has a state and operands that meet its hypotheses -/

/-- A running module: mains present, its last-gasp slot armed, everything else as at reset. -/
def up : State := { nvm := { armed := true } }

/-- Values of dictionary objects. -/
def objs (s : State) (l : List (Nat × Nat × List Byte)) : State := l.foldl (fun s p => s.setObj p.1 p.2.1 p.2.2) s

/-- A module whose ports serve LDP, without twin. -/
def served : State := { up with power := { hostReady := true }, linkF := { up := true }, linkH := { up := true } }

/-- Words of a stage: W0 to W5; the map is all 0. -/
def stageBytes (w0 w2 w3 w4 w5 : Nat) : List Byte := natLE 4 w0 ++ natLE 4 0 ++ natLE 4 w2 ++ natLE 4 w3 ++ natLE 4 w4 ++ natLE 4 w5

/-- Track `t` waits for the start of stage 0, which has these words; tables and buffers lie at their addresses. -/
def staged (t w0 w2 w3 w4 w5 : Nat) (tables : List (Nat × List Byte)) (s : State) : State :=
  tables.foldl (fun s p => s.writeBytes p.1 p.2)
    ((s.writeBytes (stageAddr 0) (stageBytes w0 w2 w3 w4 w5)).setTrack t { s.track t with st := 1, first := true })

/-- The stage a track of a state waits for. -/
def stageOf (s : State) (t : Nat) : Stage := Stage.ofBytes (s.stageBytes t)

/-- Track 0 waits for a stage of a kind with nothing but its kind. -/
def plain (k : Nat) : State := staged 0 k 0 0 0 0 [] up

/-- Track 0 in a state. -/
def tracked (tr : Track) : State := up.setTrack 0 tr

/-- Every kind of stage begins on a waiting track (R58, R62). -/
theorem test_witness_Begins : ∀ k : Fin 16, (plain k).Begins 0 k (stageOf (plain k) 0) 0 0 false := fun k =>
  { may := by revert k; decide +kernel, stage := rfl, isKind := by revert k; decide +kernel, good := by revert k; decide +kernel
    rsv0 := by revert k; decide +kernel, rsv2 := by revert k; decide +kernel, own := by revert k; decide +kernel
    due := by revert k; decide +kernel }

theorem test_witness_TimeSourcesFollowReports :
    (up.nvm.log.length < 3840) ∧
    ((objs up [(0x6002, 1, [1])]).commits ∧ RefSrc.refin10 ≠ (objs up [(0x6002, 1, [1])]).tb.ref ∧
      (objs up [(0x6002, 1, [1])]).objBool 0x6002 1 = decide (RefSrc.refin10 ≠ .crystal)) ∧
    (let s : State := { objs up [(0x6002, 1, [1])] with tb := { ref := .refin27 } };
      s.commits ∧ s.tb.ref ≠ .crystal ∧ s.objBool 0x6002 1 = true ∧ s.clear 6) ∧
    ({ power := { source := 1 } } : State).power.source = 1 ∧ up.power.source ≠ 1 ∧
    (let s : State := { tb := { src := 0, missed := 8, present := true } }; s.tb.src = 0 ∧ 8 ≤ s.tb.missed ∧ s.tb.present = true) := by
  unfold State.commits State.clear; decide +kernel

/-- A free-running clock just before the edge that completes a mains cycle of 20 ms. -/
def atEdge (src edgeRun : Nat) (mp : Rat) : State := { up with tb := { cc := 271200, src := src, mp := mp, refEdge := some 0, edgeRun := edgeRun } }

theorem test_witness_ZeroCrossEdgesAcquireAndLock :
    up.power.state < 2 ∧ up.tb.refEdge = none ∧
    (let u := atEdge 0 4 2048; u.tb.src = 0 ∧ -2048 ≤ u.phaseError ∧ u.phaseError ≤ 2048) ∧
    (let u := atEdge 0 4 2049; u.tb.src = 0 ∧ ¬ (-2048 ≤ u.phaseError ∧ u.phaseError ≤ 2048)) ∧
    (let p := (215197 + 2 ^ 48 - 0) % 2 ^ 48; (1 : Nat) ≠ 0 ∧ ¬ (2151972 ≤ p * 10 ∧ p * 10 ≤ 2885568)) ∧
    (let u := atEdge 1 2 0; u.tb.src ≠ 0 ∧ u.tb.edgeRun + 1 < 4 ∧ u.tb.refEdge = some 0 ∧
      2151972 ≤ (u.tb.cc + 2 ^ 48 - 0) % 2 ^ 48 * 10 ∧ (u.tb.cc + 2 ^ 48 - 0) % 2 ^ 48 * 10 ≤ 2885568) ∧
    (let u := atEdge 1 3 0; u.tb.src ≠ 0 ∧ 4 ≤ u.tb.edgeRun + 1 ∧ u.commits ∧
      2151972 ≤ (u.tb.cc + 2 ^ 48 - 0) % 2 ^ 48 * 10 ∧ (u.tb.cc + 2 ^ 48 - 0) % 2 ^ 48 * 10 ≤ 2885568) := by
  unfold State.commits; decide +kernel

theorem test_witness_CycleEndCountsMcc : up.power.state < 2 ∧ up.tb.mp < 65536 ∧ 0 < up.mpRate ∧ up.mpRate ≤ 1 := by decide +kernel

/-- The seven stages of this statement begin by test_witness_Begins; here the stacks. -/
theorem test_witness_FlowStagesMoveTheTrackOn :
    (let s := (plain 10).setTrack 0 { (plain 10).track 0 with stack := [1, 2, 3, 4, 5, 6, 7] }; (s.track 0).stack.length < 8 ∧ s.mayBegin 0 = true) ∧
    (let s := (plain 10).setTrack 0 { (plain 10).track 0 with stack := [1, 2, 3, 4, 5, 6, 7, 8] }; 8 ≤ (s.track 0).stack.length ∧ s.mayBegin 0 = true) ∧
    (let s := (plain 11).setTrack 0 { (plain 11).track 0 with stack := [5] }; (s.track 0).stack = 5 :: [] ∧ s.mayBegin 0 = true) ∧
    ((plain 11).track 0).stack = [] := by decide +kernel

theorem test_witness_StoppingATrackCutsAndPosts :
    ((up.trackNow 0).contents.length < 32) ∧ (32 ≤ ((tracked { queue := List.replicate 32 [] }).trackNow 0).contents.length) ∧
    (up.chain 0).lentTo = none ∧ (up.chain 7).lentTo = none ∧ (up.track 0).service = none := by decide +kernel

theorem test_witness_TrackControlsAct :
    ((up.track 0).st = 0 ∧ up.fltF.safe = false ∧ up.sweepTracks.contains 0 = false ∧ (objs up [(0xB001, 1, [1])]).objNat 0xB001 1 ≠ 4) ∧
    (let s := objs up [(0xB001, 1, [4])]; s.objNat 0xB001 1 = 4 ∧ s.power.trans = false ∧ ∀ i < 9, (s.track i).st ≠ 3) ∧
    ((tracked { st := 1 }).track 0).st ≠ 0 ∧ ({ up with fltF := { safe := true } } : State).fltF.safe = true ∧
    ((tracked { st := 1 }).track 0).st ∈ [1, 3, 4] ∧ ((tracked { st := 4 }).track 0).st ∈ [1, 3, 4] ∧
    (((tracked { st := 2, phase := .budget }).track 0).st = 2 ∧ ((tracked { st := 2, phase := .budget }).track 0).phase ∈ [.budget, .trainWait]) ∧
    (((tracked { st := 2, phase := .listen }).track 0).st = 2 ∧ ((tracked { st := 2, phase := .listen }).track 0).phase ∉ [.budget, .trainWait]) ∧
    ((tracked { st := 5 }).track 0).st = 5 ∧ ((tracked { st := 6 }).track 0).st ∈ [0, 6] ∧ ((tracked { st := 2 }).track 0).st ≠ 3 ∧
    (((tracked { st := 2 }).track 0).st ≠ 0 ∧ ((tracked { st := 2 }).track 0).heldPkt = []) ∧
    (let x := (tracked { st := 5, heldPkt := [[]], heldThen := 3 }).track 0; x.st ≠ 0 ∧ x.heldPkt ≠ [] ∧ x.heldThen ∈ [1, 2, 3]) ∧
    (((tracked { st := 3 }).track 0).st = 3 ∧ (0x7FFF : Word).getLsbD 15 = false) ∧
    ((0x8000 : Word).getLsbD 15 = true) ∧ ((tracked { st := 3, raw := [8] }).track 0).cur.kind = 8 ∧
    (2 ≤ ((tracked { queue := [[], []] }).trackNow 0).queue.length) ∧ ((up.trackNow 0).entering = [] ∧ (up.trackNow 0).heldPkt = []) ∧
    ((tracked { entering := [[], []] }).trackNow 0).entering ≠ [] ∧
    (let x := (tracked { st := 5, heldPkt := [[]], heldThen := 1, queue := List.replicate 31 [] }).trackNow 0;
      x.heldPkt ≠ [] ∧ x.contents.length + x.heldPkt.length ≤ 32 ∧ x.heldThen = 1 ∧ x.heldIrq = false) ∧
    (let x := (tracked { st := 1, phase := .horizon 100 }).track 0; x.phase = .horizon 100 ∧ x.st = 1 ∧ x.cur.pmode = 0) := by decide +kernel

/-- A map without a quiet bin: a stage that waits for one does not find it. -/
theorem test_noQuietBin :
    let s : State := { staged 0 (5 + 16 * 3) 0 0 0 0 [] up with bins := (List.range 64).map fun i => (i, { (up.bin i) with quiet := false }) }
    (match s.due 0 (stageOf s 0) with | .noBin _ => true | _ => false) = true := by decide +kernel

theorem test_witness_MeetDeferPostMarkStages :
    (let s := staged 0 6 0x10000 0 0 0 [] up; s.mayBegin 0 = true ∧ bitsOf (stageOf s 0).mask 0 1 = 1) ∧
    ((plain 8).trackNow 0).contents.length < 32 ∧ ((plain 12).trackNow 0).contents.length < 32 ∧
    (let s := staged 0 9 0 0 0 0 [(slotAddr 0, [1])] up; s.mayBegin 0 = true ∧ ((s.track 0).repl).getD (stageOf s 0).fbuf = 0 ∧ (0 : Nat) < 0xFFF ∧
      1 ≤ (s.readByte (slotAddr 0)).toNat ∧ (s.readByte (slotAddr 0)).toNat ≤ 4 ∧ (s.readStage 0).eccBad (slotAddr 0) 64 = false ∧ (s.trackNow 0).contents.length ≤ 28) ∧
    (let s := tracked { st := 4, meetMask := 1 }; s.meetComplete 1 = true ∧ s.isSweepMeet 1 = false ∧ (1 : BitVec 9).getLsbD 0 = true) := by
  decide +kernel

/-- A waveform profile of MODTYPE 1, CODING 0, RATE 0 (R102 to R104). -/
def okProfile : List Byte := [1, 0, 0, 0] ++ zeros 12 ++ (zeros 15 ++ [255]) ++ (zeros 15 ++ [255])

/-- A listen set of one decoder of type 1 (R127). -/
def okLset : List Byte := [1, 0, 0, 0, 1]

/-- The tables of an air stage: profile 0, listen set 0, a frame of one byte in slot 0. -/
def airTables : List (Nat × List Byte) := [(airAddr 0, okProfile), (lsetAddr 0, okLset), (slotAddr 0, [8, 0, 0, 0, 0x26])]

/-- Track 0 with coil 0 selected waits for an air stage of a kind. -/
def airStage (k : Nat) (tables : List (Nat × List Byte)) : State :=
  let s := staged 0 k 0 0 0 0 tables up
  s.setTrack 0 { s.track 0 with coil := some 0, members := [⟨0, 0, 0, 1, false⟩] }

theorem test_witness_EmissionAndWindowsOpen :
    (let s := airStage 2 airTables; let g := stageOf s 0; let d := s.stageData 0 g; s.nvm.armed = true ∧ s.ownLent 0 = false ∧ s.mayBegin 0 = true ∧
      s.due 0 g = .start 0 0 false ∧ g.kind = 2 ∧ (s.readStage 0).emitCheck 0 g = .good ∧ fieldLE d.profile 0 1 ≠ 0 ∧
      (s.begun 0 0 0 false g).eccBad (slotAddr (s.fbuf 0 g)) (4 + (d.bits + 7) / 8) = false) ∧
    (let s : State := { airStage 2 airTables with chains := [(0, { lentTo := some 1 })] }; let g := stageOf s 0; s.ownLent 0 = true ∧
      (s.readStage 0).emitCheck 0 g = .good) ∧
    (let s := airStage 2 []; let g := stageOf s 0; s.ownLent 0 = false ∧ s.due 0 g = .start 0 0 false ∧ (s.readStage 0).emitCheck 0 g = .good ∧
      fieldLE (s.stageData 0 g).profile 0 1 = 0 ∧ g.posts 0 = false) ∧
    (let s := airStage 4 airTables; let g := stageOf s 0; let d := s.stageData 0 g; s.mayBegin 0 = true ∧ s.due 0 g = .start 0 0 false ∧
      (s.readStage 0).emitCheck 0 g = .good ∧ (s.readStage 0).listenCheck 0 g = .good ∧ (s.begun 0 0 0 false g).inputsReady 0 g ∧
      fieldLE d.profile 0 1 ≠ 0 ∧ (s.begun 0 0 0 false g).eccBad (slotAddr (s.fbuf 0 g)) (4 + (d.bits + 7) / 8) = false) ∧
    (let s := airStage 3 airTables; let g := stageOf s 0; s.mayBegin 0 = true ∧ s.due 0 g = .start 0 0 false ∧ (s.readStage 0).listenCheck 0 g = .good ∧
      (s.begun 0 0 0 false g).inputsReady 0 g) ∧
    (let s := tracked { st := 2, phase := .emit }; (s.track 0).phase = .emit ∧ (s.track 0).st ≠ 6 ∧ (s.track 0).cur.posts 0 = false) ∧
    ((tracked { st := 2, phase := .exchangeEmit }).track 0).phase = .exchangeEmit := by
  unfold State.inputsReady; unfold State.begun; decide +kernel

/-- The wait for a lent chain ends while an uncorrectable error stands in the buffer. -/
theorem test_witness_EmissionAndWindowsOpen_ecc :
    let s : State := { airStage 2 airTables with ecc := { bad := [(slotAddr 0 / 8, 2)] } }
    let u := s.setTrack 0 { s.track 0 with st := 2, phase := .lentWait, raw := s.stageBytes 0, data := { profile := okProfile, bits := 8 } }
    (u.track 0).phase = .lentWait ∧ (u.track 0).cur.kind = 2 ∧ u.ownLent 0 = false ∧ fieldLE (u.track 0).data.profile 0 1 ≠ 0 ∧
      u.eccBad (slotAddr (u.fbuf 0 (u.track 0).cur)) (4 + ((u.track 0).data.bits + 7) / 8) = true := by decide +kernel

/-- The window of a listen on coil 0 that is open for 1,000 ct, with a decoder of type 1. -/
def window : Window := { close := 1000, inputs := [(0, 0)], weights := [[(16384, 0)]], outs := [0], decs := [1] }

/-- Track 0 listens; its stage has these words. -/
def listening (w : Window) (w0 : Nat) : State :=
  (airStage 3 airTables).setTrack 0 { st := 2, phase := .listen, win := some w, raw := stageBytes w0 0 0 0 0 }

theorem test_witness_ListeningEndsWithAnOutcome :
    (let s := listening window 3; (s.track 0).win = some window ∧ (s.track 0).phase = .listen ∧ (0 : Nat) < window.outs.length ∧
      window.live 0 = true ∧ 1 ∈ window.decs ∧ sofValid 1 0 = true ∧ window.sofs = [] ∧ (s.track 0).st ≠ 6 ∧ (s.track 0).cur.posts 1 = false) ∧
    (window.tooEarly 0 4 = false ∧ window.takes 0 1000 = true ∧ window.takes 0 1001 = false ∧ window.tooEarly 500 499 = true) ∧
    (let s := listening window (3 + 2 ^ 27); (s.track 0).cur.posts 1 = true ∧ ((s.advanceTo window.close).trackNow 0).contents.length < 32) ∧
    (let w : Window := { window with sofs := [(0, 1, 100)] }; let s := listening w 3; w.sofs ≠ [] ∧ w.outs.length = 1 ∧
      ((s.advance 0).judgeOut 0 w 0 oneByte).isSome = true ∧ (s.track 0).cur.rbuf + 5 ≤ 0xFFF ∧ (s.track 0).st ≠ 6 ∧
      (∀ out < 8, (s.track 0).cur.posts out = false)) ∧
    (let s := tracked { st := 2, phase := .inputWait, toutCc := some 1024 }; (s.track 0).toutCc = some 1024 ∧ (s.track 0).phase = .inputWait ∧
      (s.track 0).st ≠ 6 ∧ (s.track 0).cur.posts 7 = false) ∧
    (let s := tracked { st := 3, toutCc := some 1024 }; (s.track 0).toutCc = some 1024 ∧ (s.track 0).phase = .none ∧ ((s.track 0).st = 3 ∨ (s.track 0).st = 4)) := by
  decide +kernel

/-- A mark that began at bin 3 and still runs. -/
def mark : RunMark := { bin := 3, fromBin := 3, cc := 0, energy := 0 }

theorem test_witness_ImpulsesAndCapture :
    (up.blind 0 = false ∧ (up.rx 0).mark = none) ∧ (up.track 7).win = none ∧ ((listening window 3).track 0).win = some window ∧
    (let x := (up.rx 0).floor + (((0 : Int) : Rat) - (up.rx 0).floor) * Config.settledPart (up.since (up.rx 0).floorCc) 271200;
      x + (up.objNat 0x3010 1 : Nat) < ((Rat.floor (x + (up.objNat 0x3010 1 : Nat)) + 1 : Int) : Rat) ∧
      ((Rat.floor (x + (up.objNat 0x3010 1 : Nat)) : Int) : Rat) ≤ x + (up.objNat 0x3010 1 : Nat)) ∧
    (let s : State := { up with chains := [(0, { routed := true, feeder := 5, st := 3 })] }; s.blind 5 = true) ∧
    (let s := up.setRx 15 { mark := some mark }; (s.rx 15).mark ≠ none ∧ ((s.advance (usCt 2)).rx 15).mark ≠ none ∧ s.tb.src = 2) ∧
    ({ tb := { src := 0 } } : State).tb.src ≠ 2 ∧
    ({ capture := { state := 2 } } : State).capture.state = 2 ∧ up.capture.state ≠ 1 ∧ up.capture.state ≠ 2 := by
  refine ⟨?_, ?_, ?_, ⟨?_, Rat.floor_le _⟩, ?_⟩
  · decide +kernel
  · decide +kernel
  · decide +kernel
  · exact Rat.lt_floor_add_one _
  · decide +kernel

/-- Capture armed at CC 100 for a kind of trigger; it is CC 5,000. `State.mem_triggers` says which happenings `triggers` lists. -/
def armed (kind : Nat) : State :=
  { objs up [(0x3200, 2, natLE 1 kind), (0x3200, 3, natLE 2 7)] with tb := { cc := 5000 }, capture := { state := 1, armCc := 100 } }

theorem test_witness_ImpulsesAndCapture_triggers :
    ((armed 1).setTrack 3 { began := some (7, 200) }).triggers = [200] ∧ ((armed 1).setTrack 3 { began := some (8, 200) }).triggers = [] ∧
    (let s := ((armed 2).setRx 2 { mark := some { mark with cc := 300 } }).setRx 0 { mark := some { mark with cc := 400 } };
      300 ∈ s.triggers ∧ ∀ c ∈ s.triggers, c = 300 ∨ s.since c < s.since 300) ∧
    ((armed 3).setTrack 1 { notOk := some 250 }).triggers = [250] ∧
    ((armed 3).setTrack 1 { notOk := some 50 }).triggers = [] := by
  decide +kernel

/-- Coil 0 enabled on a feeder that is OK; its shaping set 0 has this one member. -/
def coilReady (k : Nat) : State :=
  { objs (staged 0 k 0 0 0 0 [(setAddr 0, [1, 0, 1, 0, 0, 0, 0, 0, 0])] up) [(0x2200, 1, [1])] with feeders := [(0, { status := 1 })] }

theorem test_witness_SelectAndShapeBegin :
    (let s := coilReady 0; let g := stageOf s 0; s.nvm.armed = true ∧ (s.chain 0).lentTo = none ∧ (∀ x < 8, (s.chain x).lentTo ≠ some 0) ∧
      s.mayBegin 0 = true ∧ s.due 0 g = .start 0 0 false ∧ g.kind = 0 ∧ (s.chain 0).st = 0 ∧ (s.chain 0).calib = false ∧
      (∀ y < 8, y ≠ 0 → (s.chain y).routed = true ∨ (s.chain y).st ≠ 0 → (s.chain y).feeder ≠ feederOf g.target) ∧
      s.objBool (0x2200 + g.target) 1 = true ∧ (s.feeder (feederOf g.target)).status = 1 ∧ s.wordsAllowed = true) ∧
    (let s : State := { coilReady 0 with chains := [(0, { st := 2 })] }; let g := stageOf s 0; s.mayBegin 0 = true ∧ s.due 0 g = .start 0 0 false ∧
      (s.chain 0).st ≠ 0 ∧ (s.chain 0).calib = false) := by decide +kernel

theorem test_witness_SelectAndShapeBegin_shape :
    (let s := coilReady 1; let g := stageOf s 0; s.mayBegin 0 = true ∧ s.due 0 g = .start 0 0 false ∧ g.kind = 1 ∧ g.target = 0 ∧
      (s.readStage 0).eccBad (setAddr 0) 32 = false ∧ setOk (s.readBytes (setAddr 0) 32) 0 = true ∧
      fieldLE (s.readBytes (setAddr 0) 32) 3 1 = s.calib.gen ∧ (s.chain 0).st = 0 ∧
      (∀ y < 8, (s.chain y).routed = false ∧ (s.chain y).st = 0) ∧ s.wordsAllowed = true) ∧
    (let s := coilReady 1; let ms := s.shapeMembers 0 (stageOf s 0).level (s.readBytes (setAddr 0) 32);
      ms.map (·.chain) = [0] ∧ (∀ m ∈ ms, (s.chain m.chain).calib = false ∧ s.objBool (0x2200 + m.ca) 1 = true ∧ (s.feeder (feederOf m.ca)).status = 1)) := by
  decide +kernel

/-- Track 0 waits, for the n-th time, for coil 0 to acknowledge a select word. -/
def worded (n : Nat) (f : Feeder) (p : Rat) : State :=
  { tracked { st := 2, phase := .word n, members := [⟨0, 0, 0, p, false⟩] } with feeders := [(0, f)] }

/-- The instant at which the settle after a word sent at 0 ends. -/
def settledAt (s : State) : State := s.advanceTo (((s.track 0).markCc + usCt 60) % 2 ^ 48)

theorem test_witness_SettleAdmitsOrRepeats :
    (let s := worded 1 {} 1; s.wordOut 0 = some (0, 0) ∧ s.sense.word = none ∧ (s.track 0).phase = .word 1 ∧ feederOf 0 = 0 ∧
      (∀ i < 9, i ≠ 0 → (s.track i).phase = .none) ∧ (s.track 0).cur.kind ≤ 1) ∧
    ((25 : Nat) ≤ 25 ∧ max 2000 2000 + 2000 ≤ min (2000 + 2000) 10000) ∧ ((24 : Nat) < 25 ∧ min (2000 + 1999) 10000 < max 2000 2000 + 2000) ∧
    up.wordOut 0 = none ∧
    (let s := worded 1 { acked := true } 1; (∀ m ∈ (s.track 0).members, (s.feeder (feederOf m.ca)).acked = true) ∧ s.newPower 0 ≠ 0 ∧
      (settledAt s).budget.waiters = [] ∧ (settledAt s).fits 0 = true) ∧
    (let s := worded 1 { acked := true } 33; s.newPower 0 ≠ 0 ∧ (settledAt s).fits 0 = false) ∧
    (let s : State := { worded 1 { acked := true } 1 with budget := { waiters := [3] } }; s.newPower 0 ≠ 0 ∧ (settledAt s).budget.waiters ≠ [] ∧
      (∀ i ∈ s.budget.waiters, i < 0 ∨ (s.track i).markCc ≠ (settledAt s).tb.cc)) ∧
    (let s := worded 1 { acked := true } 0; (s.feeder 0).acked = true ∧ (s.track 0).cur.posts 0 = false ∧ (s.track 0).st ≠ 6) ∧
    (let s := worded 2 { run := 1 } 1; (s.feeder 0).acked = false ∧ (s.feeder 0).run < 2 ∧ (s.track 0).cur.posts 6 = false ∧ (s.track 0).st ≠ 6) ∧
    (let s : State := { worded 1 {} 1 with budget := { waiters := [0] } }; s.budget.waiters = [0] ∧ s.fits 0 = true) ∧ up.budget.waiters = [] ∧
    (let s : State := { worded 1 {} 33 with budget := { waiters := [0, 3] } }; s.budget.waiters = [0, 3] ∧ s.fits 0 = false) ∧
    (((worded 1 {} 1).track 0).members.map (·.chain)).Nodup ∧
    (let s := (worded 1 {} 40).startRamps 0; s.powerSum > s.bc) := by decide +kernel

/-- Chain 0 ramps for track 0. -/
def ramping (up_ : Bool) (p : Phase) (ms : List Member) : State :=
  { tracked { st := 2, phase := p, members := ms } with chains := [(0, { st := 1, up := up_, power := 1 })] }

theorem test_witness_RampsAndTrainingsEnd :
    (let s := ramping true .rampUp [⟨0, 0, 0, 1, false⟩, ⟨1, 16, 0, 1, false⟩]; (s.chain 0).st = 1 ∧ ((s.chain 0).lentTo).getD 0 = 0 ∧
      (∃ m ∈ (s.track 0).members, m.chain ≠ 0 ∧ (s.chain m.chain).st ≠ 2)) ∧
    (let s := ramping true .none []; (s.chain 0).up = true ∧ (s.track 0).phase ≠ .rampUp) ∧
    (let s := ramping true .rampUp [⟨0, 0, 0, 1, false⟩]; (s.chain 0).up = true ∧ (s.track 0).phase = .rampUp ∧ s.inListen (feederOf 0) = false) ∧
    (let s := ramping false .none []; (s.chain 0).up = false ∧ (∀ i < 8, (s.track i).phase ≠ .rfWait) ∧ (s.track 0).phase ≠ .rampDown ∧
      (s.track 0).phase ≠ .deferRamp) ∧
    (up.chain 0).st ≠ 1 ∧
    (let s := (tracked { st := 2, phase := .train, members := [⟨0, 0, 0, 1, false⟩] }).setRx 0 { training := true }; (s.rx 0).training = true ∧ (50 : Nat) ≥ 50 ∧
      (s.track 0).phase = .train ∧ (s.track 0).cur.kind ≤ 1 ∧ (s.rx 0).trwait = false ∧ (∀ i < 8, i ≠ 0 → (s.track i).phase ≠ .train) ∧
      (s.track 0).cur.posts 0 = false ∧ (s.track 0).st ≠ 6) ∧
    (let s := up.setRx 15 { training := true }; (s.rx 15).training = true ∧ (39 : Nat) < 50 ∧ s.clear 5 ∧ ∀ t < 8, (s.track t).phase ≠ .train) ∧
    (let s := up.setRx 15 { training := true, run := 2 }; 2 ≤ ((s.advanceTo (((s.rx 15).trainFrom + usCt 52) % 2 ^ 48)).rx 15).run) ∧
    (up.rx 0).training = false ∧
    (let s := tracked { st := 2, phase := .inputWait, raw := stageBytes 3 0 0 0 0, coil := some 0 }; (s.track 0).phase = .inputWait ∧ (s.track 0).cur.kind = 3 ∧
      s.inputsReady 0 (s.track 0).cur) ∧ (up.track 0).phase = .none := by
  unfold State.inputsReady State.clear; decide +kernel

/-- Chain 0 at level with a power that exceeds the budget. -/
def exceeding (b : Budget) : State := { up with chains := [(0, { st := 2, power := 40 })], budget := b }

theorem test_witness_FieldMonitorsReport :
    (let s := objs up [(0x2010, 1, [1])]; s.objBool (0x2010 + 0) 1 = true ∧ (s.feeder 0).status ≠ 2 ∧ (s.feeder 0).status ≠ 1 ∧ (s.feeder 0).status ≠ 5 ∧
      (s.feeder 0).held = 0 ∧ (s.feeder 0).held ≠ 3) ∧
    (let s : State := { up with feeders := [(0, { status := 2 }), (1, { status := 1 }), (2, { held := 3 })] }; (s.feeder 0).status = 2 ∧
      (s.feeder 1).status = 1 ∧ (s.feeder 2).held ≠ 0) ∧
    ((100 : Nat) < 101 ∧ (101 : Nat) < 150 ∧ (100 : Nat) < 149 ∧ (149 : Nat) < 150 ∧ 1 ≤ 1 ∧ 1 ≤ 100 ∧ (100 : Nat) ≤ 100) ∧
    (objs up [(0x2010, 1, [0])]).objBool (0x2010 + 0) 1 = false ∧
    (let s : State := { up with chains := [(7, { routed := true, feeder := 15 })] }; (7 : Nat) < 8 ∧ (s.chain 7).routed = true ∧ (s.chain 7).feeder = 15 ∧
      (∀ y < 8, y ≠ 7 → (s.chain y).routed = true → (s.chain y).feeder ≠ 15) ∧ (100 : Nat) < 101 ∧ (101 : Nat) < 4 * 26 ∧ (s.feeder 15).held ≠ 4) ∧
    ((100 : Nat) ≤ 100 ∧ 4 * 25 ≤ 100) ∧
    ((65535 : Nat) : Rat) / 1000 > up.chainCap 0 * (1122018454 / 1000000000) ∧ ((0 : Nat) : Rat) / 1000 ≤ up.chainCap 7 * (1122018454 / 1000000000) ∧
    ((up.chain 0).power = 0 ∧ (50 : Nat) < 51) ∧ ((exceeding {}).chain 0).power ≠ 0 ∧ up.powerSum ≤ up.bc := by decide +kernel

theorem test_witness_FieldMonitorsReport_budget :
    (let s := exceeding { ticks := List.replicate 10000 60000, ms := 60000 }; 10000 ≤ (s.budget.ticks.filter fun k => decide (k + 60000 > s.budget.ms)).length ∧
      s.bc < s.powerSum) ∧
    (up.budget.hot = false ∧ up.budget.throttled = false ∧ (94 : Int) < 95 ∧ (95 : Int) ≤ 104 ∧ (104 : Int) < 105) ∧
    (let v : State := { up with budget := { sink := 94, amb := 25 } }; v.powerSum ≤ v.bc) ∧
    (let v := exceeding { sink := 94, amb := 25 }; v.bc < v.powerSum) ∧
    (let v := exceeding { sink := 104, amb := 25, throttled := true }; v.bc < v.powerSum) ∧
    (let v : State := { up with budget := { sink := 104, amb := 25, throttled := true } }; v.powerSum ≤ v.bc) ∧
    (let v : State := { up with budget := { sink := 105, amb := 25, hot := true, throttled := true } }; v.powerSum ≤ v.bc) := by decide +kernel

theorem test_witness_FaultLevelsReact :
    up.clear 1 ∧ up.clear 12 ∧ up.fltF.halting = false ∧ up.mirrors = false ∧ (2 : Nat) < 3 ∧
    ((up.track 0).heldPkt = [] ∧ (up.trackNow 0).contents.length < 32) ∧
    (let s : State := { up with fltF := { outst := [(3, 1)] } }; 1 ≤ s.fltF.level 3 ∧ s.fltF.queue.length < 64 ∧ s.mirrors = false) ∧
    (let s : State := { up with fltF := { outst := [(3, 4)], halting := true } }; s.fltF.halting = true ∧ 1 ≤ s.fltF.level 3) := by
  unfold State.clear; decide +kernel

/-- A queue with a front command (log 1). -/
theorem test_witness_StepRunsFront : ({ pending := [.tbcclRead, .scrub] } : State).pending = .tbcclRead :: [.scrub] := rfl

theorem test_witness_EmptyQueueTicks :
    up.pending = [] ∧ up.power.state ≠ 2 ∧ up.power.state ≠ 3 ∧ 1 < up.ctToWrap ∧ up.loopRuns 0 = false ∧ ({ power := { state := 2 } } : State).power.state = 2 ∧
    ({ power := { state := 3 } } : State).power.state = 3 := by decide +kernel

theorem test_witness_StepKeepsMemoryCanonical :
    let s : State := { mem := [(0, 1)], pending := [.caprel] }; s.Canonical ∧ ∃ t, step s = .next t ∧ t.mem = [(0, 1)] :=
  ⟨⟨by decide +kernel, by decide +kernel, by decide +kernel⟩, ⟨_, rfl, rfl⟩⟩

/-! ### Commands that pass every check of R313 -/

theorem slice_left (a b : List Byte) (o n : Nat) (h : o + n ≤ a.length) : sliceBytes (a ++ b) o n = sliceBytes a o n := by
  unfold sliceBytes
  apply List.map_congr_left
  intro i hi
  have := List.mem_range.mp hi
  rw [List.getD_eq_getElem?_getD, List.getD_eq_getElem?_getD, List.getElem?_append_left (by omega)]

theorem slice_right (a b : List Byte) (o n : Nat) : sliceBytes (a ++ b) (a.length + o) n = sliceBytes b o n := by
  unfold sliceBytes
  apply List.map_congr_left
  intro i _
  rw [List.getD_eq_getElem?_getD, List.getD_eq_getElem?_getD, List.getElem?_append_right (by omega),
    show a.length + o + i - a.length = o + i by omega]

theorem slice_all (a : List Byte) : sliceBytes a 0 a.length = a := by
  apply List.ext_getElem
  · simp [sliceBytes]
  · intro i h1 h2
    simp [sliceBytes, List.getElem?_eq_getElem h2]

/-- The command key of these tests, and a module that holds it in slot 0. -/
def cmdKey : List Byte := [1]
def keyed : State := { served with keys := { store := [(0, cmdKey)] } }

/-- A COMMAND body's first 12 bytes: slot 0, counter 1 (R311). -/
def cmdHead (idx sub n : Nat) : List Byte := natLE 2 idx ++ [b8 sub, 0] ++ natLE 6 1 ++ natLE 2 n

/-- A payload padded with zeros to whole words (R311). -/
def padded (p : List Byte) : List Byte := p ++ zeros ((p.length + 3) / 4 * 4 - p.length)

/-- The bytes that the MAC covers, and the command on an object with this payload, its MAC made with the key (R311, R312). -/
def covered (idx sub : Nat) (p : List Byte) : List Byte := cmdHead idx sub p.length ++ padded p
def made (idx sub : Nat) (p : List Byte) : CmdIn :=
  { peer := .spi, rid := 0, body := covered idx sub p ++ cmac8 cmdKey (1 :: covered idx sub p) }

theorem cmdHead_length (idx sub n : Nat) : (cmdHead idx sub n).length = 12 := by simp [cmdHead, natLE]

theorem padded_length (p : List Byte) : (padded p).length = (p.length + 3) / 4 * 4 := by
  simp [padded, zeros]; omega

theorem covered_length (idx sub : Nat) (p : List Byte) : (covered idx sub p).length = 12 + (p.length + 3) / 4 * 4 := by
  rw [covered, List.length_append, cmdHead_length, padded_length]

theorem cmac8_length (m : List Byte) : (cmac8 cmdKey m).length = 8 := by
  have hk : aesKeys ((padTo 16 cmdKey).map (·.toNat)) =
      (aesKeys ((padTo 16 cmdKey).map (·.toNat))).headD [] :: (aesKeys ((padTo 16 cmdKey).map (·.toNat))).tail := by decide +kernel
  have h9 : ((aesKeys ((padTo 16 cmdKey).map (·.toNat))).tail.getD 9 []).length = 16 := by decide +kernel
  have he : ∀ b, (aesEncrypt ((padTo 16 cmdKey).map (·.toNat)) b).length = 16 := by
    intro b
    unfold aesEncrypt
    rw [hk]
    simp only at h9 ⊢
    simp only [xorBytes, List.length_zipWith, h9, aesShift, List.length_map, List.length_range, Nat.min_self]
  unfold cmac8 cmac
  simp [he]

theorem made_body {idx sub : Nat} {p : List Byte} (hi : idx < 65536) (hs : sub < 256) (hl : p.length ≤ 256) :
    cmdBody (made idx sub p).body = { idx := idx, sub := sub, slot := 0, ctr := 1, len := p.length } := by
  have h : ∀ o n, o + n ≤ 12 → fieldLE (made idx sub p).body o n = fieldLE (cmdHead idx sub p.length) o n := by
    intro o n hn
    unfold fieldLE made
    dsimp only
    rw [slice_left _ _ _ _ (by rw [covered_length]; omega), covered, slice_left _ _ _ _ (by rw [cmdHead_length]; exact hn)]
  unfold cmdBody
  rw [h 0 2 (by omega), h 2 1 (by omega), h 3 1 (by omega), h 4 6 (by omega), h 10 2 (by omega)]
  have e1 : fieldLE (cmdHead idx sub p.length) 0 2 = idx := by
    simp [fieldLE, sliceBytes, cmdHead, natLE, leNat, List.range_succ]; omega
  have e2 : fieldLE (cmdHead idx sub p.length) 2 1 = sub := by
    simp [fieldLE, sliceBytes, cmdHead, natLE, leNat, List.range_succ, b8]; omega
  have e3 : fieldLE (cmdHead idx sub p.length) 3 1 = 0 := by simp [fieldLE, sliceBytes, cmdHead, natLE, leNat, List.range_succ]
  have e4 : fieldLE (cmdHead idx sub p.length) 4 6 = 1 := by simp [fieldLE, sliceBytes, cmdHead, natLE, leNat, List.range_succ]
  have e5 : fieldLE (cmdHead idx sub p.length) 10 2 = p.length := by
    simp [fieldLE, sliceBytes, cmdHead, natLE, leNat, List.range_succ]; omega
  rw [e1, e2, e3, e4, e5]

/-- What a command carries: its payload. -/
theorem made_payload {idx sub : Nat} {p : List Byte} (hi : idx < 65536) (hs : sub < 256) (hl : p.length ≤ 256) :
    cmdPayload (made idx sub p).body = p := by
  unfold cmdPayload
  rw [made_body hi hs hl]
  unfold made
  dsimp only
  rw [slice_left _ _ _ _ (by rw [covered_length]; omega), covered]
  have := slice_right (cmdHead idx sub p.length) (padded p) 0 p.length
  rw [cmdHead_length, Nat.add_zero] at this
  rw [this, padded, slice_left _ _ _ _ (by omega), slice_all]

/-- The command passes every check. -/
theorem made_taken {idx sub : Nat} {p : List Byte} (hi : idx < 65536) (hs : sub < 256) (hl : p.length ≤ 256) (s : State)
    (hk : s = keyed ∨ s = { keyed with fltF := { safe := true } } ∧ idx = 0xA002 ∨ ∃ l m, s = { keyed with keys := { keyed.keys with
      store := (0, cmdKey) :: l, quarantine := m } }) : s.TakesCommand (made idx sub p) idx sub := by
  have hb := made_body hi hs hl
  have hp : (cmdBody (made idx sub p).body).padded = (p.length + 3) / 4 * 4 := by rw [hb]; rfl
  have hlen : (made idx sub p).body.length = 20 + (p.length + 3) / 4 * 4 := by
    unfold made
    dsimp only
    rw [List.length_append, covered_length, cmac8_length]; omega
  have hcov : cmdCovered (made idx sub p).body = covered idx sub p := by
    unfold cmdCovered
    rw [hp]
    unfold made
    dsimp only
    rw [List.take_left' (covered_length idx sub p)]
  have hmac : cmdMac (made idx sub p).body = cmac8 cmdKey (1 :: covered idx sub p) := by
    unfold cmdMac
    rw [hp]
    have := slice_right (covered idx sub p) (cmac8 cmdKey (1 :: covered idx sub p)) 0 8
    rw [covered_length, Nat.add_zero] at this
    unfold made
    dsimp only
    rw [this]
    have e := slice_all (cmac8 cmdKey (1 :: covered idx sub p))
    rwa [cmac8_length] at e
  have hpad : sliceBytes (made idx sub p).body (12 + p.length) ((p.length + 3) / 4 * 4 - p.length) =
      zeros ((p.length + 3) / 4 * 4 - p.length) := by
    unfold made
    dsimp only
    rw [slice_left _ _ _ _ (by rw [covered_length]; omega), covered]
    have h1 := slice_right (cmdHead idx sub p.length) (padded p) p.length ((p.length + 3) / 4 * 4 - p.length)
    rw [cmdHead_length] at h1
    have h2 : ∀ k, sliceBytes (p ++ zeros k) p.length k = sliceBytes (zeros k) 0 k := fun k => slice_right p (zeros k) 0 k
    rw [h1, padded, h2]
    have e := slice_all (zeros ((p.length + 3) / 4 * 4 - p.length))
    rwa [show (zeros ((p.length + 3) / 4 * 4 - p.length)).length = (p.length + 3) / 4 * 4 - p.length by simp [zeros]] at e
  have hr : ∀ r, r ≤ 5 → bitsOf 0x3F r 1 = 1 := by decide
  have hrb : rightBit idx sub (cmdPayload (made idx sub p).body) ≤ 5 := by unfold rightBit; (repeat' split) <;> omega
  have hkey : s.key 0 0 = cmdKey := by
    obtain h | ⟨h, -⟩ | ⟨l, m, h⟩ := hk <;> subst h <;> rfl
  exact {
    ports := by obtain h | ⟨h, -⟩ | ⟨l, m, h⟩ := hk <;> subst h <;> exact ⟨rfl, rfl, rfl, rfl, rfl⟩
    unit := by
      unfold unitOk
      have hu : ∀ o n, o + n ≤ 8 → fieldLE (unitBytes 3 (made idx sub p).rid (made idx sub p).body) o n =
          fieldLE ([1, b8 3] ++ natLE 2 0 ++ natLE 2 (made idx sub p).body.length ++ [0, 0]) o n := by
        intro o n hn
        unfold fieldLE unitBytes
        rw [slice_left _ _ _ _ (by simp [natLE]; omega)]
        rfl
      rw [hu 0 1 (by omega), hu 4 2 (by omega), hu 6 2 (by omega), hu 1 1 (by omega)]
      have h0 : (unitBytes 3 (made idx sub p).rid (made idx sub p).body).length = 28 + (p.length + 3) / 4 * 4 := by
        simp [unitBytes, natLE, hlen]; omega
      have h1 : fieldLE ([1, b8 3] ++ natLE 2 0 ++ natLE 2 (made idx sub p).body.length ++ [0, 0]) 4 2 = 20 + (p.length + 3) / 4 * 4 := by
        rw [hlen]; simp [fieldLE, sliceBytes, natLE, leNat, List.range_succ]; omega
      have h2 : fieldLE ([1, b8 3] ++ natLE 2 0 ++ natLE 2 (made idx sub p).body.length ++ [0, 0]) 0 1 = 1 := by
        simp [fieldLE, sliceBytes, natLE, leNat, List.range_succ]
      have h3 : fieldLE ([1, b8 3] ++ natLE 2 0 ++ natLE 2 (made idx sub p).body.length ++ [0, 0]) 6 2 = 0 := by
        simp [fieldLE, sliceBytes, natLE, leNat, List.range_succ]
      have h4 : fieldLE ([1, b8 3] ++ natLE 2 0 ++ natLE 2 (made idx sub p).body.length ++ [0, 0]) 1 1 = 3 := by
        simp [fieldLE, sliceBytes, natLE, leNat, List.range_succ, b8]
      rw [h0, h1, h2, h3, h4]
      have h5 : bodyOk 3 ((unitBytes 3 (made idx sub p).rid (made idx sub p).body).drop 8) = true := by
        show decide (((unitBytes 3 (made idx sub p).rid (made idx sub p).body).drop 8).length ≥ 20) = true
        rw [List.length_drop, h0, decide_eq_true_eq]; omega
      rw [h5]
      simp; omega
    first := rfl
    form := by
      unfold cmdFormOk
      dsimp only
      rw [hp, hlen, hb]
      dsimp only
      rw [hpad]
      simp; omega
    names := by rw [hb]
    part := by rw [hb]
    slot := by rw [hb]; exact Nat.zero_le _
    key := by rw [hb, hkey]; decide
    held := by rw [hb]; obtain h | ⟨h, -⟩ | ⟨l, m, h⟩ := hk <;> subst h <;> rfl
    mac := by rw [hcov, hmac, hb]; rw [hkey]
    above := by rw [hb]; obtain h | ⟨h, -⟩ | ⟨l, m, h⟩ := hk <;> subst h <;> exact Nat.zero_lt_one
    warning := by obtain h | ⟨h, -⟩ | ⟨l, m, h⟩ := hk <;> subst h <;> rfl
    doomed := by obtain h | ⟨h, -⟩ | ⟨l, m, h⟩ := hk <;> subst h <;> rfl
    armed := by obtain h | ⟨h, -⟩ | ⟨l, m, h⟩ := hk <;> subst h <;> rfl
    right := by
      rw [hb]
      have : s.rights 0 = 0x3F := by obtain h | ⟨h, -⟩ | ⟨l, m, h⟩ := hk <;> subst h <;> rfl
      rw [this]; exact hr _ hrb
    gate := by obtain h | ⟨h, g⟩ | ⟨l, m, h⟩ := hk <;> subst h <;> first | exact .inr g | exact .inl rfl
    calm := by obtain h | ⟨h, -⟩ | ⟨l, m, h⟩ := hk <;> subst h <;> rfl }

/-- The test vector of RFC 3394, 4.1: a transport key, a key and its wrapped form. -/
def transport : List Byte := (List.range 16).map fun i => b8 i
def plainKey : List Byte := (List.range 16).map fun i => b8 (17 * i)
def wrapped : List Byte :=
  [0x1F, 0xA6, 0x8B, 0x0A, 0x81, 0x12, 0xB4, 0x47, 0xAE, 0xF3, 0x4B, 0xD8, 0xFB, 0x5A, 0x7B, 0x82, 0x9D, 0x3E, 0x86, 0x23, 0x71, 0xD2, 0xCF, 0xE5]

/-- Key unwrap gives the key of that vector (R207). -/
theorem test_keyUnwrap_vector : keyUnwrap transport wrapped = some plainKey := by decide +kernel

/-- A module with command key 0 and transport key 1, and one with a quarantined tag beside. -/
def wrapping : State := { keyed with keys := { keyed.keys with store := (0, cmdKey) :: [(257, transport)], quarantine := [] } }
def quarantined : State := { keyed with keys := { keyed.keys with store := (0, cmdKey) :: [], quarantine := [⟨1, [7]⟩] } }

/-- Payloads: a wrapped key for a kind and slot under transport key 1, and the point G of curve 1 for issuer slot 31. -/
def loadPayload (kind slot : Nat) : List Byte := [b8 kind, b8 slot, 1, 16] ++ wrapped
def issuerPayload : List Byte :=
  [31, 1, 4, 0, 0, 0, 0, 0, 4] ++ (natLE 16 0x161FF7528B899B2D0C28607CA52C5B86).reverse ++ (natLE 16 0xCF5AC8395BAFEB13C02DA292DDED7A83).reverse

/-- The commands of KeyCommandsRun pass their checks, for every payload that a COMMAND body holds. -/
theorem test_witness_KeyCommandsRun :
    (∀ p : List Byte, p.length ≤ 256 → wrapping.TakesCommand (made 0x5002 1 p) 0x5002 1) ∧
    (∀ p : List Byte, p.length ≤ 256 → keyed.TakesCommand (made 0x5002 2 p) 0x5002 2) ∧
    (∀ p : List Byte, p.length ≤ 256 → keyed.TakesCommand (made 0x5002 3 p) 0x5002 3) ∧
    (∀ p : List Byte, p.length ≤ 256 → quarantined.TakesCommand (made 0x5003 0x10 p) 0x5003 0x10) ∧
    (∀ p : List Byte, p.length ≤ 256 → keyed.TakesCommand (made 0x1F02 1 p) 0x1F02 1) ∧
    (∀ p : List Byte, p.length ≤ 256 → keyed.TakesCommand (made 0x4003 1 p) 0x4003 1) :=
  ⟨fun _ h => made_taken (by omega) (by omega) h _ (.inr (.inr ⟨[(257, transport)], [], rfl⟩)),
    fun _ h => made_taken (by omega) (by omega) h _ (.inl rfl), fun _ h => made_taken (by omega) (by omega) h _ (.inl rfl),
    fun _ h => made_taken (by omega) (by omega) h _ (.inr (.inr ⟨[], [⟨1, [7]⟩], rfl⟩)),
    fun _ h => made_taken (by omega) (by omega) h _ (.inl rfl), fun _ h => made_taken (by omega) (by omega) h _ (.inl rfl)⟩

/-- The keys of a module stay as they are while a command's counter is consumed, so that what unwraps before unwraps then. -/
theorem consumed_keys (s : State) (c : CmdIn) (h : s.twin.role = 0) : (s.consumed c).keys = s.keys := by
  unfold State.consumed State.reserveBlock State.mirror
  dsimp only
  split
  · rfl
  · split
    · rename_i h1; exact absurd h1.1 (by show s.twin.role ≠ 1; omega)
    · rfl

theorem test_witness_KeyCommandsRun_load :
    (loadPayload 1 3).length = 28 ∧ fieldLE (loadPayload 1 3) 0 1 = 1 ∧ fieldLE (loadPayload 0 14) 0 1 = 0 ∧ fieldLE (loadPayload 0 14) 1 1 = 14 ∧
    sliceBytes (loadPayload 1 3) 4 24 = wrapped := by decide +kernel

theorem test_witness_KeyCommandsRun_unwrap :
    wrapping.unwrapKey 1 3 1 16 wrapped = (.ok, plainKey) ∧ wrapping.unwrapKey 0 14 1 16 wrapped = (.ok, plainKey) ∧
    wrapping.unwrapKey 0 0 1 16 wrapped = (.ok, plainKey) ∧ (wrapping.unwrapKey 1 0 1 16 wrapped).1 ≠ .ok := by
  have h : wrapping.transportKey 1 = transport := by decide +kernel
  unfold State.unwrapKey
  rw [h, test_keyUnwrap_vector]
  decide +kernel

theorem test_witness_KeyCommandsRun_issuer :
    let p := issuerPayload; fieldLE p 0 1 < 32 ∧ curveLen 1 = 16 ∧ p.length = 9 + 2 * 16 ∧ fieldLE p 1 1 = 1 ∧ fieldLE p 2 1 ≤ 4 ∧ fieldLE p 3 1 = 0 ∧
      fieldLE p 8 1 = 4 ∧ ((curveOf 1).map fun cv => cv.on (beNat (sliceBytes p 9 16)) (beNat (sliceBytes p 25 16))) = some true := by decide +kernel

theorem test_witness_KeyCommandsRun_slots :
    ((63 : Nat) < keySlots 2 ∧ (63 : Nat) < keySlots 3 ∧ (31 : Nat) < keySlots 4 ∧ (0 : Nat) < keySlots 1 ∧ keyed.keys.verified = []) ∧
    (let p : List Byte := [1, 1, 7] ++ zeros 9; p.length = 12 ∧ ⟨fieldLE p 0 1, sliceBytes p 2 (min 10 (fieldLE p 1 1))⟩ ∈ quarantined.keys.quarantine) ∧
    (⟨1, []⟩ : TagId) ∉ quarantined.keys.quarantine ∧ fieldLE [15, 0x3F, 0, 0] 0 1 = 15 ∧ fieldLE [15, 0x3F, 0, 0] 1 2 ≤ 0x3F ∧ fieldLE [0, 0x40, 0, 0] 1 2 > 0x3F ∧
    keyed.sweeps.held = [] ∧ keyed.sweeps.closing = none ∧ (let p := padTo 16 Config.serial ++ natLE 4 keyed.roster.gen ++ zeros 4; p.length ≤ 256) := by
  refine ⟨by decide +kernel, by decide +kernel, by decide +kernel, by decide +kernel, by decide +kernel, by decide +kernel, by decide +kernel, by decide +kernel, ?_⟩
  simp [padTo, sliceBytes, natLE, zeros]

theorem test_witness_ModuleCommandsRun :
    (∀ p : List Byte, p.length ≤ 256 → keyed.TakesCommand (made 0x6130 1 p) 0x6130 1) ∧
    (∀ p : List Byte, p.length ≤ 256 → keyed.TakesCommand (made 0xE001 1 p) 0xE001 1) ∧
    (∀ p : List Byte, p.length ≤ 256 → keyed.TakesCommand (made 0x1F20 1 p) 0x1F20 1) ∧
    (∀ p : List Byte, p.length ≤ 256 → wrapping.TakesCommand (made 0x9002 1 p) 0x9002 1) ∧
    (∀ p : List Byte, p.length ≤ 256 → keyed.TakesCommand (made 0xA002 1 p) 0xA002 1) ∧
    (∀ p : List Byte, p.length ≤ 256 → ({ keyed with fltF := { safe := true } } : State).TakesCommand (made 0xA002 1 p) 0xA002 1) ∧
    (∀ p : List Byte, p.length ≤ 256 → keyed.TakesCommand (made 0xE000 2 p) 0xE000 2) ∧
    (∀ p : List Byte, p.length ≤ 256 → keyed.TakesCommand (made 0xC002 1 p) 0xC002 1) ∧
    (∀ p : List Byte, p.length ≤ 256 → keyed.TakesCommand (made 0x9003 1 p) 0x9003 1) :=
  ⟨fun _ h => made_taken (by omega) (by omega) h _ (.inl rfl), fun _ h => made_taken (by omega) (by omega) h _ (.inl rfl),
    fun _ h => made_taken (by omega) (by omega) h _ (.inl rfl), fun _ h => made_taken (by omega) (by omega) h _ (.inr (.inr ⟨[(257, transport)], [], rfl⟩)),
    fun _ h => made_taken (by omega) (by omega) h _ (.inl rfl), fun _ h => made_taken (by omega) (by omega) h _ (.inr (.inl ⟨rfl, rfl⟩)),
    fun _ h => made_taken (by omega) (by omega) h _ (.inl rfl), fun _ h => made_taken (by omega) (by omega) h _ (.inl rfl),
    fun _ h => made_taken (by omega) (by omega) h _ (.inl rfl)⟩

theorem test_witness_ModuleCommandsRun_payloads :
    fieldLE [1, 0] 0 2 = 1 ∧ fieldLE [0xA0, 5] 0 2 = 1440 ∧ fieldLE [0xA1, 5] 0 2 > 1440 ∧ fieldLE [0, 0] 0 2 = 0 ∧
    (([1, 0, 0, 0] ++ wrapped).length = 28 ∧ sliceBytes ([1, 0, 0, 0] ++ wrapped) 1 3 = zeros 3 ∧ sliceBytes ([1, 0, 0, 0] ++ wrapped) 4 24 = wrapped) ∧
    (fieldLE [2, 0xFE, 0x1F, 0] 0 1 = 2 ∧ fieldLE [2, 0xFE, 0x1F, 0] 3 1 = 0 ∧ classMaskOk (fieldLE [2, 0xFE, 0x1F, 0] 1 2) = true ∧
      classMaskOk (fieldLE [2, 1, 0, 0] 1 2) = false ∧ fieldLE [3, 0, 0, 0] 0 1 = 3) ∧
    (keyed.calib.running = none ∧ keyed.calib.commit = none ∧ keyed.calib.wanted = none) ∧
    (let s : State := { keyed with twin := { role := 1, state := 4 }, sweeps := { running := some { plan := 0, coils := [], tracks := [], waves := [] } } };
      s.mirrors = true ∧ s.sweeps.running ≠ none ∧ s.fltF.safe = false) := by decide +kernel

/-- A served module with these object values. -/
def servedWith (l : List (Nat × Nat × List Byte)) : State := objs served l

theorem served_takesWrites : served.takesWrites := ⟨rfl, rfl, rfl, rfl, rfl⟩

theorem test_witness_SensingWritesAct :
    ((servedWith [(0x3200, 1, [1, 0])]).takesWrites ∧ ((List.range 16).filter fun f =>
      decide (bitsOf ((servedWith [(0x3200, 1, [1, 0])]).objNat 0x3200 1) f 1 = 1)) ≠ [] ∧ (servedWith []).objNat 0x3200 2 = 0 ∧
      (∀ f, f < 16 → bitsOf ((servedWith [(0x3200, 1, [0, 0])]).objNat 0x3200 1) f 1 = 0)) ∧
    ((served.plan 15).invalid = false ∧ ∀ q ∈ served.sweeps.queue, q.1 ≠ 15) ∧
    (let s : State := { served with sweeps := { queue := [(0, none)], plans := [(3, { invalid := true })] } };
      s.takesWrites ∧ (s.plan 0).invalid = false ∧ (∃ q ∈ s.sweeps.queue, q.1 = 0) ∧ (s.plan 3).invalid = true) ∧
    (∀ p ∈ served.dict, isSetting p = false) ∧
    (let s : State := { served with dict := [(0x600101, [1])] }; s.takesWrites ∧ isSetting (0x600101, [1]) = true ∧ 0x600101 / 256 = 0x6001) ∧
    up.serving = false := by
  unfold State.takesWrites; decide +kernel

/-- Both settings of the hold-off (R232). -/
theorem test_witness_SensingWritesAct_holdOff :
    (servedWith [(0x2400, 6, [0, 0])]).objNat 0x2400 6 = 0 ∧ (servedWith [(0x2400, 6, [1, 0])]).objNat 0x2400 6 ≠ 0 ∧
    (servedWith [(0x3200, 2, [1])]).objNat 0x3200 2 ≠ 0 := by decide +kernel

/-- A served module with an entry: index 0, instance 1, an ISO 14443 tag that is present. -/
def entered (l : List (Nat × Nat × List Byte)) : State :=
  { servedWith l with roster := { entries := [(0, { uid := [1, 2, 3, 4], proto := 1, pres := 2, igen := 1 })] } }

/-- The handle of that entry. -/
def handle : List Byte := natLE 4 131072

theorem test_witness_ServiceWritesAct :
    (let s := entered [(0x6140, 1, handle), (0x6140, 2, [5, 0])]; s.takesWrites ∧ s.apdu.status ≠ 1 ∧ s.indexOf (s.objNat 0x6140 1) = some 0 ∧
      (s.entry 0).proto < 3 ∧ s.objNat 0x6140 2 ≠ 0) ∧
    ({ served with apdu := { status := 1 } } : State).apdu.status = 1 ∧ ({ served with template := { status := 1 } } : State).template.status = 1 ∧
    (let s := entered [(0x5020, 1, handle), (0x5020, 2, [3])]; s.takesWrites ∧ s.keys.status ≠ 1 ∧ s.indexOf (s.objNat 0x5020 1) = some 0 ∧ s.objNat 0x5020 2 = 3) ∧
    (served.keys.status ≠ 1 ∧ served.indexOf (served.objNat 0x5020 1) = none) ∧
    (templateOk (zeros 32) = true ∧ (zeros 32).length = 32 ∧ (63 : Nat) < 64) ∧
    (served.objNat 0x6131 1 ≤ 7935 ∧ (servedWith [(0x6131, 1, [255, 30])]).objNat 0x6131 1 = 7935) ∧
    (served.settings.state ≠ 1 ∧ served.power.entering = 0 ∧ served.settings.lastStore = none ∧ served.fieldWear < 100 ∧ served.hostWear < 100 ∧
      served.power.warning = false) ∧ ({ served with settings := { state := 1 } } : State).settings.state = 1 := by
  unfold State.takesWrites; decide +kernel

/-- Template 0 of protocol 1 with an answer of 1 byte, its profile and listen set in the tables (R167, R170). -/
def templated : State :=
  let s := entered [(0x6110, 1, [1, 1, 0x20, 0, 0, 0, 0, 0, 0, 0, 1, 1, 0xFF] ++ zeros 19), (0x6120, 2, handle)]
  (s.writeBytes (airAddr 0) okProfile).writeBytes (lsetAddr 0) okLset

theorem test_witness_ServiceWritesAct_template :
    templateOk (templated.templateBytes 0) = true ∧ templated.template.status ≠ 1 ∧ templated.indexOf (templated.objNat 0x6120 2) = some 0 ∧
    templated.objNat 0x6120 1 = 0 ∧ templated.templateRefused (templated.template_ 0) (templated.entry 0) (templated.obj 0x6120 3) = false := by
  decide +kernel

theorem test_witness_MaintenanceWritesAct :
    served.takesWrites ∧ (served.ring.loop ≠ 1 ∧ served.power.warning = false) ∧ ({ served with ring := { loop := 1 } } : State).ring.loop = 1 ∧
    (let s : State := { served with power := { served.power with warning := true } }; s.takesWrites ∧ s.ring.loop ≠ 1 ∧ s.power.warning = true) ∧
    classMaskOk (0x2000 : BitVec 16).toNat = false ∧ classMaskOk (1 : BitVec 16).toNat = false ∧ classMaskOk (0x1FFE : BitVec 16).toNat = true ∧
    served.anyHigh 0x1FFE = false ∧ ({ served with fltF := { outst := [(3, 3)] } } : State).anyHigh 8 = true ∧
    (served.radio.loop ≠ 1 ∧ served.fltF.safe = false ∧ served.objNat 0x7040 1 ≠ 3) ∧ ({ served with radio := { loop := 1 } } : State).radio.loop = 1 ∧
    (let s := servedWith [(0xC000, 1, [1]), (0xC000, 2, [7, 0])]; s.objNat 0xC000 1 ∈ [1, 2, 3, 4] ∧ calTargetOk (s.objNat 0xC000 1) (s.objNat 0xC000 2) = true ∧
      s.calib.running = none ∧ s.calib.commit = none ∧ s.calib.wanted = none ∧
      ({ s with calib := { running := some (1, 0, none) } } : State).calib.running ≠ none) ∧
    (let s := servedWith [(0xC020, 1, [6])]; s.calib.loop ≠ 1 ∧ loopTargetOk (s.objNat 0xC020 1) (s.objNat 0xC020 2) = true ∧ s.objNat 0xC020 1 ∉ [3, 4, 5]) ∧
    (let s : State := { servedWith [(0xC020, 1, [4])] with feeders := [(0, { status := 1 })] }; loopTargetOk 4 (s.objNat 0xC020 2) = true ∧
      s.objNat 0xC020 1 = 4 ∧ s.fltF.safe = false ∧ s.power.warning = false ∧ (s.feeder (s.objNat 0xC020 2)).status = 1) ∧
    (let s := servedWith [(0xC020, 1, [5])]; s.calib.loop ≠ 1 ∧ s.objNat 0xC020 1 = 5 ∧ loopTargetOk 5 (s.objNat 0xC020 2) = true) ∧
    ({ served with calib := { loop := 1 } } : State).calib.loop = 1 := by
  unfold State.takesWrites; decide +kernel

theorem foldl_add_zeros (n : Nat) : (List.replicate n 0).foldl (· + ·) 0 = 0 := by
  induction n with
  | zero => rfl
  | succ n ih => simpa [List.replicate_succ] using ih

theorem duty_allows {s : State} {us : Nat} (h : s.dutySum = 0) (hu : us ≤ 30000000) (hv : Config.variant ≠ .h) :
    s.dutyRefuses us false = false := by
  unfold State.dutyRefuses
  rw [h]
  unfold dutyLimit
  revert hv
  cases Config.variant <;> (simp; try omega)

/-- A module that has radiated nothing for `n` seconds, with a loop-back on air requested. -/
def quietFor (n : Nat) : State :=
  { servedWith [(0x7040, 1, [3]), (0x7040, 2, [1]), (0x7040, 3, [0]), (0x7010, 4, [1])] with radio := { duty := List.replicate n 0 } }

theorem quietFor_dutySum (n : Nat) : (quietFor n).dutySum = (3600 - n) * dutyShare := by
  have e : (quietFor n).radio.duty = List.replicate n 0 := rfl
  simp only [State.dutySum, e, List.length_replicate, foldl_add_zeros, Nat.zero_add]

/-- A loop-back on air is within the duty after an hour without, on the variants that have a radio (R437, R459). -/
theorem test_witness_MaintenanceWritesAct_duty (h : Config.variant ≠ .h) :
    (quietFor 3600).objNat 0x7040 1 = 3 ∧ (quietFor 3600).objBool 0x7010 4 = true ∧
    (quietFor 3600).dutyRefuses (100 * (quietFor 3600).loopUs) false = false := by
  have hd : (quietFor 3600).dutySum = 0 := by rw [quietFor_dutySum, Nat.sub_self, Nat.zero_mul]
  exact ⟨by decide +kernel, by decide +kernel, duty_allows hd (by decide +kernel) h⟩

/-! ### The Kenier cores -/

/-- A core right after its reset executes an instruction under every rule (R243). -/
theorem test_witness_Issues : ∀ (k : Die) (r : IssueRule), up.Issues k r := fun k r =>
  { runs := by cases k <;> rfl, awake := fun h => (by cases k <;> cases h), lock := fun h => (by cases k <;> cases h), past := by cases k <;> rfl
    aligned := by cases k <;> rfl, fetch := by cases k <;> rfl, read := by cases k <;> decide +kernel, slot := fun h => (by cases k <;> cases h)
    guest := fun h => (by cases k <;> cases h), budget := fun h => (by cases k <;> cases h) }

/-- RegisterInstructionsCompute needs an issuing core and nothing else; here in the ninth place of a locked sequence's eight. -/
theorem test_witness_RegisterInstructionsCompute : ({ up with coreF := { lock := true, lockCt := 7 } } : State).Issues .field {} :=
  { runs := rfl, awake := fun h => (nomatch h), lock := fun _ => ⟨by decide, .inl (by decide), rfl⟩, past := rfl, aligned := rfl, fetch := rfl
    read := by decide +kernel, slot := fun h => (nomatch h), guest := fun h => (nomatch h), budget := fun h => (by cases h) }

theorem test_witness_WriteBackCompletes :
    (up.coreF.products = [] ∧ up.coreF.slot = none ∧ (up.core .field).pc.toNat % 65536 ≠ 0xFFFC) ∧
    ((({ up with coreF := { pc := 0x1C0FFFC } } : State).core .field).pc.toNat % 65536 = 0xFFFC) ∧
    (let s : State := { up with coreH := { slot := some { branch := 0x1C00000, target := 0x1C00100, window := 1 } } };
      (s.core .host).slot = some { branch := 0x1C00000, target := 0x1C00100, window := 1 } ∧ (1 : Nat) < 3) := by decide +kernel

theorem test_witness_TransfersOpenTheirSlot :
    (((up.core .field).wnow - (up.core .field).wold).toNat < 14) ∧ (let s : State := { up with coreF := { wnow := 13 } }; (s.core .field).wnow ≠ (s.core .field).wold ∧
      ((s.core .field).wnow - (s.core .field).wold).toNat < 14) ∧
    (let s : State := { up with coreF := { wnow := 14 } }; 14 ≤ ((s.core .field).wnow - (s.core .field).wold).toNat) ∧ (up.core .field).wnow = (up.core .field).wold ∧
    up.coreH.products = [] ∧ up.coreF.pc.toNat % 65536 ≠ 0xFFFC ∧ (0x8000 : BitVec 16).toInt < 0 ∧ ¬ (0 : BitVec 16).toInt < 0 := by decide +kernel

theorem test_witness_MultiplierWritesItsProduct :
    (let s : State := { up with coreF := { products := [{ value := 5, accumulate := false }], bare := false } }; (s.core .field).products ≠ [] ∧
      (s.core .field).bare = false ∧ (s.core .field).products = { value := 5, accumulate := false } :: []) ∧
    (up.core .field).products = [] := by decide +kernel

theorem test_witness_LoadsAndStoresAccessMemory :
    (let s : State := { up with coreF := { guest := true, pc := 0x200000 } }; (s.core .field).guest = true ∧ guestAccess true false 0xC00000 = false ∧
      guestAccess false false 0xC00000 = false) ∧
    ((up.core .field).guest = false) ∧ ((1 : Nat) % 4 ≠ 0 ∧ (2 : Nat) % 4 ≠ 0 ∧ (1 : Nat) % 2 ≠ 0 ∧ (0 : Nat) % 4 = 0) ∧
    (loadable true (bankOf 0x1FF0000) = false ∧ storable true (bankOf 0x1FF0000) = false ∧ hostBank (bankOf 0xC00000) = false) ∧
    (loadable true (bankOf 0) = true ∧ storable true (bankOf 0) = true ∧ hostBank (bankOf 0) = true) ∧
    (loadable true (bankOf 0x1820000) = true ∧ storable true (bankOf 0x1820000) = true ∧ isIo (bankOf 0x1820000) = true) ∧
    (up.wordBad .field 0 = false ∧ up.wordBad .host 0 = false ∧ bankOf 0 < 0x100) ∧
    (let s : State := { up with ecc := { bad := [(0, 2)] } }; s.wordBad .field 0 = true) := by decide +kernel

theorem test_witness_StoresChangeTheirBytes :
    (∀ i, i < 4 → bankOf (0x3FFFFC + i) < 0x40) ∧ (∀ i, i < 4 → 0xC0 ≤ bankOf (0xC00000 + i) ∧ bankOf (0xC00000 + i) < 0xD0) ∧
    (∀ i, i < 4 → 0xF0 ≤ bankOf (0xFFFFFC + i) ∧ bankOf (0xFFFFFC + i) < 0x100) := by decide +kernel

theorem test_witness_TrapEntrySavesAndVectors :
    (({ up with coreF := { trp := false } } : State).core .field).trp = false ∧ (up.core .host).trp = true ∧ (5 : Nat) ≠ 16 ∧ (up.core .host).products = [] := by
  decide +kernel

theorem test_witness_SystemRegistersReadAndWrite :
    (0 : BitVec 5) = 0 ∧ (12 : BitVec 5) = 12 ∧ 15 < (16 : BitVec 5).toNat ∧ 11 ≤ (11 : BitVec 5).toNat ∧ (7 : BitVec 5) = 7 ∧ up.coreF.trp = true ∧
    ({ up with coreF := { trp := false } } : State).coreF.trp = false := by decide +kernel

theorem test_witness_SystemInstructionsAct :
    (up.dbg.minutes = 0 ∧ ({ up with dbg := { minutes := 1 } } : State).dbg.minutes ≠ 0) ∧ (up.coreF.lock = false ∧ ({ up with coreF := { lock := true } } : State).coreF.lock = true) ∧
    (let s : State := { up with coreF := { guest := true, pc := 0x200000 }, guest := { running := some (0, 0) } }; (s.core .field).guest = true ∧ s.guest.running ≠ none ∧
      s.coreRuns .field = true) ∧ up.guest.running = none ∧ legalWord 0xFFFFFFFF = false ∧
    (let s : State := { up with coreF := { lock := true } }; s.coreRuns .field = true ∧ (s.core .field).lock = true) ∧
    (let s : State := { up with coreF := { ie := true, trp := false, irqen := 1, irq := 1 } }; s.coreRuns .field = true ∧ (s.core .field).ie = true ∧
      (s.core .field).trp = false ∧ s.irqPend .field &&& (s.core .field).irqen ≠ 0 ∧ (s.core .field).slot = none ∧ (s.core .field).past = false) ∧
    (up.dbg.defer = false ∧ up.power.deferredLevel = none) := by decide +kernel

/-- A running guest may trap with code 0 (R272). -/
theorem test_witness_SystemInstructionsAct_guest : ({ up with coreF := { guest := true, pc := 0x200000 }, guest := { running := some (0, 0) } } : State).Issues .field
    { inSlot := false, inLock := false, inGuest := decide ((0 : BitVec 5) = 0) } :=
  { runs := rfl, awake := fun h => (nomatch h), lock := fun h => (nomatch h), past := rfl, aligned := rfl, fetch := rfl, read := by decide +kernel
    slot := fun h => (nomatch h), guest := fun _ => rfl, budget := fun h => absurd h (by decide +kernel) }

theorem test_witness_DebugUnitActs :
    (let s : State := { up with dbg := { minutes := 1440 } }; s.dbg.minutes ≠ 0 ∧ s.power.state = 0 ∧ s.wordBad .field 0x1820000 = false ∧ s.wordBad .field 0 = false ∧
      s.fltF.cap.frozen = false ∧ s.dbg.halted = false ∧ s.coreF.lock = false ∧ s.coreF.slot = none) ∧
    (0x1820000 % 4 = 0 ∧ loadable true (bankOf 0x1820000) = true ∧ isIo (bankOf 0x1820000) = true ∧ loadable true (bankOf 0) = true ∧ bankOf 0 < 0x100) ∧
    (0x1340000 % 4 = 0 ∧ bankOf 0x1340000 = 0x134 ∧ (0x1340001 : Nat) % 4 ≠ 0) ∧
    (let s : State := { up with dbg := { minutes := 1440 } }; ∀ t : State, t = ({ s with dbg := { s.dbg with addr := 0, typ := 1, err := false, consumes := 1 } } : State).commit 6 12
      (natLE 4 0 ++ [0]) → t.wordBad .field 0 = false) ∧
    ({ up with dbg := { halted := true } } : State).dbg.halted = true ∧ ({ up with coreF := { lock := true } } : State).coreF.lock = true ∧ up.dbg.minutes = 0 := by
  refine ⟨by decide +kernel, by decide +kernel, by decide +kernel, ?_, by decide +kernel, by decide +kernel, by decide +kernel⟩
  intro s t h
  obtain ⟨_, _, _, _, _, _, _, e⟩ := commit_rest 6 12 (natLE 4 0 ++ [0]) ({ s with dbg := { s.dbg with addr := 0, typ := 1, err := false, consumes := 1 } } : State)
  rw [h, e]
  rfl

theorem test_witness_RegisterWritesAndStops :
    (up.power.state = 0 ∧ (0xFFFC : BitVec 16).toNat % 4 = 0 ∧ (0x182 : BitVec 9) = 0x182 ∧ bitsOf (1 : Word).toNat 2 2 = 0) ∧
    ((0xFFFD : BitVec 16).toNat % 4 ≠ 0 ∧ ({ power := { state := 1 } } : State).power.state ≠ 0) ∧
    (let s : State := { up with coreF := { guest := true }, guest := { running := some (31, 0) } }; s.guest.running = some (31, 0) ∧ s.coreF.guest = true ∧ s.coreF.slot = none) ∧
    up.guest.running = none := by decide +kernel

/-! ### Faults, supply, power states -/

theorem test_witness_FaultRegistersAct :
    up.twin.role ≠ 2 ∧ (1 : Nat) ≤ 12 ∧ (0x800 : BitVec 12).getLsbD (12 - 1) = true ∧ (0x800 : BitVec 12).getLsbD 0 = false ∧ up.fltF.queue = [] ∧
    (let s : State := { up with fltF := { queue := [[3, 0x4B]] } }; s.fltF.queue = [3, 0x4B] :: [] ∧ fieldLE [3, 0x4B] 1 1 % 8 ≠ 1) ∧
    ({ up with fltF := { queue := [[3, 0x49]], safeRec := some [1] } } : State).fltF.safeRec = some [1] := by decide +kernel

theorem test_witness_MonitorsAndRestartAct :
    ((0xA5C2 : Word) ≠ 0xA5C3 ∧ (0 : Word) ≠ 0xA5C3) ∧ ({ dbg := { halted := true } } : State).dbg.halted = true ∧ up.dbg.halted = false ∧
    (let s : State := { up with fltF := { halting := true } }; s.fltF.halting = true ∧ s.fltH.halting = false ∧ s.power.hostReset = false) ∧
    (let s : State := { up with fltF := { halting := true }, fltH := { halting := true } }; s.fltF.halting = true ∧ s.fltH.halting = true) ∧
    (let s : State := { up with fltF := { halting := true }, power := { hostReset := true } }; s.fltF.halting = true ∧ s.power.hostReset = true) ∧
    up.fltF.halting = false ∧ up.fltH.halting = false ∧ (0xE : BitVec 4).getLsbD 0 = false := by decide +kernel

/-- What a power-fail warning does before its last gasp (R402). -/
def warned (s : State) : State :=
  (((({ s with power := { s.power with warning := true, warnings := s.power.warnings + 1, source := 2, entering := 0 } } : State).each (List.range 9)
    (State.abortTrack 3)).each (List.range 8) State.rampDown).calibInterrupt.radioHalt.storeAbandon)

theorem test_witness_SupplyEventsAct :
    up.power.source = 0 ∧ ({ up with power := { source := 2 } } : State).power.source ≠ 0 ∧ (objs up [(0xB000, 8, [1])]).objBool 0xB000 8 = true ∧
    (objs up [(0xB000, 8, [0])]).objBool 0xB000 8 = false ∧ (up.power.warning = false ∧ up.power.state = 0) ∧
    (let s : State := { up with power := { warning := true } }; s.power.warning = true ∧ s.power.hostAsleep = false) := by decide +kernel

theorem test_witness_SupplyEventsAct_gasp :
    ((warned up).power.trans = false ∧ (warned up).nvm.armed = true ∧ (warned up).nvm.gasps.length < 16) ∧ (warned State.reset).nvm.armed = false ∧
    (let o : NvmOp := { prio := 4, erase := true, sector := 0x300, addr := 0, data := [] };
      let w := warned { up with nvm := { armed := true, busy := some o } }; w.nvm.busy = some o ∧ o.erase = true) := by decide +kernel

theorem test_witness_LevelsAndSleepEntries :
    (up.power.state = 0 ∧ up.coreF.lock = false ∧ up.power.trans = false ∧ ((3 : Fin 4) : Nat) ≠ up.power.level ∧ ((1 : Fin 4) : Nat) = up.power.level) ∧
    (let s : State := { up with power := { trans := true } }; s.power.trans = true ∧ s.power.warning = false ∧ s.power.deferredLevel = none) ∧
    (let s : State := { up with power := { trans := true, deferredLevel := some 3 } }; s.power.deferredLevel = some 3 ∧ s.coreF.lock = false ∧ 3 ≠ s.power.reqLevel) ∧
    (let s : State := { up with power := { level := 3 } }; (objs s [(0xB001, 1, [4])]).objNat 0xB001 1 = 4 ∧ (∀ t < 9, (s.track t).st = 0) ∧ s.power.level ≠ 1 ∧
      s.coreF.lock = false) ∧
    (objs up [(0xB001, 1, [1])]).objNat 0xB001 1 ≠ 4 ∧ ({ power := { state := 2 } } : State).power.state ≠ 0 ∧
    ((Instr.enterLantern, 1) ∈ [(Instr.enterLantern, 1), (.enterCurfew, 2), (.enterCurfewDiscarding, 3)] ∧
      (Instr.enterCurfew, 2) ∈ [(Instr.enterLantern, 1), (.enterCurfew, 2), (.enterCurfewDiscarding, 3)] ∧
      (Instr.enterCurfewDiscarding, 3) ∈ [(Instr.enterLantern, 1), (.enterCurfew, 2), (.enterCurfewDiscarding, 3)]) ∧
    (up.serving = false ∧ served.serving = true ∧ served.power.entering = 0 ∧ served.power.state = 0 ∧ served.dbg.minutes = 0 ∧ served.power.warning = false ∧
      served.twin.role = 0 ∧ served.settings.changedF = false ∧ served.settings.changedH = false) ∧
    ({ served with dbg := { minutes := 1 } } : State).dbg.minutes ≠ 0 ∧ ({ served with settings := { changedF := true } } : State).settings.changedF = true ∧
    (let s : State := { served with power := { served.power with warning := true } }; s.serving = true ∧ s.power.warning = true) ∧
    ({ up with capture := { state := 1 } } : State).refusingBlock ≠ 0 ∧ up.refusingBlock = 0 := by decide +kernel

/-- A module that sleeps in Lantern (1) or Curfew (2), its host side too; these sources may wake it. -/
def sleeping (state : Nat) : State := objs { up with power := { state := state, hostAsleep := true } } [(0xB011, 1, [0xFE])]

theorem test_witness_WakesAct :
    ((1 : Fin 9) ≠ 8 ∧ (0 : Fin 9) ≠ 8 ∧ up.wakeEnabled 0 = false) ∧ ((sleeping 1).wakeEnabled 1 = true ∧ (sleeping 1).power.entering = 0) ∧
    (let s : State := { sleeping 1 with power := { entering := 1 } }; s.wakeEnabled 1 = true ∧ s.power.entering ≠ 0) ∧
    ((sleeping 1).asleep .host = true ∧ (sleeping 1).asleep .field = true ∧ (sleeping 1).power.window = false ∧ (sleeping 1).levelHolds 1 = true) ∧
    (let s := objs { up with power := { hostAsleep := true } } [(0xB011, 1, [0xFE])]; s.wakeEnabled 1 = true ∧ s.asleep .host = true ∧ s.power.state = 0 ∧ s.levelHolds 1 = true) ∧
    ((sleeping 2).levelHolds 6 = false ∧ (sleeping 2).wakeEnabled 6 = true ∧ ((sleeping 2).asleep .field = true) ∧ (sleeping 2).wakeEnabled 7 = true ∧ (sleeping 2).levelHolds 7 = true) ∧
    (({ sleeping 2 with power := { state := 2, hostAsleep := true, window := true } } : State).power.window = true ∧ (7 : Nat) ∈ [1, 2, 5, 7]) ∧
    (let s : State := { up with power := { state := 1 } }; s.power.state = 1 ∧ s.power.hostAsleep = false) ∧
    (let s : State := { up with power := { hostAsleep := true } }; s.power.state = 0 ∧ s.power.hostAsleep = true) ∧
    (let s : State := { up with radio := { state := 5 } }; s.radio.state = 5 ∧ (200 : Int) > signedOf 8 (s.objNat 0x7030 3) ∧ (-200 : Int) ≤ signedOf 8 (s.objNat 0x7030 3)) ∧
    up.radio.state ≠ 5 := by decide +kernel

/-! ### The radio -/

/-- A radio in a state. -/
def radioed (r : Radio) : State := { up with radio := r }

/-- A transmit command of packet slot 0. -/
def txCmd : TxCmd := { pkt := 0, urgent := false, pri := false, after := .idle }

theorem test_witness_RadioStatesFollowCommands :
    (let s := radioed {}; s.loopTry = s ∧ s.power.padlat.getLsbD 0 = false) ∧ ({ up with power := { padlat := 1 } } : State).power.padlat.getLsbD 0 = true ∧
    (∀ c ∈ (radioed { queue := [txCmd] }).radio.queue, c.onAir = false) ∧ ((Instr.sleep .idle, 0) ∈ [(Instr.sleep .idle, 0), (Instr.idle .idle, 1)]) ∧
    (let r : Radio := {}; r.state ≤ 1 ∧ r.calPend = false) ∧ (let r : Radio := { state := 5, calPend := true }; r.state = 5 ∧ r.calPend = true) ∧
    (let r : Radio := { state := 4 }; 2 ≤ r.state ∧ r.state ≤ 4) ∧ (let c : TxCmd := { txCmd with onAir := true }; let r : Radio := { queue := [c] }; r.queue = [c] ∧ c.onAir = true) ∧
    (let r : Radio := { settle := true }; r.settle = true ∧ r.calPend = false ∧ r.queue = []) ∧ (let r : Radio := { moving := true }; r.moving = true) ∧
    (let r : Radio := {}; r.settle = false ∧ r.moving = false) ∧
    (let r : Radio := { state := 3 }; r.state = 3 ∧ r.rxBusy = false ∧ r.queue = [] ∧ r.cal = false ∧ r.settle = false ∧ 8 ≤ (((33 : Int) - 25) - r.calTemp).natAbs ∧ r.loop ≠ 1 ∧
      r.moving = false ∧ ((7 : Int) - r.calTemp).natAbs < 8) ∧
    (let r : Radio := { cal := true }; r.cal = true) ∧ (let r : Radio := { rxBusy := true }; r.rxBusy = true) := by decide +kernel

/-- A packet header of option 1, MCS 0, five bytes, mode 0 (R456). -/
def headed : State := State.setPkts (slotOff 0) [0, 1, 0, 0, 5, 0, 0xFF, 0xFF] up

theorem test_witness_TransmissionsProceed :
    (up.txHeaderOk 255 = false ∧ up.txHeaderOk 0 = false ∧ headed.txHeaderOk 0 = true ∧ headed.fltF.safe = false ∧ headed.power.warning = false ∧ headed.radio.queue.length < 4) ∧
    (let s : State := { headed with radio := { queue := [txCmd, txCmd, txCmd, txCmd] } }; s.txHeaderOk 0 = true ∧ 4 ≤ s.radio.queue.length) ∧
    (let s : State := { headed with radio := { queue := [txCmd] } }; ∀ x ∈ s.radio.queue, x.urgent = false ∧ x.t0 = none) ∧
    (({ headed with fltF := { safe := true } } : State).txHeaderOk 0 = true) ∧
    ((radioed { queue := [txCmd] }).radio.queue = txCmd :: [] ∧ txCmd.t0 = none ∧ (radioed {}).power.padlat.getLsbD 0 = false ∧ (radioed {}).radio.loop ≠ 1) ∧
    (let c : TxCmd := { txCmd with t0 := some 5 }; let s := objs (radioed { queue := [c], coexReq := true }) [(0x7010, 6, [1])]; c.t0 = some 5 ∧ c.onAir = false ∧ c.waiting = false ∧
      c.leadDone = false ∧ s.radio.coexReq = true ∧ s.objBool 0x7010 6 = true ∧ s.radio.queue = c :: []) ∧
    (let c : TxCmd := { txCmd with waiting := true }; c.waiting = true) ∧ txCmd.waiting = false ∧
    (let c : TxCmd := { txCmd with onAir := true, coex := true, abort := true }; let r : Radio := { state := 4, queue := [c] }; c.onAir = true ∧ c.coex = true ∧ c.abort = true ∧ 2 ≤ r.state ∧ r.state ≤ 4 ∧ r.queue = c :: []) ∧
    (let r : Radio := {}; r.queue = [] ∧ r.state ≤ 1) ∧
    (let c : TxCmd := { txCmd with t0 := some 5 }; let s := objs (radioed { state := 2, queue := [c] }) [(0x7010, 6, [0])]; s.radio.queue = c :: [] ∧ c.t0 ≠ none ∧ c.onAir = false ∧
      c.waiting = false ∧ s.radio.cal = false ∧ s.radio.settle = false ∧ s.radio.moving = false ∧ s.radio.rxBusy = false ∧ s.objBool 0x7010 6 = false ∧
      2 ≤ s.radio.state ∧ s.radio.state ≤ 4) ∧
    (let c : TxCmd := { txCmd with t0 := some 5, leadDone := true }; let s := objs (radioed { state := 2, queue := [c] }) [(0x7010, 6, [1]), (0x7010, 9, [1])];
      s.objBool 0x7010 6 = true ∧ c.leadDone = true ∧ s.radio.coexGnt = false ∧ c.retries < s.objNat 0x7010 9) := by decide +kernel

/-- A locked receiver. -/
def receiving (r : Radio) : State := radioed { r with state := 3, rxBusy := true }

theorem test_witness_ReceptionProceeds :
    (let s := objs (radioed { state := 3 }) [(0x7010, 2, [0xF])]; [4, 2].filter (fun o => decide (1 ≤ o ∧ o ≤ 4) && decide (bitsOf (s.objNat 0x7010 2) (o - 1) 1 = 1)) = 4 :: [2] ∧
      s.radio.rxBusy = false ∧ s.radio.state = 3 ∧ s.radio.cal = false ∧ s.radio.settle = false ∧ s.radio.moving = false ∧ s.radio.loop ≠ 1) ∧
    (let s := objs up [(0x7010, 2, [0xF])]; s.searching = false ∧ s.radio.rxBusy = false) ∧
    ([5].filter (fun o => decide (1 ≤ o ∧ o ≤ 4) && decide (bitsOf (up.objNat 0x7010 2) (o - 1) 1 = 1)) = []) ∧
    ((receiving {}).radio.rxBusy = true ∧ (receiving {}).radio.phrDone = false ∧ up.radio.rxBusy = false) ∧
    (let s := objs (receiving { lockOpt := 1 }) [(0x7020, 1, [1])]; s.radio.lockOpt = 1 ∧ s.objBool 0x7020 1 = true) ∧
    (let s := objs (receiving { lockOpt := 1 }) [(0x7020, 1, [0])]; ndbps s.radio.lockOpt 31 = none ∧ s.objBool 0x7020 1 = false) ∧
    ((ndbps 1 3).isSome = true ∧ ndbps 1 4 = none ∧ ndbps 3 0 = none ∧ (ndbps 4 6).isSome = true) ∧
    (let s := receiving { phrDone := true, rxExt := true }; s.radio.rxBusy = true ∧ s.radio.phrDone = true ∧ s.radio.rxExt = true ∧ s.radio.rxDrop = false) ∧
    (receiving { rxDrop := true }).radio.rxDrop = true ∧ (receiving {}).freeSlot = some 8 ∧
    (let s : State := { receiving { phrDone := true } with pktMem := (List.range 8).map fun i => (slotOff (8 + i), (1 : Byte)) }; s.freeSlot = none) ∧
    ((up.node 1023).newMap = none ∧ ({ up with nodes := [(1023, { newMap := some ([], 1) })] } : State).nodes ≠ []) ∧
    (mapValid (List.replicate 24 0x55) = true ∧ mapValid [] = false) ∧ ((receiving {}).radio.loop ≠ 1 ∧ (radioed { loop := 1 }).radio.loop = 1 ∧ up.objNat 0x7040 1 ≠ 3) := by
  decide +kernel

/-- A PSDU that ends in its FCS, and packets with it. -/
def psdu : List Byte := [0x41] ++ fcsOf [0x41]
def good : DoorPacket := { packet with psdu := psdu }

theorem test_witness_ReceptionProceeds_fcs :
    (let s := receiving { phrDone := true }; fcsGood (s.psduOf good) = true ∧ s.freeSlot = some 8) ∧
    (let s := receiving { phrDone := true, rxExt := true }; fcsGood (s.psduOf { good with symbols := [] }) = false) ∧
    (let s := receiving { phrDone := true }; fcsGood (s.psduOf packet) = false) := by decide +kernel

/-- A packet of node 5 goes to a free slot and is found there with its map report's sender, node 5 having an entry (R457). -/
theorem test_witness_ReceptionProceeds_node :
    let s := objs (receiving { phrDone := true }) [(0x7405, 1, [1])]
    (if s.radio.rxExt = true then some s.radio.rxNode else ({ good with node := some 5 } : DoorPacket).node) = some 5 ∧
      s.objBool (0x7400 + 5) 1 = true ∧ up.objBool (0x7400 + 6) 1 = false := by decide +kernel

/-- The node of an XHR is one that is allocated with extended mode at that address (R450). -/
theorem test_witness_ReceptionProceeds_xhr (s : State) (i addr : Nat) (hi : i < 1024)
    (h : (s.objBool (0x7400 + i) 1 && s.nodeExt i && decide (s.objNat (0x7400 + i) 3 = addr)) = true) : s.xhrNode addr ≠ none := by
  unfold State.xhrNode
  rw [Ne, List.find?_eq_none]
  exact fun g => g i (List.mem_range.mpr hi) h

/-! ### Messages between modules and dies -/

/-- A frame of a type with the shortest payload it may have, zeros (R24, R25). -/
def shortest (typ : Nat) : List Byte := linkFrame typ 0 false (zeros (payloadRange typ).1)

/-- Both ends of the Porter up, and a twin link up with a role. -/
def linked (role : Nat) : State := { served with linkT := { up := true }, twin := { role := role, state := 4 } }

/-- The failures of R26: an empty frame; a reserved byte; a type the end does not take; a length its type does not have; a
SEQ that is not the next. -/
theorem test_witness_ArrivingMessagesAreChecked :
    (∀ e ∈ [LinkEnd.porterField, .porterHost, .twin], (linked 2).endRuns e = true ∧ ((linked 2).link e).up = true) ∧
    fieldLE ([] : List Byte) 4 2 + 12 ≠ ([] : List Byte).length ∧
    (let f := [0x10, 0, 0, 0, 0, 0, 1, 0] ++ natLE 4 (crc32c [0x10, 0, 0, 0, 0, 0, 1, 0]); f.length = 12 + fieldLE f 4 2 ∧
      fieldLE f 8 4 = crc32c (f.take 8) ∧ fieldLE f 6 2 ≠ 0) ∧
    (∀ e ∈ [LinkEnd.porterField, .porterHost, .twin], frameCheck e 2 0 (shortest 0x70) = 3) ∧
    (∀ p ∈ [(LinkEnd.porterField, 0x10), (.porterHost, 0x20), (.twin, 0x80)], frameCheck p.1 2 0 (linkFrame p.2 0 false []) = 4) ∧
    (∀ p ∈ [(LinkEnd.porterField, 0x10), (.porterHost, 0x20), (.twin, 0x80)], frameCheck p.1 2 7 (shortest p.2) = 5 ∧ frameCheck p.1 2 0 (shortest p.2) = 0) := by
  decide +kernel

theorem test_witness_LinkMessagesAreDelivered :
    (∀ e ∈ [LinkEnd.porterField, .porterHost, .twin], (linked 2).endRuns e = true ∧ ((linked 2).link e).up = true) ∧
    (∀ p ∈ [(LinkEnd.porterField, [1, 2, 3, 0x10, 0x12, 0x21, 0x31, 0x40, 0x60, 0x7F]), (.porterHost, [1, 2, 3, 0x11, 0x13, 0x20, 0x30, 0x40, 0x41, 0x50, 0x60, 0x7F]),
        (.twin, [1, 2, 3, 0x7F])], ∀ t ∈ p.2, frameCheck p.1 2 ((linked 2).link p.1).expRx (shortest t) = 0 ∧ fieldLE (shortest t) 0 1 = t) := by
  decide +kernel

/-- A read of object 0x1000.01 that the host side has sent on for SPI (R22). -/
def forwarded : Proxied := { peer := .spi, rid := 5, unit := [], q := some (.read 0x1000 1) }

theorem test_witness_LinkMessagesAreDelivered_clauses :
    (let s : State := { linked 0 with proxied := [forwarded] };
      s.proxied.find? (fun p => decide (p.peer = .spi ∧ p.rid = 5 ∧ p.q = forwarded.q)) = some forwarded ∧
      (∀ p ∈ s.proxied, ¬ (p.peer = .spi ∧ p.rid = 6 ∧ p.q = forwarded.q))) ∧
    (let b := ([] : List Byte) ++ sliceBytes (shortest 0x50) 8 (fieldLE (shortest 0x50) 4 2); b.length < 24 + 24 * fieldLE (zeros 8 ++ [1, 0, 0, 0]) 8 4) ∧
    (let f := linkFrame 0x50 0 false (zeros 24); let b := ([] : List Byte) ++ sliceBytes f 8 (fieldLE f 4 2); 24 + 24 * fieldLE b 8 4 ≤ b.length ∧
      frameCheck .porterHost 0 0 f = 0) ∧
    (let f := linkFrame 0x50 0 false (zeros 8 ++ [1, 0, 0, 0] ++ zeros 12); let b := ([] : List Byte) ++ sliceBytes f 8 (fieldLE f 4 2);
      b.length < 24 + 24 * fieldLE b 8 4 ∧ frameCheck .porterHost 0 0 f = 0) ∧
    (let s : State := { linked 0 with calib := { loop := 1, loopDepth := 6 } }; s.calib.loop = 1 ∧ s.calib.loopDepth = 6) ∧ (linked 0).calib.loop ≠ 1 ∧
    ((linked 0).linkF.queue = [] ∧ ({ linked 0 with linkF := { up := true, queue := [(1, .ack 0)] } } : State).linkF.queue ≠ []) ∧
    (({ linked 0 with linkF := { up := true, owe := true } } : State).linkF.owe = true ∧ (linked 0).linkF.owe = false) ∧ up.linkF.up = false ∧
    (∀ e ∈ [LinkEnd.porterField, .porterHost, .twin], ({ power := { state := 3 } } : State).endRuns e = false) := by decide +kernel

theorem test_witness_TwinNoticesAct :
    ((linked 2).endRuns .twin = true ∧ (linked 2).linkT.up = true ∧
      (∀ t ∈ [1, 0x90, 0x92, 0x93, 0x94, 0x95], frameCheck .twin 2 (linked 2).linkT.expRx (shortest t) = 0 ∧ fieldLE (shortest t) 0 1 = t) ∧
      frameCheck .twin 1 0 (shortest 0x91) = 0 ∧ fieldLE (shortest 0x91) 0 1 = 0x91) ∧
    (some true = some (!(linked 2).twin.posA) ∧ none ≠ some (!(linked 2).twin.posA)) ∧
    (let f := linkFrame 0x90 0 false (natLE 8 5 ++ zeros 8); let s : State := { linked 2 with twin := { role := 2, state := 4, paired := true } };
      s.tb.ts < max (fieldLE f 8 8) s.twin.mirrorTs ∧ frameCheck .twin 2 0 f = 0) ∧ ((linked 2).twin.paired = false) ∧
    (∀ i < 8, ((linked 1).chain i).routed = false ∨ ((linked 1).chain i).feeder ≠ 5) ∧
    (let s : State := { linked 1 with chains := [(7, { routed := true, feeder := 5 })] }; (7 : Nat) < 8 ∧ (s.chain 7).routed = true ∧ (s.chain 7).feeder = 5 ∧
      (∀ i < 7, (s.chain i).routed = false ∨ (s.chain i).feeder ≠ 5)) ∧
    (let s : State := { linked 2 with twin := { role := 2, state := 4, queries := [5] } }; s.twin.queries.contains 5 = true ∧ s.twin.queries.contains 6 = false ∧
      (10 : Nat) ≤ 2 * 5 ∧ 2 * 5 < 11) ∧
    (let s : State := { linked 2 with twin := { role := 2, state := 4, posBad := true } }; s.twin.posBad = true) ∧
    ((linked 2).twin.posBad = false ∧ (linked 2).twin.key = []) ∧ ((linked 2).twin.role = 2 ∧ (linked 2).power.state = 0 ∧ (linked 1).twin.role ≠ 2) := by
  decide +kernel

/-- A PAIR whose MAC the twin key verifies, and one whose MAC it does not (R362). -/
theorem test_witness_TwinNoticesAct_pair :
    let s : State := { linked 2 with twin := { role := 2, state := 4, key := [1] } }
    let f := linkFrame 0x95 0 false (cmac8 s.twin.key (4 :: (padTo 8 s.twin.nonce ++ natLE 8 s.twin.peerEsn)) ++ zeros 8)
    (frameCheck .twin 2 0 f = 0 ∧ s.twin.posBad = false ∧ s.twin.key ≠ [] ∧
      sliceBytes f 8 8 = cmac8 s.twin.key (4 :: (padTo 8 s.twin.nonce ++ natLE 8 s.twin.peerEsn))) ∧
    sliceBytes (shortest 0x95) 8 8 ≠ cmac8 s.twin.key (4 :: (padTo 8 s.twin.nonce ++ natLE 8 s.twin.peerEsn)) := by decide +kernel

theorem test_witness_MirrorItemsAreTaken :
    ((linked 2).endRuns .twin = true ∧ (linked 2).linkT.up = true ∧
      (∀ t ∈ [0x80, 0x81, 0x82, 0x83, 0x84, 0x85, 0x86, 0x87, 0x88, 0x89, 0x8A, 0xA0], frameCheck .twin 2 (linked 2).linkT.expRx (shortest t) = 0 ∧
        fieldLE (shortest t) 0 1 = t)) ∧
    ((linked 2).fltF.calm = true ∧ (linked 2).twin.state ≠ 3 ∧ ({ linked 2 with fltF := { outst := [(3, 3)] } } : State).fltF.calm = false) ∧
    ({ linked 2 with twin := { role := 2, state := 3 } } : State).twin.state = 3 ∧
    (let r : JRec := { esn := 9, ts := 5, off := 64, group := 1, typ := 1, data := [], rmac := [] }; r.group ≠ 7 ∧ r.group ≠ 2) ∧
    ((∀ k < 4, storeRequired up k = false) ∧ up.journal.ring.length < 65536) ∧
    (let s : State := { linked 2 with twin := { role := 2, state := 4, sweep := some (0, 1, 0) } }; s.twin.sweep = some (0, 1, 0)) := by decide +kernel

theorem test_witness_TwinTimersAndLinesAct :
    up.twin.state = 0 ∧ (linked 2).twin.state ≠ 0 ∧ ((linked 2).coreF.stopped = false ∧ (linked 2).dbg.halted = false ∧ (linked 2).power.state = 0) ∧
    (let s : State := { linked 2 with coreF := { stopped := true }, twin := { state := 1, hbMsg := true, sleeping := true, handing := true, queries := [15] } };
      s.coreF.stopped = true ∧ s.twin.hbMsg = true ∧ s.twin.sleeping = true ∧ s.twin.handing = true ∧ s.twin.queries.contains 15 = true) ∧
    ((linked 2).twin.hbMsg = false ∧ (linked 2).twin.sleeping = false ∧ (linked 2).twin.handing = false ∧ (linked 2).twin.queries.contains 15 = false) ∧
    (let s : State := objs { linked 2 with twin := { role := 2, state := 4, lit := [0xF0] } } [(0x9001, 2, [1])]; s.twin.role = 2 ∧ s.objBool 0x9001 2 = true ∧
      (∃ ca ∈ s.twin.lit, feederOf ca = 15) ∧ s.twin.masked.contains 15 = false ∧ s.twin.queries.contains 15 = false) ∧ (linked 1).twin.role ≠ 2 ∧
    (let s : State := { linked 1 with linkT := { up := true, window := [{ seq := 0, typ := 0x80, body := .ack 0 }] } };
      s.twin.role = 1 ∧ s.twin.state = 4 ∧ ∃ m ∈ s.linkT.window, 0x80 ≤ m.typ) ∧ (linked 1).linkT.window = [] ∧ (linked 1).twin.state ≠ 1 ∧
    (let s : State := { linked 0 with twin := { state := 1, paired := true } }; s.twin.state = 1 ∧ s.twin.paired = true) ∧
    (let s : State := { linked 0 with twin := { state := 1 } }; s.twin.state = 1 ∧ s.twin.paired = false ∧ s.linkT.up = true) ∧
    (let s : State := { up with twin := { state := 1 } }; s.twin.state = 1 ∧ s.twin.paired = false ∧ s.linkT.up = false) ∧
    (let s : State := { linked 1 with tb := { ts := 11 } }; s.twin.role = 1 ∧ s.twin.roleTs + 10 < s.tb.ts) ∧ (linked 1).tb.ts ≤ (linked 1).twin.roleTs + 10 := by
  decide +kernel

/-! ### Senses and calibrations -/

/-- A sense profile of R226: power 0 dBm, 2 us, adapting. -/
def okSense : List Byte := [0, 2, 0, 0] ++ zeros 12

/-- The Lantern scanner has coil 0 connected and its burst next. -/
def scanning (c : SenseCoil) (l : List (Nat × Nat × List Byte)) : State :=
  { objs (up.writeBytes (senseAddr 0) okSense) l with
    power := { state := 1 }, feeders := [(0, { status := 1, conn := true })], sense := { scanner := true, scanCoils := [0], coils := [(0, c)] } }

theorem test_witness_BurstsAreJudged :
    (let s := scanning {} []; s.power.state = 1 ∧ s.sense.word = none ∧ s.sense.scanCoils.head? = some 0 ∧ s.connected 0 = true) ∧
    (let s := scanning { openSet := true } [(0x2500, 2, [10, 0])]; (s.coilSense 0).openSet = true ∧ s.objNat 0x2500 2 = 10 ∧ s.doorClosed 0 = false) ∧
    ((scanning { hold := true } []).coilSense 0).hold = true ∧ ((scanning { doorHold := true } []).coilSense 0).doorHold = true ∧
    (objs up [(0x2500, 4, [5]), (0x2401, 6, [1])]).doorClosed 0 = true ∧
    (let s := scanning {} []; s.sense.scanCoils.head? ≠ some 1 ∧ s.connected 1 = false) ∧ up.power.state ≠ 1 ∧ (up.coilSense 255).hold = false ∧
    (let s : State := { up with sense := { coils := [(255, { hold := true, last := [(1, 2)] })] } }; (s.coilSense 255).hold = true) := by decide +kernel

/-- Track 0 waits for a SENSE of coil 0 with profile 0. -/
def senseStage (conn : Bool) (l : List (Nat × Nat × List Byte)) : State :=
  { objs (staged 0 13 0 0 0 0 [(senseAddr 0, okSense)] up) l with feeders := [(0, { status := 1, conn := conn })] }

theorem test_witness_SensesProceed_begin :
    (let s := senseStage false [(0x2200, 1, [1])]; let g := stageOf s 0; s.nvm.armed = true ∧ s.mayBegin 0 = true ∧ s.due 0 g = .start 0 0 false ∧
      g.kind = 13 ∧ g.tsel = false ∧ (s.readStage 0).eccBad (senseAddr g.wave) 16 = false ∧ senseOk (s.senseProfile g.wave) = true ∧
      s.sweeps.running = none ∧ ((s.begun 0 0 0 false g).rx 0).calib = false ∧ (s.feeder 0).status = 1 ∧ s.objBool 0x2200 1 = true ∧
      (∀ x < 8, (s.chain x).routed = false ∧ (s.chain x).st = 0) ∧ s.connected 0 = false ∧ s.wordsAllowed = true) ∧
    (senseStage true [(0x2200, 1, [1])]).connected 0 = true ∧ (senseStage true [(0x2200, 1, [0])]).objBool 0x2200 1 = false := by
  unfold State.begun; decide +kernel

/-- The firmware's row senses: period set, profile 0 good, coil 0 of row 0 sensed. -/
def rowReady : State :=
  objs (up.writeBytes (senseAddr 0) okSense) [(0x2400, 2, [100, 0]), (0x2400, 3, [0]), (0x2500, 1, [1])]

theorem test_witness_SensesProceed_rows :
    (let s := rowReady; (s.track 8).st = 0 ∧ s.objNat 0x2400 2 ≠ 0 ∧ s.power.state = 0 ∧ senseOk (s.senseProfile (s.objNat 0x2400 3)) = true ∧
      (0 : Nat) = (s.sense.row + 0) % 16 ∧ s.objBool (0x2500 + (16 * 0 + 0)) 1 = true) ∧
    (objs up [(0x2400, 2, [0, 0])]).objNat 0x2400 2 = 0 := by decide +kernel

/-- A track in the bursts of a SENSE of coil 0. -/
def bursting (burst : Option (List Nat)) : State :=
  tracked { st := 2, phase := .sense, burst := burst, raw := stageBytes 13 0 0 0 0, members := [⟨0, 0, 0, 0, false⟩], data := { sense := okSense } }

theorem test_witness_SensesProceed :
    (up.track 0).phase ≠ .sense ∧
    (let s := bursting (some []); (s.track 0).phase = .sense ∧ (s.track 0).burst = some [] ∧ (s.track 0).cur.tsel = false ∧ (s.track 0).cur.target = 0 ∧
      (s.track 0).members = [⟨0, 0, 0, 0, false⟩] ∧ (s.track 0).rowSense = false ∧ (s.track 0).cur.posts 0 = false ∧ (s.track 0).st ≠ 6) ∧
    (let s := bursting none; (s.track 0).burst = none ∧ s.anyListen = false) ∧ ((tracked { rowSense := true }).track 0).rowSense = true ∧ up.power.state ≠ 1 ∧
    (let s := (bursting none).setTrack 1 { st := 2, phase := .listen, win := some { inputs := [(0, 0)] } }; (s.track 0).burst = none ∧ s.anyListen = true ∧
      (s.track 0).rowSense = false ∧ (s.track 0).cur.posts 1 = false) ∧
    (up.sense.scanCoils = [] ∧ (scanning {} []).sense.scanCoils = 0 :: [] ∧ (scanning {} []).sense.word = none) ∧
    (let s : State := { scanning {} [] with sense := { scanCoils := [0], word := some (0, 1, 0) } }; s.sense.word = some (0, 1, 0) ∧ (s.feeder (feederOf 0)).acked = false) ∧
    (let s := scanning {} []; s.power.state = 1 ∧ s.sense.scanner = true ∧ senseOk (s.senseProfile (s.objNat 0x2400 5)) = true) ∧ up.sense.scanner = false ∧
    up.sense.repeatCa = none ∧ (let s : State := { scanning {} [] with sense := { repeatCa := some 0 } }; s.sense.repeatCa = some 0 ∧ s.power.state = 1) := by
  decide +kernel

/-- Track 0 waits for a CALIB with this code, target 0. -/
def calibStage (code : Nat) : State := staged 0 14 0 code 0 0 [] up

theorem test_witness_CalibrationsAct :
    (let s := calibStage 2; let g := stageOf s 0; s.nvm.armed = true ∧ s.mayBegin 0 = true ∧ s.due 0 g = .start 0 0 false ∧ g.kind = 14 ∧ g.wave = 2 ∧
      (s.begun 0 0 0 false g).calReady 2 (feederOf g.target) (some 0) = true) ∧
    (let s : State := { calibStage 2 with calib := { running := some (1, 0, none) } }; (s.begun 0 0 0 false (stageOf s 0)).calReady 2 0 (some 0) = false) ∧
    ((stageOf (calibStage 1) 0).wave = 1 ∧ (stageOf (calibStage 5) 0).wave ∉ [1, 2, 3, 4]) ∧
    ((2, 15) ∉ up.calib.due ∧ (1, 7) ∈ ({ up with calib := { due := [(1, 7)] } } : State).calib.due ∧ ¬ ((1 : Nat) = 1 ∧ 8 < 8)) ∧
    (up.calib.running = none ∧ up.calibTry.calib.running = none) ∧
    (let s : State := { up with calib := { running := some (1, 0, none) } }; s.calib.running = some (1, 0, none)) ∧
    (let s : State := { tracked { st := 2, phase := .calib } with calib := { running := some (1, 0, some 0) } }; s.calib.running = some (1, 0, some 0) ∧ (s.track 0).phase = .calib) ∧
    ((up.track 0).phase ≠ .calib) ∧ ((up.chain 0).st = 0 ∧ (({ up with chains := [(0, { st := 2 })] } : State).chain 0).st ≠ 0) ∧
    (let k : Correction := { rx := false, index := 0, amp := 1, phase := 0 }; ([k].map fun k => if k.rx then 16 + k.index else k.index).Nodup) ∧
    up.calib.loop ≠ 1 ∧ ({ up with calib := { loop := 1, loopDepth := 1 } } : State).calib.loop = 1 := by
  unfold State.begun; decide +kernel

/-- Measurements inside and outside the tables of R469, and interrupted (R463). -/
theorem test_witness_CalibrationsAct_results :
    (-3 ≤ (3 : Rat) ∧ (3 : Rat) ≤ 3) ∧ ¬ ((31 / 10 : Rat) ≤ 3) ∧ (10 ≤ (10 : Rat) ∧ (62 : Nat) ≤ 62 ∧ ¬ (63 : Nat) ≤ 62) ∧
    ({ value := 0, degrees := 0, tune := 0, pickupMv := 0, couplings := [], unacked := [5], interrupted := true } : CalMeasure).interrupted = true ∧
    (5 : Nat) ∈ ({ value := 0, degrees := 0, tune := 0, pickupMv := 0, couplings := [], unacked := [5], interrupted := false } : CalMeasure).unacked := by
  decide +kernel

/-! ### Service exchanges, sweeps and presence -/

/-- An answer of these bytes, good. -/
def answer (data : List Byte) : SlotObs := { outcome := .ok, bits := 8 * data.length, data := data, data1 := [], out := 0 }

/-- A template exchange of protocol 3 runs, which reads a block of 4 bytes; its guest handler as given. -/
def exchanging (guest : Byte) (g : Guest) : State :=
  { up with template := { status := 1, tmpl := [3, 1, 0x20, 0, 0, 0, 0, 0, 0, 1, 4, 4, guest] ++ zeros 19, frame := [2, 0x20, 0] }, guest := g }

theorem test_witness_ServiceResultsAreTaken_template :
    (let s := exchanging 0xFF {}; let x := Template.ofBytes s.template.tmpl; s.template.status = 1 ∧ s.guest.running = none ∧ x.guest = 0xFF ∧ x.proto = 3 ∧
      (runTemplate x s.template.frame [] [] true (x.retry + 1) false []).1 = (none, false) ∧
      (runTemplate x s.template.frame [] [] true (x.retry + 1) false [answer [1, 0x0F]]).1 = (some (answer [1, 0x0F]), false) ∧
      ((answer [1, 0x0F]).data.getD 0 0).toNat % 2 = 1 ∧ ((answer [0, 1, 2, 3, 4]).data.getD 0 0).toNat % 2 = 0 ∧
      x.rmin ≤ ((answer [0, 1, 2, 3, 4]).data.drop 1).length ∧ ((answer [0, 1, 2, 3, 4]).data.drop 1).length ≤ x.rmax ∧
      ((answer [0, 1]).data.drop 1).length < x.rmin) ∧
    (let s := exchanging 0 { state := 2 }; (Template.ofBytes s.template.tmpl).guest ≠ 0xFF ∧ s.guest.state = 2) ∧ (exchanging 0 {}).guest.state ≠ 2 ∧
    up.template.status ≠ 1 ∧ ({ up with guest := { running := some (0, 0) } } : State).guest.running.isSome = true := by decide +kernel

/-- Templates that change tag state: a write of one block, and a command of another kind (R163, R373). -/
theorem test_witness_ServiceResultsAreTaken_writes :
    (let x : Template := { Template.ofBytes ([3, 9, 0x21] ++ zeros 29) with retry := 0 };
      x.flag 3 = true ∧ readsBack x = true ∧ readBackMatches x [5, 1, 2, 3, 4] [0, 1, 2, 3, 4] = true) ∧
    (let x := Template.ofBytes ([1, 9, 0xA2] ++ zeros 29); x.flag 3 = true ∧ readsBack x = false) ∧
    (let x := Template.ofBytes ([1, 1, 0x30] ++ zeros 29); x.flag 3 = false ∧ x.retry = 0) ∧
    noAnswer.outcome ≠ .ok ∧ noAnswer.outcome ≠ .split ∧ (answer []).outcome = .ok := by decide +kernel

theorem test_witness_ServiceResultsAreTaken_apdu :
    up.sweeps.running = none ∧ up.apdu.status ≠ 1 ∧ ({ up with apdu := { status := 1 } } : State).apdu.status = 1 ∧ up.commits ∧
    (let p : Part4 := { answers := [answer [2, 0x90, 0]], session := { idx := 0 } }; p.answers = answer [2, 0x90, 0] :: [] ∧ ([0x00] : List Byte) ≠ [] ∧
      ([0x00] : List Byte).length ≤ p.session.fsc - 3 ∧ blockOf (answer [2, 0x90, 0]) = .info false p.session.num [0x90, 0]) := by
  unfold State.commits; decide +kernel

/-- The point G of secp128r1, the public key of the private key 1, as issuer 31; and its signature of a UID with nonce 2. -/
def issued : Tab Issuer := [(31, ⟨1, 0, 0, 0, 0x161FF7528B899B2D0C28607CA52C5B86, 0xCF5AC8395BAFEB13C02DA292DDED7A83⟩)]
def signedTag : TagId := { proto := 1, uid := [0x04, 0xA3, 0x5C, 0x91, 0x6A, 0x2B, 0x80] }
def signature : List Byte := (natLE 16 0x8151a0c6b92171db199db84be753a97e).reverse ++ (natLE 16 0x40a8d0635c90b8ed8cd12dd43c5eea7f).reverse

/-- A genuine signature verifies under its issuer's slot, and not over another UID (R219). -/
theorem test_originality_signature :
    verifyingSlot issued signedTag signature = some 31 ∧ verifyingSlot issued { signedTag with uid := [4] } signature = none := by decide +kernel

theorem test_witness_ServiceResultsAreTaken_security :
    up.keys.running = none ∧
    (let s : State := { up with keys := { running := some ⟨131072, 0, 1, true⟩, kept := { tag := ⟨1, [7]⟩, method := 2 } } };
      s.keys.running = some ⟨131072, 0, 1, true⟩ ∧ s.keys.kept.method ≠ 1 ∧ s.keys.kept.proves [] = false) ∧
    (let k : SecHeld := { tag := signedTag, method := 1, tmpl := [1, 1, 0x30, 0, 0, 0, 0, 0, 0, 0, 1, 1, 0xFF] ++ zeros 19, frame := [0x30, 0] };
      (k.run k.tmpl k.frame [answer [9]]).1 = (2, [9]) ∧ (k.run k.tmpl k.frame []).1.1 ≠ 2) ∧
    (let k : SecHeld := { tag := signedTag, issuers := issued, tmpl := [1, 1, 0x3C, 0, 0, 0, 0, 0, 0, 0, 32, 32, 0xFF] ++ zeros 19, frame := [0x3C, 0] };
      (k.run k.tmpl k.frame [answer signature]).1 = (2, signature) ∧ k.tmpl2 = []) ∧
    (let s : State := { up with keys := { attempts := [{ tag := ⟨1, [7]⟩, fails := [3] }] } }; s.attempt ⟨1, [7]⟩ = some { tag := ⟨1, [7]⟩, fails := [3] } ∧
      s.attempt ⟨1, [8]⟩ = none) ∧
    (let s : State := { up with keys := { attempts := [{ tag := ⟨1, [7]⟩, pending := true }] } }; s.attempt ⟨1, [7]⟩ = some { tag := ⟨1, [7]⟩, pending := true }) ∧
    ((up.cmdSlot 15).heldUntil = none ∧ (let s := up.modCmdSlot 15 fun x => { x with heldUntil := some 9 }; (s.cmdSlot 15).heldUntil = some 9)) := by decide +kernel

/-- Plan 0: coil 0 with all protocols, by track 0; and the two faults of R181 that make it invalid. -/
def planned (l : List (Nat × Nat × List Byte)) : State :=
  { objs up ([(0x4010, 1, 1 :: zeros 31), (0x4010, 3, [1]), (0x2200, 1, [1])] ++ l) with sweeps := { queue := [(0, none)] }, feeders := [(0, { status := 1 })] }

theorem test_witness_SweepsAndReportsProceed :
    (let s := planned []; s.sweeps.running = none ∧ s.sweeps.held.length < 4 ∧ s.fltF.safe = false ∧ s.twin.role ≠ 2 ∧ s.power.state = 0 ∧
      s.power.doomed = false ∧ s.sweeps.queue = (0, none) :: [] ∧ s.planTracks 0 = [0] ∧ s.planCoils 0 = [0] ∧ s.objBool 0x2200 1 = true ∧ s.namedTablesOk 0 = true ∧
      (∀ ca ∈ planConnects [] (planWaves (decide (s.calib.gen ≠ 0)) ((s.planCoils 0).map (s.coilNeed (s.planCoils 0))) (s.planTracks 0)), s.objNat (0x2200 + ca) 9 = 0)) ∧
    (planned [(0x4010, 3, [0])]).planTracks 0 = [] ∧ up.sweeps.queue = [] ∧
    ((up.plan 0).started = none ∧ (let s : State := { objs up [(0x4010, 4, [1, 0, 0, 0])] with sweeps := { plans := [(0, { started := some 5 })] } };
      (s.plan 0).started = some 5 ∧ s.objNat 0x4010 4 ≠ 0)) ∧
    ((∀ x ∈ [((7 : Nat), some 5)], x.2 = some 5 ∧ 3 < x.1) ∧ (∀ x, ([((2 : Nat), some 5)]).getLast? = some x → x.2 ≠ some 5 ∨ x.1 ≤ 3)) := by
  refine ⟨by decide +kernel, by decide +kernel, by decide +kernel, by decide +kernel, by decide +kernel, ?_⟩
  intro x h
  cases h
  exact .inr (by decide)

/-- A running sweep of coil 0 on track 0, all its waves begun. -/
def sweeping (results : List CoilResult) (stopped : Bool) : State :=
  { up with sweeps := { running := some { plan := 0, coils := [0], tracks := [0], waves := [], results := results, stopped := stopped } } }

theorem test_witness_SweepsAndReportsProceed_close :
    ((sweeping [] false).sweeps.running.isSome = true ∧ (sweeping [] false).twin.role = 0) ∧
    (let s := sweeping [] false; let u := s.enterResults []; ∃ r, u.sweeps.running = some r ∧ r.current = [] ∧
      (r.coils.filter fun ca => !(r.results.any fun x => x.own && decide (x.ca = ca))) ≠ [] ∧ r.stopped = false) ∧
    (let s := sweeping [⟨0, 0, 0, true, []⟩] false; let u := s.enterResults []; ∃ r, u.sweeps.running = some r ∧ r.current = [] ∧
      (r.coils.filter fun ca => !(r.results.any fun x => x.own && decide (x.ca = ca))) = []) ∧
    ((huntAll 4 up.fieldGuard [[], [], [noAnswer]]).failed = false ∧ (huntAll 4 up.fieldGuard [[], [], [noAnswer]]).incomplete = false) ∧
    ((up.feeder 0).status ≠ 1 ∧ ((planned []).feeder 0).status = 1) ∧ (noAnswer.outcome = .silent ∧ (answer (zeros 10)).data.length = 10) ∧
    up.sweeps.closing = none ∧ up.report.status ≠ 1 ∧ ({ up with report := { status := 1 } } : State).report.status = 1 ∧
    (let s := objs up [(0x4100, 1, [3])]; s.objNat 0x4100 1 = 3 ∧ ∀ x ∈ s.roster.changes, x.1 ≠ s.roster.gen) ∧ up.objNat 0x4100 1 ≠ 3 ∧
    (let s : State := { objs up [(0x4100, 1, [3]), (0x4100, 2, [9, 0, 0, 0])] with roster := { changes := [(9, 0, [])] } };
      (s.roster.changes.find? fun x => decide (x.1 = s.objNat 0x4100 2)) = some (9, 0, [])) := by
  refine ⟨by decide +kernel, ⟨_, rfl, by decide +kernel, by decide +kernel, by decide +kernel⟩, ⟨_, rfl, by decide +kernel, by decide +kernel⟩,
    by decide +kernel, by decide +kernel, by decide +kernel, by decide +kernel, by decide +kernel, by decide +kernel, by decide +kernel, by decide +kernel,
    by decide +kernel⟩

/-- A close of a sweep of coil 0 with this result waits; the confirm and miss counts are 2 and 3. -/
def closing (status : Nat) : Closing := { result := { plan := 0, coils := [0], results := [⟨0, status, 0, true, []⟩] }, todo := [] }

theorem test_witness_SweepsAndReportsProceed_wait :
    (let s : State := { up with sweeps := { closing := some (closing 0) }, roster := { released := [(3, 5)] } }; s.sweeps.closing = some (closing 0) ∧
      s.roster.released = (3, 5) :: []) ∧
    (let s : State := { up with sweeps := { closing := some (closing 0) } }; s.sweeps.closing = some (closing 0) ∧ s.roster.released = []) := by decide +kernel

/-- The roster holds one entry, at index 5. -/
def holding (e : Entry) : State := { up with roster := { entries := [(5, e)], fresh := 6 } }

/-- The tag of these tests, and its entry on coil 0. -/
def tag : TagId := { proto := 1, uid := [1, 2, 3, 4] }
def entry : Entry := { uid := [1, 2, 3, 4], proto := 1, ca := 0, igen := 1 }

theorem test_witness_PresenceFollowsSightings :
    (∀ p ∈ [1, 2, 3, 4], (holding { entry with pres := p, pca := 7 }).findTag tag = some (5, { entry with pres := p, pca := 7 })) ∧
    (0 : Nat) + 1 < (closing 0).confirm ∧ (closing 0).confirm ≤ 1 + 1 ∧ (0 : Nat) = entry.ca ∧ (7 : Nat) ≠ entry.ca ∧ (8 : Nat) ≠ 7 ∧
    (∀ x ∈ (closing 1).result.results, x.ca = entry.ca → x.status ≤ 1) ∧ ¬ (∀ x ∈ (closing 3).result.results, x.ca = entry.ca → x.status ≤ 1) ∧
    entry.misses + 1 < (closing 0).miss ∧ (closing 0).miss ≤ 2 + 1 ∧ up.findTag tag = none ∧ up.roster.fresh < 131072 := by decide +kernel

/-! ### Units, storage, the ring port and the SPI port -/

/-- A unit over SPI, and one over the ring. -/
def spiUnit (ty : Nat) (body : List Byte) : LdpIn := { peer := .spi, bytes := unitBytes ty 7 body }
def ringUnit (ty : Nat) (body : List Byte) : LdpIn := { peer := .ring 5 6, bytes := unitBytes ty 7 body }

theorem test_witness_UnitsAreCheckedAndServed_units :
    served.serving = true ∧ up.serving = false ∧ fieldLE (spiUnit 2 []).bytes 1 1 ≠ 1 ∧ fieldLE (spiUnit 1 []).bytes 1 1 = 1 ∧
    (let b := (spiUnit 1 [0, 0xA0, 7, 0]).bytes; 8 ≤ b.length ∧ fieldLE b 0 1 = 1 ∧ fieldLE b 4 2 + 8 = b.length ∧ fieldLE b 6 2 = 0 ∧ fieldLE b 1 1 = 1 ∧
      (b.drop 8).length = 4 ∧ fieldLE (b.drop 8) 3 1 = 0) ∧
    (let b := (spiUnit 2 [1, 0x41, 3, 0, 1]).bytes; fieldLE b 4 2 + 8 = b.length ∧ 4 ≤ (b.drop 8).length ∧ fieldLE (b.drop 8) 3 1 = 0) ∧
    (let b := (spiUnit 1 [0, 0xA0, 7, 1]).bytes; fieldLE (b.drop 8) 3 1 ≠ 0) ∧
    (let b := (spiUnit 0x21 (zeros 28)).bytes; (b.drop 8).length = 28 ∧ fieldLE (b.drop 8) 1 3 = 0 ∧ fieldLE (b.drop 8) 24 4 = 0) ∧
    (let a : Answered := { peer := .ring 5 6, unit := (ringUnit 1 [0, 0xA0, 7, 0]).bytes, resp := [1], ts := 0 };
      let s : State := { served with recent := [a], tb := { ts := 2000000 } };
      a ∈ s.recent ∧ a.peer = (ringUnit 1 []).peer ∧ a.peer ≠ .spi ∧ s.tb.ts ≤ a.ts + 2000000 ∧ ({ s with tb := { ts := 2000001 } } : State).tb.ts > a.ts + 2000000) ∧
    (∀ a, a ∉ served.recent) := by
  refine ⟨by decide +kernel, by decide +kernel, by decide +kernel, by decide +kernel, by decide +kernel, by decide +kernel, by decide +kernel,
    by decide +kernel, by decide +kernel, fun _ h => nomatch h⟩

/-- An object of the dictionary outside the radio's range. -/
theorem objectAt_found (idx sub : Nat) (r : Bool) (h : idx < 0x7000 ∨ 0x8000 ≤ idx ∧ idx < 0xF000) (f : (findObj idx sub).isSome = true) :
    ∃ o, objectAt idx sub r = .ok o := by
  obtain ⟨o, ho⟩ := Option.isSome_iff_exists.mp f
  refine ⟨o, ?_⟩
  unfold objectAt
  rw [if_neg (by omega), if_neg (by omega), ho]

theorem test_witness_UnitsAreCheckedAndServed_objects :
    (∃ o, objectAt 0xA000 7 true = .ok o) ∧ fieldIndex 0xA000 = false ∧ (∃ o, objectAt 0x4100 1 false = .ok o) ∧ fieldIndex 0x4100 = true ∧
    objectAt 0xF000 1 true = .error .notSupported ∧ served.linkH.up = true ∧ ({ served with linkH := {} } : State).linkH.up = false := by
  exact ⟨objectAt_found 0xA000 7 true (by decide) (by decide +kernel), by decide +kernel, objectAt_found 0x4100 1 false (by decide) (by decide +kernel),
    by decide +kernel, by simp [objectAt], by decide +kernel, by decide +kernel⟩

theorem test_witness_UnitsAreCheckedAndServed_observers :
    fieldLE (spiUnit 0x10 [0, 0, 0, 0]).bytes 8 4 = 0 ∧ fieldLE (spiUnit 0x10 [1, 0, 0, 0]).bytes 8 4 ≠ 0 ∧
    (let eight : List Observer := (List.range 8).map fun k => { peer := .ring k 1, mask := 1 };
      8 ≤ (eight.filter fun o => decide (o.peer ≠ .spi)).length ∧ (∀ o ∈ eight, o.peer ≠ .ring 5 6) ∧ (∃ o ∈ eight, o.peer = .ring 5 1)) ∧
    (∀ o ∈ served.observers, o.peer ≠ .spi) ∧
    (let s : State := { served with observers := [{ peer := .spi, mask := 1 }] }; s.serving = true ∧ s.twin.role ≠ 2 ∧
      (s.observers.find? fun o => decide (o.peer = .spi)) = some { peer := .spi, mask := 1 }) ∧ (linked 2).twin.role = 2 := by decide +kernel

theorem test_witness_UnitsAreCheckedAndServed_stores :
    (let s : State := objs served [(0xD010, 1, [1])]; storeEnabled s 0 = true ∧ storeEnabled s 1 = false ∧
      offBelow 0 (s.store 0).ack = false ∧ offBelow (s.store 0).send 0 = false ∧ offBelow (s.store 0).send 1 = true ∧ (s.store 0).send = (s.store 0).ack) ∧
    (let s : State := (objs served [(0xD010, 1, [1])]).modStore 0 fun x => { x with ack := 3, send := 5 }; storeEnabled s 0 = true ∧
      offBelow 2 (s.store 0).ack = true ∧ offBelow 4 (s.store 0).ack = false ∧ offBelow (s.store 0).send 4 = false ∧ (s.store 0).send ≠ (s.store 0).ack) := by
  decide +kernel

/-- A program and an erase of a priority. -/
def program (p : Nat) : NvmOp := { prio := p, erase := false, sector := 0, addr := 0x1000000, data := [1, 2] }
def erase (p : Nat) : NvmOp := { prio := p, erase := true, sector := 3, addr := 0, data := [] }

theorem test_witness_StorageAndResetsAct_memory :
    up.power.state = 0 ∧ ({ up with power := { state := 2 } } : State).power.state ≠ 0 ∧
    (∀ k ∈ [0, 1, 2], (let s : State := { up with ecc := { bad := if k = 0 then [] else [(0, k)] } }; Tab.get 0 s.ecc.bad s.ecc.pos = k) ∧
      (let s : State := { up with ecc := { hostBad := if k = 0 then [] else [(0, k)] } }; Tab.get 0 s.ecc.hostBad s.ecc.hostPos = k)) ∧
    ((0 + 1) % 2097152 ≠ 0 ∧ (2097151 + 1) % 2097152 = 0) ∧
    (let s : State := { up with nvm := { busy := some (program 1) } }; s.nvm.busy = some (program 1) ∧ (program 1).erase = false) ∧
    (let s : State := { up with nvm := { busy := some (erase 5) } }; s.nvm.busy = some (erase 5) ∧ (erase 5).erase = true) ∧
    (∀ o, up.nvm.busy ≠ some o) := by
  refine ⟨by decide +kernel, by decide +kernel, by decide +kernel, by decide +kernel, by decide +kernel, by decide +kernel, fun _ h => nomatch h⟩

theorem test_witness_StorageAndResetsAct_serve :
    up.nvm.busy = none ∧ (∀ o ∈ up.nvm.queue, ¬ (up.power.warning = true → o.prio ≤ 3 ∧ o.erase = false)) ∧ up.nvm.suspended = [] ∧
    (let s : State := { up with nvm := { queue := [program 4], suspended := [erase 5] } }; s.nvm.busy = none ∧ s.power.warning = false ∧
      s.nvm.suspended = erase 5 :: [] ∧ ∀ o ∈ s.nvm.queue, (s.power.warning = true → o.prio ≤ 3 ∧ o.erase = false) → 3 < o.prio) ∧
    (let s : State := { up with nvm := { queue := [program 5] ++ program 3 :: [program 3] } }; s.nvm.busy = none ∧ (program 3).prio ≤ 6 ∧
      (program 3).prio < (program 5).prio ∧ (program 3).prio ≤ (program 3).prio ∧ (program 3).prio ≤ 3) ∧
    (let s : State := { up with power := { warning := true }, nvm := { queue := [program 4] } }; s.power.warning = true ∧ ∀ o ∈ s.nvm.queue,
      ¬ (s.power.warning = true → o.prio ≤ 3 ∧ o.erase = false)) := by decide +kernel

theorem test_witness_StorageAndResetsAct_resets :
    (let s : State := { served with settings := { state := 1 } }; s.settings.state = 1 ∧ s.settings.waitResult = none ∧
      ((s.storeField false).storeHost false).nvmServe.linkH.up = true) ∧
    (let s : State := { up with settings := { state := 1 } }; ((s.storeField false).storeHost false).nvmServe.linkH.up = false) ∧ up.settings.state ≠ 1 ∧
    up.power.unstarted = true ∧ (let s : State := { up with power := { unstarted := false } }; s.power.unstarted = false) ∧
    served.power.hostReady = true ∧ up.power.hostReady = false ∧ up.power.restartWaits = false ∧ up.settings.hostCopies = [] := by decide +kernel

/-- A module whose ring ports' links are up. -/
def ringed : State := { served with ring := { relay := 1, a := { link := 1 }, b := { link := 1 } } }

theorem test_witness_RingPortActs_frames :
    (∀ p ∈ [Port.a, .b], (ringed.ring.port p).link ≠ 0 ∧ (up.ring.port p).link = 0) ∧ 1528 < ({ ringIn with len := 1529 } : RingIn).len ∧ ringIn.len ≤ 1528 ∧
    ringIn.tagged = true ∧ ringIn.sizeOk = true ∧ ({ ringIn with tagged := false } : RingIn).tagged = false ∧ ringed.ownMac nodeMacNat = true ∧
    (∃ m ≤ 2, ringed.ownMac m = false ∧ m ≠ 2 ^ 48 - 1 ∧ m ≠ 0x01154E000100) ∧ ringIn.dst = 2 ^ 48 - 1 ∧ ringIn.fcsOk = true ∧
    ((ringIn.src, ringIn.seq, Port.a) ∉ ringed.ring.sent ∧ ({ ringIn with egressFull := true } : RingIn).egressFull = true ∧ ringIn.egressFull = false) ∧
    (let s : State := { ringed with ring := { ringed.ring with seen := [(1, 0)], sent := [(1, 0, .a)] } }; (ringIn.src, ringIn.seq) ∈ s.ring.seen ∧
      (ringIn.src, ringIn.seq, Port.a) ∈ s.ring.sent) ∧ (ringIn.src, ringIn.seq) ∉ ringed.ring.seen ∧ ringIn.vid = 0 ∧ ({ ringIn with vid := 1 } : RingIn).vid ≠ 0 := by
  refine ⟨by decide +kernel, by decide +kernel, by decide +kernel, rfl, rfl, rfl, by simp [State.ownMac],
    ⟨if nodeMacNat = 1 then 2 else 1, by split <;> decide, ?_, by split <;> decide, by split <;> decide⟩, by decide +kernel, rfl, by decide +kernel, by decide +kernel,
    by decide +kernel, rfl, by decide +kernel⟩
  unfold State.ownMac
  split <;> simp_all [ringed, served, Ne.symm, eq_comm]

theorem test_witness_RingPortActs_delivery :
    (ringed.ring.nodes.length < 64 ∧ ringIn.src ∉ ringed.ring.nodes) ∧
    (let s : State := { ringed with ring := { ringed.ring with nodes := List.range' 100 64 } }; 64 ≤ s.ring.nodes.length ∧ ringIn.src ∉ s.ring.nodes ∧ 100 ∈ s.ring.nodes) ∧
    (ringed.power.hostAsleep = false ∧ ringed.ownIp ringed.ring.ip = true ∧ ringed.ownIp (ringed.ring.ip + 1) = false) ∧
    (let s : State := { ringed with power := { hostAsleep := true } }; s.power.hostAsleep = true ∧ s.power.window = false) ∧
    (ringed.power.window = false ∧ ringed.power.entering = 0 ∧ ({ window := true } : Power).window = true) ∧
    ringed.objBool 0x8001 7 = true := by decide +kernel

theorem test_witness_RingPortActs_links :
    ringed.ring.relay ≠ 0 ∧ up.ring.relay = 0 ∧ ringed.power.hostAsleep = false ∧
    (let now (back : List (Bool × Bool)) : Bool := back.any (fun x => x.1) && back.any (fun x => x.2);
      now ((true, true) :: ringed.ring.back.take 1) ≠ ringed.ring.closed ∧ now ((true, false) :: ringed.ring.back.take 1) = ringed.ring.closed) ∧
    (let s : State := { ringed with ring := { relay := 2 } }; s.ring.relay ≠ 0 ∧ (s.ring.port .a).link = 0) ∧ (ringed.ring.port .a).link ≠ 0 ∧
    ringed.relayState = 1 ∧ up.relayState = 0 ∧ served.relayState = 2 ∧ ({ ringed with ring := { loop := 1 } } : State).ring.loop = 1 ∧
    (let s : State := { ringed with ring := { newAddr := true } }; s.ring.newAddr = true ∧ s.power.hostReady = true ∧ s.objNat 0x8001 1 = 0) ∧
    (objs ringed [(0x8001, 1, [1, 0, 0, 10])]).objNat 0x8001 1 ≠ 0 ∧ ringed.ring.newAddr = false ∧ ringed.ring.arps = 0 ∧
    (let s : State := { ringed with ring := { arps := 2, service := true } }; s.ring.arps ≠ 0 ∧ s.ring.service = true) := by decide +kernel

/-- An SPI frame with its CRC: alive counter, type, segment flags with the length's upper bits, length, payload. -/
def spiFrameOf (size alive ty flags len : Nat) (payload : List Byte) : List Byte :=
  let h := [b8 alive, b8 ty, b8 flags, b8 len] ++ padTo (size - 8) payload
  h ++ natLE 4 (crc32c h)

/-- A module whose SPI port is on. -/
def spied : State := objs served [(0x8800, 0x0C, [1])]

theorem test_witness_SpiFramesAreAnswered_checks :
    (spied.power.hostReady = true ∧ spied.power.hostReset = false ∧ spied.power.hostAsleep = false ∧ spied.objBool 0x8800 0x0C = true) ∧
    (objs served [(0x8800, 0x0C, [0])]).objBool 0x8800 0x0C = false ∧ spied.spi.echo = false ∧
    (let f := spiFrameOf 48 1 0 0 0 []; f.length = 48 ∧ fieldLE f 44 4 = crc32c (f.take 44) ∧ fieldLE f 2 1 / 16 = 0 ∧ sliceBytes f 4 40 = zeros 40 ∧
      (∀ a, (spied.spi.endp .sel0).ref ≠ some a) ∧ (let s : State := { spied with spi := { e0 := { ref := some (1, f) } } }; (s.spi.endp .sel0).ref = some (1, f))) ∧
    (let f := zeros 47 ++ [1]; f.length = 48 ∧ fieldLE f 44 4 ≠ crc32c (f.take 44)) ∧
    (let f := spiFrameOf 48 1 0 0 1 []; fieldLE f 44 4 = crc32c (f.take 44) ∧ fieldLE f 1 1 = 0 ∧ fieldLE f 3 1 ≠ 0) ∧
    (let f := spiFrameOf 48 1 2 0 0 []; fieldLE f 44 4 = crc32c (f.take 44) ∧ fieldLE f 2 1 / 16 = 0 ∧ sliceBytes f 4 40 = zeros 40 ∧ fieldLE f 1 1 = 2) ∧
    (zeros 47).length ≠ 48 := by
  refine ⟨by decide +kernel, by decide +kernel, by decide +kernel, ⟨by decide +kernel, by decide +kernel, by decide +kernel, by decide +kernel,
    fun a => nofun, rfl⟩, by decide +kernel, by decide +kernel, by decide +kernel, by decide +kernel⟩

theorem test_witness_SpiFramesAreAnswered_segments :
    (255 + 1) % 256 = 0 ∧
    (let s : State := { spied with spi := { e0 := { ref := some (255, []), reply := some { alive := 255, reason := 0, echo := none }, outq := [([1], true, true)] } } };
      (s.spi.endp .sel0).ref = some (255, []) ∧ (s.spi.endp .sel0).reply = some { alive := 255, reason := 0, echo := none } ∧
      (s.spi.endp .sel0).outq = ([1], true, true) :: [] ∧ (spied.spi.endp .sel0).outq = []) ∧
    (let s : State := { spied with spi := { e0 := { part := some (zeros 2040), ref := some (0, []) } } }; (((s.spi.endp .sel0).part.getD []).length + 8 ≤ 2048) ∧
      ¬ (((s.spi.endp .sel0).part.getD []).length + 9 ≤ 2048) ∧ (s.spi.endp .sel0).part ≠ none) ∧
    (spied.spi.endp .sel0).part = none ∧ 1408 < (zeros 1409).length ∧ (zeros 1408).length ≤ 1408 ∧
    unitSel 1 = .sel0 ∧ unitSel 0x21 = .sel1 ∧ ({ spied with spi := { echo := true } } : State).spi.echo = true ∧ spied.spi.echo = false := by
  refine ⟨by decide +kernel, by decide +kernel, by decide +kernel, by decide +kernel, by decide +kernel, by decide +kernel, by decide +kernel,
    by decide +kernel, by decide +kernel, by decide +kernel⟩

/-! ### Worked examples and check values of the spec -/

/-- The ASCII string "123456789". -/
def checkString : List Byte := [0x31, 0x32, 0x33, 0x34, 0x35, 0x36, 0x37, 0x38, 0x39]

/-- The published check value of CRC-32C, the CRC of R24: 0xE306_9283 (from outside the spec). -/
theorem test_crc32c_check : crc32c checkString = 0xE3069283 := by decide +kernel

/-- Check value of R197: 0x995D_C9BB_DF19_39FA. -/
theorem test_crc64_check : crc64 checkString = 0x995DC9BBDF1939FA := by decide +kernel

/-- The words W0 to W7 of T2:0x0101 in the worked 15693 hook scan (chapter 2). -/
def hookStage : Stage := Stage.ofBytes ([0x09010384, 0x000034F8, 0, 0x04104012, 0x41200003, 0x000010E0, 0x00010202, 0x00808000].flatMap (natLE 4))

theorem test_hook_stage_decodes :
    (hookStage.kind, hookStage.tmode, hookStage.rquiet, hookStage.next) = (4, 0, true, 0x103) ∧
    (hookStage.retry, hookStage.pmode, hookStage.time, hookStage.wave) = (2, 1, 13560, 0x12) ∧
    (hookStage.fbuf, hookStage.rbuf, hookStage.lset, hookStage.comb) = (0x40, 0x41, 3, 0) ∧
    (hookStage.winm, hookStage.wine, hookStage.fdtmin, hookStage.tout) = (288, 4, 4320, 0) ∧
    hookStage.map = [2, 2, 1, 0, 0, 0x80, 0x80, 0] := by decide +kernel

/-- The same exchange's request lasts from 1,132.0 us to 2,755.7 us, 22,016 ct: SOF, 40 bits in 20 symbol pairs, EOF. -/
theorem test_hook_request_lasts : frameCt [0, 2, 0, 0] (codeFrame 2 24 [0x26, 1, 0]) = 22016 := by decide +kernel

/-- An FWT of FWI 7 and 49,152 ct round up to 2^20 ct (R152). -/
theorem test_fwt_window : fwtWindow (fwtOf 7) = 2 ^ 20 := by decide +kernel

/-- The Type A example of chapter 5: 13 known bits `04 03`, the 14th set to 1, go out as `93 36 04 23` in 30 bits; the answer
`80 5C 91 6A`, of 26 bits, completes the UID `04 A3 5C 91`. -/
theorem test_anticollision_example :
    (let known := (bitsOfBytes [0x04, 0x03]).take 13 ++ [true]
     (anticollision 0 known).frame = [0x93, 0x36, 0x04, 0x23] ∧ (anticollision 0 known).bits = 30 ∧
     levelBytes known 26 [0x80, 0x5C, 0x91, 0x6A] = some [0x04, 0xA3, 0x5C, 0x91]) ∧
    (selectA 0 [0x04, 0xA3, 0x5C, 0x91]).frame = [0x93, 0x70, 0x04, 0xA3, 0x5C, 0x91, 0x6A] := by decide +kernel

/-- The locker door's map of the Millbrook example: 60 sub-carriers at 16-QAM, 28 at QPSK, 8 off; a block takes 44 symbols. -/
def lockerMap : List Byte := mapBytes (List.replicate 60 3 ++ List.replicate 28 2 ++ List.replicate 8 0)

theorem test_locker_map : mapBits lockerMap = 296 ∧ mapDbps lockerMap = 222 ∧ symbolsOf 222 1200 = 44 ∧ symbolsOf 96 1200 = 101 := by decide +kernel

end Sys2Proof.Tests
end

section
/-!
PROOFS. Register writes of the Kenier pair, stops of guest handlers and lockstep mismatches (R267, R272, R411).
-/

namespace Sys2Proof.Machine

open Sys2Proof

/-! ### Register writes (R411) -/

/-- The bank of an address is the one it was formed of; so is the offset (`addrOf_mod`). -/
@[simp] theorem bankOf_addrOf (bank : BitVec 9) (off : BitVec 16) : bankOf (addrOf bank.toNat off.toNat) = bank.toNat := by
  unfold bankOf addrOf
  omega

@[simp] theorem addrOf_mod (b : Nat) (off : BitVec 16) : addrOf b off.toNat % 65536 = off.toNat := by
  unfold addrOf
  omega

/-- A write that is not one of a sleep request to PWRCTL has the effect of the register write alone. -/
theorem ioWrite_of_no_sleep {a v : Nat} (h : bankOf a ≠ 0x182 ∨ a % 65536 ≠ 0 ∨ bitsOf v 2 2 = 0) (who : Writer) (s : State) :
    s.ioWrite who a v = s.ioWriteWord who a v := by
  refine if_neg fun ⟨hbank, hoff, hsleep, _⟩ => ?_
  rcases h with h | h | h
  · exact h hbank
  · exact h hoff
  · omega

theorem execRegisterWrite_of_run {s : State} {off : BitVec 16} (hrun : s.power.state = 0) (hal : off.toNat % 4 = 0) (bank : BitVec 9) (v : Word) :
    execRegisterWrite bank off v s = .next (s.ioWrite .core (addrOf bank.toNat off.toNat) v.toNat) :=
  if_pos ⟨hrun, hal⟩

theorem execRegisterWrite_of_not_run {s : State} {off : BitVec 16} (h : s.power.state ≠ 0 ∨ off.toNat % 4 ≠ 0) (bank : BitVec 9) (v : Word) :
    execRegisterWrite bank off v s = .next s :=
  if_neg fun ⟨hrun, hal⟩ => h.elim (· hrun) (· hal)

/-- A field-side register write in Run, beside a sleep request. -/
theorem execRegisterWrite_of_no_sleep {s : State} {bank : BitVec 9} {off : BitVec 16} {v : Word} (hrun : s.power.state = 0)
    (hal : off.toNat % 4 = 0) (h : bank ≠ 0x182 ∨ off ≠ 0 ∨ bitsOf v.toNat 2 2 = 0) :
    execRegisterWrite bank off v s = .next (s.ioWriteWord .core (addrOf bank.toNat off.toNat) v.toNat) := by
  have hno : bankOf (addrOf bank.toNat off.toNat) ≠ 0x182 ∨ addrOf bank.toNat off.toNat % 65536 ≠ 0 ∨ bitsOf v.toNat 2 2 = 0 := by
    rw [bankOf_addrOf, addrOf_mod]
    exact h.imp (fun hb e => hb (BitVec.eq_of_toNat_eq e)) (Or.imp_left fun ho e => ho (BitVec.eq_of_toNat_eq e))
  rw [execRegisterWrite_of_run hrun hal, ioWrite_of_no_sleep hno]

/-! ### Stops of a guest handler (R272) -/

/-- A handler that runs in guest mode, with no transfer waiting for its slot, is stopped by trap GUEST at its own address. -/
theorem execGuestStop_of_running {s : State} {h : Nat × Nat} (hrun : s.guest.running = some h) (hguest : s.coreF.guest = true)
    (hslot : s.coreF.slot = none) : execGuestStop s = .next ((s.trap .field 9 0 s.coreF.pc).guestStop s.coreF.pc.toNat) :=
  if_pos ⟨Option.isSome_of_eq_some hrun, hguest, hslot⟩

theorem execGuestStop_of_idle {s : State} (hidle : s.guest.running = none) : execGuestStop s = .next s :=
  if_neg fun ⟨hsome, _⟩ => by simp [hidle] at hsome

/-- Settles O37: a register write is `ioWrite` at the address formed of bank and offset, which without a sleep request is the
register write alone; a guest stop and a lockstep mismatch are the equations of their commands. -/
theorem registerWritesAndStops : Obligations.RegisterWritesAndStops := by
  unfold Obligations.RegisterWritesAndStops
  intro s bank off v a
  rw [exec_registerWrite, exec_guestStop, exec_lockstepMismatch]
  exact ⟨execRegisterWrite_of_no_sleep, fun h => execRegisterWrite_of_not_run h bank v, fun _ => execGuestStop_of_running,
    execGuestStop_of_idle, rfl⟩

end Sys2Proof.Machine
end

section
/-!
PROOFS. The receiver of a message link: the checks of an arriving message, and its delivery (R24 to R28, R361).
-/

namespace Sys2Proof.Machine

open Sys2Proof

/-! ### The receiver (R26, R28) -/

theorem linkUps_of_up {s : State} {e : LinkEnd} (hup : (s.link e).up = true) : s.linkUps e = s := if_pos hup

/-- The state after an end has accepted a message of a type: a sequenced one advances the expected SEQ, and an acknowledgement is owed. -/
def State.accepts (e : LinkEnd) (typ : Nat) (s : State) : State :=
  if unsequenced e typ = true then s else s.modLink e fun l => { l with expRx := (l.expRx + 1) % 65536, owe := true }

section
variable {s : State} {e : LinkEnd} {typ : Nat} {f : List Byte} (hruns : s.endRuns e = true) (hup : (s.link e).up = true)
include hruns hup

/-- A frame that fails a check is dropped, counted and answered by LINK_ACK, as whatever message it came. -/
theorem receive_of_failed {k : Nat} (hcheck : frameCheck e s.twin.role (s.link e).expRx f = k) (hk : k ≠ 0) (d : State → State) :
    s.receive e typ f d = (s.modLink e (Link.drop k)).sendAck e := by
  unfold State.receive
  simp [hruns, linkUps_of_up hup, hcheck, hk]

/-- A frame that passes as the message of its type is delivered. -/
theorem receive_of_passed (hcheck : frameCheck e s.twin.role (s.link e).expRx f = 0) (htyp : fieldLE f 0 1 = typ) (d : State → State) :
    s.receive e typ f d = d (s.accepts e typ) := by
  have hty : frameType f = typ := htyp
  unfold State.receive State.accepts
  cases unsequenced e typ <;> simp [hruns, linkUps_of_up hup, hcheck, hty]

end

theorem receive_of_not_runs {s : State} {e : LinkEnd} (h : s.endRuns e = false) (typ : Nat) (f : List Byte) (d : State → State) :
    s.receive e typ f d = s := by
  unfold State.receive
  simp [h]

/-! ### The checks in order (R24, R26) -/

/-- Check 1 of R26: the frame holds its payload and its CRC, which matches. -/
def crcHolds (f : List Byte) : Prop :=
  f.length = 12 + fieldLE f 4 2 ∧ fieldLE f (8 + fieldLE f 4 2) 4 = crc32c (f.take (8 + fieldLE f 4 2))

/-- Check 2 of R26: reserved bits are 0, and the length is a multiple of 4 up to 520. -/
def headerHolds (f : List Byte) : Prop := fieldLE f 1 1 / 2 = 0 ∧ fieldLE f 6 2 = 0 ∧ fieldLE f 4 2 % 4 = 0 ∧ fieldLE f 4 2 ≤ 520

section
variable {e : LinkEnd} {role expRx : Nat} {f : List Byte}

theorem frameCheck_of_crc (h : ¬ crcHolds f) : frameCheck e role expRx f = 1 :=
  if_pos (Classical.not_and_iff_not_or_not.1 h)

variable (hcrc : crcHolds f)
include hcrc

theorem frameCheck_past_crc : ¬ (f.length ≠ 12 + frameLen f ∨ fieldLE f (8 + frameLen f) 4 ≠ crc32c (f.take (8 + frameLen f))) :=
  not_or.2 ⟨Classical.not_not.2 hcrc.1, Classical.not_not.2 hcrc.2⟩

theorem frameCheck_of_header (h : ¬ headerHolds f) : frameCheck e role expRx f = 2 :=
  (if_neg (frameCheck_past_crc hcrc)).trans (if_pos (by
    simpa only [headerHolds, frameFlags, frameLen, ne_eq, gt_iff_lt, Classical.not_and_iff_not_or_not, Nat.not_le] using h))

variable (hhead : headerHolds f)
include hhead

/-- What the checks 3 to 5 make of a frame whose CRC and header hold. -/
theorem frameCheck_of_framed : frameCheck e role expRx f =
    if typePermitted e role (fieldLE f 0 1) = false then 3
    else if lengthPermitted (fieldLE f 0 1) (fieldLE f 4 2) = false then 4
    else if unsequenced e (fieldLE f 0 1) = false ∧ fieldLE f 2 2 ≠ expRx then 5
    else 0 :=
  (if_neg (frameCheck_past_crc hcrc)).trans (if_neg (by
    simpa only [headerHolds, frameFlags, frameLen, ne_eq, gt_iff_lt, not_or, Classical.not_not, Nat.not_lt] using hhead))

end

/-! ### Rows -/

/-- A command is the arrival of a message at an end: some type, and some delivery. -/
def Arrival (f : List Byte) (s : State) (p : Instr × LinkEnd) : Prop := ∃ typ d, exec p.1 s = .next (s.receive p.2 typ f d)

/-- Settles O46: each row is the receiver at its end, which drops the frame at the first check that fails and otherwise delivers it. -/
theorem arrivingMessagesAreChecked : Obligations.ArrivingMessagesAreChecked := by
  unfold Obligations.ArrivingMessagesAreChecked
  intro s e l c f pos peer rid n m q v x recs p n16 wv rv cm km dm hm b rp hrow hruns hup len crcOk headOk typeOk lenOk seqOk drops
  obtain ⟨typ, d, hexec⟩ : Arrival f s (c, e) := by
    revert hrow
    generalize (c, e) = row
    revert row
    simp only [List.forall_mem_cons, List.not_mem_nil, false_implies, implies_true, and_true]
    and_intros <;> exact ⟨_, _, rfl⟩
  have hdrop {k : Nat} (hk : k ≠ 0) (h : frameCheck e s.twin.role (s.link e).expRx f = k) : drops (Link.drop k) :=
    hexec.trans (congrArg _ (receive_of_failed hruns hup h hk d))
  refine ⟨fun hcrc => hdrop (k := 1) (by decide) (frameCheck_of_crc hcrc),
    fun hcrc hhead => hdrop (k := 2) (by decide) (frameCheck_of_header hcrc hhead), fun hcrc hhead htype => ?_,
    fun hcrc hhead htype hlen => ?_, fun hcrc hhead htype hlen hseq => ?_, fun hcrc hhead htype hlen hseq d => ?_⟩
  all_goals have hcheck := frameCheck_of_framed (e := e) (role := s.twin.role) (expRx := (s.link e).expRx) hcrc hhead
  · exact hdrop (k := 3) (by decide) (hcheck.trans (if_pos (Bool.of_not_eq_true htype)))
  all_goals rw [if_neg (ne_false_of_eq_true htype)] at hcheck
  · exact hdrop (k := 4) (by decide) (hcheck.trans (if_pos (Bool.of_not_eq_true hlen)))
  all_goals rw [if_neg (ne_false_of_eq_true hlen)] at hcheck
  · exact hdrop (k := 5) (by decide)
      (hcheck.trans (if_pos ⟨Bool.of_not_eq_true fun h => hseq (.inl h), fun h => hseq (.inr h)⟩))
  · exact receive_of_passed hruns hup
      (hcheck.trans (if_neg fun ⟨hunseq, hne⟩ => hseq.elim (ne_true_of_eq_false hunseq) hne)) rfl d

end Sys2Proof.Machine
end

section
/-!
PROOFS. What a delivered link message does, and the timers of a link (R22, R23, R28, R30, R43, R393, R476).
-/

namespace Sys2Proof.Machine

open Sys2Proof

/-! ### Answers over the Porter (R23) -/

theorem proxyAnswer_of_held {s : State} {peer : Peer} {rid : Nat} {q : Option DictReq} {p : Proxied}
    (h : s.proxied.find? (fun p => decide (p.peer = peer ∧ p.rid = rid ∧ p.q = q)) = some p) (resp : List Byte) :
    s.proxyAnswer peer rid q resp = ({ s with proxied := s.proxied.erase p } : State).reply (.unit peer p.unit resp) := by
  simp only [State.proxyAnswer, h]

theorem proxyAnswer_of_not_held {s : State} {peer : Peer} {rid : Nat} {q : Option DictReq}
    (h : ∀ p ∈ s.proxied, ¬ (p.peer = peer ∧ p.rid = rid ∧ p.q = q)) (resp : List Byte) : s.proxyAnswer peer rid q resp = s := by
  have hnone : s.proxied.find? (fun p => decide (p.peer = peer ∧ p.rid = rid ∧ p.q = q)) = none :=
    List.find?_eq_none.2 fun p hp => by simpa using h p hp
  simp only [State.proxyAnswer, hnone]

/-- A unit that leaves as an answer leaves the proxied requests. -/
theorem reply_unit_proxied (p : Peer) (req bytes : List Byte) (s : State) : (s.reply (.unit p req bytes)).proxied = s.proxied := by
  cases p <;> rfl

/-- Refusing every proxied request leaves none (R23). -/
theorem refuseProxied_proxied (s : State) : s.refuseProxied.proxied = [] := by
  unfold State.refuseProxied
  exact List.foldlRecOn (motive := fun t : State => t.proxied = []) s.proxied _ rfl fun t ht p _ => (reply_unit_proxied _ _ _ t).trans ht

/-! ### Reports (R43, R196) -/

/-- A report is pushed to each of the peers while the ports serve. -/
theorem pushReports_eq (b : List Byte) (ps : List Peer) (s : State) :
    ps.foldl (fun s p => s.when s.serving (State.emit (.report p b))) s =
      { s with out := s.out ++ if s.serving then ps.map fun p => .report p b else [] } := by
  induction ps generalizing s with
  | nil => simp
  | cons p ps ih =>
    rw [List.foldl_cons, ih]
    cases h : s.serving
    · simp [State.when, h]
    · have hserve : (s.emit (.report p b)).serving = true := h
      simp only [State.when, hserve, if_true, List.map_cons]
      simp [State.emit]

theorem carryReport_of_short {s : State} {b : List Byte} (h : (s.carrying ++ b).length < 24 + 24 * fieldLE (s.carrying ++ b) 8 4) :
    s.carryReport b = { s with carrying := s.carrying ++ b } := if_pos h

/-- A report that is whole reaches every observer. -/
theorem carryReport_of_whole {s : State} {b all : List Byte} {n : Nat} (hall : all = s.carrying ++ b) (hn : n = 24 + 24 * fieldLE all 8 4)
    (h : n ≤ all.length) : s.carryReport b = { s with
      carrying := [], carried := all.take n
      out := s.out ++ (if s.serving then s.observers.map fun o => .report o.peer (all.take n) else []) } := by
  subst hall hn
  refine (if_neg (by omega)).trans ((pushReports_eq _ _ _).trans ?_)
  rw [List.map_map]
  rfl

/-! ### Timers of a link (R28, R30) -/

section
variable {s : State} {e : LinkEnd}

theorem execHelloPeriod_of_idle (hruns : s.endRuns e = true) (h : (s.link e).queue = [] ∨ (s.link e).up = false) :
    execHelloPeriod e s = .next (s.sendHello e) := if_pos ⟨hruns, h⟩

theorem execHelloPeriod_of_busy (hq : (s.link e).queue ≠ []) (hup : (s.link e).up = true) : execHelloPeriod e s = .next s :=
  if_neg (by simp [hq, hup])

theorem execAckPeriod_of_owing (hruns : s.endRuns e = true) (h : (s.link e).owe = true) : execAckPeriod e s = .next (s.sendAck e) :=
  if_pos ⟨hruns, h⟩

theorem execAckPeriod_of_not_owing (h : (s.link e).owe = false) : execAckPeriod e s = .next s := if_neg (by simp [h])

theorem execRetransmitTimeout_of_up (hruns : s.endRuns e = true) (h : (s.link e).up = true) :
    execRetransmitTimeout e s = .next (s.retransmit e) := if_pos ⟨hruns, h⟩

theorem execRetransmitTimeout_of_down (h : (s.link e).up = false) : execRetransmitTimeout e s = .next s := if_neg (by simp [h])

theorem execLinkLost_of_down (h : (s.link e).up = false) : execLinkLost e s = .next s := if_pos (by simp [h])

/-- The loss of a link that is up: counted, then by its end (R30). -/
theorem execLinkLost_of_up (hruns : s.endRuns e = true) (hup : (s.link e).up = true) :
    let u := s.modLink e fun l => { l with up := false, losses := l.losses + 1 }
    execLinkLost e s = .next (match e with
      | .porterField => u.raiseFault .field 8 1 2 []
      | .porterHost => ({ u.refuseProxied with carrying := [] } : State).raiseFault .host 8 1 2 []
      | .twin => u.twinLost) := by
  intro u
  refine (if_neg (by simp [hruns, hup])).trans ?_
  cases e <;> rfl

/-- At an end that does not run no timer has an effect. -/
theorem timers_of_not_runs (h : s.endRuns e = false) : execHelloPeriod e s = .next s ∧ execAckPeriod e s = .next s ∧
    execRetransmitTimeout e s = .next s ∧ execLinkLost e s = .next s :=
  ⟨if_neg (by simp [h]), if_neg (by simp [h]), if_neg (by simp [h]), if_pos (by simp [h])⟩

end

/-! ### Deliveries -/

/-- Settles O47: a message that passes its checks at a running end is its row's delivery on the state that has accepted it; the timers
are the equations of their rows. -/
theorem linkMessagesAreDelivered : Obligations.LinkMessagesAreDelivered := by
  unfold Obligations.LinkMessagesAreDelivered
  refine ⟨fun s u e f typ hruns hup hcheck htyp hu => ?_, fun s e hruns => ?_, fun s e f hruns => ?_⟩
  · have hd (k : Nat) (hk : typ = k) (d : State → State) : (.next (s.receive e k f d) : Result) = .next (d u) := by
      subst hk hu
      exact congrArg _ (receive_of_passed hruns hup hcheck htyp d)
    refine ⟨fun h hne pos => (hd 1 h _).trans (congrArg _ (if_neg hne)), fun h => hd 2 h _, fun h => hd 3 h _, ?_, ?_,
      fun h => hd 0x40 h _, fun h h1 h2 => (hd 0x7F h _).trans (congrArg _ (if_pos ⟨h1, h2⟩)),
      fun h hno => (hd 0x7F h _).trans (congrArg _ (if_neg (Classical.not_and_iff_not_or_not.2 hno)))⟩
    · rintro rfl
      exact ⟨fun h _ _ _ => hd 0x10 h _, fun h _ => hd 0x12 h _, fun h _ => hd 0x21 h _, fun h _ _ => hd 0x31 h _, fun h => hd 0x60 h _⟩
    · rintro rfl
      refine ⟨fun peer rid k c resp hrow => ?_, fun h _ => hd 0x20 h _, fun h => hd 0x30 h _, fun h _ => hd 0x40 h _, fun h _ => hd 0x41 h _,
        fun h b n hb hn => ?_, fun h => hd 0x60 h _⟩
      · have hanswer : exec c s = .next (u.proxyAnswer peer rid k resp) := by
          obtain ⟨q, st, v, h, rfl, rfl, rfl⟩ | ⟨h, rfl, rfl, rfl⟩ := hrow
          · exact hd 0x11 h _
          · exact hd 0x13 h _
        exact ⟨fun p hp => hanswer.trans (congrArg _ (proxyAnswer_of_held hp resp)),
          fun hno => hanswer.trans (congrArg _ (proxyAnswer_of_not_held hno resp))⟩
      · have hreport : exec (.report f) s = .next (u.carryReport (sliceBytes f 8 (fieldLE f 4 2))) := hd 0x50 h _
        refine ⟨fun hshort => hreport.trans (congrArg _ ?_), fun hwhole => hreport.trans (congrArg _ (carryReport_of_whole hb hn hwhole))⟩
        subst hb hn
        exact carryReport_of_short hshort
  · refine ⟨execHelloPeriod_of_idle hruns, execHelloPeriod_of_busy, execAckPeriod_of_owing hruns, execAckPeriod_of_not_owing,
      fun hdown => ⟨execRetransmitTimeout_of_down hdown, execLinkLost_of_down hdown⟩,
      fun hup => ⟨execRetransmitTimeout_of_up hruns hup, fun u hu => ?_⟩⟩
    have hlost := execLinkLost_of_up hruns hup
    subst hu
    refine ⟨?_, ?_, ?_⟩ <;> rintro rfl
    · exact hlost
    · exact ⟨refuseProxied_proxied _, hlost⟩
    · exact hlost
  · obtain ⟨hhello, hack, hretransmit, hlost⟩ := timers_of_not_runs hruns
    exact ⟨hhello, hack, hretransmit, hlost, congrArg _ (receive_of_not_runs hruns 2 f _)⟩

end Sys2Proof.Machine
end

section
/-!
PROOFS. LDP units: their checks, the requests they carry, observers, stores and resends (R22, R23, R306 to R310, R322 to R325, R399).
-/

namespace Sys2Proof.Machine

open Sys2Proof

/-! ### Fields of a unit (R306) -/

theorem fieldLE_drop (k off n : Nat) (bs : List Byte) : fieldLE (bs.drop k) off n = fieldLE bs (k + off) n := by
  simp [fieldLE, sliceBytes, List.getElem?_drop, Nat.add_assoc]

/-- The type of a unit made of its parts. -/
theorem unitBytes_type (ty rid : Nat) (body : List Byte) : fieldLE (unitBytes ty rid body) 1 1 = ty % 256 := by
  simp [fieldLE, sliceBytes, leNat, unitBytes, b8]

/-! ### The checks of a unit (R308) -/

/-- Length and reserved fields that a body has by its type (R307, R308, R322). -/
def bodyFits (ty : Nat) (b : List Byte) : Prop :=
  (ty = 1 → b.length = 4 ∧ fieldLE b 3 1 = 0) ∧ (ty = 2 → 4 ≤ b.length ∧ fieldLE b 3 1 = 0) ∧
  (ty = 0x10 → b.length = 4) ∧ (ty = 0x12 → b.length = 8) ∧
  (ty = 0x21 → b.length = 28 ∧ fieldLE b 1 3 = 0 ∧ fieldLE b 24 4 = 0)

theorem bodyOk_iff {ty : Nat} (hty : ty ∈ [1, 2, 0x10, 0x12, 0x21]) (b : List Byte) : bodyOk ty b = true ↔ bodyFits ty b := by
  simp only [List.mem_cons, List.not_mem_nil, or_false] at hty
  obtain rfl | rfl | rfl | rfl | rfl := hty <;> simp [bodyOk, bodyFits, and_assoc]

theorem unitOk_iff {ty : Nat} {u : List Byte} (htyp : fieldLE u 1 1 = ty) (hty : ty ∈ [1, 2, 0x10, 0x12, 0x21]) : unitOk u = true ↔
    8 ≤ u.length ∧ fieldLE u 0 1 = 1 ∧ fieldLE u 4 2 + 8 = u.length ∧ fieldLE u 4 2 ≤ 1400 ∧ fieldLE u 6 2 = 0 ∧ bodyFits ty (u.drop 8) := by
  simp [unitOk, htyp, bodyOk_iff hty, and_assoc]

section
variable {s : State} {u : LdpIn} (hserve : s.serving = true)
include hserve

theorem ldpUnit_of_bad (hbad : unitOk u.bytes = false) : s.ldpUnit u = s.sendUnit u.peer (errorUnit u.bytes) :=
  (if_neg (by simp [hserve])).trans (if_pos hbad)

variable (hok : unitOk u.bytes = true)
include hok

theorem ldpUnit_of_answered {a : Answered} (ha : s.answered u = some a) : s.ldpUnit u = s.sendUnit u.peer a.resp := by
  simp [State.ldpUnit, hserve, hok, ha]

theorem ldpUnit_of_new (ha : s.answered u = none) : s.ldpUnit u = s.serveUnit false u := by
  simp [State.ldpUnit, hserve, hok, ha]

end

/-- Where the ports do not serve, or a unit has another type, its row has no effect. -/
theorem unitOf_of_other {s : State} {u : LdpIn} {ty : Nat} (h : fieldLE u.bytes 1 1 ≠ ty ∨ s.serving = false) : s.unitOf ty u = s := by
  unfold State.unitOf
  split
  next htyp => exact if_pos (by simpa using h.resolve_left (Classical.not_not.2 htyp))
  · rfl

/-- A stored response answers a unit that came over the ring within the last 2 s (R308). -/
def StoredFor (s : State) (u : LdpIn) (a : Answered) : Prop :=
  u.peer ≠ .spi ∧ a ∈ s.recent ∧ a.peer = u.peer ∧ a.unit = u.bytes ∧ s.tb.ts ≤ a.ts + 2000000

theorem answered_of_stored {s : State} {u : LdpIn} (h : ∃ a, StoredFor s u a) : ∃ a, StoredFor s u a ∧ s.answered u = some a := by
  obtain ⟨b, hring, hmem, hb⟩ := h
  have hsome : (s.answered u).isSome := by
    simp only [State.answered, if_neg hring, List.find?_isSome]
    exact ⟨b, hmem, by simpa [and_assoc] using hb⟩
  obtain ⟨a, ha⟩ := Option.isSome_iff_exists.1 hsome
  have hfind := (if_neg hring).symm.trans ha
  exact ⟨a, ⟨hring, List.mem_of_find?_eq_some hfind, by simpa [and_assoc] using List.find?_some hfind⟩, ha⟩

theorem answered_of_none_stored {s : State} {u : LdpIn} (h : ∀ a, ¬ StoredFor s u a) : s.answered u = none := by
  unfold State.answered
  split
  · rfl
  next hring =>
    refine List.find?_eq_none.2 fun a ha hmatch => h a ⟨hring, ha, ?_⟩
    simpa [and_assoc] using hmatch

/-! ### The front end (R5, R22, R23) -/

section
variable {s : State} {idx sub : Nat} {read : Bool}

theorem frontEnd_of_error {st : Status} (h : objectAt idx sub read = .error st) : s.frontEnd idx sub read = some st := by
  simp [State.frontEnd, h]

theorem frontEnd_of_porter_down {o : Obj} (h : objectAt idx sub read = .ok o) (hf : fieldIndex idx = true) (hdown : s.linkH.up = false) :
    s.frontEnd idx sub read = some .porterDown := by
  simp [State.frontEnd, h, hf, hdown]

theorem frontEnd_of_reachable {o : Obj} (h : objectAt idx sub read = .ok o) (hr : fieldIndex idx = true → s.linkH.up = true) :
    s.frontEnd idx sub read = none := by
  simpa [State.frontEnd, h] using hr

end

/-! ### Requests (R307, R309) -/

section
variable {s : State} {u : LdpIn} {idx sub : Nat} (hidx : idx = fieldLE (u.bytes.drop 8) 0 2) (hsub : sub = fieldLE (u.bytes.drop 8) 2 1)
include hidx hsub

/-- A READ that the front end refuses, sends on, or serves. -/
theorem serveRead_of_refused {st : Status} (h : s.frontEnd idx sub true = some st) : s.serveRead u = s.dictAnswer u (.read idx sub) st [] := by
  subst hidx hsub
  simp only [State.serveRead, h]

theorem serveRead_of_field (h : s.frontEnd idx sub true = none) (hf : fieldIndex idx = true) :
    s.serveRead u = s.proxyUnit u (.read idx sub) := by
  subst hidx hsub
  simp only [State.serveRead, h, hf, if_true]

theorem serveRead_of_host {st : Status} {v : List Byte} {t : State} (h : s.frontEnd idx sub true = none) (hf : fieldIndex idx = false)
    (hread : s.dictRead idx sub = (st, v, t)) : s.serveRead u = t.dictAnswer u (.read idx sub) st v := by
  subst hidx hsub
  simp [State.serveRead, h, hf, hread]

/-- A WRITE that the front end refuses, sends on, or serves. -/
theorem serveWrite_of_refused {st : Status} (h : s.frontEnd idx sub false = some st) :
    s.serveWrite u = s.dictAnswer u (.write idx sub ((u.bytes.drop 8).drop 4)) st [] := by
  subst hidx hsub
  simp only [State.serveWrite, h]

theorem serveWrite_of_field (h : s.frontEnd idx sub false = none) (hf : fieldIndex idx = true) :
    s.serveWrite u = s.proxyUnit u (.write idx sub ((u.bytes.drop 8).drop 4)) := by
  subst hidx hsub
  simp only [State.serveWrite, h, hf, if_true]

theorem serveWrite_of_host {st : Status} {t : State} (h : s.frontEnd idx sub false = none) (hf : fieldIndex idx = false)
    (hwrite : s.dictWrite (decide (u.peer = .spi)) idx sub ((u.bytes.drop 8).drop 4) = (st, t)) :
    s.serveWrite u = t.replyAfter (if st = .ok then some (writeMirror idx sub ((u.bytes.drop 8).drop 4)) else none)
      (.unit u.peer u.bytes (dictUnit (fieldLE u.bytes 2 2) (.write idx sub ((u.bytes.drop 8).drop 4)) st.code [])) := by
  subst hidx hsub
  simp only [State.serveWrite, h, hf, State.writeFor, hwrite, Bool.false_eq_true, if_false]

end

/-! ### Observers (R310) -/

section
variable {s : State} {p : Peer} {mask : Nat}

theorem setObserver_of_zero (h : mask = 0) :
    s.setObserver p mask = (.ok, { s with observers := s.observers.filter fun o => decide (o.peer ≠ p) }) := if_pos h

variable (hmask : mask ≠ 0)
include hmask

theorem setObserver_of_known (hknown : ∃ o ∈ s.observers, o.peer = p) : s.setObserver p mask = (.ok,
    { s with observers := s.observers.map fun (o : Observer) => if o.peer = p then { o with mask := mask } else o }) :=
  (if_neg hmask).trans (if_pos (by simpa using hknown))

variable (hnew : ¬ ∃ o ∈ s.observers, o.peer = p)
include hnew

/-- A ninth observer over the ring finds no room. -/
theorem setObserver_of_full (hfull : p ≠ .spi ∧ 8 ≤ (s.observers.filter fun o => decide (o.peer ≠ .spi)).length) :
    s.setObserver p mask = (.busy, s) :=
  (if_neg hmask).trans ((if_neg (by simpa using hnew)).trans (if_pos hfull))

theorem setObserver_of_room (hroom : ¬ (p ≠ .spi ∧ 8 ≤ (s.observers.filter fun o => decide (o.peer ≠ .spi)).length)) :
    s.setObserver p mask = (.ok, { s with observers := s.observers ++ [{ peer := p, mask := mask }] }) :=
  (if_neg hmask).trans ((if_neg (by simpa using hnew)).trans (if_neg hroom))

end

/-- A SUBSCRIBE unit answers with its status, and an accepted one is mirrored first. -/
theorem serveSubscribe_of_ok {s t : State} {u : LdpIn} (h : s.setObserver u.peer (fieldLE u.bytes 8 4) = (.ok, t)) :
    s.serveSubscribe u = (t.mirror 0x89 (.mHost (.subscribe u.peer (fieldLE u.bytes 8 4)))).reply
      (.unit u.peer u.bytes (unitBytes 0x90 (fieldLE u.bytes 2 2) [0, 0, 0, 0])) := by
  simp only [State.serveSubscribe, h, State.when]
  rfl

theorem serveSubscribe_of_busy {s t : State} {u : LdpIn} (h : s.setObserver u.peer (fieldLE u.bytes 8 4) = (.busy, t)) :
    s.serveSubscribe u = t.reply (.unit u.peer u.bytes (unitBytes 0x90 (fieldLE u.bytes 2 2) [b8 9, 0, 0, 0])) := by
  simp only [State.serveSubscribe, h, State.when]
  rfl

theorem resendEvents_of_silent {s : State} {p : Peer} (h : s.serving = false ∨ s.twin.role = 2 ∨ ∀ o ∈ s.observers, o.peer ≠ p) :
    s.resendEvents p = s := by
  unfold State.resendEvents
  split
  · rfl
  next o ho =>
    refine if_pos ?_
    obtain h | h | h := h
    · exact .inl (by simp [h])
    · exact .inr h
    · exact absurd (by simpa using List.find?_some ho) (h o (List.mem_of_find?_eq_some ho))

theorem resendEvents_of_observer {s : State} {p : Peer} {o : Observer} (hserve : s.serving = true) (hrole : s.twin.role ≠ 2)
    (ho : (s.observers.find? fun o => decide (o.peer = p)) = some o) : s.resendEvents p =
      ({ s with observers := s.observers.map fun (x : Observer) => if x.peer = p then { x with dropped := false } else x } : State).sendEvents
        p o.dropped true o.unacked := by
  simp only [State.resendEvents, ho]
  exact if_neg (by simp [hserve, hrole])

/-! ### Stores (R322 to R325) -/

section
variable {s : State} {k : Nat}

/-- An acknowledgement of no enabled store, below A, or beyond the last record sent. -/
def offTrack (s : State) (k a : Nat) : Prop :=
  3 < k ∨ storeEnabled s k = false ∨ offBelow a (s.store k).ack = true ∨ offBelow (s.store k).send a = true

theorem ackStore_of_off {a : Nat} (h : offTrack s k a) (start count : Nat) :
    s.ackStore k a start count = { s with journal := { s.journal with ignored := s.journal.ignored + 1 } } :=
  if_pos (by simpa [offTrack] using h)

theorem ackStore_of_on {a : Nat} (h : ¬ offTrack s k a) (start count : Nat) : s.ackStore k a start count =
    ((((s.modStore k fun x => { x with ack := a }).send .porterHost 0x31 (.journalAck k a)).mirror 0x89
      (.mHost (.storeAck k a))).repair k start count).streamOut k :=
  if_neg (by simpa [offTrack] using h)

theorem resendStore_of_idle (h : storeEnabled s k = false ∨ (s.store k).send = (s.store k).ack) : s.resendStore k = s :=
  if_pos (by simpa using h)

theorem resendStore_of_sent (hen : storeEnabled s k = true) (hsent : (s.store k).send ≠ (s.store k).ack) : s.resendStore k =
    (({ s with journal := { s.journal with resent := s.journal.resent +
      (s.heldRecords.filter fun r => !(offBelow r.off (s.store k).ack) && offBelow r.off (s.store k).send).length } } : State).modStore k
        fun x => { x with send := x.ack }).streamOut k :=
  if_neg (by simp [hen, hsent])

end

/-! ### The fault record queue (R399) -/

theorem execNextRecord_eq_read (p : Peer) (rid : Nat) (s : State) :
    execNextRecord p rid s = execRead { peer := p, bytes := unitBytes 1 rid [0x00, 0xA0, 0x07, 0] } s := by
  have htyp : fieldLE (unitBytes 1 rid [0x00, 0xA0, 0x07, 0]) 1 1 = 1 := unitBytes_type 1 rid _
  simp only [execNextRecord, execRead, State.unitOf, htyp, if_true]

/-- The host side serves 0xA000.07 itself, for reads. -/
theorem locate_nextRecord (s : State) : ∃ o, s.locate 0xA000 7 true = .ok o ∧ o.access = .ro := by
  have hobj : findObj 0xA000 7 = some ⟨0xA000, 1, 0x07, 0x07, .bytes 32 true, .ro, .any, []⟩ := by decide +kernel
  have hat : objectAt 0xA000 7 true = .ok ⟨0xA000, 1, 0x07, 0x07, .bytes 32 true, .ro, .any, []⟩ := by
    unfold objectAt
    rw [if_neg (by omega), if_neg (by omega), hobj]
  have hfield : fieldIndex 0xA000 = false := by decide
  have hacross : acrossPorter 0xA000 7 = false := by decide
  refine ⟨⟨0xA000, 1, 0x07, 0x07, .bytes 32 true, .ro, .any, []⟩, ?_, rfl⟩
  simp only [State.locate, hat, hfield, hacross, Bool.false_eq_true, false_and, if_false]

/-- A read of 0xA000.07 returns the oldest fault record and takes it. -/
theorem dictRead_nextRecord (s : State) : s.dictRead 0xA000 7 = (.ok, s.records.headD [], { s with records := s.records.drop 1 }) := by
  obtain ⟨o, hloc, hro⟩ := locate_nextRecord s
  simp only [State.dictRead, hloc, hro, State.value]
  rfl

/-! ### Service by type (R307) -/

section
variable {s : State} {u : LdpIn}

theorem serveUnit_of_read (h : fieldLE u.bytes 1 1 = 1) : s.serveUnit false u = s.serveRead u := by simp only [State.serveUnit, h]
theorem serveUnit_of_write (h : fieldLE u.bytes 1 1 = 2) : s.serveUnit false u = s.serveWrite u := by simp only [State.serveUnit, h]
theorem serveUnit_of_subscribe (h : fieldLE u.bytes 1 1 = 0x10) : s.serveUnit false u = s.serveSubscribe u := by
  simp only [State.serveUnit, h]
theorem serveUnit_of_eventAck (h : fieldLE u.bytes 1 1 = 0x12) : s.serveUnit false u = s.serveEventAck u := by
  simp only [State.serveUnit, h]
theorem serveUnit_of_journalAck (h : fieldLE u.bytes 1 1 = 0x21) : s.serveUnit false u = s.serveJournalAck u := by
  simp only [State.serveUnit, h]

end

/-- Settles O57: the checks of R308 decide whether a unit is refused, answered again or served; a served one is its type's equation. -/
theorem unitsAreCheckedAndServed : Obligations.UnitsAreCheckedAndServed := by
  unfold Obligations.UnitsAreCheckedAndServed
  refine ⟨?_, fun s p rid => execNextRecord_eq_read p rid s, dictRead_nextRecord, ?_, ?_⟩
  · intro s u c ty hrow b rid fits good stored
    have hexec : exec c s = .next (s.unitOf ty u) := by
      have hrows : ∀ p ∈ [(Instr.read u, 1), (.write u, 2), (.subscribe u, 0x10), (.eventAck u, 0x12), (.journalAck u, 0x21)],
          exec p.1 s = .next (s.unitOf p.2 u) := by
        simp only [List.forall_mem_cons, List.not_mem_nil, false_implies, implies_true, and_true]
        exact ⟨rfl, rfl, rfl, rfl, rfl⟩
      exact hrows _ hrow
    have hty : ty ∈ [1, 2, 0x10, 0x12, 0x21] := List.mem_map_of_mem (f := Prod.snd) hrow
    refine ⟨fun h => hexec.trans (congrArg _ (unitOf_of_other h)), fun htyp hserve => ?_⟩
    have hunit : exec c s = .next (s.ldpUnit u) := hexec.trans (congrArg _ (if_pos htyp))
    have hgood : unitOk u.bytes = true ↔ good := unitOk_iff htyp hty
    refine ⟨fun hbad => hunit.trans (congrArg _ (ldpUnit_of_bad hserve (Bool.of_not_eq_true (mt hgood.1 hbad)))),
      fun hg hstored => ?_, fun hg hnew => ?_⟩
    · obtain ⟨a, ha, hans⟩ := answered_of_stored hstored
      exact ⟨a, ha, hunit.trans (congrArg _ (ldpUnit_of_answered hserve (hgood.2 hg) hans))⟩
    have hserved {t : State} (h : s.serveUnit false u = t) : exec c s = .next t :=
      hunit.trans (congrArg _ ((ldpUnit_of_new hserve (hgood.2 hg) (answered_of_none_stored hnew)).trans h))
    refine ⟨?_, ?_, ?_, ?_⟩
    · intro idx sub q hidx hsub hq answer
      obtain ⟨rfl, rfl⟩ | ⟨rfl, rfl⟩ := hq
      · have hread {t : State} (h : s.serveRead u = t) : exec c s = .next t := hserved ((serveUnit_of_read htyp).trans h)
        refine ⟨fun st hst => hread (serveRead_of_refused hidx hsub (frontEnd_of_error hst)), fun o ho => ⟨fun hf hdown => ?_, fun hf hup => ?_,
          fun hf _ st v t hval => ?_, fun _ h => absurd h (by decide)⟩⟩
        · exact hread (serveRead_of_refused hidx hsub (frontEnd_of_porter_down ho hf hdown))
        · exact hread (serveRead_of_field hidx hsub (frontEnd_of_reachable ho fun _ => hup) hf)
        · exact hread (serveRead_of_host hidx hsub (frontEnd_of_reachable ho (by simp [hf])) hf hval)
      · have hwrite {t : State} (h : s.serveWrite u = t) : exec c s = .next t := hserved ((serveUnit_of_write htyp).trans h)
        refine ⟨fun st hst => hwrite (serveWrite_of_refused hidx hsub (frontEnd_of_error hst)), fun o ho => ⟨fun hf hdown => ?_, fun hf hup => ?_,
          fun _ h => absurd h (by decide), fun hf _ st t hval => ?_⟩⟩
        · exact hwrite (serveWrite_of_refused hidx hsub (frontEnd_of_porter_down ho hf hdown))
        · exact hwrite (serveWrite_of_field hidx hsub (frontEnd_of_reachable ho fun _ => hup) hf)
        · exact hwrite (serveWrite_of_host hidx hsub (frontEnd_of_reachable ho (by simp [hf])) hf hval)
    · rintro rfl mask known full now
      have hsub {t : State} (h : s.serveSubscribe u = t) : exec c s = .next t := hserved ((serveUnit_of_subscribe htyp).trans h)
      refine ⟨fun hmask hnew hfull => hsub (serveSubscribe_of_busy (setObserver_of_full hmask hnew hfull)), fun hroom => hsub (serveSubscribe_of_ok ?_)⟩
      by_cases hmask : mask = 0
      · simp only [now, if_pos hmask]
        exact setObserver_of_zero hmask
      by_cases hknown : known
      · simp only [now, if_neg hmask, if_pos hknown]
        exact setObserver_of_known hmask hknown
      · simp only [now, if_neg hmask, if_neg hknown]
        exact setObserver_of_room hmask hknown ((hroom.resolve_left hmask).resolve_left hknown)
    · rintro rfl
      have hesn : fieldLE b 0 8 = fieldLE u.bytes 8 8 := fieldLE_drop 8 0 8 u.bytes
      rw [hesn]
      exact hserved (serveUnit_of_eventAck htyp)
    · rintro rfl k a off
      have hack {t : State} (h : s.ackStore k a (fieldLE b 12 8 % 2 ^ 48) (fieldLE b 20 4) = t) : exec c s = .next t :=
        hserved ((serveUnit_of_journalAck htyp).trans h)
      exact ⟨fun hoff => hack (ackStore_of_off hoff _ _), fun hon => hack (ackStore_of_on hon _ _)⟩
  · exact fun s p => ⟨fun h => congrArg _ (resendEvents_of_silent h),
      fun o hserve hrole ho => congrArg _ (resendEvents_of_observer hserve hrole ho)⟩
  · exact fun s k => ⟨fun h => congrArg _ (resendStore_of_idle h), fun hen hsent => congrArg _ (resendStore_of_sent hen hsent)⟩

end Sys2Proof.Machine
end

section
/-!
PROOFS. Writes that start exchanges and security actions, load templates and guest pages, store settings, clear counters (R31, R166 to
R168, R170, R204, R270, R290, R358).
-/

namespace Sys2Proof.Machine

open Sys2Proof

/-! ### A module without twin (R364, R365) -/

section
variable {s : State} (hrole : s.twin.role = 0)
include hrole

theorem mirror_of_no_twin (typ : Nat) (body : Payload) : s.mirror typ body = s := if_neg (by simp [hrole])

theorem replyAfter_of_no_twin (key : Option Payload) (r : Reply) : s.replyAfter key r = s.reply r := by
  cases key <;> simp [State.replyAfter, State.mirrors, hrole]

theorem serviceMsg_of_no_twin (opened : Bool) (kind handle ca what : Nat) (changes : Bool) :
    s.serviceMsg opened kind handle ca what changes = s := by
  cases changes <;> simp [State.serviceMsg, State.when, mirror_of_no_twin hrole]

end

/-! ### A write that is taken (R309) -/

section
variable {s : State} (hw : s.takesWrites)
include hw

theorem State.takesWrites.serves : s.serving = true := hw.1
theorem State.takesWrites.alone : s.twin.role = 0 := hw.2.1
theorem State.takesWrites.porterUp : s.linkH.up = true := hw.2.2.1

end

/-- An object of the dictionary outside the radio's range that no rule locks, and a value that it may take by type and range. -/
structure Takes (idx sub : Nat) (v : List Byte) (o : Obj) : Prop where
  found : findObj idx sub = some o
  served : idx < 0x7000 ∨ 0x8000 ≤ idx ∧ idx < 0xF000
  unlocked : lockedObj idx sub = false
  fits : o.valueOk v = true

theorem Takes.objectAt {idx sub : Nat} {v : List Byte} {o : Obj} (h : Takes idx sub v o) (read : Bool) : objectAt idx sub read = .ok o := by
  have hidx := h.served
  unfold Machine.objectAt
  rw [if_neg (by omega), if_neg (by omega), h.found]

section
variable {s t : State} {idx sub : Nat} {v : List Byte} {o : Obj} {st : Status} (hw : s.takesWrites) (ho : Takes idx sub v o)
include hw ho

theorem locate_of_takes (read : Bool) : s.locate idx sub read = .ok o := by
  obtain ⟨-, -, hH, hF, hrecovery⟩ := hw
  simp [State.locate, ho.objectAt, hH, hF, hrecovery]

theorem frontEnd_of_takes (read : Bool) : s.frontEnd idx sub read = none :=
  frontEnd_of_reachable (ho.objectAt read) fun _ => hw.porterUp

/-- A write of an object that is written, on a module without twin, is what its object's rule makes of the value. -/
theorem dictWrite_of_applied (hacc : o.access ≠ .ro ∧ o.access ≠ .cmd) (overSpi : Bool) (happly : s.applyWrite o overSpi idx sub v = (st, t))
    (htwin : t.twin = s.twin) : s.dictWrite overSpi idx sub v = (st, t) := by
  obtain ⟨hro, hcmd⟩ := hacc
  have hsecond : s.secondLocks idx = false := by simp [State.secondLocks, hw.alone]
  have hmirror (typ : Nat) (b : Payload) : t.mirror typ b = t := mirror_of_no_twin (by rw [htwin, hw.alone]) typ b
  unfold State.dictWrite
  rw [locate_of_takes hw ho]
  cases hk : o.access <;> simp_all [ho.unlocked, ho.fits]

/-- The row of such a write answers with the status. -/
theorem writeRow_of_applied (hacc : o.access ≠ .ro ∧ o.access ≠ .cmd) (happly : s.applyWrite o false idx sub v = (st, t))
    (htwin : t.twin = s.twin) : s.writeRow false idx sub v = t.answers idx sub st := by
  have hrole : t.twin.role = 0 := htwin ▸ hw.alone
  simp only [State.writeRow, hw.serves, frontEnd_of_takes hw ho, State.writeFor, dictWrite_of_applied hw ho hacc false happly htwin,
    replyAfter_of_no_twin hrole]
  rfl

/-- A write of a write-only object is its action. -/
theorem writeRow_of_action (hwo : o.access = .wo) (hact : s.action idx sub v = (st, t)) (htwin : t.twin = s.twin) :
    s.writeRow false idx sub v = t.answers idx sub st :=
  writeRow_of_applied hw ho (by simp [hwo]) ((if_pos hwo).trans hact) htwin

end

/-! ### Exchanges and security actions (R166, R170, R204) -/

section
variable {s : State}

theorem startApdu_of_busy (h : s.apdu.status = 1) : s.startApdu = (.busy, s) := if_pos h

/-- A start on a present part 4 tag with a command keeps the exchange's values and begins it. -/
theorem startApdu_of_ready {i : Nat} (hrole : s.twin.role = 0) (hidle : s.apdu.status ≠ 1) (hi : s.indexOf (s.objNat 0x6140 1) = some i)
    (hproto : (s.entry i).proto < 3) (hn : s.objNat 0x6140 2 ≠ 0) :
    s.startApdu = (.ok, { s with apdu := s.apduService (s.objNat 0x6140 1) (s.objNat 0x6140 2) (s.entry i) }) := by
  have hmsg := serviceMsg_of_no_twin (s := { s with apdu := s.apduService (s.objNat 0x6140 1) (s.objNat 0x6140 2) (s.entry i) }) hrole
  simp only [State.startApdu, if_neg hidle, hi, if_neg (Nat.not_le.2 hproto), if_neg hn, hmsg]

theorem startTemplate_of_busy (h : s.template.status = 1) : s.startTemplate = (.busy, s) := if_pos h

/-- A start of a template that is not refused keeps the exchange's values and begins it. -/
theorem startTemplate_of_ready {i : Nat} (hrole : s.twin.role = 0) (hidle : s.template.status ≠ 1)
    (hi : s.indexOf (s.objNat 0x6120 2) = some i)
    (hok : s.templateRefused (s.template_ (s.objNat 0x6120 1)) (s.entry i) (s.obj 0x6120 3) = false) :
    s.startTemplate = (.ok, { s with
      template := s.templateService (s.objNat 0x6120 1) (s.objNat 0x6120 2) (s.entry i) (s.obj 0x6120 3) }) := by
  have hmsg := serviceMsg_of_no_twin
    (s := { s with template := s.templateService (s.objNat 0x6120 1) (s.objNat 0x6120 2) (s.entry i) (s.obj 0x6120 3) }) hrole
  simp only [State.startTemplate, if_neg hidle, hi, hok, hmsg, Bool.false_eq_true, if_false]

/-- A release ends at once, and waits as a change for the next close (R202). -/
theorem startSecurity_of_release {i : Nat} (hidle : s.keys.status ≠ 1) (hi : s.indexOf (s.objNat 0x5020 1) = some i)
    (hact : s.objNat 0x5020 2 = 3) : s.startSecurity = (.ok, { s with keys := { s.keys with
      status := 2
      changes := s.keys.changes ++ [{ handle := s.objNat 0x5020 1, typ := 2, profile := (s.profileOf (s.entry i)).getD 0xFF, status := 2, slot := 0 }] } }) := by
  simp only [State.startSecurity, if_neg hidle, hi, if_pos hact]

theorem startSecurity_of_unknown (hidle : s.keys.status ≠ 1) (hi : s.indexOf (s.objNat 0x5020 1) = none) :
    s.startSecurity = (.ok, { s with keys := { s.keys with status := 6 } }) := by
  simp only [State.startSecurity, if_neg hidle, hi]

end

/-! ### Templates (R167, R168) -/

/-- The air tables lie in plain memory. -/
theorem plain_airAddr {off i : Nat} (h : off + i < 65536) : plain (airAddr off + i) := by
  unfold plain airAddr addrOf bankOf
  omega

/-- The catalogue's row of the templates (R171). -/
def templateRow : Obj := ⟨0x6110, 1, 0x01, 0x40, .bytes 32 false, .rws, .any, zeros 32⟩

theorem templateRow_access : templateRow.access = .rws := rfl

theorem findObj_template {n : Nat} (hn : n < 64) : findObj 0x6110 (n + 1) = some templateRow := by
  revert n
  decide +kernel

/-- What a byte of field memory is read from: the roster, the journal, capture, NVM and the cells. -/
theorem readByte_of_same {s t : State} (hroster : t.roster = s.roster) (hjournal : t.journal = s.journal) (hcapture : t.capture = s.capture)
    (htb : t.tb = s.tb) (hnvm : t.nvm = s.nvm) (hmem : t.mem = s.mem) (a : Nat) : t.readByte a = s.readByte a := by
  simp only [readByte_eq, captureByte_eq, State.entry, State.ringRecord, State.gaspByte, State.captureNow, State.captureBlocks, hroster,
    hjournal, hcapture, htb, hnvm, hmem]

theorem settingEffect_template (s : State) (n : Nat) :
    s.settingEffect 0x6110 (n + 1) = s.writeBytes (airAddr (0xB000 + 32 * n)) (s.obj 0x6110 (n + 1)) := by
  unfold State.settingEffect
  rw [if_neg (by omega), if_neg (by omega), if_pos rfl, Nat.add_sub_cancel]

/-- Template `n` has a new value, and is marked when it changes (R289). -/
def State.templateSet (n : Nat) (v : List Byte) (s : State) : State :=
  { s.setObj 0x6110 (n + 1) v with
    settings := { s.settings with changedF := s.settings.changedF || decide (s.obj 0x6110 (n + 1) ≠ v) } }

theorem templateSet_obj (s : State) (n : Nat) (v : List Byte) : (s.templateSet n v).obj 0x6110 (n + 1) = v :=
  obj_setObj_same s 0x6110 (n + 1) v

theorem templateSet_readByte (s : State) (n : Nat) (v : List Byte) (a : Nat) : (s.templateSet n v).readByte a = s.readByte a := by
  apply readByte_of_same <;> rfl

/-- A template is stored with its copy in the air tables. -/
theorem putObj_template (s : State) (n : Nat) (v : List Byte) :
    s.putObj templateRow 0x6110 (n + 1) v = (s.templateSet n v).writeBytes (airAddr (0xB000 + 32 * n)) v := by
  have hfield : fieldIndex 0x6110 = true := by decide
  have heffect := settingEffect_template (s.templateSet n v) n
  rw [templateSet_obj] at heffect
  rw [← heffect]
  simp only [State.putObj, templateRow_access, hfield, decide_true, Bool.true_and, Bool.and_true, Bool.not_true, Bool.and_false, Bool.or_false]
  rfl

/-- What storing a template changes, and that nothing else does. -/
theorem putObj_template_rest (s : State) {n : Nat} (hn : n < 64) {v : List Byte} (hv : v.length = 32) :
    ∃ t : State, s.putObj templateRow 0x6110 (n + 1) v = t ∧ t.obj 0x6110 (n + 1) = v ∧
      (∀ a, t.readByte a = if airAddr (0xB000 + 32 * n) ≤ a ∧ a < airAddr (0xB000 + 32 * n) + 32 then v.getD (a - airAddr (0xB000 + 32 * n)) 0
        else s.readByte a) ∧
      t = { s with
        dict := t.dict, mem := t.mem,
        settings := { s.settings with changedF := s.settings.changedF || decide (s.obj 0x6110 (n + 1) ≠ v) } } := by
  obtain ⟨m, hm, hread⟩ := writeBytes_rest v (airAddr (0xB000 + 32 * n)) (s.templateSet n v) fun i hi => plain_airAddr (by omega)
  refine ⟨_, putObj_template s n v, ?_, fun a => ?_, ?_⟩
  · rw [hm]
    exact templateSet_obj s n v
  · rw [hread, hv, templateSet_readByte]
  · rw [hm]
    rfl

/-! ### Guest pages (R270) -/

theorem guestPage_rest (s : State) {v : List Byte} (hv : v.length = 256) (hp : s.objNat 0x6131 1 ≤ 7935) :
    ∃ t : State, s.guestPage v = t ∧ t.guest = { s.guest with state := 1 } ∧
      (∀ a, t.readByte a = if guestBase + 256 * s.objNat 0x6131 1 ≤ a ∧ a < guestBase + 256 * s.objNat 0x6131 1 + 256 then
        v.getD (a - (guestBase + 256 * s.objNat 0x6131 1)) 0 else s.readByte a) ∧
      t = { s with mem := t.mem, guest := t.guest } := by
  obtain ⟨m, hm, hread⟩ := writeBytes_rest v (guestBase + 256 * s.objNat 0x6131 1) s fun i hi => by
    unfold plain guestBase addrOf bankOf
    omega
  refine ⟨_, rfl, ?_, fun a => ?_, ?_⟩
  · simp only [State.guestPage, hm]
  · have hbytes : (s.guestPage v).readByte a = (s.writeBytes (guestBase + 256 * s.objNat 0x6131 1) v).readByte a := by
      apply readByte_of_same <;> rfl
    rw [hbytes, hread, hv]
  · simp only [State.guestPage, hm]

/-! ### STORE (R290, R291) -/

theorem nvmStart_twin (o : NvmOp) (s : State) : (s.nvmStart o).twin = s.twin := by
  unfold State.nvmStart State.slotErased
  split
  · split <;> rfl
  · rfl

theorem nvmServe_twin (s : State) : s.nvmServe.twin = s.twin := by
  unfold State.nvmServe
  split
  · rfl
  · extract_lets best i
    split
    · rfl
    · split
      · exact nvmStart_twin _ _
      · rfl

theorem nvmSubmit_twin (o : NvmOp) (s : State) : (s.nvmSubmit o).twin = s.twin := by
  unfold State.nvmSubmit
  refine (nvmServe_twin _).trans ?_
  split
  · split <;> rfl
  · rfl

/-- The erases of the sectors that the next copy takes, requested after a snapshot of the settings. -/
def State.storeBegun (s : State) : State :=
  (List.range 8).foldl (fun x i => x.nvmSubmit
      { prio := 5, erase := true, sector := 0x300 + 8 * nextSlot s.settings.fieldCopies + i, addr := 0, data := [] })
    ({ s with settings := { s.settings with
      state := 1, lastStore := some s.tb.ts, snapshot := s.dict.filter isSetting, beforeF := s.settings.changedF,
      beforeH := s.settings.changedH, changedF := false, changedH := false } } : State)

theorem storeBegun_twin (s : State) : s.storeBegun.twin = s.twin :=
  List.foldlRecOn (motive := fun t : State => t.twin = s.twin) (List.range 8) _ rfl fun t ht _ _ => (nvmSubmit_twin _ t).trans ht

theorem storeSettings_of_running {s : State} (h : s.settings.state = 1) : s.storeSettings = (.busy, s) := if_pos (.inl h)

theorem storeSettings_of_first {s : State} (hrole : s.twin.role = 0) (hup : s.linkH.up = true) (hstate : s.settings.state ≠ 1)
    (hentering : s.power.entering = 0) (hlast : s.settings.lastStore = none) (hf : s.fieldWear < 100) (hh : s.hostWear < 100)
    (hwarn : s.power.warning = false) : s.storeSettings = (.ok, s.storeBegun) := by
  have hmirror : s.storeBegun.mirror 0x88 (.mDict .store) = s.storeBegun := mirror_of_no_twin (by rw [storeBegun_twin, hrole]) _ _
  have hwear : ¬ (s.fieldWear ≥ 100 ∨ s.hostWear ≥ 100) := by omega
  have hidle : ¬ (s.settings.state = 1 ∨ s.power.entering ≠ 0) := by omega
  simp only [State.storeSettings, hlast, hwarn, hup, if_neg hidle, if_neg hwear, Bool.false_eq_true, if_false, not_true_eq_false]
  exact congrArg _ hmirror

/-! ### Objects whose write acts -/

/-- A write-only object of the catalogue, and a value that it may take. -/
theorem takes_of_check {idx sub : Nat} {v : List Byte} (hcheck : (findObj idx sub).any (fun o => decide (o.access = .wo) && o.valueOk v) = true)
    (hserved : idx < 0x7000 ∨ 0x8000 ≤ idx ∧ idx < 0xF000) (hunlocked : lockedObj idx sub = false) :
    ∃ o, Takes idx sub v o ∧ o.access = .wo := by
  cases hfound : findObj idx sub with
  | none => simp [hfound] at hcheck
  | some o =>
    obtain ⟨hwo, hfits⟩ : o.access = .wo ∧ o.valueOk v = true := by simpa [hfound] using hcheck
    exact ⟨o, ⟨hfound, hserved, hunlocked, hfits⟩, hwo⟩

/-- The row of a write-only object answers with its action's status. -/
theorem writeRow_of_check {s t : State} {idx sub : Nat} {v : List Byte} {st : Status} (hw : s.takesWrites)
    (hcheck : (findObj idx sub).any (fun o => decide (o.access = .wo) && o.valueOk v) = true)
    (hserved : idx < 0x7000 ∨ 0x8000 ≤ idx ∧ idx < 0xF000) (hunlocked : lockedObj idx sub = false)
    (hact : s.action idx sub v = (st, t)) (htwin : t.twin = s.twin) : s.writeRow false idx sub v = t.answers idx sub st := by
  obtain ⟨o, ho, hwo⟩ := takes_of_check hcheck hserved hunlocked
  exact writeRow_of_action hw ho hwo hact htwin

section
variable {s t : State} {st : Status} (hw : s.takesWrites)
include hw

theorem exec_apduStart_of (h : s.startApdu = (st, t)) (htwin : t.twin = s.twin) :
    exec (.apduStart [1]) s = .next (t.answers 0x6140 5 st) :=
  congrArg _ (writeRow_of_check (idx := 0x6140) (sub := 5) (v := [1]) hw (by decide +kernel) (by decide) (by decide) h htwin)

theorem exec_templateStart_of (h : s.startTemplate = (st, t)) (htwin : t.twin = s.twin) :
    exec (.templateStart [1]) s = .next (t.answers 0x6120 4 st) :=
  congrArg _ (writeRow_of_check (idx := 0x6120) (sub := 4) (v := [1]) hw (by decide +kernel) (by decide) (by decide) h htwin)

theorem exec_securityStart_of (h : s.startSecurity = (st, t)) (htwin : t.twin = s.twin) :
    exec (.securityStart [1]) s = .next (t.answers 0x5020 3 st) :=
  congrArg _ (writeRow_of_check (idx := 0x5020) (sub := 3) (v := [1]) hw (by decide +kernel) (by decide) (by decide) h htwin)

theorem exec_store_of (h : s.storeSettings = (st, t)) (htwin : t.twin = s.twin) : exec (.store [1]) s = .next (t.answers 0x1010 1 st) :=
  congrArg _ (writeRow_of_check (idx := 0x1010) (sub := 1) (v := [1]) hw (by decide +kernel) (by decide) (by decide) h htwin)

theorem exec_guestPage_of {v : List Byte} (hv : v.length = 256) (h : s.guestPage v = t) (htwin : t.twin = s.twin) :
    exec (.guestPage v) s = .next (t.answers 0x6131 2 .ok) := by
  have hfound : findObj 0x6131 2 = some ⟨0x6131, 1, 0x02, 0x02, .bytes 256 false, .wo, .any, []⟩ := by decide +kernel
  have ho : Takes 0x6131 2 v _ := ⟨hfound, by decide, by decide, by simp [Obj.valueOk, ObjType.sizeOk, ObjRange.ok, hv]⟩
  have hact : s.action 0x6131 2 v = (.ok, t) := congrArg (Prod.mk Status.ok) h
  exact congrArg _ (writeRow_of_action hw ho rfl hact htwin)

theorem exec_templateWrite_of {n : Nat} {v : List Byte} (hn : n < 64) (hv : v.length = 32) (hok : templateOk v = true)
    (h : s.putObj templateRow 0x6110 (n + 1) v = t) (htwin : t.twin = s.twin) :
    exec (.templateWrite n v) s = .next (t.answers 0x6110 (n + 1) .ok) := by
  have ho : Takes 0x6110 (n + 1) v templateRow :=
    ⟨findObj_template hn, by decide, by simp [lockedObj], by simp [templateRow, Obj.valueOk, ObjType.sizeOk, ObjRange.ok, hv]⟩
  have hrefusal : s.refusal 0x6110 (n + 1) v = none := by simp [State.refusal, hok]
  have happly : s.applyWrite templateRow false 0x6110 (n + 1) v = (.ok, t) := by simp [State.applyWrite, templateRow_access, hrefusal, h]
  exact congrArg _ (writeRow_of_applied hw ho (by decide) happly htwin)

end

/-- Settles O23: each row is its object's action on a module without twin, answered with the action's status. -/
theorem serviceWritesAct : Obligations.ServiceWritesAct := by
  unfold Obligations.ServiceWritesAct
  intro s hw
  refine ⟨fun i n hidle hi hproto hn hne => ?_, fun hbusy => exec_apduStart_of hw (startApdu_of_busy hbusy) rfl, ?_,
    fun hbusy => exec_templateStart_of hw (startTemplate_of_busy hbusy) rfl, fun i hidle hi hact => ?_,
    fun hidle hi => exec_securityStart_of hw (startSecurity_of_unknown hidle hi) rfl, fun n v hn hv hok => ?_, fun v hv hp => ?_,
    fun hstate hentering hlast hf hh hwarn => ?_, fun hrunning => exec_store_of hw (storeSettings_of_running hrunning) rfl, ?_, ?_, ?_⟩
  · subst hn
    exact ⟨_, exec_apduStart_of hw (startApdu_of_ready hw.alone hidle hi hproto hne) rfl, rfl, rfl, rfl, rfl⟩
  · rintro i x p hidle hi rfl rfl hok
    exact ⟨_, exec_templateStart_of hw (startTemplate_of_ready hw.alone hidle hi hok) rfl, rfl, rfl, rfl, rfl, rfl, rfl, rfl, rfl, rfl, rfl, rfl⟩
  · exact ⟨_, exec_securityStart_of hw (startSecurity_of_release hidle hi hact) rfl, rfl, rfl, rfl, rfl⟩
  · obtain ⟨t, ht, hobj, hread, hrest⟩ := putObj_template_rest s hn hv
    exact ⟨t, exec_templateWrite_of hw hn hv hok ht (by rw [hrest]), hobj, hread, hrest⟩
  · obtain ⟨t, ht, hguest, hread, hrest⟩ := guestPage_rest s hv hp
    exact ⟨t, exec_guestPage_of hw hv ht (by rw [hrest]), hguest, hread, hrest⟩
  · exact ⟨s.storeBegun, exec_store_of hw (storeSettings_of_first hw.alone hw.porterUp hstate hentering hlast hf hh hwarn) (storeBegun_twin s), rfl⟩
  all_goals exact congrArg _ (writeRow_of_check hw (by decide +kernel) (by decide) (by decide) rfl rfl)

end Sys2Proof.Machine
end

section
/-!
PROOFS. The line of waiters for the power budget (R109).
-/

namespace Sys2Proof.Machine

open Sys2Proof

/-- A track at the head of the line that begins to wait now stands before its own place, since it began in this same ct. -/
theorem queueWaiter_of_first {s : State} {t : Nat} {ts : List Nat} (hline : s.budget.waiters = t :: ts)
    (hnow : (s.track t).markCc = s.tb.cc) : s.queueWaiter t = t :: t :: ts := by
  simp [State.queueWaiter, hline, hnow]

/-- Track 0 awaits the settle of an acknowledged word, and stands in the line of waiters already, ahead of track 3. -/
def settlingInLine : State :=
  { tracks := [(0, { st := 2, phase := .word 1, members := [⟨0, 0, 0, 1, false⟩] })], feeders := [(0, { acked := true })],
    budget := { waiters := [0, 3] } }

/-- Refutes O13: a track that settles while it stands in the line already comes before its own place, [0, 0, 3] and not
[0, 3, 0], although every mark in the line is older than the settle. -/
theorem not_settleAdmitsOrRepeats : ¬ Obligations.SettleAdmitsOrRepeats := by
  unfold Obligations.SettleAdmitsOrRepeats
  rintro ⟨-, -, -, hsettle, -⟩
  have hacked : ∀ m ∈ (settlingInLine.track 0).members, (settlingInLine.feeder (feederOf m.ca)).acked = true := by decide +kernel
  have hpower : settlingInLine.newPower 0 ≠ 0 := by decide +kernel
  obtain ⟨-, hwait, -⟩ := hsettle settlingInLine _ 0 1 rfl (by decide +kernel) rfl
  obtain ⟨-, hlast⟩ := hwait _ hacked hpower (.inl (by simp [settlingInLine])) rfl
  have hline := hlast (by decide +kernel)
  rw [queueWaiter_of_first (ts := [3]) (by simp [settlingInLine]) (by simp)] at hline
  exact absurd hline (by decide)

end Sys2Proof.Machine
end

section
/-!
PROOFS. The field engine's monitors: feeder currents, reflection, forward power, the 1 ms tick and the heatsink (R83 to R112).
-/

namespace Sys2Proof.Machine

open Sys2Proof

/-! ### Feeder faults (R83, R85) -/

/-- A fault that is neither SHORT nor FENCED leaves the bias and what awaits an acknowledgement. -/
theorem feederFault_of_unheld {status : Nat} (hshort : status ≠ 3) (hfenced : status ≠ 4) (s : State) (f cause level ma : Nat) :
    s.feederFault f status cause level ma =
      (s.setFeeder f { s.feeder f with status := status, ibias := ma }).raiseFault .field 4 cause level [b8 f, b8 ma] := by
  simp [State.feederFault, State.modFeeder, hshort, hfenced]

theorem feederFault_short (s : State) (f cause level ma : Nat) :
    s.feederFault f 3 cause level ma = (s.setFeeder f { s.feeder f with
      status := 3, ibias := ma, biasOn := false, conn := false, held := 3 }).raiseFault .field 4 cause level [b8 f, b8 ma] := by
  simp [State.feederFault, State.modFeeder]

theorem feederFault_fenced (s : State) (f cause level : Nat) :
    s.feederFault f 4 cause level (s.feeder f).ibias =
      (s.setFeeder f { s.feeder f with status := 4, held := 4 }).raiseFault .field 4 cause level [b8 f, b8 (s.feeder f).ibias] := by
  simp [State.feederFault, State.modFeeder]

section
variable {s : State} {f : Fin 16}

theorem execFeederAbsent_of_present (hon : s.feederOn f = true) (hstatus : (s.feeder f).status ≠ 2) (hheld : (s.feeder f).held = 0) :
    execFeederAbsent f 0 s =
      .next ((s.setFeeder f { s.feeder f with status := 2, ibias := 0 }).raiseFault .field 4 1 1 [b8 f, 0]) :=
  congrArg _ ((if_pos ⟨hon, rfl, hstatus, hheld⟩).trans (feederFault_of_unheld (by decide) (by decide) s f 1 1 0))

theorem execFeederAbsent_of_stands (h : (s.feeder f).status = 2 ∨ (s.feeder f).held ≠ 0) : execFeederAbsent f 0 s = .next s :=
  congrArg _ (if_neg fun ⟨_, _, hstatus, hheld⟩ => h.elim hstatus (· hheld))

theorem execFeederShort_of_unheld (hon : s.feederOn f = true) (hheld : (s.feeder f).held ≠ 3) :
    execFeederShort f s = .next ((s.setFeeder f { s.feeder f with
      status := 3, ibias := 150, biasOn := false, conn := false, held := 3 }).raiseFault .field 4 2 2 [b8 f, b8 150]) :=
  congrArg _ ((if_pos ⟨hon, hheld⟩).trans (feederFault_short s f 2 2 150))

theorem execFeederOverload_of_above {ma : Nat} (hon : s.feederOn f = true) (hlow : 100 < ma) (hhigh : ma < 150)
    (hstatus : (s.feeder f).status ≠ 5) (hheld : (s.feeder f).held = 0) : execFeederOverload f ma s =
      .next ((s.setFeeder f { s.feeder f with status := 5, ibias := ma }).raiseFault .field 4 5 2 [b8 f, b8 ma]) :=
  congrArg _ ((if_pos ⟨hon, hlow, hhigh, hheld, hstatus⟩).trans (feederFault_of_unheld (by decide) (by decide) s f 5 2 ma))

theorem execFeederRecovery_of_range {ma : Nat} (hon : s.feederOn f = true) (hlow : 1 ≤ ma) (hhigh : ma ≤ 100)
    (hstatus : (s.feeder f).status ≠ 1) (hheld : (s.feeder f).held = 0) :
    execFeederRecovery f ma s = .next (s.setFeeder f { s.feeder f with status := 1, ibias := ma, biasOn := true }) :=
  congrArg _ (if_pos ⟨hon, hlow, hhigh, hstatus, hheld⟩)

theorem execFeederRecovery_of_stands (h : (s.feeder f).status = 1 ∨ (s.feeder f).held ≠ 0) (ma : Nat) :
    execFeederRecovery f ma s = .next s :=
  congrArg _ (if_neg fun ⟨_, _, _, hstatus, hheld⟩ => h.elim hstatus (· hheld))

/-- The current of a disabled feeder is not watched. -/
theorem execFeeder_of_off (hoff : s.feederOn f = false) (ma : Nat) : execFeederAbsent f ma s = .next s ∧ execFeederShort f s = .next s ∧
    execFeederOverload f ma s = .next s ∧ execFeederRecovery f ma s = .next s := by
  have hno {p : Prop} : ¬ (s.feederOn f = true ∧ p) := fun h => ne_true_of_eq_false hoff h.1
  exact ⟨congrArg _ (if_neg hno), congrArg _ (if_neg hno), congrArg _ (if_neg hno), congrArg _ (if_neg hno)⟩

/-- Aborting a track leaves the feeders. -/
@[simp] theorem abortTrack_feeders (reason t : Nat) (s : State) : (s.abortTrack reason t).feeders = s.feeders := by
  obtain ⟨_, _, _, _, _, _, _, _, h⟩ := cut_abortTrack s reason t
  rw [h]

/-- The one chain that is routed to a feeder. -/
theorem find_routed {x : Nat} {f : Nat} (hx : x < 8) (hrouted : (s.chain x).routed = true) (hfeeder : (s.chain x).feeder = f)
    (hone : ∀ y < 8, y ≠ x → (s.chain y).routed = true → (s.chain y).feeder ≠ f) :
    (List.range 8).find? (fun x => (s.chain x).routed && decide ((s.chain x).feeder = f)) = some x :=
  List.find?_range_eq_some.2 ⟨by simp [hrouted, hfeeder], List.mem_range.2 hx, fun y hy => by
    rw [Bool.not_eq_true', Bool.and_eq_false_imp]
    exact fun hyRouted => decide_eq_false (hone y (by omega) (by omega) hyRouted)⟩

section
variable {x fwd refl : Nat} (hfind : (List.range 8).find? (fun x => (s.chain x).routed && decide ((s.chain x).feeder = f)) = some x)
include hfind

theorem execFeederFenced_of_strong (hfwd : 100 < fwd) (hrefl : fwd < 4 * refl) (hheld : (s.feeder f).held ≠ 4) {u : State}
    (hu : u = ((s.setChain x { s.chain x with fwd := fwd, refl := refl }).rampDown x).abortTrack 3 (((s.chain x).lentTo).getD x)) :
    execFeederFenced f fwd refl s = .next ((u.setFeeder f { s.feeder f with status := 4, held := 4 }).raiseFault
      .field 4 3 2 [b8 f, b8 (s.feeder f).ibias]) := by
  have hfeeder : u.feeder f = s.feeder f := by rw [State.feeder, hu, abortTrack_feeders]; rfl
  have hgo : ¬ (fwd ≤ 100 ∨ refl * 4 ≤ fwd ∨ (s.feeder f).held = 4) := by omega
  simp only [execFeederFenced, hfind, if_neg hgo, State.modChain, chain_setChain, if_true, ← hu]
  rw [feederFault_fenced, hfeeder]

theorem execFeederFenced_of_weak (h : fwd ≤ 100 ∨ 4 * refl ≤ fwd ∨ (s.feeder f).held = 4) : execFeederFenced f fwd refl s = .next s := by
  have hstay : fwd ≤ 100 ∨ refl * 4 ≤ fwd ∨ (s.feeder f).held = 4 := by omega
  simp only [execFeederFenced, hfind, if_pos hstay]

end

end

/-! ### Forward power (R101) -/

theorem execAboveCap_of_above {s : State} {x : Fin 8} {mw : Nat} (h : (mw : Rat) / 1000 > s.chainCap x * (1122018454 / 1000000000)) :
    execAboveCap x mw s = .next ((s.setChain x { s.chain x with fwd := mw }).raiseFault .field 3 1 3 (b8 x :: natLE 2 mw)) :=
  if_pos h

theorem execAboveCap_of_within {s : State} {x : Fin 8} {mw : Nat} (h : (mw : Rat) / 1000 ≤ s.chainCap x * (1122018454 / 1000000000)) :
    execAboveCap x mw s = .next s :=
  if_neg (Rat.not_lt.2 h)

theorem execPowerAtZero_of_above {s : State} {x : Fin 8} {mw : Nat} (hzero : (s.chain x).power = 0) (h : 50 < mw) :
    execPowerAtZero x mw s = .next ((s.setChain x { s.chain x with fwd := mw }).raiseFault .field 3 2 3 (b8 x :: natLE 2 mw)) :=
  if_pos ⟨hzero, h⟩

theorem execPowerAtZero_of_within {s : State} {x : Fin 8} {mw : Nat} (h : (s.chain x).power ≠ 0 ∨ mw ≤ 50) :
    execPowerAtZero x mw s = .next s :=
  if_neg fun ⟨hzero, hmw⟩ => h.elim (· hzero) (Nat.not_le.2 hmw)

/-! ### Peak time and heat (R110 to R112) -/

theorem noteSum_of_within {s : State} (h : s.powerSum ≤ s.bc) : s.noteSum = s := if_neg (Rat.not_lt.2 h)

theorem noteSum_of_calm {s : State} (h : s.budget.exceeded = false) :
    s.noteSum = { s with budget := { s.budget with exceeded := decide (s.powerSum > s.bc) } } := by
  unfold State.noteSum
  split
  · next hover => simp [hover]
  · next hwithin => simp [hwithin, ← h]

/-- The sum S is read off the chains. -/
theorem powerSum_of_chains {s u : State} (h : u.chains = s.chains) : u.powerSum = s.powerSum := by
  unfold State.powerSum State.chain
  rw [h]

/-- B_c is read off the ambient temperature and the throttle. -/
theorem bc_of_budget {s u : State} (hamb : u.budget.amb = s.budget.amb) (hthr : u.budget.throttled = s.budget.throttled) : u.bc = s.bc := by
  simp [State.bc, State.derated, hamb, hthr]

section
variable {s u v : State} {kept n : List Nat} (hu : u = s.advanceTo ((s.tb.cc / 13560 + 1) * 13560 % 2 ^ 48))
  (hv : v = { u with budget := { u.budget with ms := s.budget.ms + 1, ticks := n, exceeded := false } })
include hu hv

theorem ticked_powerSum : v.powerSum = s.powerSum := by
  have hchains : u.chains = s.chains := by rw [hu, advanceTo_chains]
  exact powerSum_of_chains (by rw [hv, ← hchains])

theorem ticked_bc : v.bc = s.bc := by
  have hbudget : u.budget = s.budget := by rw [hu, advanceTo_budget]
  exact bc_of_budget (by rw [hv, ← hbudget]) (by rw [hv, ← hbudget])

variable (hkept : kept = s.budget.ticks.filter (fun k => decide (k + 60000 > s.budget.ms)))
  (hn : n = (if s.budget.exceeded ∧ kept.length < 10000 then kept ++ [s.budget.ms] else kept))
include hkept hn

/-- The tick ends with the ticks that count by then, and reduces the chains when they are 10,000 while S exceeds B_c. -/
theorem execPeakTimeTick_eq : execPeakTimeTick s = .next (if n.length ≥ 10000 ∧ s.powerSum > s.bc then
    (v.reduceTo s.bc 0 1000).raiseFault .field 3 3 1 (natLE 2 (tenMw s.powerSum)) else v).noteSum := by
  have hbudget : u.budget = s.budget := by rw [hu, advanceTo_budget]
  rw [← ticked_powerSum hu hv, ← ticked_bc hu hv]
  simp only [execPeakTimeTick, ← hu, hbudget, ← hkept, ← hn] at hv ⊢
  rw [← hv]

theorem execPeakTimeTick_of_within (h : n.length < 10000 ∨ s.powerSum ≤ s.bc) : execPeakTimeTick s =
    .next { v with budget := { v.budget with exceeded := decide (s.powerSum > s.bc) } } := by
  have hno : ¬ (n.length ≥ 10000 ∧ s.powerSum > s.bc) := fun ⟨hlen, hover⟩ => h.elim (Nat.not_lt.2 hlen) (Rat.not_le.2 hover)
  rw [execPeakTimeTick_eq hu hv hkept hn, if_neg hno, noteSum_of_calm (by rw [hv]), ticked_powerSum hu hv, ticked_bc hu hv]

theorem execPeakTimeTick_of_over (hlen : 10000 ≤ n.length) (hover : s.bc < s.powerSum) : execPeakTimeTick s =
    .next ((v.reduceTo s.bc 0 1000).raiseFault .field 3 3 1 (natLE 2 (tenMw s.powerSum))).noteSum := by
  rw [execPeakTimeTick_eq hu hv hkept hn, if_pos ⟨hlen, hover⟩]

end

/-- A sample on a module that is neither throttled nor hot: it throttles from 95 C on, and from 105 C on raises the Fence
alone (log 98). -/
theorem execHeatsinkSample_eq {s v : State} {sink amb : Int} (hhot : s.budget.hot = false) (hthr : s.budget.throttled = false)
    (hv : v = { s with budget := { s.budget with sink := sink, amb := amb, hot := decide (105 ≤ sink), throttled := decide (95 ≤ sink) } }) :
    execHeatsinkSample sink amb s = .next (((v.when (decide (95 ≤ sink) && decide (v.powerSum > v.bc)) fun s => s.reduceTo s.bc 1 10000).when
      (decide (95 ≤ sink) && !decide (105 ≤ sink)) (State.raiseFault .field 3 4 2 [b8 (codeOf 8 sink)])).when
      (decide (105 ≤ sink)) (State.raiseFault .field 3 5 3 [b8 (codeOf 8 sink)])).noteSum := by
  have habsorb (a b c : Bool) : (a && b && (a || c)) = (a && b) := by cases a <;> simp
  have habsorb' (a c : Bool) : (a && (a || c)) = a := by cases a <;> rfl
  simp only [execHeatsinkSample, hhot, hthr, ge_iff_le, Bool.false_and, Bool.or_false, Bool.not_false, Bool.and_true] at hv ⊢
  rw [← hv]
  simp only [habsorb, habsorb']

section
variable {s v : State} {sink amb : Int} (hhot : s.budget.hot = false) (hthr : s.budget.throttled = false)
  (hv : v = { s with budget := { s.budget with sink := sink, amb := amb, hot := decide (105 ≤ sink), throttled := decide (95 ≤ sink) } })
include hhot hthr hv

theorem execHeatsinkSample_of_cool (hcool : sink < 95) : execHeatsinkSample sink amb s = .next v.noteSum := by
  have hlow : ¬ 95 ≤ sink := by omega
  have hmid : ¬ 105 ≤ sink := by omega
  simp [execHeatsinkSample_eq hhot hthr hv, hlow, hmid, State.when]

theorem execHeatsinkSample_of_over (hover : v.bc < v.powerSum) (hwarm : 95 ≤ sink) (hcool : sink < 105) : execHeatsinkSample sink amb s =
    .next ((v.reduceTo v.bc 1 10000).raiseFault .field 3 4 2 [b8 (codeOf 8 sink)]).noteSum := by
  have hmid : ¬ 105 ≤ sink := by omega
  simp [execHeatsinkSample_eq hhot hthr hv, hover, hwarm, hmid, State.when]

theorem execHeatsinkSample_of_warm (hwithin : v.powerSum ≤ v.bc) (hwarm : 95 ≤ sink) (hcool : sink < 105) :
    execHeatsinkSample sink amb s = .next (v.raiseFault .field 3 4 2 [b8 (codeOf 8 sink)]).noteSum := by
  have hmid : ¬ 105 ≤ sink := by omega
  simp [execHeatsinkSample_eq hhot hthr hv, Rat.not_lt.2 hwithin, hwarm, hmid, State.when]

theorem execHeatsinkSample_of_hot (hwithin : v.powerSum ≤ v.bc) (hburn : 105 ≤ sink) :
    execHeatsinkSample sink amb s = .next (v.raiseFault .field 3 5 3 [b8 (codeOf 8 sink)]).noteSum := by
  simp [execHeatsinkSample_eq hhot hthr hv, Rat.not_lt.2 hwithin, hburn, State.when]

end

/-- Settles O15: each command is its monitor's equation in the case that its hypotheses name. -/
theorem fieldMonitorsReport : Obligations.FieldMonitorsReport := by
  unfold Obligations.FieldMonitorsReport
  refine ⟨fun s f hon => ?_, fun s f ma hoff => execFeeder_of_off hoff ma, fun s u f x fwd refl hx hrouted hfeeder hone hu => ?_,
    fun s x mw => ?_, fun s u v kept n hu hkept hn hv => ?_, fun s v sink amb hhot hthr hv => ?_⟩
  · exact ⟨execFeederAbsent_of_present hon, execFeederAbsent_of_stands, execFeederShort_of_unheld hon,
      fun _ => execFeederOverload_of_above hon, fun _ => execFeederRecovery_of_range hon, fun ma h => execFeederRecovery_of_stands h ma⟩
  · have hfind := find_routed hx hrouted hfeeder hone
    exact ⟨fun hfwd hrefl hheld => execFeederFenced_of_strong hfind hfwd hrefl hheld hu, execFeederFenced_of_weak hfind⟩
  · exact ⟨execAboveCap_of_above, execAboveCap_of_within, execPowerAtZero_of_above, execPowerAtZero_of_within⟩
  · exact ⟨execPeakTimeTick_of_within hu hv hkept hn, execPeakTimeTick_of_over hu hv hkept hn⟩
  · exact ⟨fun hwithin hcool => (execHeatsinkSample_of_cool hhot hthr hv hcool).trans (congrArg _ (noteSum_of_within hwithin)),
      fun _ => execHeatsinkSample_of_cool hhot hthr hv, execHeatsinkSample_of_over hhot hthr hv, execHeatsinkSample_of_warm hhot hthr hv,
      execHeatsinkSample_of_hot hhot hthr hv⟩

end Sys2Proof.Machine
end

section
/-!
PROOFS. One change made to several entries of a table, and the operations that make one: of tracks, bins of the impulse map and coils.
-/

namespace Sys2Proof.Machine

open Sys2Proof

/-- A table after one change of the entries at a list of indices, in order. -/
@[irreducible] def Tab.modAll {α : Type} [DecidableEq α] (d : α) (f : α → α) (l : List Nat) (t : Tab α) : Tab α :=
  l.foldl (fun t k => Tab.set d t k (f (Tab.get d t k))) t

theorem Tab.modAll_nil {α : Type} [DecidableEq α] (d : α) (f : α → α) (t : Tab α) : Tab.modAll d f [] t = t := by
  rw [Tab.modAll, List.foldl_nil]

theorem Tab.modAll_cons {α : Type} [DecidableEq α] (d : α) (f : α → α) (i : Nat) (l : List Nat) (t : Tab α) :
    Tab.modAll d f (i :: l) t = Tab.modAll d f l (Tab.set d t i (f (Tab.get d t i))) := by
  rw [Tab.modAll, Tab.modAll, List.foldl_cons]

/-- Each listed entry is changed once, where none is listed twice or a second change adds nothing. -/
theorem Tab.get_modAll {α : Type} [DecidableEq α] {d : α} {f : α → α} {l : List Nat} (h : l.Nodup ∨ ∀ x, f (f x) = f x)
    (t : Tab α) (k : Nat) : Tab.get d (Tab.modAll d f l t) k = if k ∈ l then f (Tab.get d t k) else Tab.get d t k := by
  induction l generalizing t with
  | nil => rw [Tab.modAll_nil, if_neg List.not_mem_nil]
  | cons i l ih =>
    rw [Tab.modAll_cons, ih (h.imp_left fun hnodup => (List.nodup_cons.1 hnodup).2), Tab.get_set]
    by_cases hk : k = i
    · subst hk
      have honce : k ∈ l → f (f (Tab.get d t k)) = f (Tab.get d t k) := fun hmem =>
        h.elim (fun hnodup => absurd hmem (List.nodup_cons.1 hnodup).1) fun hidem => hidem _
      by_cases hmem : k ∈ l <;> simp [hmem, honce]
    · simp [hk]

/-- An index that is not listed reads as the default. -/
theorem Tab.get_of_unlisted {α : Type} {d : α} {t : Tab α} {k : Nat} (h : k ∉ t.map Prod.fst) : Tab.get d t k = d := by
  induction t with
  | nil => rfl
  | cons p t ih =>
    obtain ⟨i, v⟩ := p
    exact (if_neg (List.ne_of_not_mem_cons h).symm).trans (ih (List.not_mem_of_not_mem_cons h))

theorem each_modTrack (f : Track → Track) (l : List Nat) (s : State) :
    s.each l (fun t => State.modTrack t f) = { s with tracks := Tab.modAll {} f l s.tracks } := by
  induction l generalizing s with
  | nil => rw [Tab.modAll_nil]; rfl
  | cons i l ih => rw [Tab.modAll_cons]; exact ih (s.modTrack i f)

theorem each_modBin (f : Bin → Bin) (l : List Nat) (s : State) :
    s.each l (fun b => State.modBin b f) = { s with bins := Tab.modAll {} f l s.bins } := by
  induction l generalizing s with
  | nil => rw [Tab.modAll_nil]; rfl
  | cons i l ih => rw [Tab.modAll_cons]; exact ih (s.modBin i f)

/-- One change of the sense states of some coils. -/
def State.modCoils (f : SenseCoil → SenseCoil) (l : List Nat) (s : State) : State :=
  { s with sense := { s.sense with coils := Tab.modAll {} f l s.sense.coils } }

theorem each_modSense (f : SenseCoil → SenseCoil) (l : List Nat) (s : State) : s.each l (fun ca => State.modSense ca f) = s.modCoils f l := by
  unfold State.modCoils
  induction l generalizing s with
  | nil => rw [Tab.modAll_nil]; rfl
  | cons i l ih => rw [Tab.modAll_cons]; exact ih (s.modSense i f)

theorem modCoils_coilSense {f : SenseCoil → SenseCoil} {l : List Nat} (h : l.Nodup ∨ ∀ x, f (f x) = f x) (s : State) (ca : Nat) :
    (s.modCoils f l).coilSense ca = if ca ∈ l then f (s.coilSense ca) else s.coilSense ca :=
  Tab.get_modAll h s.sense.coils ca

end Sys2Proof.Machine
end

section
/-!
PROOFS. Impulse marks, the bins and windows that note them, and sample capture (R131, R135 to R137, R141, R143).
-/

namespace Sys2Proof.Machine

open Sys2Proof

/-! ### The bins that a mark hits (R136) -/

/-- The bins of a stretch score a hit, unless a virtual source has frozen the map. -/
theorem hitBins_eq (a b : Nat) (s : State) : s.hitBins a b = { s with
    bins := if s.tb.src = 2 then s.bins
      else Tab.modAll {} (fun x => { x with hit := true }) ((List.range 64).filter fun i => decide (a ≤ i ∧ i ≤ b)) s.bins } := by
  unfold State.hitBins
  split
  · rfl
  · exact each_modBin _ _ s

theorem hitBins_of_virtual (a b : Nat) {s : State} (hsrc : s.tb.src = 2) : (s.hitBins a b).bins = s.bins := by
  rw [hitBins_eq]
  exact if_pos hsrc

theorem hitBins_bin (a b : Nat) {s : State} (hsrc : s.tb.src ≠ 2) {i : Nat} (hi : i < 64) :
    (s.hitBins a b).bin i = if a ≤ i ∧ i ≤ b then { s.bin i with hit := true } else s.bin i := by
  have hnodup : ((List.range 64).filter fun i => decide (a ≤ i ∧ i ≤ b)).Nodup := List.nodup_range.filter _
  rw [hitBins_eq, if_neg hsrc, State.bin, Tab.get_modAll (.inl hnodup)]
  simp only [List.mem_filter, List.mem_range, hi, true_and, decide_eq_true_eq]
  rfl

/-! ### The source of the timebase (R51, R53) -/

theorem cycleEnd_src (s : State) : s.cycleEnd.tb.src = s.tb.src := by
  obtain ⟨b, r, h⟩ := cycleEnd_rest s
  rw [h]

theorem advanceLoop_src (fuel n : Nat) (s : State) : (s.advanceLoop fuel n).tb.src = s.tb.src := by
  induction fuel generalizing n s with
  | zero => rfl
  | succ k ih =>
    unfold State.advanceLoop
    dsimp only
    split
    · rw [ih, cycleEnd_src]
      rfl
    · rfl

/-- The passing of time leaves the source. -/
@[simp] theorem advance_src (n : Nat) (s : State) : (s.advance n).tb.src = s.tb.src := by
  unfold State.advance
  split
  · rfl
  · split
    · rfl
    · exact advanceLoop_src _ n s

/-! ### The open windows (R131) -/

/-- A change of a track's window, while it has one. -/
def Track.modWin (f : Window → Window) (tr : Track) : Track := { tr with win := tr.win.map f }

/-- The windows of the tracks T0 to T7 change. -/
def State.modWins (f : Window → Window) (s : State) : State :=
  { s with tracks := Tab.modAll {} (Track.modWin f) (List.range 8) s.tracks }

/-- What changes the tracks with a window as `f` does, and leaves the others, changes the windows. -/
theorem each_modWin {f : Window → Window} {g : Track → Track} (hsome : ∀ tr w, tr.win = some w → g tr = { tr with win := some (f w) })
    (hnone : ∀ tr, tr.win = none → g tr = tr) (s : State) : s.each (List.range 8) (fun t => State.modTrack t g) = s.modWins f := by
  have hg : g = Track.modWin f := by
    funext tr
    unfold Track.modWin
    cases hw : tr.win with
    | none => rw [hnone tr hw, Option.map_none, ← hw]
    | some w => exact hsome tr w hw
  rw [each_modTrack, hg, State.modWins]

section
variable (f : Window → Window) (s : State)

@[simp] theorem modWins_rx (v : Nat) : (s.modWins f).rx v = s.rx v := (rfl)

theorem modWins_track (t : Nat) : (s.modWins f).track t = if t < 8 then (s.track t).modWin f else s.track t := by
  unfold State.modWins State.track
  rw [Tab.get_modAll (.inl List.nodup_range)]
  simp only [List.mem_range]

theorem modWins_track_of_window {t : Nat} {w : Window} (ht : t < 8) (hw : (s.track t).win = some w) :
    (s.modWins f).track t = { s.track t with win := some (f w) } := by
  rw [modWins_track, if_pos ht, Track.modWin, hw, Option.map_some]

theorem modWins_track_of_other {t : Nat} (h : 8 ≤ t ∨ (s.track t).win = none) : (s.modWins f).track t = s.track t := by
  rw [modWins_track]
  split
  · next ht =>
    have hw : (s.track t).win = none := h.resolve_left (Nat.not_le.2 ht)
    rw [Track.modWin, hw, Option.map_none, ← hw]
  · rfl

end

/-- A window that listens on the chain of a mark notes it. -/
def Window.noteMark (k : WindowMark) (w : Window) : Window :=
  if w.inputs.any (fun p => decide (p.1 = k.chain)) then { w with marks := w.marks ++ [k] } else w

/-- The marks of a chain that a window holds open take their end. -/
def Window.endMarks (f cc : Nat) (w : Window) : Window :=
  { w with marks := w.marks.map fun k => if k.chain = f ∧ k.endCc = none then { k with endCc := some cc } else k }

/-! ### Marks (R135 to R137, R141) -/

/-- The floor of a chain once it has followed an energy up to now (R135). -/
def State.floorAt (s : State) (v : Nat) (e : Int) (ms : Nat) : Rat :=
  (s.rx v).floor + ((e : Rat) - (s.rx v).floor) * Config.settledPart (s.since (s.rx v).floorCc) (13560 * ms)

theorem followFloor_eq (v : Nat) (e : Int) (ms : Nat) (s : State) :
    s.followFloor v e ms = s.setRx v { s.rx v with floor := s.floorAt v e ms, floorCc := s.tb.cc } := rfl

theorem followFloor_floor (v : Nat) (e : Int) (ms : Nat) (s : State) : ((s.followFloor v e ms).rx v).floor = s.floorAt v e ms := by
  rw [followFloor_eq, rx_setRx, if_pos rfl]

/-- Capture with a mark of a chain that it captures noted (R141). -/
def State.markedCapture (s : State) (f : Nat) : Capture :=
  if (s.capture.state = 1 ∨ s.capture.state = 2) ∧ s.capture.chains.contains f then
    { s.capture with marks := s.capture.marks ++ [(f, s.tb.cc)] } else s.capture

/-- A mark begins on a chain whose floor is now `x`. -/
def State.markBegun (f : Nat) (x : Rat) (energy : Int) (s : State) : State :=
  (({ s with capture := s.markedCapture f } : State).setRx f { s.rx f with
    floor := x, floorCc := s.tb.cc, imark := true, marks := (s.rx f).marks + 1,
    mark := some { bin := s.binNow, fromBin := s.binNow, cc := s.tb.cc, energy := energy } }).modWins
      (Window.noteMark { chain := f, bin := s.binNow, fromCc := s.tb.cc, endCc := none })

section
variable {s : State} {f : Fin 16} {quiet energy : Int}

theorem execImpulseMark_of_deaf (h : s.blind f = true ∨ (s.rx f).mark ≠ none) : execImpulseMark ⟨f, quiet, energy⟩ s = .next s :=
  if_pos (h.imp_right Option.isSome_iff_ne_none.2)

variable (hclear : s.blind f = false) (hidle : (s.rx f).mark = none)
include hclear hidle

/-- The impulse detector takes a burst. -/
theorem impulse_heard : ¬ (s.blind f = true ∨ (s.rx f).mark.isSome = true) := by simp [hclear, hidle]

theorem execImpulseMark_of_faint (h : (energy : Rat) ≤ s.floorAt f quiet 20 + (s.objNat (0x3010 + f) 1 : Nat)) :
    execImpulseMark ⟨f, quiet, energy⟩ s = .next (s.setRx f { s.rx f with floor := s.floorAt f quiet 20, floorCc := s.tb.cc }) := by
  simp only [execImpulseMark, if_neg (impulse_heard hclear hidle), followFloor_floor]
  exact if_pos h

theorem execImpulseMark_of_burst (h : s.floorAt f quiet 20 + (s.objNat (0x3010 + f) 1 : Nat) < (energy : Rat)) :
    execImpulseMark ⟨f, quiet, energy⟩ s = .next (s.markBegun f (s.floorAt f quiet 20) energy) := by
  unfold execImpulseMark
  dsimp -zeta only
  rw [if_neg (impulse_heard hclear hidle)]
  extract_lets s₁ b s₂ c s₃
  have hburst : ¬ (energy : Rat) ≤ (s₁.rx f).floor + (s₁.objNat (0x3010 + f) 1 : Nat) := by
    rw [followFloor_floor]
    exact Rat.not_le.2 h
  rw [if_neg hburst]
  have hs₂ : s₂ = s.setRx f { s.rx f with
      floor := s.floorAt f quiet 20, floorCc := s.tb.cc, imark := true, marks := (s.rx f).marks + 1,
      mark := some { bin := s.binNow, fromBin := s.binNow, cc := s.tb.cc, energy := energy } } := by
    simp only [s₂, s₁, b, followFloor_eq, State.modRx, rx_setRx, if_true, setRx_setRx]
    rfl
  have hs₃ : s₃ = { s₂ with capture := s₂.markedCapture f } := by
    unfold State.markedCapture
    simp only [s₃, c]
    split <;> rfl
  have hcapture : s₂.markedCapture f = s.markedCapture f := by rw [hs₂]; rfl
  have htb : s₃.tb = s.tb := by rw [hs₃, hs₂]; rfl
  have hbegun : s.markBegun f (s.floorAt f quiet 20) energy = s₃.modWins
      (Window.noteMark { chain := f, bin := s.binNow, fromCc := s.tb.cc, endCc := none }) := by
    rw [hs₃, hcapture, hs₂]
    rfl
  rw [hbegun]
  refine congrArg _ (each_modWin ?_ ?_ _)
  · intro tr w hw
    simp only [hw, htb, Window.noteMark]
    split
    · rfl
    · rw [← hw]
  · intro tr hw
    simp only [hw]

end

/-- A mark ends now. -/
def State.markEnded (f : Nat) (m : RunMark) (u : State) : State :=
  (({ u with bins := (u.hitBins m.fromBin u.binNow).bins } : State).setRx f
    { u.rx f with mark := none, floorCc := u.tb.cc, floor := u.floorAt f m.energy 640 }).modWins (Window.endMarks f u.tb.cc)

theorem execMarkEnd_of_none {s : State} {f : Fin 16} (h : (s.rx f).mark = none) : execMarkEnd f s = .next s := by
  unfold execMarkEnd
  rw [h]

theorem execMarkEnd_of_mark {s u : State} {f : Fin 16} {m : RunMark} (hrun : (s.rx f).mark ≠ none) (hu : u = s.advance (usCt 2))
    (hm : (u.rx f).mark = some m) : execMarkEnd f s = .next (u.markEnded f m) := by
  obtain ⟨k, hk⟩ := Option.ne_none_iff_exists'.1 hrun
  unfold execMarkEnd
  rw [hk]
  dsimp -zeta only
  rw [← hu]
  extract_lets s₁
  have hm₁ : (s₁.rx f).mark = some m := hm
  rw [hm₁]
  dsimp -zeta only
  extract_lets s₂ s₃
  have hs₂ : s₂ = ({ u with bins := (u.hitBins m.fromBin u.binNow).bins } : State).setRx f
      { u.rx f with floor := u.floorAt f m.energy 640, floorCc := u.tb.cc } := by
    simp only [s₂, s₁, followFloor_eq, hitBins_eq]
    rfl
  have hs₃ : s₃ = ({ u with bins := (u.hitBins m.fromBin u.binNow).bins } : State).setRx f
      { u.rx f with mark := none, floorCc := u.tb.cc, floor := u.floorAt f m.energy 640 } := by
    simp only [s₃, State.modRx, hs₂, rx_setRx, if_true, setRx_setRx]
  have htb : s₃.tb = u.tb := by rw [hs₃]; rfl
  rw [State.markEnded, ← hs₃]
  refine congrArg _ (each_modWin ?_ ?_ _)
  · intro tr w hw
    simp only [hw, htb, Window.endMarks]
  · intro tr hw
    simp only [hw]

section
variable (s : State) (f : Nat) (x : Rat) (energy : Int)

theorem markBegun_rx : (s.markBegun f x energy).rx f = { s.rx f with
    floor := x, floorCc := s.tb.cc, imark := true, marks := (s.rx f).marks + 1,
    mark := some { bin := s.binNow, fromBin := s.binNow, cc := s.tb.cc, energy := energy } } := by
  rw [State.markBegun, modWins_rx, rx_setRx, if_pos rfl]

theorem markBegun_rx_other {v : Nat} (hv : v ≠ f) : (s.markBegun f x energy).rx v = s.rx v := by
  rw [State.markBegun, modWins_rx, rx_setRx, if_neg hv]
  rfl

theorem markBegun_track_of_window {t : Nat} {w : Window} (ht : t < 8) (hw : (s.track t).win = some w) :
    (s.markBegun f x energy).track t = { s.track t with win := some (if w.inputs.any (fun p => decide (p.1 = f)) then
      { w with marks := w.marks ++ [{ chain := f, bin := s.binNow, fromCc := s.tb.cc, endCc := none }] } else w) } := by
  unfold State.markBegun
  exact modWins_track_of_window _ _ ht hw

theorem markBegun_track_of_other {t : Nat} (h : 8 ≤ t ∨ (s.track t).win = none) : (s.markBegun f x energy).track t = s.track t := by
  unfold State.markBegun
  exact modWins_track_of_other _ _ h

end

section
variable (u : State) (f : Nat) (m : RunMark)

theorem markEnded_rx : (u.markEnded f m).rx f =
    { u.rx f with mark := none, floorCc := u.tb.cc, floor := u.floorAt f m.energy 640 } := by
  rw [State.markEnded, modWins_rx, rx_setRx, if_pos rfl]

theorem markEnded_rx_other {v : Nat} (hv : v ≠ f) : (u.markEnded f m).rx v = u.rx v := by
  rw [State.markEnded, modWins_rx, rx_setRx, if_neg hv]
  rfl

theorem markEnded_track_of_window {t : Nat} {w : Window} (ht : t < 8) (hw : (u.track t).win = some w) :
    (u.markEnded f m).track t = { u.track t with win := some { w with marks := w.marks.map fun k =>
      if k.chain = f ∧ k.endCc = none then { k with endCc := some u.tb.cc } else k } } := by
  unfold State.markEnded
  exact modWins_track_of_window _ _ ht hw

theorem markEnded_track_of_other {t : Nat} (h : 8 ≤ t ∨ (u.track t).win = none) : (u.markEnded f m).track t = u.track t := by
  unfold State.markEnded
  exact modWins_track_of_other _ _ h

end

/-! ### Capture (R141) -/

theorem execCaptureTrigger_of_idle {s : State} (h : s.capture.state ≠ 1 ∨ s.triggers = []) : execCaptureTrigger s = .next s := by
  unfold execCaptureTrigger
  split
  · rfl
  · next harmed =>
    rw [h.resolve_left harmed]
    rfl

theorem execCaptureTrigger_of_armed {s : State} {cc : Nat} (harmed : s.capture.state = 1) (hcc : s.earliest s.triggers = some cc) :
    execCaptureTrigger s = .next { s with capture := { s.capture with state := 2, trigCc := cc, pre := s.objNat 0x3200 4 } } := by
  unfold execCaptureTrigger
  rw [if_neg fun hidle => hidle harmed, hcc]

theorem execCaptureDone_of_triggered {s u : State} {n : Nat} (h : s.capture.state = 2) (hn : n = max 1 s.capture.chains.length)
    (hu : u = s.advanceTo ((s.capture.trigCc + 60 * ((32768 - s.capture.pre + n - 1) / n)) % 2 ^ 48)) :
    execCaptureDone s = .next { u with capture := { s.capture with state := 3, final := u.captureBlocks } } := by
  subst hn hu
  exact if_pos h

theorem execCaptureDone_of_untriggered {s : State} (h : s.capture.state ≠ 2) : execCaptureDone s = .next s := if_neg h

/-! ### The obligation -/

/-- Settles O11: a burst begins a mark, is too faint for one or finds the detector deaf; a mark that ends is read off the module 2 µs
on; capture's triggers are the CCs that the statement calls caused, of which it takes the earliest. -/
theorem impulsesAndCapture : Obligations.ImpulsesAndCapture := by
  unfold Obligations.ImpulsesAndCapture
  refine ⟨fun s f quiet energy x hclear hidle hx => ?_, fun s f quiet energy h => execImpulseMark_of_deaf h,
    fun s u f m hrun hu hm => ?_, fun s f h => execMarkEnd_of_none h, fun s cc => ?_, fun s u n htrig hn hu => ?_,
    fun s h => execCaptureDone_of_untriggered h⟩
  · subst hx
    exact ⟨fun hburst => ⟨_, execImpulseMark_of_burst hclear hidle hburst, markBegun_rx s f _ energy,
      fun v => markBegun_rx_other s f _ energy, fun t ht w => markBegun_track_of_window s f _ energy ht, fun t => markBegun_track_of_other s f _ energy, rfl, rfl⟩,
      execImpulseMark_of_faint hclear hidle⟩
  · have htracks (t : Nat) : u.track t = s.track t := by rw [hu, advance_track]
    have hsrc : u.tb.src = s.tb.src := by rw [hu, advance_src]
    refine ⟨u.markEnded f m, execMarkEnd_of_mark hrun hu hm, markEnded_rx u f m, fun v => markEnded_rx_other u f m,
      fun h i hi => hitBins_bin _ _ (hsrc ▸ h) hi, fun h => hitBins_of_virtual _ _ (hsrc.trans h), fun t ht w => ?_, fun t => ?_, ?_⟩
    · rw [← htracks]
      exact markEnded_track_of_window u f m ht
    · rw [← htracks]
      exact markEnded_track_of_other u f m
    · obtain ⟨tb, b, r, hrest⟩ := advance_rest (usCt 2) s
      rw [← hu] at hrest
      subst hrest
      rfl
  · intro caused
    have hcaused (c : Nat) : c ∈ s.triggers ↔ caused c := mem_triggers s c
    refine ⟨fun harmed hcc hlast => execCaptureTrigger_of_armed harmed
      (earliest_some s _ cc ((hcaused cc).2 hcc) fun c hc => hlast c ((hcaused c).1 hc)), fun h => execCaptureTrigger_of_idle ?_⟩
    exact h.imp_right fun hnone => List.eq_nil_iff_forall_not_mem.2 fun c hc => hnone c ((hcaused c).1 hc)
  · exact execCaptureDone_of_triggered htrig hn hu

end Sys2Proof.Machine
end

section
/-!
PROOFS. Writes that act on the sensing and sweeping units: the map, capture, sweep starts, reports, door groups, relearning and defaults
(R137, R141, R182, R197, R231, R232, R241, R293).
-/

namespace Sys2Proof.Machine

open Sys2Proof

/-! ### Capture (R141, R143) -/

/-- The chains that capture selects. -/
def State.captureChains (s : State) : List Nat := (List.range 16).filter fun f => decide (bitsOf (s.objNat 0x3200 1) f 1 = 1)

/-- Capture as an arming leaves it: triggered at once by trigger 0, with what an earlier arming wrote kept. -/
def State.armedCapture (s : State) : Capture :=
  { state := if s.objNat 0x3200 2 = 0 then 2 else 1, armCc := s.tb.cc, trigCc := if s.objNat 0x3200 2 = 0 then s.tb.cc else s.capture.trigCc,
    chains := s.captureChains, pre := s.objNat 0x3200 4, final := 0, fill := s.capture.fill + 1,
    scale := s.captureChains.map fun v => (v, s.tb.cc, (s.rx v).range), marks := [], old := s.captureNow :: s.capture.old }

theorem captureArm_of_chains {s : State} (h : s.captureChains ≠ []) : s.captureArm 1 = (.ok, { s with capture := s.armedCapture }) := by
  unfold State.captureArm
  rw [if_neg (by decide)]
  refine (if_neg h).trans ?_
  simp only [decide_eq_true_eq]
  rfl

theorem captureArm_of_no_chain {s : State} (h : ∀ f, f < 16 → bitsOf (s.objNat 0x3200 1) f 1 = 0) : s.captureArm 1 = (.valueRange, s) := by
  have hnone : s.captureChains = [] := List.filter_eq_nil_iff.2 fun f hf => by simp [h f (List.mem_range.1 hf)]
  unfold State.captureArm
  rw [if_neg (by decide)]
  exact if_pos hnone

/-! ### Sweep starts (R181, R182) -/

/-- A write's request joins the end of the queue. -/
theorem enterQueue_none (p : Nat) (q : List (Nat × Option Nat)) : enterQueue p none q = q ++ [(p, none)] := by
  have hlater (l : List (Nat × Option Nat)) : l.takeWhile (fun _ => false) = [] := by cases l <;> rfl
  simp [enterQueue, hlater]

section
variable {s : State} {p : Nat}

theorem sweepStart_of_invalid (h : (s.plan p).invalid = true) : s.sweepStart p = (.invalid, s) := if_pos h

variable (hvalid : (s.plan p).invalid = false)
include hvalid

theorem sweepStart_of_new (hnew : ∀ q ∈ s.sweeps.queue, q.1 ≠ p) :
    s.sweepStart p = (.ok, { s with sweeps := { s.sweeps with queue := s.sweeps.queue ++ [(p, none)] } }) := by
  have hno : (s.sweeps.queue.any fun q => decide (q.1 = p)) = false := by simpa using hnew
  simp [State.sweepStart, State.requestSweep, hvalid, hno, enterQueue_none]

theorem sweepStart_of_waiting (hwaits : ∃ q ∈ s.sweeps.queue, q.1 = p) :
    s.sweepStart p = (.ok, s.modPlan p fun x => { x with merged := x.merged + 1 }) := by
  have hyes : (s.sweeps.queue.any fun q => decide (q.1 = p)) = true := by simpa using hwaits
  simp [State.sweepStart, State.requestSweep, hvalid, hyes]

end

/-! ### Door groups (R231, R232) -/

/-- The catalogue's row of the door groups (R241). -/
def doorGroupRow : Obj := ⟨0x2401, 1, 0x01, 0x40, .bool, .rw, .any, natLE 1 0⟩

theorem findObj_doorGroup {g : Nat} (hg : g < 64) : findObj 0x2401 (g + 1) = some doorGroupRow := by
  revert g
  decide +kernel

/-- Another object keeps its number when a door group is set. -/
theorem objNat_setObj_doorGroup {s : State} {g : Nat} (hg : g < 64) (v : List Byte) {idx sub : Nat} (hidx : idx ≠ 0x2401) (hsub : sub < 64) :
    (s.setObj 0x2401 (g + 1) v).objNat idx sub = s.objNat idx sub := by
  have hkey : objKey idx sub ≠ objKey 0x2401 (g + 1) := by
    unfold objKey
    omega
  rw [State.objNat, obj_setObj_other s _ _ v hkey, State.objNat]

/-- The coils of a door group. -/
def State.doorCoils (s : State) (g : Nat) : List Nat := (List.range 256).filter fun ca => decide (s.objNat (0x2500 + ca) 4 = g)

/-- A coil with its door hold-off running. -/
def SenseCoil.doorHeld (c : SenseCoil) : SenseCoil := { c with doorHold := true }

section
variable {s : State} {g : Nat} (hg : g < 64) (v : List Byte)
include hg

theorem writeDoorGroup_of_no_holdOff (h : s.objNat 0x2400 6 = 0) : s.writeDoorGroup g v = s.setObj 0x2401 (g + 1) v :=
  if_pos ((objNat_setObj_doorGroup hg v (by decide) (by decide)).trans h)

/-- With a hold-off set, a write starts it on the coils of the group. -/
theorem writeDoorGroup_of_holdOff (h : s.objNat 0x2400 6 ≠ 0) :
    s.writeDoorGroup g v = (s.setObj 0x2401 (g + 1) v).modCoils SenseCoil.doorHeld (s.doorCoils g) := by
  have hcoils : (s.setObj 0x2401 (g + 1) v).doorCoils g = s.doorCoils g := List.filter_congr fun ca hca => by
    have hca : ca < 256 := List.mem_range.1 hca
    rw [objNat_setObj_doorGroup hg v (by omega) (by decide)]
  have hon : (s.setObj 0x2401 (g + 1) v).objNat 0x2400 6 ≠ 0 := by rwa [objNat_setObj_doorGroup hg v (by decide) (by decide)]
  rw [← hcoils]
  exact (if_neg hon).trans (each_modSense _ _ _)

/-- What a write with a hold-off set changes, and that nothing else does. -/
theorem writeDoorGroup_rest (h : s.objNat 0x2400 6 ≠ 0) : ∃ t : State, s.writeDoorGroup g v = t ∧ t.obj 0x2401 (g + 1) = v ∧
    (∀ ca, t.coilSense ca = if ca < 256 ∧ s.objNat (0x2500 + ca) 4 = g then { s.coilSense ca with doorHold := true } else s.coilSense ca) ∧
    t = { s with dict := t.dict, sense := { s.sense with coils := t.sense.coils } } := by
  have hnodup : (s.doorCoils g).Nodup := List.nodup_range.filter _
  refine ⟨_, writeDoorGroup_of_holdOff hg v h, obj_setObj_same s 0x2401 (g + 1) v, fun ca => ?_, rfl⟩
  rw [modCoils_coilSense (.inl hnodup)]
  simp only [State.doorCoils, List.mem_filter, List.mem_range, decide_eq_true_eq]
  rfl

end

/-! ### Relearning (R241) -/

/-- A coil without its learned flags. -/
def SenseCoil.unlearned (c : SenseCoil) : SenseCoil := { c with openSet := false, closedSet := false }

theorem unlearned_unlearned (c : SenseCoil) : c.unlearned.unlearned = c.unlearned := rfl

/-- Every coil loses its learned flags: one that the table does not list has none. -/
theorem relearn_rest (s : State) : ∃ t : State, s.relearn = t ∧
    (∀ ca, t.coilSense ca = { s.coilSense ca with openSet := false, closedSet := false }) ∧
    t = { s with sense := { s.sense with coils := t.sense.coils } } := by
  refine ⟨s.modCoils SenseCoil.unlearned (s.sense.coils.map Prod.fst), each_modSense _ _ s, fun ca => ?_, rfl⟩
  rw [modCoils_coilSense (.inr unlearned_unlearned)]
  split
  · rfl
  · next hunlisted => rw [State.coilSense, Tab.get_of_unlisted hunlisted]

/-! ### Defaults (R293) -/

theorem restoreDefaults_of_none {s : State} (h : ∀ p ∈ s.dict, isSetting p = false) : s.restoreDefaults = s := by
  have hgone : s.dict.filter isSetting = [] := List.filter_eq_nil_iff.2 fun p hp => ne_true_of_eq_false (h p hp)
  have hkept : (s.dict.filter fun p => !(isSetting p)) = s.dict := List.filter_eq_self.2 fun p hp => by simp [h p hp]
  simp [State.restoreDefaults, hgone, hkept]

/-- The nominal mains frequency and its kin bear on nothing at once. -/
theorem settingEffect_timebase (sub : Nat) (s : State) : s.settingEffect 0x6001 sub = s := by
  simp [State.settingEffect, State.compileFor]

theorem restoreDefaults_of_timebase {s : State} {k : Nat} {v : List Byte} (hset : isSetting (k, v) = true) (hk : k / 256 = 0x6001)
    (hdict : s.dict = [(k, v)]) :
    s.restoreDefaults = { s with dict := [], settings := { s.settings with changedF := true } } := by
  have hfield : onField (k, v) = true := by rw [onField, hk]; decide
  simp [State.restoreDefaults, hdict, hset, hfield, hk, settingEffect_timebase]

/-! ### The rows -/

/-- While the ports do not serve, a row leaves the state. -/
theorem writeRow_of_silent {s : State} (h : s.serving = false) (overSpi : Bool) (idx sub : Nat) (v : List Byte) :
    s.writeRow overSpi idx sub v = s := if_pos (by simp [h])

/-- The write-only object of a plan starts its sweep: every other action has an index of its own. -/
theorem action_of_plan (s : State) {p : Nat} (hp : p < 16) (sub : Nat) (v : List Byte) : s.action (0x4010 + p) sub v = s.sweepStart p := by
  have hplan : 0x4010 + p - 0x4010 = p := by omega
  unfold State.action
  split
  all_goals try omega
  rw [hplan]

section
variable {s t : State} {st : Status} (hw : s.takesWrites)
include hw

theorem exec_mapClear_of : exec (.mapClear [1]) s = .next (({ s with bins := [] } : State).answers 0x3100 2 .ok) :=
  congrArg _ (writeRow_of_check (idx := 0x3100) (sub := 2) (v := [1]) hw (by decide +kernel) (by decide) (by decide) rfl rfl)

theorem exec_captureArm_of {n : Byte} (hn : n = 0 ∨ n = 1) (h : s.captureArm (leNat [n]) = (st, t)) (htwin : t.twin = s.twin) :
    exec (.captureArm [n]) s = .next (t.answers 0x3200 5 st) := by
  have hcheck : (findObj 0x3200 5).any (fun o => decide (o.access = .wo) && o.valueOk [n]) = true := by
    obtain rfl | rfl := hn <;> decide +kernel
  exact congrArg _ (writeRow_of_check hw hcheck (by decide) (by decide) h htwin)

theorem exec_sweepStart_of {p : Fin 16} (h : s.sweepStart p = (st, t)) (htwin : t.twin = s.twin) :
    exec (.sweepStart p [1]) s = .next (t.answers (0x4010 + p) 5 st) := by
  have hcheck : ∀ p : Fin 16, (findObj (0x4010 + p) 5).any (fun o => decide (o.access = .wo) && o.valueOk [1]) = true := by decide +kernel
  have hact := action_of_plan s p.isLt 5 [1]
  exact congrArg _ (writeRow_of_check hw (hcheck p) (.inl (by omega)) (by simp [lockedObj]; omega) (hact.trans h) htwin)

theorem exec_reportBuild_of :
    exec (.reportBuild [1]) s = .next (({ s with report := { s.report with status := 1 } } : State).answers 0x4100 5 .ok) :=
  congrArg _ (writeRow_of_check (idx := 0x4100) (sub := 5) (v := [1]) hw (by decide +kernel) (by decide) (by decide) rfl rfl)

theorem exec_doorGroupWrite_of {g : Fin 64} (b : Bool) (h : s.writeDoorGroup g [b8 (bit b)] = t) (htwin : t.twin = s.twin) :
    exec (.doorGroupWrite g [b8 (bit b)]) s = .next (t.answers 0x2401 (g + 1) .ok) := by
  have hfits : doorGroupRow.valueOk [b8 (bit b)] = true := by cases b <;> decide
  have ho : Takes 0x2401 (g + 1) [b8 (bit b)] doorGroupRow := ⟨findObj_doorGroup g.isLt, by decide, by simp [lockedObj], hfits⟩
  have happly : s.applyWrite doorGroupRow false 0x2401 (g + 1) [b8 (bit b)] = (.ok, t) := by
    simp [State.applyWrite, doorGroupRow, State.refusal, h]
  exact congrArg _ (writeRow_of_applied hw ho (by decide) happly htwin)

theorem exec_relearn_of (h : s.relearn = t) (htwin : t.twin = s.twin) : exec (.relearn [1]) s = .next (t.answers 0x2400 8 .ok) :=
  congrArg _ (writeRow_of_check (idx := 0x2400) (sub := 8) (v := [1]) hw (by decide +kernel) (by decide) (by decide)
    (congrArg (Prod.mk Status.ok) h) htwin)

theorem exec_restoreDefaults_of (h : s.restoreDefaults = t) (htwin : t.twin = s.twin) :
    exec (.restoreDefaults [1]) s = .next (t.answers 0x1011 1 .ok) := by
  have hact : s.action 0x1011 1 [1] = (.ok, t) := (if_neg fun hdown => hdown hw.porterUp).trans (congrArg _ h)
  exact congrArg _ (writeRow_of_check hw (by decide +kernel) (by decide) (by decide) hact htwin)

end

/-- Settles O22: each row is its object's action on a module without twin, answered with the action's status; a port that does not
serve passes every row by. -/
theorem sensingWritesAct : Obligations.SensingWritesAct := by
  unfold Obligations.SensingWritesAct
  refine ⟨fun s hw => ⟨exec_mapClear_of hw, exec_captureArm_of hw (.inl rfl) rfl rfl, ?_, fun hnone => ?_, fun p hvalid hnew => ?_,
    fun p hvalid hwaits => ?_, fun p hinvalid => ?_, exec_reportBuild_of hw, fun g b hoff => ?_, fun g b hon => ?_, ?_, fun hnone => ?_,
    fun k v hset hk hdict => ?_⟩, fun s v h => ?_⟩
  · rintro vs rfl hchains
    exact ⟨s.armedCapture, exec_captureArm_of hw (.inr rfl) (captureArm_of_chains hchains) rfl, rfl, rfl, rfl, rfl, rfl, rfl, rfl, rfl,
      fun htrig => if_pos htrig⟩
  · exact exec_captureArm_of hw (.inr rfl) (captureArm_of_no_chain hnone) rfl
  · exact exec_sweepStart_of hw (sweepStart_of_new hvalid hnew) rfl
  · exact exec_sweepStart_of hw (sweepStart_of_waiting hvalid hwaits) rfl
  · exact exec_sweepStart_of hw (sweepStart_of_invalid hinvalid) rfl
  · exact exec_doorGroupWrite_of hw b (writeDoorGroup_of_no_holdOff g.isLt _ hoff) rfl
  · obtain ⟨t, ht, hobj, hcoils, hrest⟩ := writeDoorGroup_rest g.isLt [b8 (bit b)] hon
    exact ⟨t, exec_doorGroupWrite_of hw b ht (by rw [hrest]), hobj, hcoils, hrest⟩
  · obtain ⟨t, ht, hcoils, hrest⟩ := relearn_rest s
    exact ⟨t, exec_relearn_of hw ht (by rw [hrest]), hcoils, hrest⟩
  · exact exec_restoreDefaults_of hw (restoreDefaults_of_none hnone) rfl
  · exact exec_restoreDefaults_of hw (restoreDefaults_of_timebase hset hk hdict) rfl
  · have hrow (idx sub : Nat) : Host.Outcome.next (s.writeRow false idx sub v) = (.next s : Result) :=
      congrArg _ (writeRow_of_silent h false idx sub v)
    exact ⟨hrow _ _, hrow _ _, hrow _ _, hrow _ _, hrow _ _, fun _ => hrow _ _, fun _ => hrow _ _⟩

end Sys2Proof.Machine
end

section
/-!
PROOFS. Requests that leave the module, and what the end of a template request or an APDU exchange changes (R159, R165, R166, R170, R183, R202).
-/

namespace Sys2Proof.Machine

open Sys2Proof

/-! ### Requests and counters (R159, R165) -/

/-- Requests leave the module in order, and nothing else changes. -/
theorem requests_eq (s : State) (ca : Nat) (rs : List Request) :
    s.requests ca rs = { s with out := s.out ++ rs.map fun r => Output.request ca r } := by
  unfold State.requests
  induction rs generalizing s with
  | nil => simp
  | cons r rs ih => rw [List.foldl_cons, ih]; simp [State.emit]

@[simp] theorem requests_guest (s : State) (ca : Nat) (rs : List Request) : (s.requests ca rs).guest = s.guest := by rw [requests_eq]
@[simp] theorem requests_keys (s : State) (ca : Nat) (rs : List Request) : (s.requests ca rs).keys = s.keys := by rw [requests_eq]
@[simp] theorem requests_tb (s : State) (ca : Nat) (rs : List Request) : (s.requests ca rs).tb = s.tb := by rw [requests_eq]

theorem count_bumpBy (n i j k l : Nat) (s : State) :
    (s.bumpBy n i j).count k l = if objKey k l = objKey i j then s.count i j + n else s.count k l :=
  Tab.get_set _ _ _ _

/-! ### The end of an exchange (R166, R170, R183, R202) -/

theorem serviceMsg_rest (opened : Bool) (kind handle ca what : Nat) (changes : Bool) (s : State) :
    ∃ lF lH lT o, s.serviceMsg opened kind handle ca what changes = { s with linkF := lF, linkH := lH, linkT := lT, out := o } := by
  unfold State.serviceMsg State.when
  dsimp only
  obtain ⟨_, _, _, _, h⟩ := mirror_rest 0x86 (.mService { opened := opened, kind := kind, handle := handle, ca := ca, what := what }) s
  split
  · obtain ⟨_, _, _, _, h'⟩ := mirror_rest 0x85 (.mInflight { opened := opened, kind := kind, handle := handle, ca := ca, what := what })
      (s.mirror 0x86 (.mService { opened := opened, kind := kind, handle := handle, ca := ca, what := what }))
    exact ⟨_, _, _, _, by rw [h', h]⟩
  · exact ⟨_, _, _, _, h⟩

theorem clearSecured_rest (handle : Nat) (s : State) : ∃ k, s.clearSecured handle = { s with keys := k } := by
  unfold State.clearSecured
  dsimp only
  split
  · exact ⟨s.keys, rfl⟩
  · split
    · exact ⟨_, rfl⟩
    · exact ⟨s.keys, rfl⟩

theorem afterService_of_no_sweep {s : State} (h : s.sweeps.running = none) : s.afterService = s := by
  unfold State.afterService
  rw [h]

/-- The message of a closed exchange, and the track it frees, while no sweep runs. -/
theorem serviceCloses_rest {s : State} (h : s.sweeps.running = none) (sent : Bool) (kind handle ca what : Nat) (changes : Bool) :
    ∃ lF lH lT o, (s.when sent (State.serviceMsg false kind handle ca what changes)).afterService =
      { s with linkF := lF, linkH := lH, linkT := lT, out := o } := by
  unfold State.when
  split
  · obtain ⟨_, _, _, _, hmsg⟩ := serviceMsg_rest false kind handle ca what changes s
    rw [hmsg]
    exact ⟨_, _, _, _, afterService_of_no_sweep h⟩
  · exact ⟨s.linkF, s.linkH, s.linkT, s.out, afterService_of_no_sweep h⟩

/-- A record stays logged where journal and time stay. -/
theorem logged_of_same {s t u : State} {g typ : Nat} {data : List Byte} (h : s.logged t g typ data) (hj : u.journal = t.journal)
    (htb : u.tb = t.tb) : s.logged u g typ data := by
  unfold State.logged at h ⊢
  rwa [hj, htb]

theorem whenClearSecured_rest (c : Bool) (handle : Nat) (s : State) :
    ∃ k, s.when c (State.clearSecured handle) = { s with keys := k } ∧ (c = false → k = s.keys) := by
  cases c
  · exact ⟨s.keys, rfl, fun _ => rfl⟩
  · obtain ⟨k, hk⟩ := clearSecured_rest handle s
    exact ⟨k, hk, nofun⟩

/-- The record of a template request (R170). -/
def State.templateRecord (s : State) (st : Nat) (resp : List Byte) : List Byte :=
  [b8 s.template.template, b8 st, b8 s.template.ca, b8 resp.length] ++ natLE 4 s.template.handle ++ padTo 24 resp

/-- A template request that has committed its record and taken status and response. -/
def State.templateTaken (st : Nat) (resp : List Byte) (s : State) : State :=
  { s.commit 8 1 (s.templateRecord st resp) with template := { s.template with status := st, resp := resp, track := none } }

/-- What the end of a template request changes besides its record, status and response: a failure on the tag may clear SECURED. -/
theorem endTemplate_rest {s : State} (h : s.sweeps.running = none) (st : Nat) (resp : List Byte) : ∃ k lF lH lT o,
    s.endTemplate st resp = { s.templateTaken st resp with keys := k, linkF := lF, linkH := lH, linkT := lT, out := o } ∧
      (st < 3 ∨ 5 < st → k = s.keys) := by
  obtain ⟨k, hk, hkeys⟩ := whenClearSecured_rest (decide (3 ≤ st ∧ st ≤ 5)) s.template.handle (s.templateTaken st resp)
  have hidle : (s.templateTaken st resp).sweeps.running = none := (congrArg _ (commit_sweeps s _ _ _)).trans h
  obtain ⟨lF, lH, lT, o, hcloses⟩ := serviceCloses_rest (s := { s.templateTaken st resp with keys := k }) hidle s.template.track.isSome 1
    s.template.handle s.template.ca s.template.template ((Template.ofBytes s.template.tmpl).flag 3)
  refine ⟨k, lF, lH, lT, o, ?_, fun hother => (hkeys (decide_eq_false (by omega))).trans (commit_keys s _ _ _)⟩
  rw [← hcloses, ← hk]
  rfl

/-- The record of an APDU exchange (R166). -/
def State.apduRecord (s : State) (st : Nat) (resp : List Byte) : List Byte :=
  [b8 st, b8 s.apdu.ca] ++ natLE 2 resp.length ++ natLE 4 s.apdu.handle ++ sliceBytes (zeros 2 ++ resp) resp.length 2

/-- The session of an exchange is lost: counted on status 3, committed, and SECURED may clear (R165, R202). -/
def State.sessionLost (v : Service) (st : Nat) (s : State) : State :=
  ((s.when (decide (st = 3)) (State.bump 0x6101 3)).commit 8 4 ([b8 st, b8 v.ca, 0, 0] ++ natLE 4 v.handle)).clearSecured v.handle

theorem sessionLost_rest (v : Service) (st : Nat) (s : State) : ∃ j n lF lH lT tw o k m, s.sessionLost v st =
    { s with journal := j, nvm := n, linkF := lF, linkH := lH, linkT := lT, twin := tw, out := o, keys := k, counts := m } := by
  obtain ⟨m, hm⟩ : ∃ m, s.when (decide (st = 3)) (State.bump 0x6101 3) = { s with counts := m } := by
    cases decide (st = 3) <;> exact ⟨_, rfl⟩
  obtain ⟨_, _, _, _, _, _, _, hc⟩ := commit_rest 8 4 ([b8 st, b8 v.ca, 0, 0] ++ natLE 4 v.handle) { s with counts := m }
  obtain ⟨_, hk⟩ := clearSecured_rest v.handle (State.commit 8 4 ([b8 st, b8 v.ca, 0, 0] ++ natLE 4 v.handle) { s with counts := m })
  unfold State.sessionLost
  rw [hm, hk, hc]
  exact ⟨_, _, _, _, _, _, _, _, _, rfl⟩

/-- An APDU exchange that has committed its record, and the loss of its session. -/
def State.apduLogged (st : Nat) (resp : List Byte) (s : State) : State :=
  if st = 3 ∨ st = 4 then (s.commit 8 2 (s.apduRecord st resp)).sessionLost s.apdu st else s.commit 8 2 (s.apduRecord st resp)

theorem apduLogged_of_kept {st : Nat} (h3 : st ≠ 3) (h4 : st ≠ 4) (resp : List Byte) (s : State) :
    s.apduLogged st resp = s.commit 8 2 (s.apduRecord st resp) :=
  if_neg (not_or.2 ⟨h3, h4⟩)

theorem apduLogged_rest (st : Nat) (resp : List Byte) (s : State) : ∃ j n lF lH lT tw o k m, s.apduLogged st resp =
    { s with journal := j, nvm := n, linkF := lF, linkH := lH, linkT := lT, twin := tw, out := o, keys := k, counts := m } := by
  obtain ⟨_, _, _, _, _, _, _, hc⟩ := commit_rest 8 2 (s.apduRecord st resp) s
  unfold State.apduLogged
  split
  · obtain ⟨_, _, _, _, _, _, _, _, _, hlost⟩ := sessionLost_rest s.apdu st (s.commit 8 2 (s.apduRecord st resp))
    rw [hlost, hc]
    exact ⟨_, _, _, _, _, _, _, _, _, rfl⟩
  · exact ⟨_, _, _, _, _, _, _, s.keys, s.counts, hc⟩

/-- The sessions after an exchange of a handle ended: a failed one loses its own. -/
def State.sessionsLeft (s : State) (st : Nat) : List Session :=
  if st = 3 ∨ st = 4 then s.roster.sessions.filter fun y => decide (y.idx ≠ s.apdu.handle % 131072) else s.roster.sessions

theorem endApdu_rest {s : State} (h : s.sweeps.running = none) (st : Nat) (resp : List Byte) : ∃ lF lH lT o,
    s.endApdu st resp = { s.apduLogged st resp with
      apdu := { s.apdu with status := st, resp := resp, track := none }, roster := { s.roster with sessions := s.sessionsLeft st }
      linkF := lF, linkH := lH, linkT := lT, out := o } := by
  obtain ⟨_, _, _, _, _, _, _, _, _, hu⟩ := apduLogged_rest st resp s
  have hidle : (s.apduLogged st resp).sweeps.running = none := by rw [hu]; exact h
  have hroster : (s.apduLogged st resp).roster = s.roster := by rw [hu]
  obtain ⟨lF, lH, lT, o, hcloses⟩ := serviceCloses_rest (s := { s.apduLogged st resp with
      apdu := { s.apdu with status := st, resp := resp, track := none }, roster := { s.roster with sessions := s.sessionsLeft st } }) hidle
    s.apdu.track.isSome 2 s.apdu.handle s.apdu.ca 0 true
  refine ⟨lF, lH, lT, o, ?_⟩
  rw [← hcloses, State.sessionsLeft, ← hroster]
  rfl

end Sys2Proof.Machine
end

section
/-!
PROOFS. Results of template, APDU and security exchanges, and what time ends in the attempt log and the command slots (R163 to R170,
R213 to R219, R313).
-/

namespace Sys2Proof.Machine

open Sys2Proof

/-! ### Runs of a template (R163, R169, R373) -/

section
variable {x : Template} {frame uid params : List Byte} {high : Bool} {n : Nat} {f b : SlotObs} {rest : List SlotObs}

/-- A good answer is taken at once, however many retries are left. -/
theorem retried_of_good {bad : SlotObs → Bool} (h : bad f = false) : retried bad n (f :: rest) = (f, rest) := by
  cases n <;> simp [retried, h]

theorem runTemplate_of_answer (hok : f.outcome = .ok) :
    runTemplate x frame uid params high (n + 1) false (f :: rest) = ((some f, false), templateRequests x frame) := by
  cases hflag : x.flag 3 <;> simp [runTemplate, hflag, retried_of_good, hok]

section
variable (hlost : f.outcome ≠ .ok) (hsplit : f.outcome ≠ .split)
include hlost hsplit

theorem runTemplate_of_lost (hwrites : x.flag 3 = true) (hback : readsBack x = false) :
    runTemplate x frame uid params high (n + 1) false (f :: rest) = ((none, false), templateRequests x frame) := by
  simp [runTemplate, hwrites, hback, hlost, hsplit]

theorem runTemplate_of_read_back (hwrites : x.flag 3 = true) (hback : readsBack x = true) (hok : b.outcome = .ok)
    (hmatch : readBackMatches x params b.data = true) : runTemplate x frame uid params high (n + 1) false (f :: b :: rest) =
      ((none, true), templateRequests x frame ++ [readBackRequest x uid params high]) := by
  simp [runTemplate, hwrites, hback, hlost, hsplit, retried_of_good, hok, hmatch]

theorem runTemplate_of_no_retry (hreads : x.flag 3 = false) (hretry : x.retry = 0) :
    runTemplate x frame uid params high (n + 1) false (f :: rest) = ((none, false), templateRequests x frame) := by
  simp [runTemplate, hreads, hretry, retried, hlost, hsplit]

end

end

/-! ### TEMPLATE_RESULT (R169, R271) -/

theorem templateRun_of {s : State} {x : Template} {answers : List SlotObs} {o : Option SlotObs} {applied : Bool} {rs : List Request}
    (hx : x = Template.ofBytes s.template.tmpl)
    (h : runTemplate x s.template.frame s.template.uid s.template.params ((fieldLE s.template.frame 0 1).testBit 1)
      (if s.template.verify then 2 else x.retry + 1) s.template.verify answers = ((o, applied), rs)) :
    s.template.run answers = (judgeTemplate x o applied, rs) := by
  subst hx
  simp only [Service.run, h]

theorem execTemplateResult_of_idle {s : State} (h : s.template.status ≠ 1 ∨ s.guest.running.isSome = true) (answers : List SlotObs)
    (g : Option GuestReturn) : execTemplateResult answers g s = .next s := if_pos h

section
variable {s : State} {answers : List SlotObs} {x : Template} {st : Nat} {b : List Byte} {rs : List Request}
  (hbusy : s.template.status = 1) (hfree : s.guest.running = none) (hx : x = Template.ofBytes s.template.tmpl)
  (hrun : s.template.run answers = ((st, b), rs))
include hbusy hfree hx hrun

theorem execTemplateResult_of_no_handler (h : x.guest = 0xFF ∨ s.guest.state ≠ 2) (g : Option GuestReturn) :
    execTemplateResult answers g s = .next ((s.requests s.template.ca rs).endTemplate st b) := by
  subst hx
  simp [execTemplateResult, hbusy, hfree, hrun, if_pos h]

/-- An active handler gets response and status first. -/
theorem execTemplateResult_of_handler (hguest : x.guest ≠ 0xFF) (hactive : s.guest.state = 2) :
    execTemplateResult answers none s = .next ((s.requests s.template.ca rs).callGuest x.guest st b) ∧
    ∀ q, execTemplateResult answers (some q) s =
      .next (((s.requests s.template.ca rs).callGuest x.guest st b).guestReturned q.status q.len q.resp) := by
  subst hx
  simp [execTemplateResult, hbusy, hfree, hrun, hguest, hactive]

end

section
variable {x : Template} {f : SlotObs} {body : List Byte} (hbody : body = if x.proto = 3 then f.data.drop 1 else f.data)
include hbody

theorem judgeTemplate_of_error (applied : Bool) (hproto : x.proto = 3) (herror : (f.data.getD 0 0).toNat % 2 = 1) :
    judgeTemplate x (some f) applied = (3, body.take 32) := by
  subst hbody
  exact if_pos ⟨hproto, herror⟩

variable (applied : Bool) (hgood : x.proto ≠ 3 ∨ (f.data.getD 0 0).toNat % 2 = 0)
include hgood

theorem judgeTemplate_of_length (h : body.length < x.rmin ∨ x.rmax < body.length) :
    judgeTemplate x (some f) applied = (5, body.take 32) := by
  subst hbody
  exact (if_neg (by omega)).trans (if_pos h)

theorem judgeTemplate_of_fit (hmin : x.rmin ≤ body.length) (hmax : body.length ≤ x.rmax) :
    judgeTemplate x (some f) applied = (2, body) := by
  subst hbody
  exact (if_neg (by omega)).trans (if_neg (by omega))

end

/-- A handler's return frees the core, and ends the request with what it answers, or REFUSED where that breaks its bounds. -/
theorem guestReturned_eq (s : State) (n st : Nat) (resp : List Byte) : s.guestReturned st n resp =
    State.endTemplate (if 2 ≤ st ∧ st ≤ 5 ∧ n ≤ 32 then st else 7) (if 2 ≤ st ∧ st ≤ 5 ∧ n ≤ 32 then resp.take n else [])
      { s with guest := { s.guest with running := none }, coreF := { s.coreF with guest := false, house := s.guest.saved } } := by
  unfold State.guestReturned
  split <;> rfl

/-! ### APDU_RESULT (R164 to R166) -/

theorem execApduResult_of_idle {s : State} (h : s.apdu.status ≠ 1) (answers : List SlotObs) : execApduResult answers s = .next s := if_pos h

/-- The happenings of a run of the transport are counted after its requests. -/
def State.happened (p : Part4) (s : State) : State :=
  (((s.requests s.apdu.ca p.sent).bumpBy p.recoveries 0x6101 2).bumpBy p.extensions 0x6101 4).bumpBy p.ppsFailures 0x6101 5

theorem happened_rest (p : Part4) (s : State) :
    s.happened p = { s with counts := (s.happened p).counts, out := (s.happened p).out } := by
  simp only [State.happened, requests_eq]
  rfl

theorem happened_counts (p : Part4) (s : State) : (s.happened p).count 0x6101 2 = s.count 0x6101 2 + p.recoveries ∧
    (s.happened p).count 0x6101 4 = s.count 0x6101 4 + p.extensions ∧ (s.happened p).count 0x6101 5 = s.count 0x6101 5 + p.ppsFailures := by
  have hsent (idx sub : Nat) : (s.requests s.apdu.ca p.sent).count idx sub = s.count idx sub := by rw [requests_eq]; rfl
  simp [State.happened, count_bumpBy, hsent, objKey]

theorem execApduResult_of_run {s : State} {answers : List SlotObs} {st i : Nat} {resp : List Byte} {old : Option Session} {p : Part4}
    (hi : i = s.apdu.handle % 131072) (hold : old = s.roster.sessions.find? (fun y => decide (y.idx = i)))
    (hrun : runExchange s.apdu.cfg s.apdu.uid s.apdu.frame old.isSome
      { answers := answers, session := old.getD { idx := i, typeB := decide (s.apdu.proto = 2) } } = (st, resp, p))
    (hbusy : s.apdu.status = 1) : execApduResult answers s = .next (State.endApdu st resp { s.happened p with roster := { s.roster with
      sessions := (s.roster.sessions.filter fun y => decide (y.idx ≠ i)) ++ (if st = 2 then [p.session] else []) } }) := by
  have hroster : (s.happened p).roster = s.roster := by rw [happened_rest]
  have hsessions (l : List Session) : (if st = 2 then l ++ [p.session] else l) = l ++ if st = 2 then [p.session] else [] := by
    split <;> simp
  subst hi hold
  rw [← hroster, ← hsessions]
  simp only [execApduResult, hbusy, hrun]
  rfl

/-- A command that one block holds goes out as one part. -/
theorem partsOf_of_fits {n : Nat} {l : List Byte} (hne : l ≠ []) (hfits : l.length ≤ n) : partsOf n l.length l = [l] := by
  obtain ⟨c, cs, rfl⟩ := List.exists_cons_of_ne_nil hne
  have hnil (k : Nat) : partsOf n k [] = [] := by cases k <;> rfl
  simp only [List.length_cons, partsOf, List.take_of_length_le hfits, List.drop_of_length_le hfits, hnil]
  simp

/-- A block takes the next answer. -/
theorem block_of_answer {p : Part4} {a : SlotObs} {rest : List SlotObs} (h : p.answers = a :: rest) (b : List Byte) (mult gap : Nat) :
    ∃ r : Request, p.block b mult gap = (a, { p with answers := rest, sent := p.sent ++ [r] }) ∧ r.frame = b ∧
      r.window = fwtWindow (fwtOf p.session.fwi * mult) := by
  simp only [Part4.block, Part4.ask_, h]
  exact ⟨_, rfl, rfl, rfl⟩

/-- The last block of an exchange, with the number that was expected, ends it. -/
theorem blocks_of_last {attempts fuel mult gap : Nat} {out inf : List Byte} {t : Turn} {p q : Part4} {a : SlotObs}
    (hblock : p.block out mult gap = (a, q)) (ha : blockOf a = .info false q.session.num inf) (htodo : t.todo = [])
    (hlen : (t.resp ++ inf).length ≤ 2048) : blocks attempts (fuel + 1) out mult gap t p =
      (2, t.resp ++ inf, { q with session := { q.session with num := 1 - q.session.num } }) := by
  simp only [blocks, hblock, ha]
  simpa [htodo] using hlen

theorem runExchange_of_one_block {cfg : Part4Cfg} {uid cmd inf : List Byte} {p : Part4} {a : SlotObs} {rest : List SlotObs}
    (hans : p.answers = a :: rest) (hne : cmd ≠ []) (hfits : cmd.length ≤ p.session.fsc - 3)
    (ha : blockOf a = .info false p.session.num inf) (hlen : inf.length ≤ 2048) :
    ∃ q : Part4, runExchange cfg uid cmd true p = (2, inf, q) ∧ q.answers = rest ∧ q.session = { p.session with num := 1 - p.session.num } ∧
      q.recoveries = p.recoveries ∧ q.extensions = p.extensions ∧ ∃ r : Request, q.sent = p.sent ++ [r] ∧
      r.frame = infoBlock p.session.num false cmd ∧ r.window = fwtWindow (fwtOf p.session.fwi) := by
  obtain ⟨r, hblock, hframe, hwindow⟩ := block_of_answer hans (infoBlock p.session.num false cmd) 1 0
  have hrun : runExchange cfg uid cmd true p = blocks cfg.attempts (p.answers.length + 7 + 1) (infoBlock p.session.num false cmd) 1 0
      { cur := infoBlock p.session.num false cmd, isInfo := true, todo := [] } p := by
    simp [runExchange, runApdu, partsOf_of_fits hne hfits]
  refine ⟨_, hrun.trans (blocks_of_last hblock ha rfl hlen), rfl, rfl, rfl, rfl, r, rfl, hframe, ?_⟩
  rw [hwindow, Nat.mul_one]

/-! ### SECURITY_RESULT (R212 to R219) -/

theorem execSecurityResult_of_idle {s : State} (h : s.keys.running = none) (r : SecurityEnd) : execSecurityResult r s = .next s := by
  simp only [execSecurityResult, h]

section
variable {s : State} {r : SecurityEnd} {a : SecAction} {k : SecHeld} (hrun : s.keys.running = some a) (hk : k = s.keys.kept)
include hrun hk

theorem execSecurityResult_of_password {st : Nat} {b : List Byte} {rs : List Request} (hact : a.action = 1) (hmethod : k.method = 1)
    (h : k.run k.tmpl k.frame r.answers = ((st, b), rs)) : execSecurityResult r s =
      .next ((s.requests k.ca (rs.map fun q => { q with frame := [] })).attemptResult a (decide (st = 2))) := by
  subst hk
  simp [execSecurityResult, hrun, hact, hmethod, h]

theorem execSecurityResult_of_handshake (hact : a.action = 1) (hmethod : k.method ≠ 1) : execSecurityResult r s =
    .next ((s.requests k.ca [ask k.frame 4320 271232 4200 0]).attemptResult a (k.proves r.answers)) := by
  subst hk
  simp [execSecurityResult, hrun, hact, hmethod]

/-- An origin action's signature is what its templates answered, of which the second is left out where there is none. -/
theorem execSecurityResult_of_origin {st1 st2 : Nat} {sig1 sig2 : List Byte} {rs1 rs2 : List Request} (hact : a.action ≠ 1)
    (h1 : k.run k.tmpl k.frame r.answers = ((st1, sig1), rs1))
    (h2 : k.tmpl2 = [] ∧ st2 = 2 ∧ sig2 = [] ∧ rs2 = [] ∨ k.tmpl2 ≠ [] ∧ k.run k.tmpl2 k.frame2 r.answers2 = ((st2, sig2), rs2)) :
    execSecurityResult r s = .next (((s.requests k.ca rs1).requests k.ca rs2).originResult a (if st1 = 2 ∧ st2 = 2 then sig1 ++ sig2 else [])) := by
  subst hk
  obtain ⟨hone, rfl, rfl, rfl⟩ | ⟨htwo, h2⟩ := h2
  · simp [execSecurityResult, hrun, hact, h1, hone]
  · simp [execSecurityResult, hrun, hact, h1, h2, htwo]

end

section
variable {s : State} {old : List Nat} (hold : old = ((s.attempt s.keys.kept.tag).map (·.fails)).getD [])
include hold

/-- A possession action that proved the key: its attempt is settled, its change waits for the close, and origin verification follows. -/
theorem attemptResult_of_proved (a : SecAction) : s.attemptResult a true =
    ((((((s.setAttempt { tag := s.keys.kept.tag, fails := old, pending := false }).mirrorAttempt s.keys.kept.tag).secChange
      { handle := a.handle, typ := 1, profile := a.profile, status := 2, slot := 0 }).thenOrigin a).secEnd a 2 0)) := by
  subst hold
  rfl

/-- A possession action that failed: logged with its time, counted, recorded, and at the budget quarantined. -/
theorem attemptResult_of_failed (a : SecAction) {u w : State}
    (hu : u = s.setAttempt { tag := s.keys.kept.tag, fails := old ++ [s.tb.ts], pending := false })
    (hw : w = (((State.mirrorAttempt s.keys.kept.tag { u with keys := { u.keys with failed := s.keys.failed + 1 } }).securityRecord
      7 a.handle a.profile 3).clearSecured a.handle)) : s.attemptResult a false =
      ((if w.objNat 0x5003 1 ≤ w.failCount s.keys.kept.tag then w.quarantine s.keys.kept.tag else w).thenOrigin a).secEnd a 3 0 := by
  have hfailed : s.secFailed a s.keys.kept.tag =
      w.when (decide (w.failCount s.keys.kept.tag ≥ w.objNat 0x5003 1)) (State.quarantine s.keys.kept.tag) := by
    subst hold hw hu
    rfl
  simp only [State.attemptResult, hfailed, State.when, decide_eq_true_eq, ge_iff_le, Bool.false_eq_true, if_false]

end

theorem originResult_of_verified {s : State} {sig : List Byte} {n : Nat} (h : verifyingSlot s.keys.kept.issuers s.keys.kept.tag sig = some n)
    (a : SecAction) : s.originResult a sig =
      (s.secChange { handle := a.handle, typ := 3, profile := a.profile, status := 2, slot := n }).secEnd a 2 (n + 1) := by
  simp only [State.originResult, h]

theorem originResult_of_none {s : State} {sig : List Byte} (h : verifyingSlot s.keys.kept.issuers s.keys.kept.tag sig = none)
    (a : SecAction) : s.originResult a sig = (s.securityRecord 8 a.handle a.profile 3).secEnd a 3 0 := by
  simp only [State.originResult, h]

/-! ### What time ends (R216, R313) -/

theorem advanceTs_rest (n : Nat) (s : State) : ∃ tb b r, s.advanceTs n = { s with tb := tb, bins := b, rxs := r } := advance_rest _ s

theorem execFailuresLeaveWindow_of_unlogged {s : State} {g : TagId} (h : s.attempt g = none) : execFailuresLeaveWindow g s = .next s := by
  simp only [execFailuresLeaveWindow, h]

section
variable {s : State} {g : TagId} {a : Attempt} (ha : s.attempt g = some a)
include ha

theorem execFailuresLeaveWindow_of_pending (h : a.pending = true) : execFailuresLeaveWindow g s = .next s := by
  simp only [execFailuresLeaveWindow, ha, h, if_true]

theorem execFailuresLeaveWindow_of_settled (h : a.pending = false) {u : State}
    (hu : u = s.advanceTs (a.fails.foldl max 0 + s.objNat 0x5003 2 * 3600000000)) : execFailuresLeaveWindow g s = .next { s with
      tb := u.tb, bins := u.bins, rxs := u.rxs, keys := { s.keys with attempts := s.keys.attempts.filter fun b => decide (b.tag ≠ g) } } := by
  obtain ⟨tb, b, r, hrest⟩ := advanceTs_rest (a.fails.foldl max 0 + s.budgetWindow) s
  have hu : u = { s with tb := tb, bins := b, rxs := r } := hu.trans hrest
  subst hu
  simp [execFailuresLeaveWindow, ha, h, hrest]

end

theorem execSlotHoldEnd_of_unheld {s : State} {k : Fin 16} (h : (s.cmdSlot k).heldUntil = none) : execSlotHoldEnd k s = .next s := by
  simp only [execSlotHoldEnd, h]

theorem execSlotHoldEnd_of_held {s : State} {k : Fin 16} {n : Nat} (h : (s.cmdSlot k).heldUntil = some n) :
    execSlotHoldEnd k s = .next ((s.advanceTs n).modCmdSlot k fun x => { x with heldUntil := none, bad := [] }) := by
  simp only [execSlotHoldEnd, h]

theorem cmdSlot_modCmdSlot (s : State) (k i : Nat) (f : CmdSlot → CmdSlot) :
    (s.modCmdSlot k f).cmdSlot i = if i = k then f (s.cmdSlot k) else s.cmdSlot i :=
  Tab.get_set _ _ _ _

/-- Settles O54: each result is its command's equation for what template, transport or action makes of the answers; an end's record,
status and response are those of `endTemplate_rest` and `endApdu_rest`, and what time ends is the time that passed and one entry or slot. -/
theorem serviceResultsAreTaken : Obligations.ServiceResultsAreTaken := by
  unfold Obligations.ServiceResultsAreTaken
  refine ⟨fun s v answers g x o applied rs hx => ⟨fun h => execTemplateResult_of_idle h answers g, ?_⟩,
    fun x frame uid params high n f b rest => ⟨runTemplate_of_answer,
      fun hwrites hback hlost hsplit => runTemplate_of_lost hlost hsplit hwrites hback,
      fun hwrites hback hlost hsplit => runTemplate_of_read_back hlost hsplit hwrites hback,
      fun hreads hretry hlost hsplit => runTemplate_of_no_retry hlost hsplit hreads hretry⟩,
    fun s n st resp c hidle => ⟨guestReturned_eq s n st resp, ?_, ?_⟩,
    fun s u answers st i resp old p hi hold hrun hu => ⟨fun h => execApduResult_of_idle h answers, fun hbusy => ?_⟩,
    fun cfg uid cmd inf p a rest => runExchange_of_one_block,
    fun s r h => execSecurityResult_of_idle h r, fun s v r a k ok st b rs old hrun hact hk hold hok => ?_,
    fun s v r a k st1 st2 sig1 sig2 sig rs1 rs2 hrun hact hk h1 h2 hv hsig => ?_,
    fun s g => ⟨execFailuresLeaveWindow_of_unlogged, fun a => execFailuresLeaveWindow_of_pending,
      fun a u ha hsettled hu => execFailuresLeaveWindow_of_settled ha hsettled hu⟩,
    fun s k => ⟨execSlotHoldEnd_of_unheld, fun n u hheld hu => ?_⟩⟩
  · intro hbusy hfree hrun hv ends
    have hv : v = s.requests s.template.ca rs := hv.trans (requests_eq s _ rs).symm
    have hends {st : Nat} {b : List Byte} (hjudge : judgeTemplate x o applied = (st, b)) : ends st b := by
      have hrun : s.template.run answers = ((st, b), rs) := hjudge ▸ templateRun_of hx hrun
      subst hv
      refine ⟨fun h => execTemplateResult_of_no_handler hbusy hfree hx hrun h g, fun hguest hactive => ?_⟩
      obtain ⟨hnone, hsome⟩ := execTemplateResult_of_handler hbusy hfree hx hrun hguest hactive
      exact ⟨fun hg => hg ▸ hnone, fun q hg => hg ▸ hsome q⟩
    refine ⟨fun ho => hends (ho ▸ rfl), fun f body ho hbody => ?_⟩
    subst ho
    exact ⟨fun hproto herror => hends (judgeTemplate_of_error hbody applied hproto herror),
      fun hgood hlen => hends (judgeTemplate_of_length hbody applied hgood hlen),
      fun hgood hmin hmax => hends (judgeTemplate_of_fit hbody applied hgood hmin hmax)⟩
  · rintro rfl
    obtain ⟨k, lF, lH, lT, o, hend, hkeys⟩ := endTemplate_rest hidle st resp
    rw [hend]
    refine ⟨rfl, fun hcommits => logged_of_same (logged_commit 8 1 _ hcommits rfl) rfl rfl, ?_, hkeys⟩
    obtain ⟨_, _, _, _, _, _, _, hcommit⟩ := commit_rest 8 1 (s.templateRecord st resp) s
    rw [State.templateTaken, hcommit]
    rfl
  · rintro rfl
    obtain ⟨lF, lH, lT, o, hend⟩ := endApdu_rest hidle st resp
    rw [hend]
    refine ⟨rfl, fun h3 h4 => ?_, rfl, ?_⟩
    · rw [apduLogged_of_kept h3 h4]
      exact ⟨fun hcommits => logged_of_same (logged_commit 8 2 _ hcommits rfl) rfl rfl, commit_keys s _ _ _, commit_counts s _ _ _⟩
    · obtain ⟨_, _, _, _, _, _, _, _, _, hlogged⟩ := apduLogged_rest st resp s
      rw [hlogged]
      rfl
  · have hu : u = s.happened p := by rw [hu, State.happened, requests_eq]
    obtain ⟨hrecoveries, hextensions, hpps⟩ := happened_counts p s
    subst hu
    exact ⟨execApduResult_of_run hi hold hrun hbusy, hrecoveries, hextensions, hpps, happened_rest p s⟩
  · have hexec : execSecurityResult r s = .next (v.attemptResult a ok) ∧ v.keys = s.keys ∧ v.tb = s.tb := by
      obtain ⟨hmethod, h, rfl, rfl⟩ | ⟨hmethod, rfl, rfl⟩ := hok
      · exact ⟨execSecurityResult_of_password hrun hk hact hmethod h, requests_keys _ _ _, requests_tb _ _ _⟩
      · exact ⟨execSecurityResult_of_handshake hrun hk hact hmethod, requests_keys _ _ _, requests_tb _ _ _⟩
    obtain ⟨hexec, hkeys, htb⟩ := hexec
    have hold : old = ((v.attempt v.keys.kept.tag).map (·.fails)).getD [] := by rw [State.attempt, hkeys, hold, hk]; rfl
    rw [hk, ← htb, ← hkeys]
    refine ⟨?_, ?_⟩
    · rintro rfl
      exact hexec.trans (congrArg _ (attemptResult_of_proved hold a))
    · rintro rfl u w hu hw
      exact hexec.trans (congrArg _ (attemptResult_of_failed hold a hu hw))
  · have hexec := execSecurityResult_of_origin hrun hk hact h1 h2
    have hkeys : v.keys = s.keys := by rw [hv, requests_keys, requests_keys]
    rw [← hv, ← hsig] at hexec
    rw [hk, ← hkeys]
    exact ⟨fun n hn => hexec.trans (congrArg _ (originResult_of_verified hn a)),
      fun hnone => hexec.trans (congrArg _ (originResult_of_none hnone a))⟩
  · obtain ⟨tb, b, r, hrest⟩ := advanceTs_rest n s
    have hslot (i : Nat) : u.cmdSlot i = s.cmdSlot i := by rw [hu, hrest]; rfl
    refine ⟨_, execSlotHoldEnd_of_held hheld, ?_, fun i hi => ?_, ?_⟩
    · rw [cmdSlot_modCmdSlot, if_pos rfl, ← hu, hslot]
    · rw [cmdSlot_modCmdSlot, if_neg hi, ← hu, hslot]
    · rw [hu, hrest]
      rfl

end Sys2Proof.Machine
end

section
/-!
PROOFS. The changes of a close: what a sighting or a miss makes of an entry, and the entry of a new tag (R186 to R188, R191 to R193, R202).
-/

namespace Sys2Proof.Machine

open Sys2Proof

/-! ### The table of R191: an entry that is seen -/

section
variable {e : Entry} {n b : Nat}

theorem seenAt_of_candidate_unconfirmed (hpres : e.pres = 1) (hcoil : b = e.ca) (hfew : e.confirms + 1 < n) :
    e.seenAt n b = ({ e with confirms := min 15 (e.confirms + 1) }, 0, e.ca) := by
  simp [Entry.seenAt, hpres, hcoil, hfew]

theorem seenAt_of_candidate_confirmed (hpres : e.pres = 1) (hcoil : b = e.ca) (henough : n ≤ e.confirms + 1) :
    e.seenAt n b = ({ e with pres := 2, confirms := min 15 (e.confirms + 1), misses := 0 }, 1, e.ca) := by
  simp [Entry.seenAt, hpres, hcoil, henough]

theorem seenAt_of_candidate_elsewhere (hpres : e.pres = 1) (hcoil : b ≠ e.ca) :
    e.seenAt n b = ({ e with ca := b, confirms := 1 }, 0, b) := by
  simp [Entry.seenAt, hpres, hcoil]

theorem seenAt_of_present (hpres : e.pres = 2) (hcoil : b = e.ca) : e.seenAt n b = ({ e with misses := 0 }, 0, b) := by
  simp [Entry.seenAt, hpres, hcoil]

theorem seenAt_of_present_elsewhere (hpres : e.pres = 2) (hcoil : b ≠ e.ca) :
    e.seenAt n b = ({ e with pres := 4, pca := b, confirms := 1, misses := 0 }, 0, e.ca) := by
  simp [Entry.seenAt, hpres, hcoil]

theorem seenAt_of_moving_back (hpres : e.pres = 4) (hcoil : b = e.ca) :
    e.seenAt n b = ({ e with pres := 2, pca := 0, misses := 0 }, 0, b) := by
  simp [Entry.seenAt, hpres, hcoil]

theorem seenAt_of_moving_unconfirmed (hpres : e.pres = 4) (hcoil : b ≠ e.ca) (hto : b = e.pca) (hfew : e.confirms + 1 < n) :
    e.seenAt n b = ({ e with confirms := min 15 (e.confirms + 1) }, 0, e.ca) := by
  simp [Entry.seenAt, hpres, hcoil, ← hto, hfew]

theorem seenAt_of_moving_confirmed (hpres : e.pres = 4) (hcoil : b ≠ e.ca) (hto : b = e.pca) (henough : n ≤ e.confirms + 1) :
    e.seenAt n b = ({ e with pres := 2, ca := b, pca := 0, confirms := min 15 (e.confirms + 1) }, 3, e.ca) := by
  simp [Entry.seenAt, hpres, hcoil, ← hto, henough]

theorem seenAt_of_moving_elsewhere (hpres : e.pres = 4) (hcoil : b ≠ e.ca) (hto : b ≠ e.pca) :
    e.seenAt n b = ({ e with pca := b, confirms := 1 }, 0, e.ca) := by
  simp [Entry.seenAt, hpres, hcoil, hto]

theorem seenAt_of_absent (hpres : e.pres = 3) : e.seenAt n b = (e.candidate n b, if n ≤ 1 then 1 else 0, b) := by
  simp [Entry.seenAt, hpres]

end

/-! ### The table of R191: an entry that is covered and not seen -/

section
variable {e : Entry} {m : Nat}

theorem missed_of_candidate (hpres : e.pres = 1) : e.missed m = none := by simp [Entry.missed, hpres]

theorem missed_of_absent (hpres : e.pres = 3) : e.missed m = some (e, false) := by simp [Entry.missed, hpres]

/-- A present or moving entry counts the miss; a move ends with it, and at M the entry is absent. -/
theorem missed_of_here (hpres : e.pres = 2 ∨ e.pres = 4) : e.missed m = some ({ e with
    misses := min 15 (e.misses + 1), pres := if m ≤ e.misses + 1 then 3 else 2, pca := if e.pres = 2 then e.pca else 0 },
    decide (m ≤ e.misses + 1)) := by
  obtain hpres | hpres := hpres <;> simp [Entry.missed, hpres]

theorem counted_iff (r : SweepResult) (ca : Nat) : r.counted ca = true ↔ ∀ x ∈ r.results, x.ca = ca → x.status ≤ 1 := by
  simp [SweepResult.counted, Decidable.imp_iff_not_or]

end

/-! ### The end of SECURED (R202, R203) -/

/-- The event of an entry that loses SECURED, none where it does not hold it. -/
def securedEnd (i : Nat) (e : Entry) : List CloseEvent :=
  if e.secured then [{ group := 2, typ := 2, record := reportRec i { e with secured := false } 4 e.ca, profile := 0xFF, status := 0 }] else []

theorem dropSecured_eq (i : Nat) (e : Entry) (c : Closing) :
    dropSecured i e c = ({ e with secured := false }, { c with events := c.events ++ securedEnd i e }) := by
  cases h : e.secured with
  | true => simp [dropSecured, securedEnd, h, Closing.add]
  | false =>
    have hsame : { e with secured := false } = e := by rw [← h]
    simp [dropSecured, securedEnd, h, hsame]

/-! ### One change of a close: a tag that has an entry -/

/-- A change of a close adds its events, writes one entry, and leaves every other entry and the rest of the state. -/
def State.ItemGives (s : State) (it : CloseItem) (c : Closing) (i : Nat) (x : Entry) (evs : List CloseEvent) : Prop := ∃ t : State,
  s.closeItem it c = (true, { c with events := c.events ++ evs }, t) ∧ t.entry i = x ∧ (∀ j, j ≠ i → t.entry j = s.entry j) ∧
  t = { s with roster := { s.roster with entries := t.roster.entries } }

theorem itemGives_of_setEntry {s : State} {it : CloseItem} {c : Closing} {i : Nat} {x : Entry} {evs : List CloseEvent}
    (h : s.closeItem it c = (true, { c with events := c.events ++ evs }, s.setEntry i x)) : s.ItemGives it c i x evs :=
  ⟨_, h, by rw [entry_setEntry, if_pos rfl], fun j hj => by rw [entry_setEntry, if_neg hj], rfl⟩

/-- An entry that loses SECURED on the way has that event first; one that does not hold it has none. -/
theorem itemGives_of_securedEnd {s : State} {it : CloseItem} {c : Closing} {i : Nat} {e : Entry} {ev : CloseEvent}
    (h : s.closeItem it c = (true, { c with events := c.events ++ (securedEnd i e ++ [ev]) }, s.setEntry i { e with secured := false })) :
    (e.secured = false → s.ItemGives it c i { e with secured := false } [ev]) ∧
    (e.secured = true → s.ItemGives it c i { e with secured := false }
      [{ group := 2, typ := 2, record := reportRec i { e with secured := false } 4 e.ca, profile := 0xFF, status := 0 }, ev]) := by
  refine ⟨fun hsec => itemGives_of_setEntry ?_, fun hsec => itemGives_of_setEntry ?_⟩ <;> simpa [securedEnd, hsec] using h

section
variable {s : State} {g : TagId} {i : Nat} {e : Entry} (hfind : s.findTag g = some (i, e)) (c : Closing) (ca : Nat)
include hfind

theorem closeItem_of_seen (b : Nat) (bs : List Nat) : s.closeItem { tag := g, seen := b :: bs, ca := ca } c =
    (true, applySeen c.confirm ((s.roster.gen + 1) % 2 ^ 32) i b (decide (bs ≠ [])) e c s) := by
  simp only [State.closeItem, hfind]

theorem closeItem_of_unseen : s.closeItem { tag := g, seen := [], ca := ca } c = (true, applyMissed c.miss i e c s) := by
  simp only [State.closeItem, hfind]

section
variable {b prev : Nat} (bs : List Nat) {x y : Entry} (hy : y = x.sighted ((s.roster.gen + 1) % 2 ^ 32) (decide (bs ≠ [])))
include hy

/-- A sighting without an event. -/
theorem closeItem_of_quiet_sighting (hseen : e.seenAt c.confirm b = (x, 0, prev)) :
    s.closeItem { tag := g, seen := b :: bs, ca := ca } c = (true, { c with events := c.events ++ [] }, s.setEntry i y) := by
  subst hy
  simp [closeItem_of_seen hfind, applySeen, hseen]

/-- A sighting with ARRIVED. -/
theorem closeItem_of_arrival (hseen : e.seenAt c.confirm b = (x, 1, prev)) :
    s.closeItem { tag := g, seen := b :: bs, ca := ca } c = (true, { c with
      events := c.events ++ [{ group := 1, typ := 1, record := reportRec i y 1 prev, profile := 0, status := 0 }] }, s.setEntry i y) := by
  subst hy
  simp [closeItem_of_seen hfind, applySeen, hseen, Closing.add]

/-- A sighting with MOVED, before which SECURED ends. -/
theorem closeItem_of_move (hseen : e.seenAt c.confirm b = (x, 3, prev)) :
    s.closeItem { tag := g, seen := b :: bs, ca := ca } c = (true, { c with events := c.events ++ (securedEnd i y ++
      [{ group := 1, typ := 3, record := reportRec i { y with secured := false } 3 prev, profile := 0, status := 0 }]) },
      s.setEntry i { y with secured := false }) := by
  subst hy
  simp [closeItem_of_seen hfind, applySeen, hseen, dropSecured_eq, Closing.add]

end

theorem closeItem_of_uncounted (h : c.result.counted e.ca = false) :
    s.closeItem { tag := g, seen := [], ca := ca } c = (true, c, s) := by
  rw [closeItem_of_unseen hfind, applyMissed, if_pos h]

variable (hcounted : c.result.counted e.ca = true)
include hcounted

theorem closeItem_of_release (hmissed : e.missed c.miss = none) (horigin : e.origin = false) :
    s.closeItem { tag := g, seen := [], ca := ca } c = (true, c, s.releaseEntry i) := by
  rw [closeItem_of_unseen hfind]
  simp [applyMissed, hcounted, hmissed, Closing.addOriginLost, horigin]

theorem closeItem_of_stay {x : Entry} (hmissed : e.missed c.miss = some (x, false)) :
    s.closeItem { tag := g, seen := [], ca := ca } c = (true, { c with events := c.events ++ [] }, s.setEntry i x) := by
  simp [closeItem_of_unseen hfind, applyMissed, hcounted, hmissed]

/-- A miss with DEPARTED, before which SECURED ends. -/
theorem closeItem_of_departure {x : Entry} (hmissed : e.missed c.miss = some (x, true)) :
    s.closeItem { tag := g, seen := [], ca := ca } c = (true, { c with events := c.events ++ (securedEnd i x ++
      [{ group := 1, typ := 2, record := reportRec i { x with secured := false } 2 x.ca, profile := 0, status := 0 }]) },
      s.setEntry i { x with secured := false }) := by
  simp [closeItem_of_unseen hfind, applyMissed, hcounted, hmissed, dropSecured_eq, Closing.add]

end

/-! ### One change of a close: a new tag (R187, R188) -/

section
variable {s : State} {g : TagId} (hfind : s.findTag g = none) (c : Closing) (ca : Nat)

theorem free_ne_zero {r : Roster} (h : r.fresh < 131072) : r.free ≠ 0 := by
  unfold Roster.free
  omega

/-- The roster that has given out the lowest index never used. -/
def Roster.taken (r : Roster) : Roster := { r.take r.fresh with fresh := r.fresh + 1 }

theorem allocate_of_fresh (h : s.roster.fresh < 131072) : s.allocate = .got s.roster.fresh { s with roster := s.roster.taken } := if_pos h

theorem taken_igen (r : Roster) : Tab.get 0 r.taken.igens r.fresh = nextIgen (Tab.get 0 r.igens r.fresh) :=
  (Tab.get_set _ _ _ _).trans (if_pos rfl)

/-- The entry of a new tag before its first sighting. -/
def State.newEntry (s : State) (g : TagId) : Entry :=
  { uid := g.uid, proto := g.proto, igen := nextIgen (Tab.get 0 s.roster.igens s.roster.fresh), gfirst := (s.roster.gen + 1) % 2 ^ 32,
    quar := s.keys.quarantine.contains g }

include hfind

theorem closeItem_of_nothing : s.closeItem { tag := g, seen := [], ca := ca } c = (true, c, s) := by
  simp only [State.closeItem, hfind]

/-- A new tag takes the lowest index never used, and arrives at once if N is 1. -/
theorem closeItem_of_new (b : Nat) (bs : List Nat) (hfresh : s.roster.fresh < 131072) {x : Entry}
    (hx : x = ((s.newEntry g).candidate c.confirm b).sighted ((s.roster.gen + 1) % 2 ^ 32) (decide (bs ≠ []))) :
    s.closeItem { tag := g, seen := b :: bs, ca := ca } c = (true, { c with events := c.events ++ (if c.confirm ≤ 1 then
      [{ group := 1, typ := 1, record := reportRec s.roster.fresh x 1 b, profile := 0, status := 0 }] else []) },
      ({ s with roster := s.roster.taken } : State).setEntry s.roster.fresh x) := by
  subst hx
  simp only [State.closeItem, hfind, applyNew, if_neg (free_ne_zero hfresh), allocate_of_fresh hfresh, taken_igen]
  split
  · rfl
  · rw [List.append_nil]
    rfl

end

/-- Settles O56: each clause is the row of R191's table that `seenAt` or `missed` answers, carried into the change of the close; every
change of an entry that stands writes that entry alone, and a new tag's writes the entry and takes its index. -/
theorem presenceFollowsSightings : Obligations.PresenceFollowsSightings := by
  unfold Obligations.PresenceFollowsSightings
  refine ⟨fun s c g i ca b bs e hfind => ?_, fun s c g i ca e hfind => ?_, fun s c g ca hfind => ⟨closeItem_of_nothing hfind c ca, ?_⟩⟩
  · have quiet {x y : Entry} {prev : Nat} (h : e.seenAt c.confirm b = (x, 0, prev)) (hy) :=
      itemGives_of_setEntry (closeItem_of_quiet_sighting hfind c ca bs (y := y) hy h)
    refine ⟨fun hpres hcoil hfew => quiet (seenAt_of_candidate_unconfirmed hpres hcoil hfew) rfl, fun hpres hcoil henough x hx => ?_,
      fun hpres hcoil => quiet (seenAt_of_candidate_elsewhere hpres hcoil) rfl, fun hpres hcoil => quiet (seenAt_of_present hpres hcoil) rfl,
      fun hpres hcoil => quiet (seenAt_of_present_elsewhere hpres hcoil) rfl, fun hpres hcoil => quiet (seenAt_of_moving_back hpres hcoil) rfl,
      fun hpres hcoil hto hfew => quiet (seenAt_of_moving_unconfirmed hpres hcoil hto hfew) rfl, fun hpres hcoil hto henough x hx => ?_,
      fun hpres hcoil hto => quiet (seenAt_of_moving_elsewhere hpres hcoil hto) rfl, fun hpres x hx => ?_⟩
    · exact itemGives_of_setEntry (closeItem_of_arrival hfind c ca bs hx (seenAt_of_candidate_confirmed hpres hcoil henough))
    · subst hx
      exact itemGives_of_securedEnd (closeItem_of_move hfind c ca bs rfl (seenAt_of_moving_confirmed hpres hcoil hto henough))
    · have habsent := seenAt_of_absent (n := c.confirm) (b := b) hpres
      split
      · next hone =>
        rw [if_pos hone] at habsent
        exact itemGives_of_setEntry (closeItem_of_arrival hfind c ca bs hx habsent)
      · next hmore =>
        rw [if_neg hmore] at habsent
        exact quiet habsent hx
  · rw [← counted_iff]
    refine ⟨fun huncounted => closeItem_of_uncounted hfind c ca (by simpa using huncounted),
      fun hcounted hpres horigin => closeItem_of_release hfind c ca hcounted (missed_of_candidate hpres) horigin,
      fun hcounted hpres hfew => ?_, fun hcounted hpres henough x hx => ?_,
      fun hcounted hpres => itemGives_of_setEntry (closeItem_of_stay hfind c ca hcounted (missed_of_absent hpres))⟩
    · have hmissed := missed_of_here (m := c.miss) hpres
      rw [if_neg (by omega), decide_eq_false (by omega)] at hmissed
      exact itemGives_of_setEntry (closeItem_of_stay hfind c ca hcounted hmissed)
    · have hmissed := missed_of_here (m := c.miss) hpres
      rw [if_pos henough, decide_eq_true henough] at hmissed
      subst hx
      exact itemGives_of_securedEnd (closeItem_of_departure hfind c ca hcounted hmissed)
  · rintro b bs x hfresh hx evs rfl
    refine ⟨({ s with roster := s.roster.taken } : State).setEntry s.roster.fresh x, closeItem_of_new hfind c ca b bs hfresh hx, ?_,
      fun j hj => ?_, rfl, rfl, rfl⟩
    · rw [entry_setEntry, if_pos rfl]
    · rw [entry_setEntry, if_neg hj]
      rfl

end Sys2Proof.Machine
end

section
/-!
PROOFS. Sweeps from their requests to their close, the judgement of a coil, and the report's build (R172, R173, R181 to R184, R188, R190, R196,
R197).
-/

namespace Sys2Proof.Machine

open Sys2Proof

/-! ### Requests (R181, R182) -/

theorem requestSweep_eq (s : State) (p : Nat) (at_ : Option Nat) : s.requestSweep p at_ = if (s.plan p).invalid then s
    else if ∃ x ∈ s.sweeps.queue, x.1 = p then s.modPlan p fun x => { x with merged := x.merged + 1 }
    else { s with sweeps := { s.sweeps with queue := enterQueue p at_ s.sweeps.queue } } := by
  simp only [State.requestSweep, List.any_eq_true, decide_eq_true_eq]

/-- A request that one instant raised with others stands before those of a higher plan at the queue's end. -/
theorem enterQueue_tied {p n : Nat} {q q' : List (Nat × Option Nat)} (htied : ∀ x ∈ q', x.2 = some n ∧ p < x.1)
    (hlast : ∀ x, q.getLast? = some x → x.2 ≠ some n ∨ x.1 ≤ p) : enterQueue p (some n) (q ++ q') = q ++ (p, some n) :: q' := by
  have hpassed : ((q ++ q').reverse.takeWhile fun x => (some n).isSome && decide (x.2 = some n) && decide (p < x.1)) = q'.reverse := by
    rw [List.reverse_append, List.takeWhile_append_of_pos (by simpa using fun a b hab => htied (a, b) hab)]
    obtain rfl | ⟨l, x, rfl⟩ := q.eq_nil_or_concat
    · simp
    · have hstays := hlast x (by simp)
      rw [List.concat_eq_append, List.reverse_concat, List.takeWhile_cons_of_neg (by simpa [Decidable.imp_iff_not_or] using hstays),
        List.append_nil]
  rw [enterQueue, hpassed]
  simp

theorem execSweepPeriod_of_idle {s : State} {p : Fin 16} (h : (s.plan p).started = none ∨ s.objNat (0x4010 + p) 4 = 0) :
    execSweepPeriod p s = .next s := by
  obtain h | h := h
  · simp only [execSweepPeriod, h]
  · cases hstart : (s.plan p).started <;> simp [execSweepPeriod, hstart, h]

theorem execSweepPeriod_of_due {s : State} {p : Fin 16} {n : Nat} (hstart : (s.plan p).started = some n) (hms : s.objNat (0x4010 + p) 4 ≠ 0)
    {u : State} (hu : u = s.advanceTs (n + 1000 * s.objNat (0x4010 + p) 4)) : execSweepPeriod p s = .next (u.requestSweep p (some u.tb.ts)) := by
  subst hu
  simp only [execSweepPeriod, hstart, if_neg hms]

/-! ### The start of a sweep (R178, R181, R182) -/

theorem plan_modPlan (s : State) (p q : Nat) (f : PlanState → PlanState) : (s.modPlan p f).plan q = if q = p then f (s.plan p) else s.plan q :=
  Tab.get_set _ _ _ _

/-- The waves of a plan over some tracks. -/
def State.wavesOver (s : State) (p : Nat) (tracks : List Nat) : List (List CoilNeed) :=
  planWaves (decide (s.calib.gen ≠ 0)) ((s.planCoils p).map (s.coilNeed (s.planCoils p))) tracks

/-- A plan passes its compilation (R181). -/
def State.planPasses (s : State) (p : Nat) : Bool :=
  decide (s.planTracks p ≠ []) && (s.planCoils p).all (fun ca => s.objBool (0x2200 + ca) 1 && s.namedTablesOk ca) &&
    (planConnects [] (s.wavesOver p (s.planTracks p))).all fun ca => decide (s.objNat (0x2200 + ca) 9 = 0)

theorem planPasses_iff (s : State) (p : Nat) : s.planPasses p = true ↔ s.planTracks p ≠ [] ∧
    (∀ ca ∈ s.planCoils p, s.objBool (0x2200 + ca) 1 = true ∧ s.namedTablesOk ca = true) ∧
    ∀ ca ∈ planConnects [] (s.wavesOver p (s.planTracks p)), s.objNat (0x2200 + ca) 9 = 0 := by
  simp [State.planPasses, and_assoc]

theorem compilePlan_eq (s : State) (p : Nat) : s.compilePlan p = s.modPlan p fun x => { x with
    invalid := !s.planPasses p, waves := if s.planPasses p then (s.wavesOver p (s.planTracks p)).length else 0 } := (rfl)

/-! Compiling reads nothing of the sweeps themselves, so the queue and the running sweep do not bear on what a plan is. -/

section
variable (s : State) (x : Sweeps)

theorem readByte_sweeps (a : Nat) : ({ s with sweeps := x } : State).readByte a = s.readByte a := by
  apply readByte_of_same <;> rfl

theorem readBytes_sweeps (a n : Nat) : ({ s with sweeps := x } : State).readBytes a n = s.readBytes a n := by
  simp only [State.readBytes, readByte_sweeps]

theorem sweepSet_sweeps (ca : Nat) : ({ s with sweeps := x } : State).sweepSet ca = s.sweepSet ca := (rfl)
theorem sweepComb_sweeps (ca : Nat) : ({ s with sweeps := x } : State).sweepComb ca = s.sweepComb ca := (rfl)
theorem neighbours_sweeps (a b : Nat) : ({ s with sweeps := x } : State).neighbours a b = s.neighbours a b := (rfl)

theorem namedTablesOk_sweeps (ca : Nat) : ({ s with sweeps := x } : State).namedTablesOk ca = s.namedTablesOk ca := by
  simp only [State.namedTablesOk, readBytes_sweeps, sweepSet_sweeps, sweepComb_sweeps]

theorem coilNeed_sweeps (coils : List Nat) (ca : Nat) : ({ s with sweeps := x } : State).coilNeed coils ca = s.coilNeed coils ca := by
  simp only [State.coilNeed, State.comb, readBytes_sweeps, sweepSet_sweeps, sweepComb_sweeps, neighbours_sweeps]

theorem wavesOver_sweeps (p : Nat) (tracks : List Nat) : ({ s with sweeps := x } : State).wavesOver p tracks = s.wavesOver p tracks :=
  congrArg (planWaves _ · tracks) (List.map_congr_left fun ca _ => coilNeed_sweeps s x _ ca)

theorem planPasses_sweeps (p : Nat) : ({ s with sweeps := x } : State).planPasses p = s.planPasses p := by
  simp only [State.planPasses, namedTablesOk_sweeps, wavesOver_sweeps]
  rfl

theorem compilePlan_invalid (p : Nat) : ((State.compilePlan p { s with sweeps := x }).plan p).invalid = !s.planPasses p := by
  rw [compilePlan_eq, plan_modPlan, if_pos rfl, planPasses_sweeps]

theorem newRunning_sweeps (p : Nat) (coils : List Nat) : ({ s with sweeps := x } : State).newRunning p coils = s.newRunning p coils := by
  have hneed : ({ s with sweeps := x } : State).coilNeed coils = s.coilNeed coils := funext (coilNeed_sweeps s x coils)
  simp only [State.newRunning, hneed]
  rfl

end

theorem maySweep_iff (s : State) : s.maySweep = true ↔ s.sweeps.running = none ∧ s.sweeps.held.length < 4 ∧ s.fltF.safe = false ∧
    s.twin.role ≠ 2 ∧ s.power.state = 0 ∧ s.power.doomed = false := by
  simp [State.maySweep, and_assoc]

/-- A new sweep has every coil still to read. -/
theorem remaining_newRunning (s : State) (p : Nat) (coils : List Nat) : (s.newRunning p coils).remaining = coils := by
  simp [Running.remaining, State.newRunning]

theorem needsOf_newRunning (s : State) (p : Nat) (coils : List Nat) :
    (s.newRunning p coils).needsOf coils = coils.map (s.coilNeed coils) := by
  simp [Running.needsOf, State.newRunning, State.coilNeed]

/-- The sweep that a valid plan starts, its waves over the tracks that no exchange holds. -/
theorem plan_newRunning (s : State) (p : Nat) {free : List Nat} (hfree : free = (s.planTracks p).filter fun i => !(s.serviceTracks.contains i)) :
    (s.newRunning p (s.planCoils p)).plan_ s = { s.newRunning p (s.planCoils p) with
      waves := (s.wavesOver p free).map (assignWave free), away := (s.planTracks p).filter fun t => s.serviceTracks.contains t } := by
  subst hfree
  simp only [Running.plan_, remaining_newRunning, needsOf_newRunning]
  rfl

section
variable {s : State}

theorem sweepBegin_of_no_request (h : s.sweeps.queue = []) : s.sweepBegin = s := by
  simp only [State.sweepBegin, h]

theorem sweepBegin_of_hindered (h : s.maySweep = false) : s.sweepBegin = s := by
  cases hqueue : s.sweeps.queue <;> simp [State.sweepBegin, hqueue, h]

variable {p : Nat} {n : Option Nat} {rest : List (Nat × Option Nat)} (hmay : s.maySweep = true) (hqueue : s.sweeps.queue = (p, n) :: rest)
include hmay hqueue

/-- A request whose plan does not pass is dropped. -/
theorem sweepBegin_of_invalid (h : s.planPasses p = false) :
    s.sweepBegin = State.compilePlan p { s with sweeps := { s.sweeps with queue := rest } } := by
  simp only [State.sweepBegin, hqueue, hmay, compilePlan_invalid, h, Bool.not_false, not_true, if_false, if_true]

/-- A sweep begins: its request has left the queue, and its plan shows waves and start. -/
theorem sweepBegin_of_valid (h : s.planPasses p = true) : s.sweepBegin = State.modPlan p (fun x => { x with
      invalid := false, waves := (s.wavesOver p (s.planTracks p)).length, started := some s.tb.ts })
    { s with sweeps := { s.sweeps with queue := rest, running := some ((s.newRunning p (s.planCoils p)).plan_ s) } } := by
  have hcompiled : State.compilePlan p { s with sweeps := { s.sweeps with queue := rest } } = { s with sweeps := { s.sweeps with
      queue := rest
      plans := Tab.set {} s.sweeps.plans p { s.plan p with invalid := false, waves := (s.wavesOver p (s.planTracks p)).length } } } := by
    rw [compilePlan_eq, planPasses_sweeps, wavesOver_sweeps, h]
    rfl
  simp only [State.sweepBegin, hqueue, hmay, compilePlan_invalid, h, Bool.not_true, not_true, if_false, Bool.false_eq_true]
  rw [hcompiled]
  simp only [newRunning_sweeps, State.modPlan, Tab.set_set, State.plan, Tab.get_set, if_true]
  rfl

end

/-! ### Results of a wave (R172, R173) -/

theorem needsOf_singleton (r : Running) (ca : Nat) : r.needsOf [ca] = r.needs.filter fun c => decide (c.ca = ca) := by
  simp [Running.needsOf]

/-- The requests made on several coils leave in order, and nothing else changes. -/
theorem coilRequests_eq (judged : List (Nat × List CoilResult × List Request)) (s : State) :
    judged.foldl (fun s p => p.2.2.foldl (fun s q => s.emit (.request p.1 q)) s) s =
      { s with out := s.out ++ judged.flatMap fun p => p.2.2.map fun q => Output.request p.1 q } := by
  induction judged generalizing s with
  | nil => simp
  | cons p l ih =>
    rw [List.foldl_cons, ih, ← State.requests, requests_eq]
    simp

theorem mirrorWaves_of_no_twin {s : State} (h : s.twin.role = 0) (ms : List WaveMsg) :
    ms.foldl (fun s m => s.mirror 0x81 (.mWave m)) s = s := by
  induction ms with
  | nil => rfl
  | cons m ms ih => rw [List.foldl_cons, mirror_of_no_twin h, ih]

theorem enterResults_of_idle {s : State} (h : s.sweeps.running = none) (obs : List CoilObs) : s.enterResults obs = s := by
  simp only [State.enterResults, h]

/-- What a coil of a wave gave: one without an observation gave no answer. -/
def obsOf (obs : List CoilObs) (ca : Nat) : CoilObs :=
  (obs.find? fun o => decide (o.ca = ca)).getD { ca := ca, selectFailed := false, aborted := false, answers := [] }

/-- What reading a coil takes, as the sweep keeps it. -/
def Running.needOf (r : Running) (ca : Nat) : CoilNeed := ((r.needs.filter fun c => decide (c.ca = ca)).head?).getD
  { ca := ca, energises := [], inputs := [], chains := [], members := [], ins := [], outs := [ca], near := [] }

/-- The last wave's coils without a result of their own, each with its judgement. -/
def State.judgedWave (s : State) (r : Running) (obs : List CoilObs) : List (Nat × List CoilResult × List Request) :=
  ((r.current.map (·.2)).filter fun ca => !(r.results.any fun x => x.own && decide (x.ca = ca))).map fun ca =>
    (ca, s.judgeCoil r.protocols (r.needOf ca) (obsOf obs ca))

/-- What a wave found enters the results; without a message to a twin nothing else changes. -/
theorem enterResults_of_running {s : State} {r : Running} (hrun : s.sweeps.running = some r) (hquiet : r.current = [] ∨ s.twin.role = 0)
    {obs : List CoilObs} {judged : List (Nat × List CoilResult × List Request)} (hjudged : judged = s.judgedWave r obs) :
    s.enterResults obs = { s with
      out := s.out ++ judged.flatMap fun p => p.2.2.map fun q => Output.request p.1 q
      sweeps := { s.sweeps with running := some { r with
        results := r.results ++ (judged.flatMap fun p => p.2.1).filter (fun x => r.coils.contains x.ca), current := [] } }
      roster := { s.roster with
        outside := s.roster.outside + ((judged.flatMap fun p => p.2.1).filter fun x => !(r.coils.contains x.ca)).length } } := by
  subst hjudged
  simp only [State.enterResults, hrun, needsOf_singleton, coilRequests_eq]
  split
  · rfl
  · next hwave =>
    rw [mirrorWaves_of_no_twin (by exact hquiet.resolve_left hwave)]
    rfl

/-! ### The end of a sweep (R183, R190) -/

theorem remaining_of_no_wave {r : Running} (h : r.current = []) :
    r.remaining = r.coils.filter fun ca => !(r.results.any fun x => x.own && decide (x.ca = ca)) := by
  simp [Running.remaining, h]

theorem sweepClose_of_idle {s : State} (h : s.sweeps.running = none) (obs : List CoilObs) : s.sweepClose obs = s := by
  simp only [State.sweepClose, enterResults_of_idle h, h]

section
variable {s u : State} {obs : List CoilObs} {r : Running} (hu : u = s.enterResults obs) (hrun : u.sweeps.running = some r)
include hu hrun

theorem sweepClose_of_unread (h : r.remaining ≠ []) (hgoes : r.stopped = false) : s.sweepClose obs = u := by
  have hunread : r.remaining ≠ [] ∧ ¬ r.stopped = true := ⟨h, ne_true_of_eq_false hgoes⟩
  simp only [State.sweepClose, ← hu, hrun, if_pos hunread]

/-- The sweep ends once every coil has a result of its own, or it is stopped: its results go to the close. -/
theorem sweepClose_of_over (h : r.remaining = [] ∨ r.stopped = true) : s.sweepClose obs = State.closeHeld 8 { u with sweeps := { u.sweeps with
    running := none
    held := u.sweeps.held ++ [{ plan := r.plan, coils := r.coils, results := mergeResults r.coils u.abortedCoil r.results }] } } := by
  have hover : ¬ (r.remaining ≠ [] ∧ ¬ r.stopped = true) := fun hboth => h.elim hboth.1 hboth.2
  simp only [State.sweepClose, ← hu, hrun, if_neg hover]

end

/-- A coil without a result is FAILED, as its feeder's status says why. -/
theorem abortedCoil_mem_mergeResults (s : State) {coils : List Nat} {rs : List CoilResult} {ca : Nat} (hca : ca ∈ coils)
    (hnone : ∀ x ∈ rs, x.ca ≠ ca) : s.abortedCoil ca ∈ mergeResults coils s.abortedCoil rs := by
  have hmine : (rs.filter fun x => decide (x.ca = ca)) = [] := List.filter_eq_nil_iff.2 fun x hx => by simpa using hnone x hx
  refine List.mem_map.2 ⟨ca, hca, ?_⟩
  simp [hmine, State.abortedCoil]

/-! ### The judgement of a coil (R173, R184) -/

/-- What a hunt found, each tag at the coil whose output gave it. -/
def Hunt.placed (h : Hunt) (outs : List Nat) (ca : Nat) : List (Nat × TagId) := h.found.map fun p => (outs.getD p.1 ca, p.2)

/-- The tags found at one coil, each once. -/
def tagsAt (ca : Nat) (l : List (Nat × TagId)) : List TagId := ((l.filter fun p => decide (p.1 = ca)).map (·.2)).eraseDups

/-- Status and reason of a coil that was read, as R173 orders the reasons. -/
def State.coilVerdict (s : State) (h : Hunt) (o : CoilObs) (tags : List TagId) : Nat × Nat :=
  if h.failed then (3, 1) else if o.selectFailed then (3, 2) else if decide ((s.feeder (feederOf o.ca)).status ≠ 1) then (3, 4)
  else if o.aborted then (3, 5) else if h.incomplete then (2, 6) else if tags ≠ [] then (1, 0) else (0, 0)

/-- A coil's own result, with the tags found at it. -/
def State.ownResult (s : State) (h : Hunt) (o : CoilObs) (tags : List TagId) : CoilResult :=
  { ca := o.ca, status := (s.coilVerdict h o tags).1, reason := (s.coilVerdict h o tags).2, own := true, tags := tags }

/-- The results of other coils at which tags were found. -/
def foundElsewhere (ca : Nat) (l : List (Nat × TagId)) : List CoilResult :=
  (l.filter fun p => decide (p.1 ≠ ca)).map fun p => { ca := p.1, status := 1, reason := 0, own := false, tags := [p.2] }

theorem judgeCoil_eq (s : State) (mask : Nat) (need : CoilNeed) (o : CoilObs) {h : Hunt}
    (hh : h = huntAll mask s.fieldGuard (if o.aborted then [] else o.answers)) : s.judgeCoil mask need o =
      (s.ownResult h o (tagsAt o.ca (h.placed need.outs o.ca)) :: foundElsewhere o.ca (h.placed need.outs o.ca), h.sent) := by
  subst hh
  rfl

theorem mem_tagsAt_placed {h : Hunt} {outs : List Nat} {ca : Nat} {g : TagId} :
    g ∈ tagsAt ca (h.placed outs ca) ↔ ∃ p ∈ h.found, p.2 = g ∧ outs.getD p.1 ca = ca := by
  simp only [tagsAt, Hunt.placed, List.mem_eraseDups, List.mem_map, List.mem_filter, decide_eq_true_eq]
  constructor
  · rintro ⟨_, ⟨⟨p, hp, rfl⟩, hcoil⟩, htag⟩
    exact ⟨p, hp, htag, hcoil⟩
  · rintro ⟨p, hp, htag, hcoil⟩
    exact ⟨_, ⟨⟨p, hp, rfl⟩, hcoil⟩, htag⟩

section
variable {s : State} {h : Hunt} {o : CoilObs} (tags : List TagId)

theorem coilVerdict_of_failed (hfailed : h.failed = true) : s.coilVerdict h o tags = (3, 1) := by
  simp [State.coilVerdict, hfailed]

variable (hheard : h.failed = false)
include hheard

theorem coilVerdict_of_no_select (hselect : o.selectFailed = true) : s.coilVerdict h o tags = (3, 2) := by
  simp [State.coilVerdict, hheard, hselect]

variable (hselected : o.selectFailed = false)
include hselected

theorem coilVerdict_of_feeder (hfeeder : (s.feeder (feederOf o.ca)).status ≠ 1) : s.coilVerdict h o tags = (3, 4) := by
  simp [State.coilVerdict, hheard, hselected, hfeeder]

variable (hfed : (s.feeder (feederOf o.ca)).status = 1)
include hfed

theorem coilVerdict_of_aborted (haborted : o.aborted = true) : s.coilVerdict h o tags = (3, 5) := by
  simp [State.coilVerdict, hheard, hselected, hfed, haborted]

theorem coilVerdict_of_incomplete (hread : o.aborted = false) (hincomplete : h.incomplete = true) : s.coilVerdict h o tags = (2, 6) := by
  simp [State.coilVerdict, hheard, hselected, hfed, hread, hincomplete]

theorem coilVerdict_of_complete (hread : o.aborted = false) (hcomplete : h.incomplete = false) :
    s.coilVerdict h o tags = (if tags = [] then 0 else 1, 0) := by
  by_cases htags : tags = [] <;> simp [State.coilVerdict, hheard, hselected, hfed, hread, hcomplete, htags]

end

/-- An identification elsewhere is a result of that coil, and not its own. -/
theorem foundElsewhere_of_mem {h : Hunt} {outs : List Nat} {ca : Nat} {x : CoilResult} (hx : x ∈ foundElsewhere ca (h.placed outs ca)) :
    x.own = false ∧ x.ca ≠ ca ∧ x.status = 1 ∧ ∃ p ∈ h.found, x.tags = [p.2] ∧ x.ca = outs.getD p.1 ca := by
  obtain ⟨q, hq, rfl⟩ := List.mem_map.1 hx
  obtain ⟨hplaced, helse⟩ := List.mem_filter.1 hq
  obtain ⟨p, hp, rfl⟩ := List.mem_map.1 hplaced
  exact ⟨rfl, of_decide_eq_true helse, rfl, p, hp, rfl, rfl⟩

/-- Type A ends with the first request that stays silent. -/
theorem huntOne_typeA_of_silent {a : SlotObs} (h : a.outcome = .silent) (guard : Nat) :
    huntOne 2 guard [a] = { answers := [], sent := [reqA false guard] } := by
  have hsound : slotFaulty a = false := by simp [slotFaulty, h]
  simp [huntOne, roundsA, retried, hsound, h, Hunt.send]

/-- A 15693 inventory of one slot that one tag answers ends the hunt. -/
theorem huntOne_vicinity_of_answer {a : SlotObs} (h : a.outcome = .ok) (hlen : a.data.length = 10) (guard : Nat) : huntOne 0 guard [a] =
    { answers := [], sent := [inventoryV true false [] guard], found := [(a.out, { proto := 3, uid := a.data.drop 2 })] } := by
  have hsound : slotFaulty a = false := by simp [slotFaulty, h]
  simp [huntOne, roundsV, retried, hsound, slotTags, tagV, h, hlen]

/-! ### The wait of a close (R188) -/

theorem execCloseWaitEnd_of_no_close {s : State} (h : s.sweeps.closing = none) : execCloseWaitEnd s = .next s := by
  simp only [execCloseWaitEnd, h]

section
variable {s : State} {c : Closing} (hclose : s.sweeps.closing = some c)
include hclose

/-- The close goes on 10 s after the release of the head index. -/
theorem execCloseWaitEnd_of_released {i n : Nat} {l : List (Nat × Nat)} (h : s.roster.released = (i, n) :: l) {u : State}
    (hu : u = s.advanceTs (n + 10000000)) : execCloseWaitEnd s =
      .next ((State.closeWork c { u with sweeps := { s.sweeps with closing := none } }).closeHeld 8) := by
  have hsweeps : u.sweeps = s.sweeps := hu ▸ advance_sweeps s _
  simp only [execCloseWaitEnd, hclose, h, ← hu, hsweeps]

theorem execCloseWaitEnd_of_none_released (h : s.roster.released = []) : execCloseWaitEnd s =
    .next ((State.closeWork c { s with sweeps := { s.sweeps with closing := none } }).closeHeld 8) := by
  simp only [execCloseWaitEnd, hclose, h]

end

/-! ### A report's build (R196, R197) -/

theorem reportDigest_of_body (body tail : List Byte) (h : tail.length = 8) : reportDigest (body ++ tail) = fieldLE tail 0 8 := by
  have hlen : (body ++ tail).length - 8 = body.length := by simp [h]
  rw [reportDigest, hlen]
  simpa using (fieldLE_drop body.length 0 8 (body ++ tail)).symm

/-- The report that a build leaves: header, records and trailer, and its digest. -/
def reportOf (kind flags first last gen : Nat) (recs : List ReportRec) : Report :=
  { status := 2, bytes := reportBytes kind flags first last gen recs, nrec := recs.length,
    digest := reportDigest (reportBytes kind flags first last gen recs) }

theorem reportOf_holds (kind flags first last gen : Nat) (recs : List ReportRec) : ∃ body : List Byte,
    body = [b8 kind, b8 flags, b8 first, b8 last] ++ natLE 4 gen ++ natLE 4 recs.length ++ zeros 4 ++ recs.flatten ∧
    reportOf kind flags first last gen recs = { status := 2, bytes := body ++ natLE 8 (crc64 body), nrec := recs.length,
                                                digest := fieldLE (natLE 8 (crc64 body)) 0 8 } := by
  refine ⟨_, rfl, ?_⟩
  rw [reportOf, reportBytes, reportDigest_of_body _ _ (natLE_length _ _)]

section
variable {s : State}

theorem execReportReady_of_idle (h : s.report.status ≠ 1) : execReportReady s = .next s := if_pos h

variable (hbuilds : s.report.status = 1)
include hbuilds

/-- Kinds 1 and 2 show the entries of the last close. -/
theorem execReportReady_of_entries (hkind : s.objNat 0x4100 1 ≠ 3) : execReportReady s = .next { s with
      report := reportOf (s.objNat 0x4100 1) s.roster.flags (s.objNat 0x4100 3) (s.objNat 0x4100 4) s.roster.gen
        (s.entryRecs (s.objNat 0x4100 1) (s.objNat 0x4100 3) (s.objNat 0x4100 4)) } := by
  simp only [execReportReady, hbuilds, not_true, ne_eq, if_false, hkind, not_false_eq_true, if_true]
  rfl

variable (hkind : s.objNat 0x4100 1 = 3) {gen : Nat} (hgen : gen = if s.objNat 0x4100 2 = 0 then s.roster.gen else s.objNat 0x4100 2)
include hkind hgen

/-- Kind 3 shows the changes of a generation that is held. -/
theorem execReportReady_of_changes {flags : Nat} {recs : List ReportRec}
    (hheld : (s.roster.changes.find? fun x => decide (x.1 = gen)) = some (gen, flags, recs)) : execReportReady s = .next { s with
      report := reportOf (s.objNat 0x4100 1) flags (s.objNat 0x4100 3) (s.objNat 0x4100 4) gen
        (recs.filter fun r => decide (s.objNat 0x4100 3 ≤ fieldLE r 0 1 ∧ fieldLE r 0 1 ≤ s.objNat 0x4100 4)) } := by
  simp only [execReportReady, hbuilds, not_true, ne_eq, if_false, hkind, ← hgen, hheld]
  rfl

theorem execReportReady_of_unheld (hnone : ∀ x ∈ s.roster.changes, x.1 ≠ gen) :
    execReportReady s = .next { s with report := { s.report with status := 3 } } := by
  have hfind : (s.roster.changes.find? fun x => decide (x.1 = gen)) = none := List.find?_eq_none.2 fun x hx => by simpa using hnone x hx
  simp only [execReportReady, hbuilds, not_true, ne_eq, if_false, hkind, ← hgen, hfind]

end

/-- Settles O55: each clause is its operation's equation by the case, from a request through the start and the end of a sweep to the
report; what a plan compiles to, and what a coil is judged, are functions of the rest of the state and of the hunt. -/
theorem sweepsAndReportsProceed : Obligations.SweepsAndReportsProceed := by
  unfold Obligations.SweepsAndReportsProceed
  refine ⟨requestSweep_eq, fun p n q q' => ⟨enterQueue_none p q, enterQueue_tied⟩,
    fun s p => ⟨execSweepPeriod_of_idle, fun n u hstart hms hu => execSweepPeriod_of_due hstart hms hu⟩, fun s => ?_,
    fun s obs hidle => congrArg _ (sweepClose_of_idle hidle obs),
    fun s obs r judged hrun hquiet => enterResults_of_running hrun hquiet,
    fun s u obs r hu hrun hwave => ?_, fun s mask need o h hh => ?_, fun guard a => ⟨fun hsilent => ?_, fun hok hlen => ?_⟩,
    fun s coils rs ca hca hnone => ⟨abortedCoil_mem_mergeResults s hca hnone, rfl, ?_⟩,
    fun s => ⟨execCloseWaitEnd_of_no_close, fun c i n l u hclose hreleased hu => execCloseWaitEnd_of_released hclose hreleased hu,
      fun c hclose hnone => execCloseWaitEnd_of_none_released hclose hnone⟩, fun s => ⟨execReportReady_of_idle, fun hbuilds => ?_⟩⟩
  · intro may
    refine ⟨?_, fun p n rest u hmay hqueue hu => ?_⟩
    · rintro (hempty | hhindered)
      · exact congrArg _ (sweepBegin_of_no_request hempty)
      · exact congrArg _ (sweepBegin_of_hindered (Bool.eq_false_iff.2 fun h => hhindered ((maySweep_iff s).1 h)))
    · have hmay := (maySweep_iff s).2 hmay
      intro coils needs surveyed waves valid free
      refine ⟨fun hinvalid => ?_, fun hvalid => ?_⟩
      · have hfails : s.planPasses p = false := Bool.eq_false_iff.2 fun h => hinvalid ((planPasses_iff s p).1 h)
        subst hu
        refine ⟨congrArg _ (sweepBegin_of_invalid hmay hqueue hfails), ?_⟩
        rw [compilePlan_eq, plan_modPlan, if_pos rfl, planPasses_sweeps, hfails]
        rfl
      · have hbegins := sweepBegin_of_valid hmay hqueue ((planPasses_iff s p).2 hvalid)
        rw [plan_newRunning s p rfl] at hbegins
        refine ⟨_, _, congrArg Host.Outcome.next hbegins, rfl, rfl, rfl, rfl, rfl, rfl, rfl, rfl, rfl, rfl, rfl, ?_, fun q hq => ?_, rfl, rfl⟩
        · rw [plan_modPlan, if_pos rfl]
          rfl
        · rw [plan_modPlan, if_neg hq]
          rfl
  · rw [← remaining_of_no_wave hwave]
    exact ⟨fun hunread hgoes => congrArg _ (sweepClose_of_unread hu hrun hunread hgoes),
      fun hover => congrArg _ (sweepClose_of_over hu hrun hover)⟩
  · refine ⟨_, _, judgeCoil_eq s mask need o hh, rfl, rfl, fun g => mem_tagsAt_placed, fun x hx => foundElsewhere_of_mem hx, fun hfailed => ?_,
      fun hheard hselect => ?_, fun hheard hselected hfeeder => ?_, fun hheard hselected hfed => ⟨fun haborted => ?_, fun hread hinc => ?_,
      fun hread hcomplete => ?_⟩⟩
    · simp only [State.ownResult, coilVerdict_of_failed _ hfailed, and_self]
    · simp only [State.ownResult, coilVerdict_of_no_select _ hheard hselect, and_self]
    · simp only [State.ownResult, coilVerdict_of_feeder _ hheard hselected hfeeder, and_self]
    · simp only [State.ownResult, coilVerdict_of_aborted _ hheard hselected hfed haborted, and_self]
    · simp only [State.ownResult, coilVerdict_of_incomplete _ hheard hselected hfed hread hinc, and_self]
    · simp only [State.ownResult, coilVerdict_of_complete _ hheard hselected hfed hread hcomplete, and_self]
  · simp only [huntOne_typeA_of_silent hsilent, and_self]
  · simp only [huntOne_vicinity_of_answer hok hlen, and_self]
  · simp only [State.abortedCoil, decide_eq_true_eq, ne_eq, ite_not]
  · intro k entries a b gen holds
    have built {flags g : Nat} {recs : List ReportRec} (h : execReportReady s = .next { s with report := reportOf k flags a b g recs }) :
        holds flags g recs := by
      obtain ⟨body, hbody, hreport⟩ := reportOf_holds k flags a b g recs
      exact ⟨body, hbody, h.trans (by rw [hreport])⟩
    exact ⟨fun hkind => built (execReportReady_of_entries hbuilds hkind),
      fun flags recs hkind hheld => built (execReportReady_of_changes hbuilds hkind rfl hheld),
      fun hkind hnone => execReportReady_of_unheld hbuilds hkind rfl hnone⟩

end Sys2Proof.Machine
end

section
/-!
PROOFS. Class A commands: how one that passes its checks comes to run, and how it ends (R22, R307, R308, R311 to R317).
-/

namespace Sys2Proof.Machine

open Sys2Proof

/-! ### A COMMAND unit (R306, R307) -/

theorem leNat_lt (b : List Byte) : leNat b < 256 ^ b.length := by
  induction b with
  | nil => simp [leNat]
  | cons x xs ih =>
    simp only [leNat, List.length_cons, Nat.pow_succ]
    have hx := x.isLt
    omega

theorem fieldLE_lt (b : List Byte) (off n : Nat) : fieldLE b off n < 256 ^ n := by
  have h := leNat_lt (sliceBytes b off n)
  rwa [sliceBytes, List.length_map, List.length_range] at h

theorem unitBytes_rid (ty rid : Nat) (body : List Byte) : fieldLE (unitBytes ty rid body) 2 2 = rid % 65536 := by
  simp [fieldLE, sliceBytes, leNat, unitBytes, natLE, List.range_succ]
  omega

/-- A unit carries 16 bits of its request identifier. -/
theorem unitBytes_rid_mod (ty rid : Nat) (body : List Byte) : unitBytes ty (rid % 65536) body = unitBytes ty rid body := by
  have hrid : natLE 2 (rid % 65536) = natLE 2 rid := by
    simp only [natLE, List.cons.injEq, and_true]
    exact ⟨BitVec.eq_of_toNat_eq (by simp), BitVec.eq_of_toNat_eq (by simp; omega)⟩
  rw [unitBytes, unitBytes, hrid]

/-- A command as its unit carries it. -/
def asCarried (c : CmdIn) : CmdIn := { c with rid := c.rid % 65536 }

theorem ends_asCarried (e : State) (c : CmdIn) (key : List Byte) (st : Status) : e.ends (asCarried c) key st = e.ends c key st := by
  simp only [State.ends, cmdReply, asCarried, Bool.false_eq_true, if_false, unitBytes_rid_mod]

/-! ### A module on which no twin and no recovery follows a command (R286, R364, R375) -/

/-- No twin is configured, no handover waits, and the field side runs its firmware. -/
structure State.Alone (t : State) : Prop where
  role : t.twin.role = 0
  calm : t.twin.handing = false
  firmware : t.power.recovery = false

theorem State.Alone.of_same {s t : State} (h : s.Alone) (htwin : t.twin = s.twin) (hpower : t.power = s.power) : t.Alone :=
  ⟨htwin ▸ h.role, htwin ▸ h.calm, hpower ▸ h.firmware⟩

theorem State.Alone.commit {s : State} (h : s.Alone) (g typ : Nat) (data : List Byte) : (s.commit g typ data).Alone :=
  ⟨(commit_role ..).trans h.role, (commit_handing ..).trans h.calm, (congrArg Power.recovery (commit_power ..)).trans h.firmware⟩

theorem State.Alone.mirror {s : State} (h : s.Alone) (typ : Nat) (body : Payload) : s.mirror typ body = s := mirror_of_no_twin h.role typ body

theorem State.Alone.handoverTry {s : State} (h : s.Alone) : s.handoverTry = s := if_neg (by simp [h.calm])

/-- An answer by a unit leaves all but what is remembered, the SPI port and the outputs. -/
theorem reply_unit_rest (p : Peer) (req bytes : List Byte) (s : State) :
    ∃ r x o, s.reply (.unit p req bytes) = { s with recent := r, spi := x, out := o } := by
  cases p <;> exact ⟨_, _, _, rfl⟩

theorem State.Alone.ends {t : State} (h : t.Alone) (c : CmdIn) (key : List Byte) (st : Status) : (t.ends c key st).Alone := by
  obtain ⟨r, x, o, hreply⟩ := reply_unit_rest c.peer (unitBytes 3 c.rid c.body) (unitBytes 0x83 c.rid (rspBody c.body st (some key)))
    (t.journalCommand c.body st)
  have hjournal : (t.journalCommand c.body st).Alone := h.commit ..
  have htwin := congrArg State.twin hreply
  have hpower := congrArg State.power hreply
  exact hjournal.of_same htwin hpower

/-- Where nothing follows a command it ends with its record and its answer (R313, R314). -/
theorem finishCommand_of_alone {s t : State} {c : CmdIn} {st : Status} (hrun : s.runCommand c.body = (st, t)) (ht : t.Alone) :
    s.finishCommand c false true = t.ends c (s.key 0 (cmdBody c.body).slot) st := by
  have hends := ht.ends c (s.key 0 (cmdBody c.body).slot) st
  have hreply (key : Option Payload) (r : Reply) : (t.journalCommand c.body st).replyAfter key r = (t.journalCommand c.body st).reply r :=
    replyAfter_of_no_twin (ht.commit ..).role key r
  unfold State.ends at hends
  simp only [State.finishCommand, hrun, hreply, if_true, hends.handoverTry, ite_self, hends.firmware, Bool.false_eq_true, false_and, if_false,
    State.ends]

/-! ### The counter of an accepted command (R313, R317) -/

theorem rights_of_slots {s t : State} (h : t.cmds.slots = s.cmds.slots) (i : Nat) : t.rights i = s.rights i := by
  simp only [State.rights, State.cmdSlot, h]

theorem rights_modCmdSlot {f : CmdSlot → CmdSlot} (hf : ∀ x, (f x).rights = x.rights) (s : State) (k i : Nat) :
    (s.modCmdSlot k f).rights i = s.rights i := by
  simp only [State.rights, cmdSlot_modCmdSlot]
  split
  next hik => rw [hf, hik]
  · rfl

theorem consumed_slots (s : State) (c : CmdIn) : (s.consumed c).cmds.slots = ((s.reserveBlock (cmdBody c.body).slot (cmdBody c.body).ctr).modCmdSlot
    (cmdBody c.body).slot fun x => { x with last := (cmdBody c.body).ctr }).cmds.slots := by
  unfold State.consumed
  rfl

section
variable {s : State} (hrole : s.twin.role = 0)
include hrole

theorem reserveBlock_rest (slot ctr : Nat) : ∃ x n, s.reserveBlock slot ctr = { s with cmds := x, nvm := n } := by
  unfold State.reserveBlock
  split
  · exact ⟨s.cmds, s.nvm, rfl⟩
  · exact ⟨_, _, (mirror_of_no_twin (by exact hrole) _ _).trans rfl⟩

theorem reserveBlock_rights (slot ctr i : Nat) : (s.reserveBlock slot ctr).rights i = s.rights i := by
  unfold State.reserveBlock
  split
  · rfl
  · have hkeeps := rights_modCmdSlot (f := fun x => { x with reserved := ctr / 4096 * 4096 + 4096 }) (fun _ => rfl) s slot i
    exact (congrArg (State.rights · i) (mirror_of_no_twin (by exact hrole) _ _)).trans hkeeps

theorem consumed_rest (c : CmdIn) : ∃ x n, s.consumed c = { s with cmds := x, nvm := n } := by
  obtain ⟨x, n, h⟩ := reserveBlock_rest hrole (cmdBody c.body).slot (cmdBody c.body).ctr
  unfold State.consumed
  dsimp only
  rw [h]
  exact ⟨_, n, rfl⟩

theorem consumed_rights (c : CmdIn) (i : Nat) : (s.consumed c).rights i = s.rights i := by
  rw [rights_of_slots (consumed_slots s c), rights_modCmdSlot (f := fun x => { x with last := (cmdBody c.body).ctr }) (fun _ => rfl),
    reserveBlock_rights hrole]

end

/-! ### The checks of a command (R308, R313, R364) -/

/-- A command object of the catalogue outside the radio's range, and a payload of its size. -/
structure CommandsBy (idx sub : Nat) (p : List Byte) (o : Obj) : Prop where
  found : findObj idx sub = some o
  access : o.access = .cmd
  served : idx < 0x7000 ∨ 0x8000 ≤ idx ∧ idx < 0xF000
  fits : o.ty.sizeOk p = true

theorem length_of_cmdFormOk {b : List Byte} (h : cmdFormOk b = true) : b.length ≤ 276 := by
  have hpad : (cmdBody b).padded = ((cmdBody b).len + 3) / 4 * 4 := rfl
  obtain ⟨⟨hlen, hbody⟩, -⟩ : ((cmdBody b).len ≤ 256 ∧ b.length = 20 + (cmdBody b).padded) ∧ _ := by simpa [cmdFormOk] using h
  omega

/-- A unit that passes its checks and repeats no other is served; a command then runs through to its answer (R308; log 35). -/
theorem ldpUnit_whole_of_new {s : State} {u : LdpIn} (hserve : s.serving = true) (hok : unitOk u.bytes = true) (ha : s.answered u = none) :
    s.ldpUnit u true = s.serveUnit true u := by
  simp [State.ldpUnit, hserve, hok, ha]

theorem serveUnit_of_command (s : State) (c : CmdIn) :
    s.serveUnit true { peer := c.peer, bytes := unitBytes 3 c.rid c.body } = s.commandWhole (asCarried c) := by
  simp only [State.serveUnit, unitBytes_type, unitBytes_rid, if_true]
  rfl

section
variable {s : State} {c : CmdIn} {idx sub : Nat} (h : s.TakesCommand c idx sub)
include h

theorem State.TakesCommand.role : s.twin.role = 0 := h.ports.alone

theorem State.TakesCommand.alone : s.Alone := by
  obtain ⟨-, -, -, -, hfirmware⟩ := h.ports
  exact ⟨h.role, h.calm, hfirmware⟩

theorem State.TakesCommand.consumed_alone : (s.consumed c).Alone := by
  obtain ⟨x, n, hu⟩ := consumed_rest h.role c
  exact h.alone.of_same (by rw [hu]) (by rw [hu])

theorem State.TakesCommand.consumed_keys : (s.consumed c).keys = s.keys := by
  obtain ⟨x, n, hu⟩ := consumed_rest h.role c
  rw [hu]

theorem State.TakesCommand.consumed_key (kind slot : Nat) : (s.consumed c).key kind slot = s.key kind slot := by
  rw [State.key, h.consumed_keys, State.key]

theorem State.TakesCommand.notForwarded (hserved : idx < 0x7000 ∨ 0x8000 ≤ idx ∧ idx < 0xF000) : s.notForwarded c.body = none := by
  have hlen := length_of_cmdFormOk h.form
  simp only [State.notForwarded, h.names, h.ports.porterUp]
  rw [if_neg (by omega), if_neg (by omega), if_neg (by simp), if_neg (by omega)]

/-- The unit of a command arrives and is forwarded as the command (R22, R43). -/
theorem State.TakesCommand.commandOf (hserved : idx < 0x7000 ∨ 0x8000 ≤ idx ∧ idx < 0xF000) :
    s.commandOf idx sub c = s.command (asCarried c) false := by
  have hserve := ldpUnit_whole_of_new (u := { peer := c.peer, bytes := unitBytes 3 c.rid c.body }) h.ports.serves h.unit h.first
  rw [State.commandOf, if_pos ⟨h.names, h.part⟩, hserve, serveUnit_of_command, State.commandWhole, asCarried]
  simp only [h.notForwarded hserved]

/-- Checks 9 and 10: the slot has the right, and no second holds the counter back (R313, R316). -/
theorem State.TakesCommand.consume (v : Bool) (rid : Nat) :
    (s.reserveBlock (cmdBody c.body).slot (cmdBody c.body).ctr).consume { c with rid := rid } v =
      (s.consumed c).finishCommand { c with rid := rid } v true := by
  have hright : bitsOf ((s.consumed c).rights (cmdBody c.body).slot)
      (rightBit (cmdBody c.body).idx (cmdBody c.body).sub (cmdPayload c.body)) 1 ≠ 0 := by
    rw [consumed_rights h.role, h.names, h.part, h.right]
    decide
  have hmirror := h.consumed_alone.mirror 0x83 (.mCounter (cmdBody c.body).slot (cmdBody c.body).ctr)
  have halone : (s.consumed c).mirrors = false := by simp [State.mirrors, h.consumed_alone.role]
  unfold State.consumed at hmirror hright halone ⊢
  simp only [State.consume, hmirror, hright, halone, if_false, Bool.false_eq_true, false_and]

/-- Checks 1 to 8 (R313, R317). -/
theorem State.TakesCommand.command {o : Obj} (ho : CommandsBy idx sub (cmdPayload c.body) o) (v : Bool) (rid : Nat) :
    s.command { c with rid := rid } v = (s.consumed c).finishCommand { c with rid := rid } v true := by
  have hctr : (cmdBody c.body).ctr < 2 ^ 48 := fieldLE_lt c.body 4 6
  have hslot := h.slot
  have habove := h.above
  have hsecond : s.secondRefuses idx sub = false := by simp [State.secondRefuses, h.role]
  have hboot : s.isBootstrap c.body = false := by
    have : (cmdBody c.body).slot ≠ 0xFF := by omega
    simp [State.isBootstrap, this]
  have hfirmware := h.alone.firmware
  have hchecks : s.checkMac { c with rid := rid } v = s.checkCounter { c with rid := rid } v := by
    unfold State.checkMac
    dsimp only
    rw [if_neg (by simp [hslot, h.key]), if_neg (by simp [h.held]), if_neg fun hne => hne h.mac]
  have hcounter : s.checkCounter { c with rid := rid } v =
      (s.reserveBlock (cmdBody c.body).slot (cmdBody c.body).ctr).consume { c with rid := rid } v := by
    unfold State.checkCounter
    dsimp only
    rw [if_neg (by omega), if_neg (by omega), if_neg (by simp [h.warning, h.doomed, h.armed])]
  rw [← h.consume, ← hcounter, ← hchecks]
  simp [State.command, hfirmware, h.form, h.names, h.part, ho.found, ho.access, hsecond, hboot]

/-- Past the gate of the safe state a payload of the object's size is left to the object's rule (R388). -/
theorem State.TakesCommand.runCommand {o : Obj} (ho : CommandsBy idx sub (cmdPayload c.body) o) :
    (s.consumed c).runCommand c.body = (s.consumed c).runObject idx sub (cmdPayload c.body) := by
  obtain ⟨x, n, hu⟩ := consumed_rest h.role c
  have hsafe : (s.consumed c).fltF = s.fltF := by rw [hu]
  have hgate : ¬ (s.fltF.safe = true ∧ idx ≠ 0xA002) := by
    rintro ⟨hsafe, hidx⟩
    exact h.gate.elim (by simp [hsafe]) hidx
  simp only [State.runCommand, hsafe, h.names, h.part, ho.found, ho.fits, if_true, if_neg hgate]

/-- What a command that passes every check does: its object's rule, a record and an answer under the key as it was (R313, R314). -/
theorem State.TakesCommand.runs {o : Obj} (ho : CommandsBy idx sub (cmdPayload c.body) o) {u t : State} {st : Status} (hu : u = s.consumed c)
    (hrun : u.runObject idx sub (cmdPayload c.body) = (st, t)) (ht : t.Alone) :
    s.commandOf idx sub c = t.ends c (s.key 0 (cmdBody c.body).slot) st := by
  subst hu
  have hfinish : (s.consumed c).finishCommand (asCarried c) false true =
      t.ends (asCarried c) ((s.consumed c).key 0 (cmdBody c.body).slot) st := finishCommand_of_alone ((h.runCommand ho).trans hrun) ht
  rw [h.commandOf ho.served, asCarried, h.command ho, ← asCarried, hfinish, ends_asCarried, h.consumed_key]

end

end Sys2Proof.Machine
end

section
/-!
PROOFS. What the commands on keys, the quarantine list, rights and the roster do (R188, R189, R205 to R209, R217, R221, R316, R318, R321).
-/

namespace Sys2Proof.Machine

open Sys2Proof

/-! ### Loading and erasing keys (R205, R207, R209, R317, R318, R321) -/

/-- The material of a slot stands in the store, and its sector is written (R209). -/
def State.storeKey (kind slot : Nat) (m : List Byte) (v : State) : State :=
  ({ v with keys := { v.keys with store := Tab.set [] v.keys.store (256 * kind + slot) m } } : State).keySector kind

/-- A command key starts its counter again and reserves block 0 (R318). -/
def State.restartCounter (slot : Nat) (v : State) : State :=
  (v.modCmdSlot slot fun x => { x with last := 0, reserved := max x.reserved 4096 }).logEntry 4 slot 0

theorem State.Alone.storeKey {v : State} (h : v.Alone) (kind slot : Nat) (m : List Byte) : (v.storeKey kind slot m).Alone :=
  ⟨h.role, h.calm, h.firmware⟩

section
variable {u : State} (halone : u.Alone) {kind slot : Nat} {m p : List Byte}
include halone

/-- A change of slot 15 of the command keys is journalled before (R321). -/
theorem putKey_of_alone {v : State} (hv : v = if kind = 0 ∧ slot = 15 then u.commit 0 3 (natLE 4 (kcvWord m)) else u) :
    u.putKey kind slot m = v.storeKey kind slot m ∧ v.Alone := by
  have hchain : (u.when (decide (kind = 0) && decide (slot = 15)) fun s => s.commit 0 3 (natLE 4 (kcvWord m))) = v := by
    simp [State.when, hv]
  have hv' : v.Alone := by
    rw [hv]
    split
    · exact halone.commit ..
    · exact halone
  refine ⟨?_, hv'⟩
  rw [State.putKey, hchain]
  exact (hv'.storeKey kind slot m).mirror _ _

variable (hkind : kind = fieldLE p 0 1) (hslot : slot = fieldLE p 1 1)
include hkind hslot

section
variable (hgood : u.unwrapKey kind slot (fieldLE p 2 1) (fieldLE p 3 1) (sliceBytes p 4 24) = (.ok, m))
include hgood

theorem loadKey_of_key (h : kind ≠ 0) : u.loadKey p = (.ok, u.storeKey kind slot m) := by
  obtain ⟨hput, -⟩ := putKey_of_alone halone (kind := kind) (slot := slot) (m := m) rfl
  rw [if_neg fun hc => h hc.1] at hput
  subst hkind hslot
  simp only [State.loadKey, hgood, hput, if_neg h]

theorem loadKey_of_command_key (h : kind = 0) {v : State} (hv : v = if slot = 15 then u.commit 0 3 (natLE 4 (kcvWord m)) else u) :
    u.loadKey p = (.ok, (v.storeKey 0 slot m).restartCounter slot) ∧ v.Alone := by
  obtain ⟨hput, hv'⟩ := putKey_of_alone halone (kind := 0) (slot := slot) (m := m) (v := v) (by simpa using hv)
  subst hkind hslot
  rw [h] at hgood
  refine ⟨?_, hv'⟩
  simp only [State.loadKey, h, hgood, hput, if_true]
  rfl

end

/-- Erasing is storing nothing; the check value of an empty slot is 0 (R206, R209). -/
theorem eraseKey_of_key (hrange : slot < keySlots kind) (h : kind ≠ 4) (hunlocked : ¬ (kind = 1 ∧ slot = 0)) {v : State}
    (hv : v = if kind = 0 ∧ slot = 15 then u.commit 0 3 (natLE 4 0) else u) : u.eraseKey p = (.ok, v.storeKey kind slot []) ∧ v.Alone := by
  obtain ⟨hput, hv'⟩ := putKey_of_alone halone (kind := kind) (slot := slot) (m := []) (v := v) hv
  subst hkind hslot
  refine ⟨?_, hv'⟩
  simp only [State.eraseKey, hput, if_neg (Nat.not_le.2 hrange), if_neg hunlocked, if_neg h]

end

theorem loadKey_of_refused {u : State} {p m : List Byte} {st : Status} (h : st ≠ .ok)
    (hrefused : u.unwrapKey (fieldLE p 0 1) (fieldLE p 1 1) (fieldLE p 2 1) (fieldLE p 3 1) (sliceBytes p 4 24) = (st, m)) :
    u.loadKey p = (st, { u with keys := { u.keys with refused := u.keys.refused + 1 } }) := by
  simp only [State.loadKey, hrefused]

theorem eraseKey_of_locked {u : State} {p : List Byte} (hkind : fieldLE p 0 1 = 1) (hslot : fieldLE p 1 1 = 0) : u.eraseKey p = (.locked, u) := by
  simp [State.eraseKey, hkind, hslot, keySlots]

/-! ### Issuer keys (R208, R209, R221) -/

/-- The changes by which the entries that an issuer slot verified lose ORIGIN at the next close, those whose result waits for it among
them (R221). -/
def State.originsLost (u : State) (slot : Nat) : List SecChange :=
  ((u.keys.verified.filter fun p => decide (p.2 = slot + 1)).map fun p => ⟨handleOf p.1 (u.entry p.1), 4, 0xFF, 0, slot⟩) ++
    (u.keys.changes.filter fun c => decide (c.typ = 3) && decide (c.slot = slot)).map fun c => { c with typ := 4, profile := 0xFF, status := 0 }

theorem mem_originsLost {u : State} {slot : Nat} {x : SecChange} : x ∈ u.originsLost slot ↔
    (∃ i, (i, slot + 1) ∈ u.keys.verified ∧ x = ⟨handleOf i (u.entry i), 4, 0xFF, 0, slot⟩) ∨
      ∃ y ∈ u.keys.changes, y.typ = 3 ∧ y.slot = slot ∧ x = { y with typ := 4, profile := 0xFF, status := 0 } := by
  simp only [State.originsLost, List.mem_append, List.mem_map, List.mem_filter, decide_eq_true_eq, Bool.and_eq_true]
  refine or_congr ⟨?_, ?_⟩ ⟨?_, ?_⟩
  · rintro ⟨⟨i, k⟩, ⟨hmem, rfl⟩, rfl⟩
    exact ⟨i, hmem, rfl⟩
  · rintro ⟨i, hmem, rfl⟩
    exact ⟨(i, slot + 1), ⟨hmem, rfl⟩, rfl⟩
  · rintro ⟨y, ⟨hmem, htyp, hslot⟩, rfl⟩
    exact ⟨y, hmem, htyp, hslot, rfl⟩
  · rintro ⟨y, hmem, htyp, hslot, rfl⟩
    exact ⟨y, ⟨hmem, htyp, hslot⟩, rfl⟩

theorem originsLost_slot {u : State} {slot : Nat} {x : SecChange} (h : x ∈ u.originsLost slot) : x.typ = 4 ∧ x.slot = slot := by
  obtain ⟨i, -, rfl⟩ | ⟨y, -, -, hslot, rfl⟩ := mem_originsLost.1 h
  · exact ⟨rfl, rfl⟩
  · exact ⟨rfl, hslot⟩

/-- An issuer slot takes a key, or none, and what it verified is lost at the next close (R208, R221). -/
def State.storeIssuer (slot : Nat) (is : Issuer) (u : State) : State :=
  ({ u with keys := { u.keys with
    changes := u.keys.changes ++ u.originsLost slot, issuers := Tab.set {} u.keys.issuers slot is } } : State).keySector 4

theorem dropOrigins_eq (slot : Nat) (u : State) :
    u.dropOrigins slot = { u with keys := { u.keys with changes := u.keys.changes ++ u.originsLost slot } } := by
  simp only [State.dropOrigins, State.originsLost, List.append_assoc]

section
variable {u : State} (halone : u.Alone)
include halone

theorem State.Alone.storeIssuer (slot : Nat) (is : Issuer) : (u.storeIssuer slot is).Alone := ⟨halone.role, halone.calm, halone.firmware⟩

theorem loadIssuer_of_good {n : Nat} {cv : Curve} {p : List Byte} (hslot : fieldLE p 0 1 < 32) (hcurve : curveOf (fieldLE p 1 1) = some cv)
    (hn : n = curveLen (fieldLE p 1 1)) (hlong : n ≠ 0) (hlen : p.length = 9 + 2 * n) (hproto : fieldLE p 2 1 ≤ 4)
    (hreserved : fieldLE p 3 1 = 0) (hform : fieldLE p 8 1 = 4)
    (hon : cv.on (beNat (sliceBytes p 9 n)) (beNat (sliceBytes p (9 + n) n)) = true) :
    u.loadIssuer p = (.ok, u.storeIssuer (fieldLE p 0 1)
      ⟨fieldLE p 1 1, fieldLE p 2 1, fieldLE p 4 2, fieldLE p 6 2, beNat (sliceBytes p 9 n), beNat (sliceBytes p (9 + n) n)⟩) := by
  subst hn
  have hmirror (is : Issuer) := (halone.storeIssuer (fieldLE p 0 1) is).mirror 0x87 (.mKeys (.key 4 (fieldLE p 0 1) p))
  unfold State.storeIssuer at hmirror ⊢
  simp only [State.loadIssuer, dropOrigins_eq, hcurve, hon, hlong, hlen, hreserved, hform, hmirror, Nat.not_lt.2 (Nat.le_of_lt_succ hslot),
    Nat.not_lt.2 hproto, ne_eq, not_true_eq_false, Bool.true_eq_false, or_self, if_false]

theorem eraseKey_of_issuer {slot : Nat} {p : List Byte} (hkind : fieldLE p 0 1 = 4) (hslot : slot = fieldLE p 1 1) (hrange : slot < 32) :
    u.eraseKey p = (.ok, u.storeIssuer slot {}) := by
  subst hslot
  have hmirror := (halone.storeIssuer (fieldLE p 1 1) {}).mirror 0x87 (.mKeys (.key 4 (fieldLE p 1 1) []))
  unfold State.storeIssuer at hmirror ⊢
  simp only [State.eraseKey, dropOrigins_eq, hkind, keySlots, hmirror, ge_iff_le, Nat.not_le.2 hrange, if_false, if_true]
  rfl

end

/-! ### The quarantine list and the rights (R217, R316) -/

/-- A tag leaves the quarantine list with its attempts. -/
def State.unquarantined (g : TagId) (u : State) : State :=
  { u with keys := { u.keys with
    quarantine := u.keys.quarantine.filter (· ≠ g), attempts := u.keys.attempts.filter fun a => decide (a.tag ≠ g) } }

theorem mirrorAttempt_of_no_twin {s : State} (hrole : s.twin.role = 0) (g : TagId) : s.mirrorAttempt g = s := by
  unfold State.mirrorAttempt
  split <;> exact mirror_of_no_twin hrole _ _

section
variable {u : State} {p : List Byte} {g : TagId} (hg : g = { proto := fieldLE p 0 1, uid := sliceBytes p 2 (min 10 (fieldLE p 1 1)) })
include hg

theorem releaseTag_of_listed (hrole : u.twin.role = 0) (hmem : g ∈ u.keys.quarantine) : u.releaseTag p = (.ok, u.unquarantined g) := by
  have hlisted := List.contains_iff_mem.2 hmem
  have hmirror := mirror_of_no_twin (s := u.unquarantined g) hrole 0x87 (.mKeys (.quarantine g false))
  have hattempt := mirrorAttempt_of_no_twin (s := u.unquarantined g) hrole g
  unfold State.unquarantined at hmirror hattempt ⊢
  simp only [State.releaseTag, ← hg, hlisted, if_true, hmirror, hattempt]

theorem releaseTag_of_unlisted (hmem : g ∉ u.keys.quarantine) : u.releaseTag p = (.notFound, u) := by
  have hunlisted : ¬ u.keys.quarantine.contains g = true := fun h => hmem (List.contains_iff_mem.1 h)
  simp only [State.releaseTag, ← hg, if_neg hunlisted]

end

section
variable {u : State} {p : List Byte} (hreserved : fieldLE p 3 1 = 0)

theorem setMask_of_range (h : fieldLE p 1 2 > 0x3F) : u.setMask p = (.valueRange, u) := if_pos (.inr (.inl h))

include hreserved

theorem setMask_of_first (hslot : fieldLE p 0 1 = 0) (hmask : fieldLE p 1 2 ≤ 0x3F) : u.setMask p = (.locked, u) :=
  (if_neg (by omega)).trans (if_pos hslot)

theorem setMask_of_slot (hlow : 1 ≤ fieldLE p 0 1) (hhigh : fieldLE p 0 1 ≤ 15) (hmask : fieldLE p 1 2 ≤ 0x3F) : u.setMask p =
    (.ok, (u.modCmdSlot (fieldLE p 0 1) fun x => { x with rights := if fieldLE p 1 2 = 0x2F then none else some (fieldLE p 1 2) }).keySector 0) :=
  (if_neg (by omega)).trans (if_neg (by omega))

end

/-! ### Emptying the roster (R188, R189) -/

theorem entry_releaseEntry (i j : Nat) (s : State) : (s.releaseEntry i).entry j = if j = i then {} else s.entry j := entry_setEntry s i j {}

/-- Emptying an entry is its release after what is journalled of it. -/
theorem emptyEntry_eq (i : Nat) (s : State) : ∃ v : State, s.emptyEntry i = v.releaseEntry i ∧ v.roster = s.roster ∧ v.sweeps = s.sweeps ∧
    (s.Alone → v.Alone) := by
  unfold State.emptyEntry State.when
  dsimp only
  split <;> split
  · exact ⟨_, rfl, by simp, by simp, fun h => (h.commit ..).commit ..⟩
  · exact ⟨_, rfl, by simp, by simp, fun h => h.commit ..⟩
  · exact ⟨_, rfl, by simp, by simp, fun h => h.commit ..⟩
  · exact ⟨s, rfl, rfl, rfl, id⟩

theorem entry_emptyEntry (i j : Nat) (s : State) : (s.emptyEntry i).entry j = if j = i then {} else s.entry j := by
  obtain ⟨v, hv, hroster, -⟩ := emptyEntry_eq i s
  rw [hv, entry_releaseEntry, State.entry, State.entry, hroster]

theorem emptyEntry_sweeps (i : Nat) (s : State) : (s.emptyEntry i).sweeps = s.sweeps := by
  obtain ⟨v, hv, -, hsweeps, -⟩ := emptyEntry_eq i s
  rw [hv, ← hsweeps]
  rfl

theorem State.Alone.emptyEntry {s : State} (h : s.Alone) (i : Nat) : (s.emptyEntry i).Alone := by
  obtain ⟨v, hv, -, -, halone⟩ := emptyEntry_eq i s
  rw [hv]
  exact ⟨(halone h).role, (halone h).calm, (halone h).firmware⟩

/-- Emptying entries one by one leaves no listed one; sweeps and the module's state as to its twin stay. -/
theorem each_emptyEntry (l : List Nat) (s : State) : (∀ j, (s.each l State.emptyEntry).entry j = if j ∈ l then {} else s.entry j) ∧
    (s.each l State.emptyEntry).sweeps = s.sweeps ∧ (s.Alone → (s.each l State.emptyEntry).Alone) := by
  induction l generalizing s with
  | nil => exact ⟨fun j => (if_neg List.not_mem_nil).symm, rfl, id⟩
  | cons i l ih =>
    obtain ⟨hentry, hsweeps, halone⟩ := ih (s.emptyEntry i)
    refine ⟨fun j => (hentry j).trans ?_, hsweeps.trans (emptyEntry_sweeps i s), fun h => halone (h.emptyEntry i)⟩
    rw [entry_emptyEntry]
    by_cases hj : j = i <;> simp [hj]

theorem closeHeld_of_none {s : State} (h : s.sweeps.held = []) (fuel : Nat) : s.closeHeld fuel = s := by
  cases fuel with
  | zero => rfl
  | succ fuel => simp [State.closeHeld, h]

/-- With no result held and no close in progress, emptying leaves no entry, generation 0, no index used and no report. -/
theorem emptyRoster_of_quiet {s : State} (halone : s.Alone) (hheld : s.sweeps.held = []) (hclosing : s.sweeps.closing = none) :
    (∀ i, (s.emptyRoster.entry i).pres = 0) ∧ s.emptyRoster.roster.gen = 0 ∧ s.emptyRoster.roster.fresh = 0 ∧
      s.emptyRoster.roster.changes = [] ∧ s.emptyRoster.report = {} ∧ s.emptyRoster.sweeps.closing = none ∧ s.emptyRoster.Alone := by
  obtain ⟨hentry, hsweeps, hleft⟩ := each_emptyEntry (s.roster.entries.map (·.1)) s
  have hempty (j : Nat) : (s.each (s.roster.entries.map (·.1)) State.emptyEntry).entry j = {} := by
    rw [hentry]
    split
    · rfl
    next hunlisted => exact Tab.get_of_unlisted hunlisted
  unfold State.emptyRoster
  generalize s.each (s.roster.entries.map (·.1)) State.emptyEntry = v at hempty hsweeps hleft
  have hv := hleft halone
  simp only [hclosing]
  rw [closeHeld_of_none (by exact (congrArg Sweeps.held hsweeps).trans hheld)]
  exact ⟨fun j => congrArg Entry.pres (hempty j), rfl, rfl, rfl, rfl, rfl, hv.role, hv.calm, hv.firmware⟩

/-! ### The commands -/

theorem commandsBy_loadWrappedKey {p : List Byte} (hlen : p.length = 28) :
    CommandsBy 0x5002 1 p ⟨0x5002, 1, 0x01, 0x01, .bytes 28 false, .cmd, .any, []⟩ :=
  ⟨by decide +kernel, rfl, by decide, decide_eq_true hlen⟩

theorem commandsBy_loadIssuerKey {p : List Byte} (hlen : p.length ≤ 73) :
    CommandsBy 0x5002 2 p ⟨0x5002, 1, 0x02, 0x02, .bytes 73 true, .cmd, .any, []⟩ :=
  ⟨by decide +kernel, rfl, by decide, decide_eq_true hlen⟩

theorem commandsBy_eraseSlot {p : List Byte} (hlen : p.length = 2) :
    CommandsBy 0x5002 3 p ⟨0x5002, 1, 0x03, 0x03, .bytes 2 false, .cmd, .any, []⟩ :=
  ⟨by decide +kernel, rfl, by decide, decide_eq_true hlen⟩

theorem commandsBy_releaseUid {p : List Byte} (hlen : p.length = 12) :
    CommandsBy 0x5003 0x10 p ⟨0x5003, 1, 0x10, 0x10, .bytes 12 false, .cmd, .any, []⟩ :=
  ⟨by decide +kernel, rfl, by decide, decide_eq_true hlen⟩

theorem commandsBy_setRightsMask {p : List Byte} (hlen : p.length = 4) :
    CommandsBy 0x1F02 1 p ⟨0x1F02, 1, 0x01, 0x01, .bytes 4 false, .cmd, .any, []⟩ :=
  ⟨by decide +kernel, rfl, by decide, decide_eq_true hlen⟩

theorem commandsBy_emptyRoster {p : List Byte} (hlen : p.length = 24) :
    CommandsBy 0x4003 1 p ⟨0x4003, 1, 0x01, 0x01, .bytes 24 false, .cmd, .any, []⟩ :=
  ⟨by decide +kernel, rfl, by decide, decide_eq_true hlen⟩

theorem curveLen_le (curve : Nat) : curveLen curve ≤ 32 := by
  unfold curveLen
  split <;> decide

theorem emptyPayload_length (s : State) : s.emptyPayload.length = 24 := by
  simp [State.emptyPayload, padTo, sliceBytes, natLE_length, zeros]

/-- Settles O25: each command passes its checks, and its object's rule in the state with its counter consumed is the clause. -/
theorem keyCommandsRun : Obligations.KeyCommandsRun := by
  unfold Obligations.KeyCommandsRun
  intro s u c k p hu hk hp
  subst hk hp
  have alone {idx sub : Nat} (h : s.TakesCommand c idx sub) : u.Alone := hu ▸ h.consumed_alone
  have keys {idx sub : Nat} (h : s.TakesCommand c idx sub) : u.keys = s.keys := hu ▸ h.consumed_keys
  refine ⟨fun m kind slot h hlen hkind hslot hgood => ⟨fun hkey => ?_, fun hcommand v hv => ?_⟩, fun st m h hlen hst hrefused => ?_,
    fun n cv curve is h hslot hcurve hcv hn hlong hlen hproto hreserved hform hon his => ?_,
    fun kind slot h hlen hkind hslot hrange => ⟨fun hissuer hunlocked v hv => ?_, fun hissuer => ?_, fun hfirst hzero => ?_⟩,
    fun g h hlen hg => ⟨fun hmem => ?_, fun hmem => ?_⟩,
    fun slot mask h hlen hslot hmask hreserved => ⟨fun hfirst hfits => ?_, fun hlow hhigh hfits => ?_, fun hover => ?_⟩,
    fun h hheld hclosing hpayload => ?_⟩
  · have hrun := loadKey_of_key (alone h) hkind hslot hgood hkey
    exact congrArg _ (h.runs (commandsBy_loadWrappedKey hlen) hu hrun ((alone h).storeKey ..))
  · obtain ⟨hrun, hv'⟩ := loadKey_of_command_key (alone h) hkind hslot hgood hcommand hv
    have hruns := h.runs (commandsBy_loadWrappedKey hlen) hu hrun ((hv'.storeKey 0 slot m).of_same rfl rfl)
    rw [State.storeKey, Nat.mul_zero, Nat.zero_add] at hruns
    exact congrArg _ hruns
  · exact congrArg _ (h.runs (commandsBy_loadWrappedKey hlen) hu (loadKey_of_refused hst hrefused) ((alone h).of_same rfl rfl))
  · subst hcurve his
    have hlen' : (cmdPayload c.body).length ≤ 73 := by
      have := curveLen_le (fieldLE (cmdPayload c.body) 1 1)
      omega
    have hrun := loadIssuer_of_good (alone h) hslot hcv hn hlong hlen hproto hreserved hform hon
    have hruns := h.runs (commandsBy_loadIssuerKey hlen') hu hrun ((alone h).storeIssuer ..)
    exact ⟨u.originsLost (fieldLE (cmdPayload c.body) 0 1), congrArg Host.Outcome.next hruns, fun x => mem_originsLost⟩
  · obtain ⟨hrun, hv'⟩ := eraseKey_of_key (alone h) hkind hslot hrange hissuer hunlocked hv
    exact congrArg _ (h.runs (commandsBy_eraseSlot hlen) hu hrun (hv'.storeKey ..))
  · have hrange' : slot < 32 := by rwa [hissuer] at hrange
    have hrun := eraseKey_of_issuer (alone h) (hkind.symm.trans hissuer) hslot hrange'
    have hruns := h.runs (commandsBy_eraseSlot hlen) hu hrun ((alone h).storeIssuer ..)
    exact ⟨u.originsLost slot, congrArg Host.Outcome.next hruns, fun x hx => originsLost_slot hx⟩
  · have hrun := eraseKey_of_locked (u := u) (hkind.symm.trans hfirst) (hslot.symm.trans hzero)
    exact congrArg _ (h.runs (commandsBy_eraseSlot hlen) hu hrun (alone h))
  · have hrun := releaseTag_of_listed hg (alone h).role (keys h ▸ hmem)
    exact congrArg _ (h.runs (commandsBy_releaseUid hlen) hu hrun ((alone h).of_same rfl rfl))
  · exact congrArg _ (h.runs (commandsBy_releaseUid hlen) hu (releaseTag_of_unlisted hg (keys h ▸ hmem)) (alone h))
  · subst hslot hmask
    exact congrArg _ (h.runs (commandsBy_setRightsMask hlen) hu (setMask_of_first hreserved hfirst hfits) (alone h))
  · subst hslot hmask
    have hrun := setMask_of_slot (u := u) hreserved hlow hhigh hfits
    exact congrArg _ (h.runs (commandsBy_setRightsMask hlen) hu hrun ((alone h).of_same rfl rfl))
  · subst hmask
    exact congrArg _ (h.runs (commandsBy_setRightsMask hlen) hu (setMask_of_range hover) (alone h))
  · have hsweeps : u.sweeps = s.sweeps := by
      obtain ⟨x, n, hrest⟩ := consumed_rest h.role c
      rw [hu, hrest]
    obtain ⟨hentries, hgen, hfresh, hchanges, hreport, hclosed, hempty⟩ :=
      emptyRoster_of_quiet (alone h) (hsweeps ▸ hheld) (hsweeps ▸ hclosing)
    have hrun : u.runObject 0x4003 1 (cmdPayload c.body) = (.ok, u.emptyRoster) := if_pos hpayload
    have hlen : (cmdPayload c.body).length = 24 := (congrArg List.length hpayload).trans (emptyPayload_length u)
    exact ⟨u.emptyRoster, congrArg _ (h.runs (commandsBy_emptyRoster hlen) hu hrun hempty), hentries, hgen, hfresh, hchanges, hreport, hclosed⟩

end Sys2Proof.Machine
end

section
/-!
PROOFS. The judgement of a burst, the Lantern scanner's bursts, and the ends of hold-offs (R227 to R232, R237, R239).
-/

namespace Sys2Proof.Machine

open Sys2Proof

/-! ### The sense state of a coil (R227, R230) -/

@[simp] theorem modSense_coilSense (s : State) (ca : Nat) (f : SenseCoil → SenseCoil) (a : Nat) :
    (s.modSense ca f).coilSense a = if a = ca then f (s.coilSense ca) else s.coilSense a := Tab.get_set _ _ _ _

/-- Of two changes of one coil the second sees what the first left. -/
theorem modSense_modSense (s : State) (ca : Nat) (f g : SenseCoil → SenseCoil) :
    (s.modSense ca f).modSense ca g = s.modSense ca (g ∘ f) := by
  have hown : (s.modSense ca f).coilSense ca = f (s.coilSense ca) := by simp
  unfold State.modSense at hown ⊢
  rw [hown]
  simp only [Tab.set_set, Function.comp]

/-- The baseline in use, entry by entry. -/
theorem SenseCoil.base_eq (c : SenseCoil) (closed : Bool) : c.base closed =
    (if closed then c.closedI else c.openI, if closed then c.closedQ else c.openQ, if closed then c.closedSet else c.openSet) := by
  cases closed <;> rfl

/-- A burst judged under rows 4 to 6 of R228. -/
def SenseCoil.seen (dev : Nat) (m : Int × Int) (c : SenseCoil) : SenseCoil := { c with dev := dev, last := m :: c.last.take 3 }

/-- A coil at the end of its detection hold-off. -/
def SenseCoil.relearned (closed : Bool) (c : SenseCoil) : SenseCoil :=
  if c.last = [] then { c with hold := false }
  else ({ c with hold := false } : SenseCoil).setBase closed (meanOf (c.last.map (·.1))) (meanOf (c.last.map (·.2)))

/-- A coil as a detect latches it, its hold-off running or not. -/
def SenseCoil.detected (held : Bool) (c : SenseCoil) : SenseCoil := { c with latched := true, hold := held, detects := c.detects + 1 }

theorem holdEnd_eq (s : State) (ca : Nat) : s.holdEnd ca = s.modSense ca (SenseCoil.relearned (s.doorClosed ca)) := rfl

theorem relearned_detected {c : SenseCoil} (h : c.last ≠ []) (closed : Bool) : (c.detected true).relearned closed =
    (c.detected false).setBase closed (meanOf (c.last.map (·.1))) (meanOf (c.last.map (·.2))) := if_neg h

/-! ### What a judgement may change -/

/-- From `v` to `t` a judgement left the coil at `ca` as `c` and kept the detects `l` for the cores, and nothing else changed. -/
structure State.Judged (v : State) (ca : Nat) (c : SenseCoil) (l : List (List Byte × Nat)) (t : State) : Prop where
  own : t.coilSense ca = c
  others : ∀ a, a ≠ ca → t.coilSense a = v.coilSense a
  late : t.sense.late = v.sense.late ++ l
  scan : t.sense.scanCoils = v.sense.scanCoils ∧ t.sense.repeating = v.sense.repeating
  rest : t = { v with sense := t.sense }

theorem State.Judged.refl (v : State) (ca : Nat) : v.Judged ca (v.coilSense ca) [] v where
  own := rfl
  others _ _ := rfl
  late := (List.append_nil _).symm
  scan := ⟨rfl, rfl⟩
  rest := rfl

theorem judged_modSense (v : State) (ca : Nat) (f : SenseCoil → SenseCoil) : v.Judged ca (f (v.coilSense ca)) [] (v.modSense ca f) where
  own := by simp
  others a ha := by simp [ha]
  late := (List.append_nil _).symm
  scan := ⟨rfl, rfl⟩
  rest := rfl

/-- A detect waits for the cores. -/
def State.keepLate (x : List Byte × Nat) (s : State) : State := { s with sense := { s.sense with late := s.sense.late ++ [x] } }

theorem State.Judged.keepLate {v t : State} {ca : Nat} {c : SenseCoil} (h : v.Judged ca c [] t) (x : List Byte × Nat) :
    v.Judged ca c [x] (t.keepLate x) := by
  obtain ⟨hown, hothers, hlate, hscan, hrest⟩ := h
  refine ⟨hown, hothers, ?_, hscan, ?_⟩
  · rw [List.append_nil] at hlate
    exact congrArg (· ++ [x]) hlate
  · unfold State.keepLate
    rw [hrest]

/-! ### The rows of R228 in Lantern -/

/-- The event and the start request of a detect in Lantern (R230). -/
def State.lateOf (v : State) (ca dev profile : Nat) (closed : Bool) (i q : Int) : List Byte × Nat :=
  ([b8 ca] ++ natLE 2 dev ++ [b8 (bit closed)] ++ natLE 2 (codeOf 16 i) ++ natLE 2 (codeOf 16 q) ++ [b8 profile], v.objNat (0x2500 + ca) 5)

/-- What a detect makes of its coil: a hold-off of 0 ms ends at once. -/
def State.latchedCoil (v : State) (ca : Nat) (closed : Bool) (c : SenseCoil) : SenseCoil :=
  if v.objNat (0x2500 + ca) 6 = 0 then (c.detected true).relearned closed else c.detected true

/-- A latched coil in the terms of R230, for a burst just recorded. -/
theorem latchedCoil_seen (v : State) (ca : Nat) (closed : Bool) (c : SenseCoil) (dev : Nat) (m : Int × Int) {latched : SenseCoil}
    (h : latched = (c.seen dev m).detected (decide (v.objNat (0x2500 + ca) 6 ≠ 0))) : v.latchedCoil ca closed (c.seen dev m) =
      if v.objNat (0x2500 + ca) 6 = 0 then
        latched.setBase closed (meanOf ((c.seen dev m).last.map (·.1))) (meanOf ((c.seen dev m).last.map (·.2)))
      else latched := by
  subst h
  unfold State.latchedCoil
  split
  · next hzero => simpa only [hzero, ne_eq, not_true, decide_false] using relearned_detected (c := c.seen dev m) (List.cons_ne_nil _ _) closed
  · next hpos => simp only [hpos, ne_eq, not_false_eq_true, decide_true]

/-- In Lantern a detect latches its coil and keeps its event and its request for the cores. -/
theorem detect_of_lantern {s : State} (hlantern : s.power.state = 1) {ca : Nat} {closed : Bool} (hclosed : closed = s.doorClosed ca) {i q : Int} {ok : Bool}
    (hbase : (s.coilSense ca).base closed = (i, q, ok)) (dev profile : Nat) :
    s.detect ca dev profile closed = (s.modSense ca (s.latchedCoil ca closed)).keepLate (s.lateOf ca dev profile closed i q) := by
  have hlatch : (s.modSense ca (SenseCoil.detected true)).when (decide (s.objNat (0x2500 + ca) 6 = 0)) (State.holdEnd ca) =
      s.modSense ca (s.latchedCoil ca closed) := by
    subst hclosed
    unfold State.latchedCoil
    by_cases hzero : s.objNat (0x2500 + ca) 6 = 0
    · simp only [State.when, hzero, decide_true, if_true, holdEnd_eq, modSense_modSense]
      rfl
    · simp only [State.when, hzero, decide_false, if_false, Bool.false_eq_true]
  have hpower := (congrArg (·.power.state) hlatch).trans hlantern
  unfold State.detect
  simp only [hbase]
  exact (if_pos hpower).trans (congrArg (fun u => u.keepLate (u.lateOf ca dev profile closed i q)) hlatch)

/-- A detect after the deviation is recorded. -/
theorem judged_detect {v : State} (hlantern : v.power.state = 1) {ca : Nat} {closed : Bool} (hclosed : closed = v.doorClosed ca) {i q : Int} {ok : Bool}
    (hbase : (v.coilSense ca).base closed = (i, q, ok)) (dev profile : Nat) (m : Int × Int) :
    v.Judged ca (v.latchedCoil ca closed ((v.coilSense ca).seen dev m)) [v.lateOf ca dev profile closed i q]
      ((v.modSense ca (SenseCoil.seen dev m)).detect ca dev profile closed) := by
  have hseen : ((v.modSense ca (SenseCoil.seen dev m)).coilSense ca).base closed = (i, q, ok) := by
    rw [modSense_coilSense, if_pos rfl]
    exact hbase
  rw [detect_of_lantern (s := v.modSense ca (SenseCoil.seen dev m)) hlantern hclosed hseen, modSense_modSense]
  exact (judged_modSense v ca (v.latchedCoil ca closed ∘ SenseCoil.seen dev m)).keepLate (v.lateOf ca dev profile closed i q)

/-- A baseline value adapts to a measured one by the shift (R229). -/
def adapted (k : Nat) (x m : Int) : Int := x + (m - x) / (2 ^ k : Nat)

/-- What a burst leaves of its coil, by the first row of R228 that applies; `i` and `q` are the baseline in use, `ok` tells that it is learned. -/
def State.coilAfter (v : State) (b : Burst) (closed noisy noadapt : Bool) (i q : Int) (ok : Bool) (dev : Nat) : SenseCoil :=
  let c := v.coilSense b.ca
  let seen := c.seen dev (b.i, b.q)
  if noisy = true then c
  else if ok = false then { c.setBase closed b.i b.q with dev := dev }
  else if c.hold = true ∨ c.doorHold = true then seen
  else if v.objNat (0x2500 + b.ca) 2 ≤ dev then v.latchedCoil b.ca closed seen
  else if noadapt = true then seen
  else seen.setBase closed (adapted (v.objNat 0x2400 1) i b.i) (adapted (v.objNat 0x2400 1) q b.q)

/-- What a burst keeps for the cores: its detect, if row 5 of R228 is the first that applies. -/
def State.lateAfter (v : State) (b : Burst) (profile : Nat) (closed noisy : Bool) (i q : Int) (ok : Bool) (dev : Nat) : List (List Byte × Nat) :=
  let c := v.coilSense b.ca
  if noisy = false ∧ ok = true ∧ ¬ (c.hold = true ∨ c.doorHold = true) ∧ v.objNat (0x2500 + b.ca) 2 ≤ dev then
    [v.lateOf b.ca dev profile closed i q] else []

/-- What a burst leaves and keeps depends on the objects and on the coil alone. -/
theorem coilAfter_of_same {s v : State} (hdict : v.dict = s.dict) (hsense : v.sense = s.sense) (b : Burst) (closed noisy noadapt : Bool) (i q : Int)
    (ok : Bool) (dev : Nat) : v.coilAfter b closed noisy noadapt i q ok dev = s.coilAfter b closed noisy noadapt i q ok dev := by
  unfold State.coilAfter State.latchedCoil State.coilSense State.objNat State.obj
  rw [hdict, hsense]

theorem lateAfter_of_same {s v : State} (hdict : v.dict = s.dict) (hsense : v.sense = s.sense) (b : Burst) (profile : Nat) (closed noisy : Bool) (i q : Int)
    (ok : Bool) (dev : Nat) : v.lateAfter b profile closed noisy i q ok dev = s.lateAfter b profile closed noisy i q ok dev := by
  unfold State.lateAfter State.lateOf State.coilSense State.objNat State.obj
  rw [hdict, hsense]

/-- In Lantern a burst is judged by the first row of R228 that applies. -/
theorem judgeBurst_of_lantern {v : State} (hlantern : v.power.state = 1) {b : Burst} {closed : Bool} (hclosed : closed = v.doorClosed b.ca)
    {i q : Int} {ok : Bool} (hbase : (v.coilSense b.ca).base closed = (i, q, ok)) {dev : Nat}
    (hdev : dev = min 65535 ((b.i - i).natAbs + (b.q - q).natAbs)) (profile : Nat) (noadapt : Bool) :
    ∃ j t, v.judgeBurst b profile closed noadapt = (j, t) ∧ decide (j.out = 4) = v.noisy b ∧
      v.Judged b.ca (v.coilAfter b closed (v.noisy b) noadapt i q ok dev)
        (v.lateAfter b profile closed (v.noisy b) i q ok dev) t := by
  simp only [State.judgeBurst, hbase, ← hdev, State.coilAfter, State.lateAfter]
  by_cases hnoisy : v.noisy b = true
  · simp only [hnoisy, if_true]
    exact ⟨_, _, rfl, rfl, .refl v b.ca⟩
  cases ok with
  | false =>
    simp only [hnoisy]
    exact ⟨_, _, rfl, rfl, judged_modSense v b.ca fun c => { c.setBase closed b.i b.q with dev := dev }⟩
  | true =>
    by_cases hheld : (v.coilSense b.ca).hold = true ∨ (v.coilSense b.ca).doorHold = true
    · simp only [hnoisy, hheld]
      exact ⟨_, _, rfl, rfl, judged_modSense v b.ca (SenseCoil.seen dev (b.i, b.q))⟩
    by_cases habove : v.objNat (0x2500 + b.ca) 2 ≤ dev
    · simp only [hnoisy, hheld, habove]
      exact ⟨_, _, rfl, rfl, judged_detect hlantern hclosed hbase dev profile (b.i, b.q)⟩
    cases noadapt with
    | true =>
      simp only [hnoisy, hheld, habove]
      exact ⟨_, _, rfl, rfl, judged_modSense v b.ca (SenseCoil.seen dev (b.i, b.q))⟩
    | false =>
      simp only [hnoisy, hheld, habove, modSense_modSense]
      exact ⟨_, _, rfl, rfl, judged_modSense v b.ca
        (SenseCoil.setBase closed (adapted (v.objNat 0x2400 1) i b.i) (adapted (v.objNat 0x2400 1) q b.q) ∘ SenseCoil.seen dev (b.i, b.q))⟩

/-! ### Bursts of the Lantern scanner (R237) -/

theorem lanternSettle_of_no_word {s : State} (h : s.sense.word = none) : s.lanternSettle = s := by
  unfold State.lanternSettle
  rw [h]

theorem execBurstEnd_of_lantern {s : State} (hlantern : s.power.state = 1) (b : Burst) :
    execBurstEnd .lantern [b] s = .next (s.lanternBurst b) := if_neg (Classical.not_not.2 hlantern)

theorem execBurstEnd_of_not_lantern {s : State} (h : s.power.state ≠ 1) (bs : List Burst) : execBurstEnd .lantern bs s = .next s := if_pos h

theorem lanternBurst_elsewhere {s : State} {b : Burst} (hword : s.sense.word = none)
    (h : s.sense.scanCoils.head? ≠ some b.ca ∨ s.connected b.ca = false) : s.lanternBurst b = s := by
  unfold State.lanternBurst
  rw [lanternSettle_of_no_word hword]
  exact if_pos h

/-- The scanner's coil is left: out of the scan, to repeat or not. -/
def State.coilLeft (ca : Nat) (again : Option Nat) (s : State) : State :=
  { s with sense := { s.sense with repeatCa := again, scanCoils := s.sense.scanCoils.filter (· ≠ ca), repeating := false, word := none } }

/-- The scanner's burst on the coil that it is at: the burst is put out and judged, and the coil is left. -/
theorem lanternBurst_of_connected {s v t : State} {b : Burst} {j : Judgement} (hword : s.sense.word = none)
    (hat : s.sense.scanCoils.head? = some b.ca) (hconn : s.connected b.ca = true) {q : List Byte} (hq : q = s.senseProfile (s.objNat 0x2400 5))
    (hv : v = (s.advance (usCt (fieldLE q 1 1))).emit (.senseBurst b.ca (min (-6) (signedOf 8 (fieldLE q 0 1))) (fieldLE q 1 1)))
    (hjudge : v.judgeBurst b (s.objNat 0x2400 5) (s.doorClosed b.ca) (decide (bitsOf (fieldLE q 2 1) 0 1 = 1)) = (j, t)) :
    s.lanternBurst b = (t.coilLeft b.ca (if (decide (j.out = 4) && !t.sense.repeating) = true then some b.ca else none)).lanternNext := by
  subst hv hq
  unfold State.lanternBurst
  rw [lanternSettle_of_no_word hword]
  refine (if_neg (by simp [hat, hconn])).trans ?_
  simp only [hjudge]
  rfl

section
variable {s : State}

theorem lanternNext_of_done (h : s.sense.scanCoils = []) : s.lanternNext = { s with sense := { s.sense with word := none } } := by
  unfold State.lanternNext
  rw [h]

/-- The scanner goes on to the next coil of its scan. -/
theorem lanternNext_of_coil {ca : Nat} {rest : List Nat} (h : s.sense.scanCoils = ca :: rest) : s.lanternNext =
    if s.connected ca = true ∨ s.wordsAllowed = false then { s with sense := { s.sense with word := none } }
    else { s.sendWord ca with sense := { s.sense with word := some (ca, 1, s.tb.cc) } } := by
  unfold State.lanternNext
  rw [h]
  simp only [Bool.not_eq_true]
  rfl

end

/-- A burst on the coil that the scanner is at, in Lantern. -/
theorem execBurstEnd_of_connected {s v : State} {b : Burst} (hlantern : s.power.state = 1) (hword : s.sense.word = none)
    (hat : s.sense.scanCoils.head? = some b.ca) (hconn : s.connected b.ca = true) {p : Nat} (hp : p = s.objNat 0x2400 5)
    {q : List Byte} (hq : q = s.senseProfile p) {closed : Bool} (hclosed : closed = s.doorClosed b.ca) {i0 q0 : Int} {ok : Bool}
    (hbase : (s.coilSense b.ca).base closed = (i0, q0, ok)) {dev : Nat} (hdev : dev = min 65535 ((b.i - i0).natAbs + (b.q - q0).natAbs))
    (hv : v = (s.advance (usCt (fieldLE q 1 1))).emit (.senseBurst b.ca (min (-6) (signedOf 8 (fieldLE q 0 1))) (fieldLE q 1 1)))
    {noisy : Bool} (hnoisy : noisy = decide ((b.energy : Rat) > (v.rx (b.ca / 16)).floor + (s.objNat (0x3010 + b.ca / 16) 1 : Nat))) :
    ∃ x : State, execBurstEnd .lantern [b] s = .next x.lanternNext ∧
      x.sense.scanCoils = s.sense.scanCoils.filter (· ≠ b.ca) ∧ x.sense.repeating = false ∧ x.sense.word = none ∧
      x.sense.repeatCa = (if noisy = true ∧ s.sense.repeating = false then some b.ca else none) ∧
      (∀ ca, ca ≠ b.ca → x.coilSense ca = s.coilSense ca) ∧
      x.coilSense b.ca = s.coilAfter b closed noisy (decide (fieldLE q 2 1 % 2 = 1)) i0 q0 ok dev ∧
      x.sense.late = s.sense.late ++ s.lateAfter b p closed noisy i0 q0 ok dev ∧ x = { v with sense := x.sense } := by
  have hdict : v.dict = s.dict := by simp [hv]
  have hsense : v.sense = s.sense := by simp [hv]
  have hpower : v.power.state = 1 := by simp [hv, hlantern]
  have hobj : v.obj = s.obj := by unfold State.obj; rw [hdict]
  have hcoil : v.coilSense = s.coilSense := by unfold State.coilSense; rw [hsense]
  have hclosed_v : closed = v.doorClosed b.ca := by
    rw [hclosed]
    unfold State.doorClosed State.objBool State.objNat
    rw [hobj]
  have hnoisy_v : v.noisy b = noisy := by
    rw [hnoisy]
    unfold State.noisy State.objNat
    rw [hobj]
    rfl
  have hnoadapt : bitsOf (fieldLE q 2 1) 0 1 = fieldLE q 2 1 % 2 := by simp [bitsOf]
  obtain ⟨j, t, hjudge, himpulse, hown, hothers, hlate, ⟨hscan, hrepeating⟩, hrest⟩ :=
    judgeBurst_of_lantern hpower hclosed_v (by rw [hcoil]; exact hbase) hdev p (decide (fieldLE q 2 1 % 2 = 1))
  rw [coilAfter_of_same hdict hsense, hnoisy_v] at hown
  rw [lateAfter_of_same hdict hsense, hnoisy_v, hsense] at hlate
  rw [hsense] at hscan hrepeating
  rw [hp, hclosed, ← hnoadapt] at hjudge
  rw [hp] at hq
  refine ⟨_, (execBurstEnd_of_lantern hlantern b).trans (congrArg _ (lanternBurst_of_connected hword hat hconn hq hv hjudge)),
    congrArg (List.filter _) hscan, rfl, rfl, ?_, fun ca hca => (hothers ca hca).trans (congrFun hcoil ca), hown, hlate, ?_⟩
  · simp only [State.coilLeft, himpulse, hnoisy_v, hrepeating, Bool.and_eq_true, Bool.not_eq_true']
  · unfold State.coilLeft
    rw [hrest]

/-! ### Means (R230) -/

theorem rat_le_add_one (x : Rat) : x ≤ x + 1 := by
  have h : x + 0 ≤ x + 1 := Rat.add_le_add_left.2 (by decide)
  rwa [Rat.add_zero] at h

/-- The mean of values lies within 1 of their exact mean, whichever way it is rounded. -/
theorem meanOf_bounds {l : List Int} (h : l ≠ []) : l.length * meanOf l ≤ l.sum + l.length ∧ l.sum ≤ l.length * meanOf l + l.length := by
  have hlen : (0 : Rat) < l.length := Rat.natCast_pos.2 (List.length_pos_iff.2 h)
  obtain ⟨m, hm⟩ : ∃ m : Rat, m = (l.sum : Rat) / l.length := ⟨_, rfl⟩
  have hsum : l.length * m = (l.sum : Rat) := by rw [hm, Rat.mul_comm, Rat.div_mul_cancel (Rat.ne_of_gt hlen)]
  have hmean : meanOf l = if Config.roundUp m then m.ceil else m.floor := by
    rw [hm, List.sum_eq_foldl]
    exact if_neg h
  obtain ⟨hlow, hhigh⟩ : (meanOf l : Rat) ≤ m + 1 ∧ m ≤ meanOf l + 1 := by
    rw [hmean]
    split
    · exact ⟨Rat.le_of_lt Rat.ceil_lt, Rat.le_trans Rat.le_ceil (rat_le_add_one _)⟩
    · exact ⟨Rat.le_trans (Rat.floor_le m) (rat_le_add_one m), Rat.sub_right_le_iff_le_add.1 (Rat.le_of_lt Rat.lt_floor)⟩
  have hupper : (l.length : Rat) * meanOf l ≤ l.sum + l.length := calc
    (l.length : Rat) * meanOf l ≤ l.length * (m + 1) := Rat.mul_le_mul_of_nonneg_left hlow (Rat.le_of_lt hlen)
    _ = l.sum + l.length := by rw [Rat.mul_add, Rat.mul_one, hsum]
  have hlower : (l.sum : Rat) ≤ l.length * meanOf l + l.length := calc
    (l.sum : Rat) = l.length * m := hsum.symm
    _ ≤ l.length * (meanOf l + 1) := Rat.mul_le_mul_of_nonneg_left hhigh (Rat.le_of_lt hlen)
    _ = l.length * meanOf l + l.length := by rw [Rat.mul_add, Rat.mul_one]
  constructor
  · refine Rat.intCast_le_intCast.1 ?_
    rw [Rat.intCast_mul, Rat.intCast_add, Rat.intCast_natCast]
    exact hupper
  · refine Rat.intCast_le_intCast.1 ?_
    rw [Rat.intCast_add, Rat.intCast_mul, Rat.intCast_natCast]
    exact hlower

/-! ### Ends of hold-offs (R230, R232) -/

theorem execHoldOffEnd_of_idle {s : State} {ca : BitVec 8} (h : (s.coilSense ca.toNat).hold = false) : execHoldOffEnd ca s = .next s := by
  unfold execHoldOffEnd
  simp [h]

theorem execHoldOffEnd_of_held {s : State} {ca : BitVec 8} (h : (s.coilSense ca.toNat).hold = true) :
    execHoldOffEnd ca s = .next (s.modSense ca.toNat (SenseCoil.relearned (s.doorClosed ca.toNat))) := by
  unfold execHoldOffEnd
  rw [if_pos h, holdEnd_eq]

/-- Settles O51: the scanner's burst is judged by the first row of R228 that applies, the coil is left and the next one follows; elsewhere and
outside Lantern nothing happens; an end of a hold-off changes its coil alone, and the mean that it takes is within 1 of the exact one. -/
theorem burstsAreJudged : Obligations.BurstsAreJudged := by
  unfold Obligations.BurstsAreJudged
  refine ⟨?_, fun s => ?_, fun s b hlantern hword h => ?_, fun s bs h => ?_,
    fun s ca c cl hc hcl => ⟨fun h => ?_, fun h => ?_, ?_⟩, fun l => meanOf_bounds⟩
  · intro s v b c cl ok noisy i0 q0 dev p q hlantern hword hat hconn hp hq hv hnoisy hc hcl hi hq0 hok
      hdev held above noAdapt seen sets toward latched
    subst hc
    have hbase : (s.coilSense b.ca).base cl = (i0, q0, ok) := by rw [SenseCoil.base_eq, hi, hq0, hok]
    obtain ⟨x, hx, hscan, hrep, hw, hca, hothers, hown, hlate, hframe⟩ :=
      execBurstEnd_of_connected hlantern hword hat hconn hp hq hcl hbase hdev hv hnoisy
    refine ⟨x, hx, hscan, hrep, hw, hca, hothers, ?_, ?_, hframe⟩
    · simp only [hown, State.coilAfter, latchedCoil_seen _ _ _ _ _ _ rfl, decide_eq_true_eq]
      rfl
    · rw [hlate, State.lateAfter, apply_ite (s.sense.late ++ ·), List.append_nil]
      rfl
  · split
    · next hdone => exact lanternNext_of_done hdone
    · next hcoil => exact lanternNext_of_coil hcoil
  · rw [exec_burstEnd, execBurstEnd_of_lantern hlantern, lanternBurst_elsewhere hword h]
  · rw [exec_burstEnd, execBurstEnd_of_not_lantern h]
  · subst hc
    exact execHoldOffEnd_of_idle h
  · subst hc hcl
    obtain ⟨hown, hothers, -, -, hrest⟩ := judged_modSense s ca.toNat (SenseCoil.relearned (s.doorClosed ca.toNat))
    exact ⟨_, execHoldOffEnd_of_held h, hothers, hown, hrest⟩
  · subst hc
    obtain ⟨hown, hothers, -, -, hrest⟩ := judged_modSense s ca.toNat fun c => { c with doorHold := false }
    exact ⟨_, rfl, hown, hothers, hrest⟩

end Sys2Proof.Machine
end

section
/-!
PROOFS. The canonical form of the three byte memories (R279, R280, R283, R297, R456). `State.Canonical.f` says that the operation
`f` keeps it, so that the proof for an operation reads as the operation does: `h.f.g` for first `f`, then `g`, and `hs.ite ht` for a
branch. Here: record updates, writes of bytes, branches and folds, and the operations that every module shares.
-/

namespace Sys2Proof.Machine

open Sys2Proof

variable {s t : State}

/-! ### Updates, writes, branches and folds -/

theorem State.Canonical.mem (h : s.Canonical) : Tab.wf memDefault s.mem = true := h.1
theorem State.Canonical.hostMem (h : s.Canonical) : Tab.wf (fun _ => (0 : Byte)) s.hostMem = true := h.2.1
theorem State.Canonical.pktMem (h : s.Canonical) : Tab.wf (fun _ => (0 : Byte)) s.pktMem = true := h.2.2

/-- A record update that leaves the three memories alone keeps their form. -/
theorem State.Canonical.frame {pending tb tracks chains feeders budget coilCal rxs bins capture template apdu roster sweeps report
    keys sense coreF coreH guest dbg ecc nvm settings aon journal observers recent proxied cmds linkF linkH linkT hostTs carried
    carrying fltF fltH records ring spi twin power radio nodes calib dict counts out fresh}
    (h : s.Canonical) :
    State.Canonical ⟨pending, tb, tracks, chains, feeders, budget, coilCal, rxs, bins, capture, template, apdu, roster, sweeps,
      report, keys, sense, coreF, coreH, guest, dbg, s.mem, s.hostMem, ecc, nvm, settings, aon, journal, observers, recent, proxied,
      cmds, linkF, linkH, linkT, hostTs, carried, carrying, fltF, fltH, records, ring, spi, twin, power, radio, s.pktMem, nodes,
      calib, dict, counts, out, fresh⟩ :=
  ⟨h.mem, h.hostMem, h.pktMem⟩

theorem State.Canonical.ite {c : Prop} {_ : Decidable c} (hs : s.Canonical) (ht : t.Canonical) : (if c then s else t).Canonical := by
  split
  · exact hs
  · exact ht

/-- A branch between two operations. -/
theorem State.Canonical.iteApply {c : Prop} {_ : Decidable c} {f g : State → State} (hf : (f s).Canonical) (hg : (g s).Canonical) :
    ((if c then f else g) s).Canonical := by
  split
  · exact hf
  · exact hg

/-- A branch that goes on from the state that the other branch leaves. -/
theorem State.Canonical.thenIf {c : Prop} {_ : Decidable c} (h : s.Canonical) (ht : s.Canonical → t.Canonical) :
    (if c then t else s).Canonical := (ht h).ite h

theorem State.Canonical.elseIf {c : Prop} {_ : Decidable c} (h : s.Canonical) (ht : s.Canonical → t.Canonical) :
    (if c then s else t).Canonical := h.ite (ht h)

theorem State.Canonical.foldl {α : Type} {f : State → α → State} {l : List α} (h : s.Canonical)
    (hf : ∀ s, s.Canonical → ∀ a, (f s a).Canonical) : (l.foldl f s).Canonical :=
  List.foldlRecOn l f h fun s hs a _ => hf s hs a

/-- A fold that carries a value beside the state. -/
theorem State.Canonical.foldl_snd {α β : Type} {f : β × State → α → β × State} {l : List α} {p : β × State} (hp : p.2.Canonical)
    (hf : ∀ p, p.2.Canonical → ∀ a, (f p a).2.Canonical) : (l.foldl f p).2.Canonical :=
  List.foldlRecOn (motive := fun p => p.2.Canonical) l f hp fun p hp a _ => hf p hp a

/-- One byte written into field memory. -/
theorem State.Canonical.setMem {a : Nat} {v : Byte} (h : s.Canonical) : ({ s with mem := Memory.set s.mem a v } : State).Canonical :=
  ⟨memory_set_wf h.mem a v, h.hostMem, h.pktMem⟩

/-- A result whose state, if it is one, holds its memories in canonical form. -/
def Result.Canonical (r : Result) : Prop := ∀ t, r = .next t → t.Canonical

theorem State.Canonical.next (h : s.Canonical) : Result.Canonical (.next s) := fun _ e => by cases e; exact h

theorem Result.Canonical.ite {c : Prop} {_ : Decidable c} {r r' : Result} (hr : Result.Canonical r) (hr' : Result.Canonical r') :
    Result.Canonical (if c then r else r') := by
  split
  · exact hr
  · exact hr'

/-! ### Shared operations -/

theorem State.Canonical.each {l : List Nat} {f : Nat → State → State} (h : s.Canonical)
    (hf : ∀ i s, s.Canonical → (f i s).Canonical) : (s.each l f).Canonical := h.foldl fun _ h i => hf i _ h

theorem State.Canonical.when {c : Bool} {f : State → State} (h : s.Canonical) (hf : ∀ s, s.Canonical → (f s).Canonical) :
    (s.when c f).Canonical := (hf s h).ite h

theorem State.Canonical.writeByte {a : Nat} {v : Byte} (h : s.Canonical) : (s.writeByte a v).Canonical := by
  fun_cases State.writeByte
  · exact h.frame
  · exact h.frame
  · exact h
  · exact h.setMem

theorem State.Canonical.writeBytes {a : Nat} {l : List Byte} (h : s.Canonical) : (s.writeBytes a l).Canonical := by
  induction l generalizing a s with
  | nil => exact h
  | cons v l ih => exact ih h.writeByte

theorem State.Canonical.hitBins {a b : Nat} (h : s.Canonical) : (s.hitBins a b).Canonical := h.ite (h.each fun _ _ h => h.frame)

theorem State.Canonical.runMark {v : Nat} (h : s.Canonical) : (s.runMark v).Canonical := by
  fun_cases State.runMark
  · exact h.hitBins.frame
  · exact h

theorem State.Canonical.splitMark {v : Nat} (h : s.Canonical) : (s.splitMark v).Canonical := by
  fun_cases State.splitMark
  · exact h.hitBins.frame
  · exact h

theorem State.Canonical.mapCycle (h : s.Canonical) : s.mapCycle.Canonical := h.ite h.frame

theorem State.Canonical.cycleEnd (h : s.Canonical) : s.cycleEnd.Canonical := (h.each fun _ _ h => h.runMark).mapCycle.frame

theorem State.Canonical.advanceLoop {fuel n : Nat} (h : s.Canonical) : (s.advanceLoop fuel n).Canonical := by
  induction fuel generalizing n s with
  | zero => exact h.frame
  | succ fuel ih => exact (ih h.frame.cycleEnd).ite h.frame

theorem State.Canonical.advance {n : Nat} (h : s.Canonical) : (s.advance n).Canonical := h.ite (h.frame.ite h.advanceLoop)

theorem State.Canonical.tick (h : s.Canonical) : s.tick.Canonical := h.advance

theorem State.Canonical.advanceTo {cc : Nat} (h : s.Canonical) : (s.advanceTo cc).Canonical := h.ite h.advance

theorem State.Canonical.advanceTs {ts : Nat} (h : s.Canonical) : (s.advanceTs ts).Canonical := h.advance

theorem State.Canonical.setCore {k : Die} {c : Kenier} (h : s.Canonical) : (s.setCore k c).Canonical := by
  fun_cases State.setCore <;> exact h.frame

theorem State.Canonical.modCore {k : Die} {f : Kenier → Kenier} (h : s.Canonical) : (s.modCore k f).Canonical := h.setCore

theorem State.Canonical.irqSet {k : Die} {n : Nat} (h : s.Canonical) : (s.irqSet k n).Canonical := h.modCore

theorem State.Canonical.irqClear {k : Die} {n : Nat} (h : s.Canonical) : (s.irqClear k n).Canonical := h.modCore

theorem State.Canonical.setLink {e : LinkEnd} {l : Link} (h : s.Canonical) : (s.setLink e l).Canonical := by
  fun_cases State.setLink <;> exact h.frame

theorem State.Canonical.modLink {e : LinkEnd} {f : Link → Link} (h : s.Canonical) : (s.modLink e f).Canonical := h.setLink

theorem State.Canonical.pump {e : LinkEnd} {fuel : Nat} (h : s.Canonical) : (s.pump e fuel).Canonical := by
  induction fuel generalizing s with
  | zero => exact h
  | succ fuel ih =>
    unfold State.pump
    dsimp only
    split
    · exact h
    · exact h.ite (ih h.setLink.frame)

theorem State.Canonical.send {e : LinkEnd} {typ : Nat} {body : Payload} (h : s.Canonical) : (s.send e typ body).Canonical :=
  h.frame.ite h.modLink.pump

theorem State.Canonical.sendHello {e : LinkEnd} (h : s.Canonical) : (s.sendHello e).Canonical := h.send.ite h.send

theorem State.Canonical.sendPair (h : s.Canonical) : s.sendPair.Canonical := h.send

theorem State.Canonical.pin {n level : Nat} (h : s.Canonical) : (s.pin n level).Canonical := h.ite h.frame

theorem State.Canonical.mirror {typ : Nat} {body : Payload} (h : s.Canonical) : (s.mirror typ body).Canonical := h.send.ite h

theorem State.Canonical.deliver {r : JRec} (h : s.Canonical) : (s.deliver r).Canonical := (h.ite h.send).send

theorem State.Canonical.reserveEsn (h : s.Canonical) : s.reserveEsn.Canonical := h.ite h.frame.frame.mirror

theorem State.Canonical.reserveOff (h : s.Canonical) : s.reserveOff.Canonical := h.ite h.frame.mirror

theorem State.Canonical.announce {r : JRec} (h : s.Canonical) : (s.announce r).Canonical := h.frame.send.ite h.mirror.deliver

theorem State.Canonical.append {g typ : Nat} {data : List Byte} (h : s.Canonical) : (s.append g typ data).Canonical :=
  h.reserveEsn.reserveOff.frame.announce

theorem State.Canonical.makeRoom (h : s.Canonical) : s.makeRoom.Canonical := h.ite (h.frame.append.frame.ite h.frame)

theorem State.Canonical.commit {g typ : Nat} {data : List Byte} (h : s.Canonical) : (s.commit g typ data).Canonical :=
  h.ite h.makeRoom.append

theorem State.Canonical.release (h : s.Canonical) : s.release.Canonical := by
  fun_cases State.release
  · exact h.frame
  · exact h.frame.when fun _ h => h.frame

end Sys2Proof.Machine
end

section
/-!
PROOFS. Tracks, faults, stages and emission keep the canonical form of the memories.
-/

namespace Sys2Proof.Machine

open Sys2Proof

variable {s t : State}

/-! ### Tracks (R61, R74 to R80) -/

theorem State.Canonical.dropChain {x : Nat} (h : s.Canonical) : (s.dropChain x).Canonical := h.frame.frame

theorem State.Canonical.dropChains {t : Nat} (h : s.Canonical) : (s.dropChains t).Canonical := by
  fun_cases State.dropChains
  · exact (h.each fun _ _ h => h.dropChain).dropChain
  · exact h.each fun _ _ h => h.dropChain
  · exact h.each fun _ _ h => h.dropChain

theorem State.Canonical.endLent {t : Nat} (h : s.Canonical) : (s.endLent t).Canonical := by
  fun_cases State.endLent
  · exact h
  · exact h
  · exact h.dropChain.frame

theorem State.Canonical.dropTraining {t : Nat} (h : s.Canonical) : (s.dropTraining t).Canonical := (h.each fun _ _ h => h.frame).ite h

theorem State.Canonical.postHalt {t reason : Nat} (h : s.Canonical) : (s.postHalt t reason).Canonical := h.frame.ite h.frame

theorem State.Canonical.endCredential {t : Nat} (h : s.Canonical) : (s.endCredential t).Canonical := by
  fun_cases State.endCredential
  · exact h
  · exact h.frame.mirror

theorem State.Canonical.stopTrack {t reason : Nat} {post : Bool} (h : s.Canonical) : (s.stopTrack t reason post).Canonical :=
  h.dropTraining.dropChains.endCredential.frame.frame.thenIf fun h => h.postHalt

theorem State.Canonical.resume {t after : Nat} (h : s.Canonical) : (s.resume t after).Canonical := by
  fun_cases State.resume
  · exact h.frame
  · exact h.stopTrack
  all_goals exact h.frame

theorem State.Canonical.post {t : Nat} {pkt : List (List Byte)} {after : Nat} {irq : Bool} (h : s.Canonical) :
    (s.post t pkt after irq).Canonical :=
  (h.frame.when fun _ h => h.irqSet).resume.ite h.frame

theorem State.Canonical.releaseHeld {t : Nat} (h : s.Canonical) : (s.releaseHeld t).Canonical :=
  h.ite (h.frame.when fun _ h => h.irqSet).resume

theorem State.Canonical.abortTrack {reason t : Nat} (h : s.Canonical) : (s.abortTrack reason t).Canonical :=
  h.ite (h.frame.ite (h.frame.ite (h.endLent.stopTrack.ite h.endLent.stopTrack.frame)))

theorem State.Canonical.safeTrack {t : Nat} (h : s.Canonical) : (s.safeTrack t).Canonical := h.abortTrack.frame

/-! ### Fault collection, the safe state, Halt (R381 to R396) -/

theorem State.Canonical.setCollector {d : Die} {c : Collector} (h : s.Canonical) : (s.setCollector d c).Canonical := by
  fun_cases State.setCollector <;> exact h.frame

theorem State.Canonical.txResult {c : TxCmd} {res : Nat} (h : s.Canonical) : (s.txResult c res).Canonical := h.frame.ite h.frame.commit

theorem State.Canonical.radioHalt (h : s.Canonical) : s.radioHalt.Canonical :=
  (State.Canonical.frame (by split; exact h.frame; exact h)).foldl fun _ h _ => h.txResult

theorem State.Canonical.calibInterrupt (h : s.Canonical) : s.calibInterrupt.Canonical := by
  fun_cases State.calibInterrupt
  · exact h
  · exact ((h.frame.each fun _ _ h => h.frame).each fun _ _ h => h.frame).commit

theorem State.Canonical.sweepStop (h : s.Canonical) : s.sweepStop.Canonical := by
  fun_cases State.sweepStop
  · exact h
  · exact h.frame

theorem State.Canonical.safeState {fr : List Byte} (h : s.Canonical) : (s.safeState fr).Canonical :=
  ((h.each fun _ _ h => h.safeTrack).each fun _ _ h => h.frame).sweepStop.calibInterrupt.radioHalt.frame

theorem State.Canonical.haltDie {d : Die} (h : s.Canonical) : (s.haltDie d).Canonical := by
  fun_cases State.haltDie
  · exact h.modCore.setCollector.frame.pin.when fun _ h => h.send
  · exact h.modCore.setCollector.frame

theorem State.Canonical.react {d : Die} {eff : Nat} {fr : List Byte} (h : s.Canonical) : (s.react d eff fr).Canonical := by
  cases d with
  | field => exact ((h.when fun _ h => h.safeState).when fun _ h => h.frame).when fun _ h => h.haltDie
  | host => exact (h.when fun _ h => h.frame).when fun _ h => h.haltDie

theorem State.Canonical.drainHost (h : s.Canonical) : s.drainHost.Canonical := h.ite (h.frame.foldl fun _ h _ => h.send)

theorem State.Canonical.raiseFaultAt {d : Die} {cls cause raised : Nat} {detail : List Byte} {acc : Option Access} (h : s.Canonical) :
    (s.raiseFaultAt d cls cause raised detail acc).Canonical :=
  (h.setCollector.ite h.setCollector.react).drainHost.ite (h.setCollector.ite h.setCollector.react)

theorem State.Canonical.raiseFault {d : Die} {cls cause raised : Nat} {detail : List Byte} (h : s.Canonical) :
    (s.raiseFault d cls cause raised detail).Canonical :=
  h.raiseFaultAt

theorem State.Canonical.eccFault {a master typ : Nat} (h : s.Canonical) : (s.eccFault a master typ).Canonical :=
  (h.frame.when fun _ h => (h.frame.ite h).frame).raiseFaultAt

theorem State.Canonical.rejoin (h : s.Canonical) : s.rejoin.Canonical := (h.frame.sendHello.sendPair.ite h.frame).ite h

theorem State.Canonical.safeEnd (h : s.Canonical) : s.safeEnd.Canonical := h.frame.rejoin.ite h

theorem State.Canonical.ackEffects {mask : Nat} (h : s.Canonical) : (s.ackEffects mask).Canonical :=
  (h.when fun _ h => h.each fun _ _ h => h.frame).when fun _ h => h.frame

theorem State.Canonical.ackDie {d : Die} {mask : Nat} (h : s.Canonical) : (s.ackDie d mask).Canonical := by
  fun_cases State.ackDie
  · exact h.setCollector.ackEffects.safeEnd
  · exact h.setCollector.frame
  · exact h.setCollector

/-! ### Stages (R58 to R73, R138) -/

theorem State.Canonical.illegal {t : Nat} (h : s.Canonical) : (s.illegal t).Canonical := h.stopTrack

theorem State.Canonical.fetchStop {t a typ : Nat} (h : s.Canonical) : (s.fetchStop t a typ).Canonical := h.stopTrack.eccFault

theorem State.Canonical.eccFix {a n : Nat} (h : s.Canonical) : (s.eccFix a n).Canonical := h.each fun _ _ h => h.frame

theorem State.Canonical.readStage {t : Nat} (h : s.Canonical) : (s.readStage t).Canonical := (h.eccFix.foldl fun _ h _ => h.eccFix).frame

theorem State.Canonical.startAction {t cc given : Nat} {late : Bool} {g : Stage} (h : s.Canonical) :
    (s.startAction t cc given late g).Canonical :=
  h.advanceTo.frame

theorem State.Canonical.beginStage {t kind : Nat} {air : Bool} {chk : Stage → State → Check} {act : Stage → State → State}
    (h : s.Canonical) (ha : ∀ g s, s.Canonical → (act g s).Canonical) : (s.beginStage t kind air chk act).Canonical := by
  fun_cases State.beginStage
  · exact h
  · exact h.fetchStop
  · exact h
  · exact h.readStage.illegal
  · exact h.readStage.illegal
  · exact h.readStage.illegal
  · exact h.readStage.fetchStop
  · exact h.readStage.frame
  · exact h.readStage.illegal
  · exact h.readStage.fetchStop
  · exact ha _ _ h.readStage.startAction

theorem State.Canonical.goOn {t : Nat} (h : s.Canonical) : (s.goOn t).Canonical := h.resume

theorem State.Canonical.endPlain {t out : Nat} (h : s.Canonical) : (s.endPlain t out).Canonical := h.frame.frame.goOn

theorem State.Canonical.endAir {t out : Nat} {dtrunc : Bool} {r : ResultInfo} {rest : List (Nat × List Byte)} (h : s.Canonical) :
    (s.endAir t out dtrunc r rest).Canonical :=
  h.frame.frame.frame.post.ite h.frame.frame.goOn

theorem State.Canonical.endSimple {t out : Nat} (h : s.Canonical) : (s.endSimple t out).Canonical := h.endAir

theorem State.Canonical.meetRelease {mask : Nat} (h : s.Canonical) : (s.meetRelease mask).Canonical :=
  h.ite (h.advance.each fun _ _ h => h.frame.endPlain)

theorem State.Canonical.verdict {t w : Nat} (h : s.Canonical) : (s.verdict t w).Canonical :=
  h.frame.ite (h.frame.frame.resume.ite h.frame.frame.frame.resume)

theorem State.Canonical.stackStop {t : Nat} (h : s.Canonical) : (s.stackStop t).Canonical := h.stopTrack.raiseFault

theorem State.Canonical.execReturnStage {t : Fin 9} (h : s.Canonical) : Result.Canonical (execReturnStage t s) := by
  refine (h.beginStage fun _ _ h => ?_).next
  dsimp only
  split
  · exact h.stackStop
  · exact h.advance.frame.goOn

theorem State.Canonical.credentialResult {t : Nat} (h : s.Canonical) : (s.credentialResult t).Canonical := by
  fun_cases State.credentialResult
  · exact h
  · exact h.frame.commit
  · exact h.commit

theorem State.Canonical.execHorizonEnd {t : Fin 9} (h : s.Canonical) : Result.Canonical (execHorizonEnd t s) := by
  fun_cases execHorizonEnd
  · exact (h.advanceTo.frame.endSimple.ite ((h.advanceTo.frame.frame.frame.post.ite h.advanceTo.frame.frame.frame.goOn).ite
      h.advanceTo.frame.endPlain)).next
  · exact h.next

theorem State.Canonical.qpop {t : Nat} (h : s.Canonical) : (s.qpop t).Canonical := h.frame.when fun _ h => h.irqClear

theorem State.Canonical.qflush {t : Nat} (h : s.Canonical) : (s.qflush t).Canonical := h.frame.ite h.frame.irqClear.releaseHeld

theorem State.Canonical.raiseLevel (h : s.Canonical) : s.raiseLevel.Canonical := h.frame.ite h

theorem State.Canonical.startTrack {t entry : Nat} (h : s.Canonical) : (s.startTrack t entry).Canonical :=
  h.frame.frame.ite (h.frame.ite h.frame.raiseLevel.frame)

theorem State.Canonical.stopStage {t : Nat} (h : s.Canonical) : (s.stopStage t).Canonical := by
  fun_cases State.stopStage
  · exact h
  · exact h.stopTrack
  · exact h.frame
  · exact h.stopTrack
  · exact h.frame
  · exact h
  · exact h.stopTrack

/-! ### Emission, training, windows (R60 to R63, R102 to R133) -/

theorem State.Canonical.setRange {v range cc : Nat} (h : s.Canonical) : (s.setRange v range cc).Canonical := h.frame.frame.ite h.frame

theorem State.Canonical.loopStep {v : Nat} (h : s.Canonical) : (s.loopStep v).Canonical := h.frame.frame.frame.frame.ite h

theorem State.Canonical.idle (h : s.Canonical) : s.idle.Canonical := (h.each fun _ _ h => h.loopStep).tick

theorem State.Canonical.startTraining {v : Nat} (h : s.Canonical) : (s.startTraining v).Canonical := h.frame.ite h.frame.setRange.frame

theorem State.Canonical.openChain {gain v : Nat} (h : s.Canonical) : (s.openChain gain v).Canonical :=
  (h.when fun _ h => h.loopStep.frame).setRange

theorem State.Canonical.openWindow {t ref : Nat} (h : s.Canonical) : (s.openWindow t ref).Canonical :=
  ((h.each fun _ _ h => h.openChain).when fun _ h => h.frame).frame

theorem State.Canonical.modulate {t : Nat} {on : Bool} (h : s.Canonical) : (s.modulate t on).Canonical :=
  (h.each fun _ _ h => h.frame).ite ((h.each fun _ _ h => h.frame).each fun _ _ h => h.frame)

theorem State.Canonical.emitFrame {t : Nat} (h : s.Canonical) : (s.emitFrame t).Canonical :=
  (h.frame.endSimple.ite h.frame.openWindow).ite (h.fetchStop.ite (h.frame.each fun _ _ h => h.frame).modulate.frame)

theorem State.Canonical.airGo {t : Nat} (h : s.Canonical) : (s.airGo t).Canonical := h.frame.openWindow.ite h.frame.emitFrame

theorem State.Canonical.prepareListen {t : Nat} (h : s.Canonical) : (s.prepareListen t).Canonical :=
  h.frame.ite (h.airGo.ite (h.each fun _ _ h => h.startTraining).frame)

theorem State.Canonical.unlessLent {t : Nat} {f : State → State} (h : s.Canonical) (hf : ∀ s, s.Canonical → (f s).Canonical) :
    (s.unlessLent t f).Canonical := h.frame.ite (hf s h)

end Sys2Proof.Machine
end

section
/-!
PROOFS. Outgoing units, the links, the field engine and the receiver keep the canonical form of the memories.
-/

namespace Sys2Proof.Machine

open Sys2Proof

variable {s t : State}

/-! ### Units on their way out (R306, R307, R324, R325) -/

theorem State.Canonical.spiQueue {k : Sel} {u : List Byte} (h : s.Canonical) : (s.spiQueue k u).Canonical := h.frame.frame

theorem State.Canonical.sendUnit {p : Peer} {u : List Byte} (h : s.Canonical) : (s.sendUnit p u).Canonical := by
  fun_cases State.sendUnit
  · exact h.frame
  · exact h.spiQueue

theorem State.Canonical.reply {r : Reply} (h : s.Canonical) : (s.reply r).Canonical := by
  fun_cases State.reply
  · exact (h.ite h.frame).sendUnit
  · exact h.frame
  · exact h.send

theorem State.Canonical.proxy {p : Proxied} (h : s.Canonical) : (s.proxy p).Canonical := by
  fun_cases State.proxy <;> exact h.frame.send

theorem State.Canonical.proxyAnswer {peer : Peer} {rid : Nat} {q : Option DictReq} {resp : List Byte} (h : s.Canonical) :
    (s.proxyAnswer peer rid q resp).Canonical := by
  fun_cases State.proxyAnswer
  · exact h.frame.reply
  · exact h

theorem State.Canonical.replyAfter {key : Option Payload} {r : Reply} (h : s.Canonical) : (s.replyAfter key r).Canonical := by
  fun_cases State.replyAfter
  · exact h.frame
  · exact h.reply
  · exact h.reply

theorem State.Canonical.sendRecords {k : Nat} {rs : List JRec} (h : s.Canonical) : (s.sendRecords k rs).Canonical :=
  h.foldl fun _ h _ => h.sendUnit

theorem State.Canonical.streamOut {k : Nat} (h : s.Canonical) : (s.streamOut k).Canonical := by
  fun_cases State.streamOut
  · exact h
  · exact h
  · exact h.frame.sendRecords

theorem State.Canonical.streamAll (h : s.Canonical) : s.streamAll.Canonical := h.each fun _ _ h => h.streamOut

theorem State.Canonical.resendStore {k : Nat} (h : s.Canonical) : (s.resendStore k).Canonical := h.ite h.frame.frame.streamOut

theorem State.Canonical.repair {k start count : Nat} (h : s.Canonical) : (s.repair k start count).Canonical :=
  h.ite (h.sendRecords.sendUnit.ite h.sendRecords)

theorem State.Canonical.sendEvents {p : Peer} {dropped resent : Bool} {rs : List JRec} (h : s.Canonical) :
    (s.sendEvents p dropped resent rs).Canonical :=
  h.foldl fun _ h _ => h.ite h.sendUnit

theorem State.Canonical.notify {rs : List JRec} {o : Observer} (h : s.Canonical) : (s.notify rs o).Canonical := h.ite h.frame.sendEvents

theorem State.Canonical.notifyAll {rs : List JRec} (h : s.Canonical) : (s.notifyAll rs).Canonical := h.foldl fun _ h _ => h.notify

theorem State.Canonical.resendEvents {p : Peer} (h : s.Canonical) : (s.resendEvents p).Canonical := by
  fun_cases State.resendEvents
  · exact h
  · exact h
  · exact h.frame.sendEvents

/-! ### The receiver of a message link (R24 to R28) -/

theorem State.Canonical.sendAck {e : LinkEnd} (h : s.Canonical) : (s.sendAck e).Canonical := h.modLink.send

theorem State.Canonical.sendResync {e : LinkEnd} (h : s.Canonical) : (s.sendResync e).Canonical := h.send

theorem State.Canonical.linkUps {e : LinkEnd} (h : s.Canonical) : (s.linkUps e).Canonical :=
  h.ite (h.modLink.sendResync.frame.frame.sendHello.ite h.modLink.sendResync)

theorem State.Canonical.receive {e : LinkEnd} {typ : Nat} {f : List Byte} {deliver : State → State} (h : s.Canonical)
    (hd : ∀ s, s.Canonical → (deliver s).Canonical) : (s.receive e typ f deliver).Canonical :=
  have h1 := h.ite h.linkUps
  h.ite (h1.modLink.sendAck.ite (h.ite ((hd _ h1).ite (hd _ h1.modLink))))

theorem State.Canonical.retransmit {e : LinkEnd} (h : s.Canonical) : (s.retransmit e).Canonical := h.modLink.foldl fun _ h _ => h.frame

theorem State.Canonical.echoBack {e : LinkEnd} {f : List Byte} (h : s.Canonical) : (s.echoBack e f).Canonical := h.send

/-! ### The field engine (R82 to R114) -/

theorem State.Canonical.noteSum (h : s.Canonical) : s.noteSum.Canonical := h.frame.ite h

theorem State.Canonical.endSelect {t out : Nat} (h : s.Canonical) : (s.endSelect t out).Canonical := (h.when fun _ h => h.frame).endAir

theorem State.Canonical.sendWord {ca : Nat} (h : s.Canonical) : (s.sendWord ca).Canonical := h.frame.frame

theorem State.Canonical.sendWords {t tries : Nat} {cas : List Nat} (h : s.Canonical) : (s.sendWords t tries cas).Canonical :=
  (h.each fun _ _ h => h.sendWord).frame

theorem State.Canonical.wordGo {t : Nat} (h : s.Canonical) : (s.wordGo t).Canonical := h.frame.ite h.sendWords

theorem State.Canonical.routeAndSend {t : Nat} (h : s.Canonical) : (s.routeAndSend t).Canonical :=
  h.illegal.raiseFault.ite ((h.foldl fun _ h _ => h.frame).endSelect.ite (h.foldl fun _ h _ => h.frame).wordGo)

theorem State.Canonical.selectGo {t : Nat} (h : s.Canonical) : (s.selectGo t).Canonical :=
  h.frame.ite (h.frame.ite (h.frame.ite (((h.when fun _ h => h.frame).each fun _ _ h => h.frame).frame.frame.ite
    ((h.when fun _ h => h.frame).each fun _ _ h => h.frame).frame.routeAndSend)))

theorem State.Canonical.beginSelect {t : Nat} {ms : List Member} (h : s.Canonical) : (s.beginSelect t ms).Canonical :=
  ((h.each fun _ _ h => h.dropChain).when fun _ h => h.frame.dropChain).frame.selectGo

theorem State.Canonical.execAcknowledgePulse {p : AckPulse} (h : s.Canonical) : Result.Canonical (execAcknowledgePulse p s) := by
  fun_cases execAcknowledgePulse
  · exact (h.advanceTo.frame.ite h.advanceTo).next
  · exact h.next

theorem State.Canonical.startRamps {t : Nat} (h : s.Canonical) : (s.startRamps t).Canonical :=
  ((h.foldl fun _ h _ => h.frame).foldl fun _ h _ => h.frame).frame.noteSum

theorem State.Canonical.admission {t : Nat} (h : s.Canonical) : (s.admission t).Canonical :=
  (h.each fun _ _ h => h.frame).endSelect.ite (h.startRamps.ite h.frame.frame.frame)

theorem State.Canonical.noAck {t : Nat} {fs : List Nat} (h : s.Canonical) : (s.noAck t fs).Canonical :=
  h.endSelect.each fun _ _ h => h.frame.when fun _ h => h.raiseFault

theorem State.Canonical.settled {t tries : Nat} {un : List Nat} (h : s.Canonical) : (s.settled t tries un).Canonical :=
  (h.admission.ite h.frame).ite (h.sendWords.ite (h.noAck.ite h.frame))

theorem State.Canonical.execSelectorSettle {t : Fin 9} (h : s.Canonical) : Result.Canonical (execSelectorSettle t s) := by
  fun_cases execSelectorSettle
  · exact (h.advanceTo.each fun _ _ h => h.frame).settled.next
  · exact h.next

theorem State.Canonical.admitWaiters {fuel : Nat} (h : s.Canonical) : (s.admitWaiters fuel).Canonical := by
  induction fuel generalizing s with
  | zero => exact h
  | succ fuel ih =>
    unfold State.admitWaiters
    split
    · exact h
    · exact (ih h.frame.startRamps).ite h

theorem State.Canonical.trainMembers {t : Nat} (h : s.Canonical) : (s.trainMembers t).Canonical :=
  (h.each fun _ _ h => h.startTraining).frame

theorem State.Canonical.upEnd {x t : Nat} (h : s.Canonical) : (s.upEnd x t).Canonical :=
  h.frame.frame.frame.trainMembers.ite h.frame.frame.frame

theorem State.Canonical.downEnd {x t : Nat} (h : s.Canonical) : (s.downEnd x t).Canonical :=
  (h.frame.frame.routeAndSend.ite (h.frame.frame.endSelect.ite h.frame.frame)).each fun _ _ h => h.wordGo

theorem State.Canonical.rampEnd {x : Nat} (h : s.Canonical) : (s.rampEnd x).Canonical :=
  h.ite (h.advanceTo.frame.upEnd.ite h.advanceTo.frame.downEnd)

theorem State.Canonical.afterTraining {t : Nat} (h : s.Canonical) : (s.afterTraining t).Canonical := (h.endSelect.ite h.airGo).ite h

theorem State.Canonical.trainingComplete {f depth range ci cq : Nat} (h : s.Canonical) :
    (s.trainingComplete f depth range ci cq).Canonical :=
  h.ite ((h.advanceTo.frame.frame.setRange.when fun _ h => h.raiseFault.iteApply h.raiseFault).each fun _ _ h => h.afterTraining)

theorem State.Canonical.resourceWaitEnd {t : Nat} (h : s.Canonical) : (s.resourceWaitEnd t).Canonical := by
  fun_cases State.resourceWaitEnd
  · exact h.selectGo
  · exact h
  · exact h.selectGo
  · exact h
  · exact h.emitFrame
  · exact h.prepareListen
  · exact h.prepareListen
  · exact (h.each fun _ _ h => h.startTraining.ite h).frame.afterTraining
  · exact h

theorem State.Canonical.feederFault {f status cause level ma : Nat} (h : s.Canonical) : (s.feederFault f status cause level ma).Canonical :=
  h.frame.raiseFault

theorem State.Canonical.execFeederFenced {f : Fin 16} {fwd refl : Nat} (h : s.Canonical) :
    Result.Canonical (execFeederFenced f fwd refl s) := by
  fun_cases execFeederFenced
  · exact h.next
  · exact h.next
  · exact h.frame.frame.abortTrack.feederFault.next

theorem State.Canonical.reduceTo {limit : Rat} {cause us : Nat} (h : s.Canonical) : (s.reduceTo limit cause us).Canonical :=
  (h.each fun _ _ h => h.frame).frame.commit

/-! ### Receiving (R115 to R143) -/

theorem State.Canonical.execSof {t : Fin 9} {out dec : Nat} {m : SofMark} (h : s.Canonical) : Result.Canonical (execSof t out dec m s) := by
  fun_cases execSof
  · exact h.next
  · exact h.next
  · exact h.advanceTo.frame.next

theorem State.Canonical.countChanges {v : Nat} {a : AgcTrace} (h : s.Canonical) : (s.countChanges v a).Canonical :=
  (h.setRange.ite h).foldl fun _ h _ => h.setRange.frame

theorem State.Canonical.storeFrame {slot : Nat} {j : Machine.Judged} (h : s.Canonical) : (s.storeFrame slot j).Canonical :=
  h.writeBytes

theorem State.Canonical.countFrames {bins : List Nat} (h : s.Canonical) : (s.countFrames bins).Canonical :=
  h.ite (h.each fun _ _ h => h.frame)

theorem State.Canonical.endListen {t : Nat} {w : Window} {out ca : Nat} {a b : Option OutFrame} {alts : List AltFrame}
    {agc : List AgcTrace} (h : s.Canonical) : (s.endListen t w out ca a b alts agc).Canonical := by
  have stored {o : Option OutFrame} {c : Bool} {slot : Nat} {s : State} (h : s.Canonical) :
      State.Canonical (match o with | some x => s.when c (State.storeFrame slot x.j) | none => s) := by
    split
    · exact h.when fun _ h => h.storeFrame
    · exact h
  exact State.Canonical.endAir (stored (stored ((h.frame.frame.when fun _ h => h.frame).when fun _ h => h.countFrames)))

theorem State.Canonical.execFrameReceived {t : Fin 9} {r0 : RxFrame} {r1 : Option RxFrame} {alts : List AltFrame} {e : FrameTail}
    (h : s.Canonical) : Result.Canonical (execFrameReceived t r0 r1 alts e s) := by
  fun_cases execFrameReceived
  · exact h.next
  · exact h.next
  · exact h.advance.next
  · exact (h.advance.foldl fun _ h _ => h.countChanges).endListen.next

theorem State.Canonical.execWindowClose {t : Fin 9} (h : s.Canonical) : Result.Canonical (execWindowClose t s) := by
  fun_cases execWindowClose
  · exact h.next
  · exact h.next
  · exact h.advanceTo.endListen.next

theorem State.Canonical.dropWaits {t : Nat} (h : s.Canonical) : (s.dropWaits t).Canonical := h.each fun _ _ h => h.frame

theorem State.Canonical.timeout {t : Nat} (h : s.Canonical) : (s.timeout t).Canonical := by
  fun_cases State.timeout
  · exact h.endSimple
  · exact h.endSelect
  · exact h.endSelect
  · exact h.endSimple
  · exact h.endSimple
  · exact h.frame.frame.endSelect
  · exact (h.dropWaits.each fun _ _ h => h.frame).frame
  · exact h.dropWaits.endSimple
  · exact h.frame.endPlain
  · exact h.endPlain
  · exact h
  · exact h

theorem State.Canonical.execTout {t : Fin 9} (h : s.Canonical) : Result.Canonical (execTout t s) := by
  fun_cases execTout
  · exact h.next
  · exact h.next
  · exact h.advanceTo.timeout.next

theorem State.Canonical.execMarkEnd {f : Fin 16} (h : s.Canonical) : Result.Canonical (execMarkEnd f s) := by
  fun_cases execMarkEnd
  · exact h.next
  · exact h.advance.next
  · exact (h.advance.frame.hitBins.frame.each fun _ _ h => h.frame).next

theorem State.Canonical.execCaptureTrigger (h : s.Canonical) : Result.Canonical (execCaptureTrigger s) := by
  fun_cases execCaptureTrigger
  · exact h.next
  · exact h.frame.next
  · exact h.next

end Sys2Proof.Machine
end

section
/-!
PROOFS. Sweeps, exchanges, tag security, the roster and card detection keep the canonical form of the memories.
-/

namespace Sys2Proof.Machine

open Sys2Proof

variable {s t : State}

/-! ### Sweeps (R172 to R183) -/

theorem State.Canonical.requestSweep {p : Nat} {at_ : Option Nat} (h : s.Canonical) : (s.requestSweep p at_).Canonical :=
  h.ite (h.frame.ite h.frame)

theorem State.Canonical.compileFor {idx : Nat} (h : s.Canonical) : (s.compileFor idx).Canonical :=
  h.frame.ite ((h.each fun _ _ h => h.frame).ite h)

theorem State.Canonical.enterResults {obs : List CoilObs} (h : s.Canonical) : (s.enterResults obs).Canonical := by
  fun_cases State.enterResults
  · exact h
  · exact (h.foldl fun _ h _ => h.foldl fun _ h _ => h.frame).frame
  · exact (h.foldl fun _ h _ => h.foldl fun _ h _ => h.frame).frame.foldl fun _ h _ => h.mirror

theorem State.Canonical.nextWave (h : s.Canonical) : s.nextWave.Canonical := by
  fun_cases State.nextWave
  · exact h
  · exact h
  · exact h.frame.mirror

theorem State.Canonical.replan (h : s.Canonical) : s.replan.Canonical := by
  fun_cases State.replan
  · exact h
  · exact h
  · exact h.frame.frame

theorem State.Canonical.waveBoundary {obs : List CoilObs} (h : s.Canonical) : (s.waveBoundary obs).Canonical := by
  fun_cases State.waveBoundary
  · exact h.enterResults
  · exact h.enterResults
  · exact h.enterResults.replan.nextWave

theorem State.Canonical.afterService (h : s.Canonical) : s.afterService.Canonical := by
  fun_cases State.afterService
  · exact h
  · exact h.replan
  · exact h

theorem State.Canonical.sweepBegin (h : s.Canonical) : s.sweepBegin.Canonical := by
  fun_cases State.sweepBegin
  · exact h
  · exact h
  · exact h.frame.frame
  · exact h.frame.frame.frame.frame

theorem State.Canonical.execSweepPeriod {p : Fin 16} (h : s.Canonical) : Result.Canonical (execSweepPeriod p s) := by
  fun_cases execSweepPeriod
  · exact h.next
  · exact h.next
  · exact h.advanceTs.requestSweep.next

/-! ### Exchanges and guest calls (R165 to R170, R270 to R272) -/

theorem State.Canonical.serviceMsg {opened : Bool} {kind handle ca what : Nat} {changes : Bool} (h : s.Canonical) :
    (s.serviceMsg opened kind handle ca what changes).Canonical :=
  h.mirror.when fun _ h => h.mirror

theorem State.Canonical.clearSecured {handle : Nat} (h : s.Canonical) : (s.clearSecured handle).Canonical := by
  fun_cases State.clearSecured
  · exact h
  · exact h.frame
  · exact h

theorem State.Canonical.endTemplate {status : Nat} {resp : List Byte} (h : s.Canonical) : (s.endTemplate status resp).Canonical :=
  ((h.commit.frame.when fun _ h => h.clearSecured).when fun _ h => h.serviceMsg).afterService

theorem State.Canonical.startTemplate (h : s.Canonical) : s.startTemplate.2.Canonical := by
  fun_cases State.startTemplate
  · exact h
  · exact h.frame.endTemplate
  · exact h.frame.endTemplate
  · exact h.frame.serviceMsg

theorem State.Canonical.callGuest {entry status : Nat} {resp : List Byte} (h : s.Canonical) :
    (s.callGuest entry status resp).Canonical := h.writeBytes.frame

theorem State.Canonical.guestReturned {status len : Nat} {resp : List Byte} (h : s.Canonical) :
    (s.guestReturned status len resp).Canonical :=
  h.frame.endTemplate.ite h.frame.endTemplate

theorem State.Canonical.guestStop {a : Nat} (h : s.Canonical) : (s.guestStop a).Canonical := by
  fun_cases State.guestStop
  · exact h
  · exact h.frame.commit.raiseFault.endTemplate

theorem State.Canonical.requests {ca : Nat} {rs : List Request} (h : s.Canonical) : (s.requests ca rs).Canonical :=
  h.foldl fun _ h _ => h.frame

theorem State.Canonical.execTemplateResult {answers : List SlotObs} {g : Option GuestReturn} (h : s.Canonical) :
    Result.Canonical (execTemplateResult answers g s) := by
  unfold Machine.execTemplateResult
  dsimp only
  refine .ite h.next (.ite h.requests.endTemplate.next ?_)
  split
  · exact h.requests.callGuest.guestReturned.next
  · exact h.requests.callGuest.next

theorem State.Canonical.endApdu {status : Nat} {resp : List Byte} (h : s.Canonical) : (s.endApdu status resp).Canonical :=
  (((h.commit.when fun _ h => h.frame).commit.clearSecured.ite h.commit).frame.when fun _ h => h.serviceMsg).afterService

theorem State.Canonical.startApdu (h : s.Canonical) : s.startApdu.2.Canonical := by
  fun_cases State.startApdu
  · exact h
  · exact h.frame.endApdu
  · exact h.frame.endApdu
  · exact h.frame.endApdu
  · exact h.frame.serviceMsg

/-! ### Tag security (R202 to R223) -/

theorem State.Canonical.putKey {kind slot : Nat} {m : List Byte} (h : s.Canonical) : (s.putKey kind slot m).Canonical :=
  (h.when fun _ h => h.commit).frame.frame.mirror

theorem State.Canonical.loadKey {p : List Byte} (h : s.Canonical) : (s.loadKey p).2.Canonical := by
  fun_cases State.loadKey
  · exact h.putKey.frame.frame
  · exact h.putKey
  · exact h.frame

theorem State.Canonical.loadIssuer {p : List Byte} (h : s.Canonical) : (s.loadIssuer p).2.Canonical := by
  fun_cases State.loadIssuer
  · exact h
  · exact h.frame.frame.frame.mirror

theorem State.Canonical.eraseKey {p : List Byte} (h : s.Canonical) : (s.eraseKey p).2.Canonical := by
  fun_cases State.eraseKey
  · exact h
  · exact h
  · exact h.frame.frame.frame.mirror
  · exact h.putKey

theorem State.Canonical.mirrorAttempt {t : TagId} (h : s.Canonical) : (s.mirrorAttempt t).Canonical := by
  fun_cases State.mirrorAttempt <;> exact h.mirror

theorem State.Canonical.releaseTag {p : List Byte} (h : s.Canonical) : (s.releaseTag p).2.Canonical := by
  fun_cases State.releaseTag
  · exact h.frame.mirror.mirrorAttempt
  · exact h

theorem State.Canonical.execFailuresLeaveWindow {tag : TagId} (h : s.Canonical) : Result.Canonical (execFailuresLeaveWindow tag s) := by
  unfold Machine.execFailuresLeaveWindow
  split
  · exact h.next
  · exact .ite h.next h.advanceTs.frame.next

theorem State.Canonical.securityRecord {typ handle profile status : Nat} (h : s.Canonical) :
    (s.securityRecord typ handle profile status).Canonical := by
  fun_cases State.securityRecord
  · exact h
  · exact h.commit

theorem State.Canonical.secDone {a : SecAction} {status : Nat} (h : s.Canonical) : (s.secDone a status).Canonical := h.frame.ite h

theorem State.Canonical.quarantine {t : TagId} (h : s.Canonical) : (s.quarantine t).Canonical :=
  h.ite ((h.frame.foldl fun _ h _ => h.secDone).mirror.thenIf fun h => h.raiseFault)

theorem State.Canonical.secRun {a : SecAction} {i : Nat} {k : SecHeld} (h : s.Canonical) : (s.secRun a i k).Canonical := h.frame.serviceMsg

theorem State.Canonical.thenOrigin {a : SecAction} (h : s.Canonical) : (s.thenOrigin a).Canonical := by
  fun_cases State.thenOrigin
  · exact h
  · exact h.frame
  · exact h

theorem State.Canonical.secAttempt {a : SecAction} {i : Nat} (h : s.Canonical) : (s.secAttempt a i).Canonical :=
  h.secDone.ite (h.securityRecord.thenOrigin.secDone.ite (h.thenOrigin.secDone.ite
    (h.thenOrigin.secDone.ite (h.quarantine.thenOrigin.secDone.ite (h.frame.thenOrigin.secDone.ite
    (h.thenOrigin.secDone.ite (h.frame.when fun _ h => h.frame).mirrorAttempt.secRun))))))

theorem State.Canonical.secOrigin {a : SecAction} {i : Nat} (h : s.Canonical) : (s.secOrigin a i).Canonical := h.secDone.ite h.secRun

theorem State.Canonical.secStart {a : SecAction} (h : s.Canonical) : (s.secStart a).Canonical := by
  fun_cases State.secStart
  · exact h.secDone
  · exact h.secDone
  · exact h.secAttempt
  · exact h.secDone
  · exact h.securityRecord.secDone
  · exact h.secOrigin

theorem State.Canonical.secNext {fuel : Nat} (h : s.Canonical) : (s.secNext fuel).Canonical := by
  induction fuel generalizing s with
  | zero => exact h
  | succ fuel ih =>
    refine h.ite ?_
    split
    · exact h
    · exact ih h.frame.secStart

theorem State.Canonical.secQueue {a : SecAction} (h : s.Canonical) : (s.secQueue a).Canonical := h.frame.secNext

theorem State.Canonical.startSecurity (h : s.Canonical) : s.startSecurity.2.Canonical := by
  fun_cases State.startSecurity
  · exact h
  · exact h.frame
  · exact h.frame
  · exact h.frame
  · exact h.frame.secQueue

theorem State.Canonical.secEnd {a : SecAction} {status slot : Nat} (h : s.Canonical) : (s.secEnd a status slot).Canonical :=
  h.frame.secDone.serviceMsg.afterService.secNext

theorem State.Canonical.secFailed {a : SecAction} {t : TagId} (h : s.Canonical) : (s.secFailed a t).Canonical :=
  h.frame.frame.mirrorAttempt.securityRecord.clearSecured.when fun _ h => h.quarantine

theorem State.Canonical.attemptResult {a : SecAction} {ok : Bool} (h : s.Canonical) : (s.attemptResult a ok).Canonical :=
  h.frame.mirrorAttempt.frame.thenOrigin.secEnd.ite h.secFailed.thenOrigin.secEnd

theorem State.Canonical.originResult {a : SecAction} {sig : List Byte} (h : s.Canonical) : (s.originResult a sig).Canonical := by
  fun_cases State.originResult
  · exact h.frame.secEnd
  · exact h.securityRecord.secEnd

theorem State.Canonical.execSecurityResult {r : SecurityEnd} (h : s.Canonical) : Result.Canonical (execSecurityResult r s) := by
  fun_cases execSecurityResult
  · exact h.next
  · exact h.requests.requests.originResult.next
  · exact h.requests.attemptResult.next
  · exact h.requests.attemptResult.next

/-! ### The roster and its closes (R174 to R199) -/

theorem State.Canonical.releaseEntry {i : Nat} (h : s.Canonical) : (s.releaseEntry i).Canonical := h.frame.frame

theorem State.Canonical.evict {fuel : Nat} {c : Closing} (h : s.Canonical) : (s.evict fuel c).2.Canonical := by
  induction fuel generalizing c s with
  | zero => exact h
  | succ fuel ih =>
    unfold State.evict
    dsimp only
    split
    · exact h
    · split
      · exact h
      · exact ih h.frame

theorem State.Canonical.applySeen {n g i b : Nat} {amb : Bool} {e : Entry} {c : Closing} (h : s.Canonical) :
    (applySeen n g i b amb e c s).2.Canonical :=
  h.frame

/-- The state in which an index is allocated. -/
theorem State.Canonical.allocate {i : Nat} {t : State} (h : s.Canonical) (e : s.allocate = .got i t) : t.Canonical := by
  unfold State.allocate at e
  dsimp only at e
  split at e
  · cases e; exact h.frame
  · split at e
    · cases e
    · split at e <;> cases e
      exact h.frame

theorem State.Canonical.applyNew {n g b : Nat} {amb : Bool} {t : TagId} {c : Closing} (h : s.Canonical) :
    (Machine.applyNew n g b amb t c s).2.2.Canonical := by
  have h1 : (if s.roster.free = 0 then State.evict 1 c s else (c, s)).2.Canonical := by split; exact h.evict; exact h
  unfold Machine.applyNew
  dsimp only
  split
  · exact h1
  · exact h1.frame
  · next e => exact (h1.allocate e).frame

theorem State.Canonical.applyMissed {m i : Nat} {e : Entry} {c : Closing} (h : s.Canonical) : (applyMissed m i e c s).2.Canonical := by
  fun_cases applyMissed
  · exact h
  · exact h.releaseEntry
  · exact h.frame
  · exact h.frame

theorem State.Canonical.closeItem {it : CloseItem} {c : Closing} (h : s.Canonical) : (s.closeItem it c).2.2.Canonical := by
  fun_cases State.closeItem
  · exact h
  · exact h.applyMissed
  · exact h.applySeen
  · exact h.applyNew

theorem State.Canonical.closeItems {l : List CloseItem} {c : Closing} (h : s.Canonical) : (s.closeItems l c).2.Canonical := by
  induction l generalizing c s with
  | nil => exact h
  | cons it l ih =>
    have h1 : (s.closeItem it c).2.2.Canonical := h.closeItem
    unfold State.closeItems
    split
    · next e => rw [e] at h1; exact ih h1
    · next e => rw [e] at h1; exact h1

theorem State.Canonical.applySec {x : SecChange} {c : Closing} (h : s.Canonical) : (s.applySec x c).2.Canonical := by
  fun_cases State.applySec
  · exact h
  · exact h.frame.ite (h.frame.ite h)
  · exact (h.frame.ite (h.frame.ite h)).frame

theorem State.Canonical.applyQuar {i : Nat} {c : Closing} (h : s.Canonical) : (s.applyQuar i c).2.Canonical := by
  fun_cases State.applyQuar
  · exact h
  · exact h.frame

theorem State.Canonical.closeSecurity {c : Closing} (h : s.Canonical) : (s.closeSecurity c).2.Canonical :=
  foldl_snd (foldl_snd h.frame fun _ h _ => h.applySec) fun _ h _ => h.applyQuar

theorem State.Canonical.commitClose {e : CloseEvent} (h : s.Canonical) : (s.commitClose e).Canonical := h.commit

theorem State.Canonical.journalFailed {plan gen : Nat} {x : CoilResult} (h : s.Canonical) : (s.journalFailed plan gen x).Canonical :=
  h.commit.ite h

theorem State.Canonical.onArrival {e : CloseEvent} (h : s.Canonical) : (s.onArrival e).Canonical := by
  fun_cases State.onArrival
  · exact h
  · exact h
  · exact h
  · exact h
  · exact h.secQueue
  · exact h.secQueue
  · exact h

theorem State.Canonical.finishClose {c : Closing} (h : s.Canonical) : (s.finishClose c).Canonical :=
  ((((h.closeSecurity.frame.frame.foldl fun _ h _ => h.journalFailed).foldl fun _ h _ => h.commitClose).when fun _ h =>
    h.commit).commit.when fun _ h => h.foldl fun _ h _ => h.send).mirror.foldl fun _ h _ => h.onArrival

theorem State.Canonical.closeWork {c : Closing} (h : s.Canonical) : (s.closeWork c).Canonical :=
  h.closeItems.finishClose.ite h.closeItems.frame

theorem State.Canonical.closeBegin {r : SweepResult} (h : s.Canonical) : (s.closeBegin r).Canonical := by
  unfold State.closeBegin
  dsimp only
  exact State.Canonical.closeWork h.evict

theorem State.Canonical.closeHeld {fuel : Nat} (h : s.Canonical) : (s.closeHeld fuel).Canonical := by
  induction fuel generalizing s with
  | zero => exact h
  | succ fuel ih =>
    refine h.ite ?_
    split
    · exact h
    · exact ih h.frame.closeBegin

theorem State.Canonical.sweepClose {obs : List CoilObs} (h : s.Canonical) : (s.sweepClose obs).Canonical := by
  fun_cases State.sweepClose
  · exact h.enterResults
  · exact h.enterResults
  · exact h.enterResults.frame.closeHeld

theorem State.Canonical.execCloseWaitEnd (h : s.Canonical) : Result.Canonical (execCloseWaitEnd s) := by
  unfold Machine.execCloseWaitEnd
  split
  · exact h.next
  · refine (State.Canonical.closeWork (State.Canonical.frame ?_)).closeHeld.next
    split
    · exact h
    · exact h.advanceTs

theorem State.Canonical.emptyEntry {i : Nat} (h : s.Canonical) : (s.emptyEntry i).Canonical :=
  ((h.when fun _ h => h.commit).when fun _ h => h.commit).releaseEntry

theorem State.Canonical.emptyRoster (h : s.Canonical) : s.emptyRoster.Canonical := by
  fun_cases State.emptyRoster
  · exact (h.each fun _ _ h => h.emptyEntry).frame.frame.closeBegin.closeHeld
  · exact (h.each fun _ _ h => h.emptyEntry).frame.frame.closeHeld

theorem State.Canonical.execReportReady (h : s.Canonical) : Result.Canonical (execReportReady s) := by
  fun_cases execReportReady
  · exact h.next
  all_goals exact h.frame.next

/-! ### Card detection (R224 to R239) -/

theorem State.Canonical.senseOver {t : Nat} {cas : List Nat} (h : s.Canonical) : (s.senseOver t cas).Canonical :=
  h.frame.frame.ite h.frame.sendWords

theorem State.Canonical.senseRow (h : s.Canonical) : s.senseRow.Canonical := by
  fun_cases State.senseRow
  · exact h
  · exact h
  · exact h.frame.frame.senseOver

theorem State.Canonical.detect {ca dev profile : Nat} {closed : Bool} (h : s.Canonical) : (s.detect ca dev profile closed).Canonical :=
  (h.frame.when fun _ h => h.frame).frame.ite ((h.frame.when fun _ h => h.frame).commit.requestSweep.ite
    (h.frame.when fun _ h => h.frame).commit)

theorem State.Canonical.lateDetects (h : s.Canonical) : s.lateDetects.Canonical :=
  h.frame.foldl fun _ h _ => h.commit.requestSweep.ite h.commit

theorem State.Canonical.judgeBurst {b : Burst} {profile : Nat} {closed noadapt : Bool} (h : s.Canonical) :
    (s.judgeBurst b profile closed noadapt).2.Canonical := by
  unfold State.judgeBurst
  simp only [apply_ite Prod.snd]
  exact h.ite (h.frame.ite (h.frame.ite (h.frame.detect.ite (h.frame.ite h.frame.frame))))

theorem State.Canonical.skipJudgement {ca : Nat} (h : s.Canonical) : (s.skipJudgement ca).2.Canonical := h.frame.frame.frame.frame

theorem State.Canonical.judgeBursts {profile : Nat} {shut : List Nat} {noadapt : Bool} {bs : List Burst} (h : s.Canonical) :
    (s.judgeBursts profile shut noadapt bs).2.Canonical := by
  induction bs generalizing s with
  | nil => exact h
  | cons b bs ih => exact ih h.judgeBurst

theorem State.Canonical.endSense {t ca out : Nat} {j : Judgement} {cc : Nat} (h : s.Canonical) : (s.endSense t ca out j cc).Canonical :=
  h.frame.frame.frame.ite (h.frame.frame.post.ite h.frame.frame.goOn)

theorem State.Canonical.trackBursts {t : Nat} {bs : List Burst} (h : s.Canonical) : (s.trackBursts t bs).Canonical := by
  have skipped {l : List Nat} {p : List (Nat × Judgement) × State} (hp : p.2.Canonical) :
      (l.foldl (fun a ca => (a.1 ++ [(ca, (a.2.skipJudgement ca).1)], (a.2.skipJudgement ca).2)) p).2.Canonical :=
    foldl_snd hp fun _ h ca => h.skipJudgement (ca := ca)
  unfold State.trackBursts
  dsimp only
  split
  all_goals
    exact State.Canonical.endSense (State.Canonical.foldl (skipped (h.ite h.advanceTo).judgeBursts) fun _ h _ => h.frame)

theorem State.Canonical.lanternNext (h : s.Canonical) : s.lanternNext.Canonical := by
  fun_cases State.lanternNext
  · exact h.frame
  · exact h.frame
  · exact h.sendWord.when fun _ h => h.frame

theorem State.Canonical.lanternLeave {ca : Nat} (h : s.Canonical) : (s.lanternLeave ca).Canonical := h.frame.lanternNext

theorem State.Canonical.lanternSettle (h : s.Canonical) : s.lanternSettle.Canonical := by
  fun_cases State.lanternSettle
  · exact h
  · exact h.advanceTo.frame
  · exact h.advanceTo.frame.sendWord.frame
  · exact h.advanceTo.frame.skipJudgement.lanternLeave

theorem State.Canonical.lanternBurst {b : Burst} (h : s.Canonical) : (s.lanternBurst b).Canonical :=
  h.lanternSettle.ite h.lanternSettle.advance.frame.judgeBurst.frame.lanternLeave

theorem State.Canonical.execBurstEnd {by_ : SenseBy} {bs : List Burst} (h : s.Canonical) : Result.Canonical (execBurstEnd by_ bs s) := by
  fun_cases execBurstEnd
  · exact h.trackBursts.next
  · exact h.next
  · exact h.next
  · exact (h.foldl fun _ h _ => h.lanternBurst).next

theorem State.Canonical.execSenseSkipped {by_ : SenseBy} (h : s.Canonical) : Result.Canonical (execSenseSkipped by_ s) := by
  fun_cases execSenseSkipped
  · exact h.advanceTo.trackBursts.next
  · exact h.next
  · exact h.next
  · exact h.lanternSettle.lanternSettle.skipJudgement.lanternLeave.next
  · exact h.lanternSettle.lanternSettle.next

theorem State.Canonical.writeDoorGroup {g : Nat} {v : List Byte} (h : s.Canonical) : (s.writeDoorGroup g v).Canonical :=
  h.frame.ite (h.frame.each fun _ _ h => h.frame)

theorem State.Canonical.relearn (h : s.Canonical) : s.relearn.Canonical := h.each fun _ _ h => h.frame

theorem State.Canonical.execImpulseRepeat (h : s.Canonical) : Result.Canonical (execImpulseRepeat s) := by
  fun_cases execImpulseRepeat
  · exact h.next
  · exact h.next
  · exact h.advance.frame.lanternNext.next

end Sys2Proof.Machine
end

section
/-!
PROOFS. The Kenier cores beside their memory accesses, and the timebase, keep the canonical form of the memories.
-/

namespace Sys2Proof.Machine

open Sys2Proof

variable {s t : State}

/-! ### Traps, issue and completion (R246 to R265) -/

theorem State.Canonical.captureAccess {d : Die} {acc : Access} (h : s.Canonical) : (s.captureAccess d acc).Canonical := h.ite h.setCollector

theorem State.Canonical.trap {k : Die} {cause code : Nat} {tpc : BitVec 25} (h : s.Canonical) : (s.trap k cause code tpc).Canonical :=
  (h.frame.ite h).setCore.raiseFault.ite (h.frame.ite h).setCore

theorem State.Canonical.trapHere {k : Die} {cause : Nat} (h : s.Canonical) : (s.trapHere k cause).Canonical := h.trap

theorem State.Canonical.trapBus {k : Die} {a typ : Nat} (h : s.Canonical) : (s.trapBus k a typ).Canonical :=
  h.captureAccess.modCore.trapHere

theorem State.Canonical.trapGuest {k : Die} (h : s.Canonical) : (s.trapGuest k).Canonical := h.trapHere.guestStop

theorem State.Canonical.requestLevel {l : Nat} (h : s.Canonical) : (s.requestLevel l).Canonical := h.frame.ite (h.frame.ite h.frame)

theorem State.Canonical.serveDeferred {k : Die} (h : s.Canonical) : (s.serveDeferred k).Canonical := by
  fun_cases State.serveDeferred
  · exact h
  · exact (h.when fun _ h => h.frame).frame
  · exact h.when fun _ h => h.frame

theorem State.Canonical.breakLock {k : Die} (h : s.Canonical) : (s.breakLock k).Canonical := h.modCore.trapHere.raiseFault.serveDeferred

theorem State.Canonical.trapIllegalEnd {k : Die} (h : s.Canonical) : (s.trapIllegalEnd k).Canonical :=
  h.modCore.trapHere.when fun _ h => h.serveDeferred

theorem State.Canonical.hostEccFix {a : Nat} (h : s.Canonical) : (s.hostEccFix a).Canonical := h.frame.ite h

theorem State.Canonical.wordFix {k : Die} {a : Nat} (h : s.Canonical) : (s.wordFix k a).Canonical := by
  fun_cases State.wordFix
  · exact h.eccFix
  · exact h.hostEccFix

theorem State.Canonical.wordFault {k : Die} {a typ : Nat} (h : s.Canonical) : (s.wordFault k a typ).Canonical := by
  fun_cases State.wordFault
  · exact h.eccFault
  · exact h.raiseFaultAt

theorem State.Canonical.cycles {k : Die} {n : Nat} (h : s.Canonical) : (s.cycles k n).Canonical := h.modCore.when fun _ h => h.frame

theorem State.Canonical.spend {k : Die} (h : s.Canonical) : (s.spend k).Canonical := h.frame.cycles

theorem State.Canonical.issue {k : Die} {r : IssueRule} {act : State → State} (h : s.Canonical)
    (ha : ∀ s, s.Canonical → (act s).Canonical) : (s.issue k r act).Canonical :=
  have h1 := h.modCore
  h.ite (h1.breakLock.ite (h1.trapGuest.ite (h1.trapHere.ite (h1.trapHere.ite ((h1.trapGuest.ite h1.trapBus).ite
    (h1.wordFault.trapBus.ite (h1.trapIllegalEnd.ite (h1.trapHere.ite (h1.trapGuest.ite (ha _ h1.wordFix))))))))))

theorem State.Canonical.stepDone {k : Die} (h : s.Canonical) : (s.stepDone k).Canonical := h.frame.ite (h.frame.ite h)

theorem State.Canonical.retire {k : Die} (h : s.Canonical) : (s.retire k).Canonical := h.spend.modCore.stepDone

theorem State.Canonical.writeBack {k : Die} {rd : RegNo} {v : Word} {dist : Nat} (h : s.Canonical) : (s.writeBack k rd v dist).Canonical :=
  h.modCore.retire

theorem State.Canonical.alu {k : Die} {rd : RegNo} {f : Kenier → Word} (h : s.Canonical) : (s.alu k rd f).Canonical :=
  h.issue fun _ h => h.writeBack

theorem State.Canonical.transfer {k : Die} {target window : Nat} (h : s.Canonical) : (s.transfer k target window).Canonical :=
  h.spend.modCore

/-! ### Register instructions and transfers (R246 to R259) -/

theorem State.Canonical.multiply {k : Die} {signed acc : Bool} {ra rb : RegNo} (h : s.Canonical) :
    (s.multiply k signed acc ra rb).Canonical :=
  h.issue fun _ h => h.modCore.retire

theorem State.Canonical.settleProducts {k : Die} (h : s.Canonical) : (s.settleProducts k).Canonical := h.ite (h.frame.modCore.ite h.frame)

theorem State.Canonical.transferBy {k : Die} {target window : Nat} (h : s.Canonical) : (s.transferBy k target window).Canonical :=
  h.cycles.transfer

theorem State.Canonical.call {k : Die} {target : Nat} (h : s.Canonical) : (s.call k target).Canonical := h.trapHere.ite h.modCore.transfer

theorem State.Canonical.mispredict {k : Die} (h : s.Canonical) : (s.mispredict k).Canonical := h.frame.frame.cycles.modCore

theorem State.Canonical.branch {k : Die} {taken : Kenier → Bool} {disp : BitVec 16} (h : s.Canonical) : (s.branch k taken disp).Canonical :=
  h.issue fun _ h => (h.when fun _ h => h.mispredict).transfer.ite (h.when fun _ h => h.mispredict).transfer

/-! ### System instructions, interrupts, halts (R248 to R276) -/

theorem State.Canonical.passOn {k : Die} (h : s.Canonical) : (s.passOn k).Canonical := h.spend.modCore

/-! ### The timebase (R44 to R55) -/

theorem State.Canonical.refSetting (h : s.Canonical) : s.refSetting.Canonical := h.ite h.frame.commit

theorem State.Canonical.lockMains (h : s.Canonical) : s.lockMains.Canonical := (h.each fun _ _ h => h.splitMark).frame.commit

theorem State.Canonical.acceptEdge {period : Nat} (h : s.Canonical) : (s.acceptEdge period).Canonical := h.frame.lockMains.ite h.frame

theorem State.Canonical.execZeroCrossEdge {after : Nat} (h : s.Canonical) : Result.Canonical (execZeroCrossEdge after s) := by
  fun_cases execZeroCrossEdge
  · exact h.advance.next
  · exact h.advance.frame.next
  · exact (h.advance.acceptEdge.ite h.advance.frame).next

theorem State.Canonical.goVirtual (h : s.Canonical) : s.goVirtual.Canonical := h.frame.ite h

end Sys2Proof.Machine
end

section
/-!
PROOFS. Storage, settings, the resets of both sides and the fault commands keep the canonical form of the memories.
-/

namespace Sys2Proof.Machine

open Sys2Proof

variable {s t : State}

/-! ### Storage, settings, reset and start-up (R279 to R299, R406) -/

theorem State.Canonical.scrubPass (h : s.Canonical) : s.scrubPass.Canonical := h.frame.foldl fun _ h _ => h.frame.raiseFault

theorem State.Canonical.scrubField (h : s.Canonical) : s.scrubField.Canonical := by
  have scrubbed {n : Nat} {a b c : State} (ha : a.Canonical) (hb : b.Canonical) (hc : c.Canonical) :
      State.Canonical (match n with | 1 => a | 2 => b | _ => c) := by split; exact ha; exact hb; exact hc
  exact (scrubbed h.frame.eccFix h.frame.eccFault h.frame).thenIf fun h => h.scrubPass

theorem State.Canonical.scrubHost (h : s.Canonical) : s.scrubHost.Canonical := by
  fun_cases State.scrubHost
  · exact h.frame.frame
  · exact h.frame.raiseFaultAt
  · exact h.frame

theorem State.Canonical.slotErased {sec : Nat} (h : s.Canonical) : (s.slotErased sec).Canonical := h.frame.ite h

theorem State.Canonical.nvmStart {o : NvmOp} (h : s.Canonical) : (s.nvmStart o).Canonical := h.frame.frame.slotErased.ite h.frame

theorem State.Canonical.nvmServe (h : s.Canonical) : s.nvmServe.Canonical := by
  fun_cases State.nvmServe
  · exact h
  · exact h.frame
  · exact h.frame.nvmStart
  · exact h

theorem State.Canonical.nvmSubmit {o : NvmOp} (h : s.Canonical) : (s.nvmSubmit o).Canonical :=
  State.Canonical.nvmServe (by split; exact h.frame.frame.ite h.frame; exact h.frame)

theorem State.Canonical.program {a : Nat} {l : List Byte} (h : s.Canonical) : (s.program a l).Canonical := by
  fun_induction State.program with
  | case1 => exact h
  | case2 _ _ _ _ ih => exact ih h.setMem

theorem State.Canonical.execNvmProgramDone (h : s.Canonical) : Result.Canonical (execNvmProgramDone s) := by
  fun_cases execNvmProgramDone
  · exact h.next
  · exact h.program.frame.nvmServe.next
  · exact h.next

theorem State.Canonical.erased {prio : Nat} (h : s.Canonical) : (s.erased prio).Canonical := by
  fun_cases State.erased
  · exact h
  · exact h.frame
  · exact h.frame
  · exact h
  · exact h

theorem State.Canonical.eraseFailed {o : NvmOp} (h : s.Canonical) : (s.eraseFailed o).Canonical :=
  (h.frame.frame.ite h.frame).raiseFault.ite (h.frame.frame.ite h.frame).raiseFault

theorem State.Canonical.execNvmEraseDone {verified : Bool} (h : s.Canonical) : Result.Canonical (execNvmEraseDone verified s) := by
  fun_cases execNvmEraseDone
  · exact h.next
  · exact h.frame.frame.erased.nvmServe.next
  · exact h.frame.eraseFailed.nvmServe.next
  · exact h.next

theorem State.Canonical.imagePage {v : List Byte} (h : s.Canonical) : (s.imagePage v).Canonical := h.nvmSubmit

theorem State.Canonical.settleImage (h : s.Canonical) : s.settleImage.Canonical := (h.foldl fun _ h _ => h.program).frame.nvmServe

theorem State.Canonical.checkImage {p : List Byte} (h : s.Canonical) : (s.checkImage p).2.Canonical := by
  fun_cases State.checkImage <;> exact h.settleImage

theorem State.Canonical.guestPage {v : List Byte} (h : s.Canonical) : (s.guestPage v).Canonical := h.writeBytes.frame

theorem State.Canonical.guestActivate {p : List Byte} (h : s.Canonical) : (s.guestActivate p).2.Canonical := by
  fun_cases State.guestActivate <;> exact h.frame

theorem State.Canonical.storeSettings (h : s.Canonical) : s.storeSettings.2.Canonical := by
  fun_cases State.storeSettings
  · exact h
  · exact h
  · exact h
  · exact h
  · exact h
  · exact (h.frame.each fun _ _ h => h.nvmSubmit).mirror

theorem State.Canonical.wearNote {d : Die} {before now : Nat} (h : s.Canonical) : (s.wearNote d before now).Canonical :=
  h.commit.raiseFault.ite h

theorem State.Canonical.storeField {ok : Bool} (h : s.Canonical) : (s.storeField ok).Canonical :=
  (h.frame.foldl fun _ h _ => (h.ite h.frame).frame).frame.wearNote.ite h.frame.frame

theorem State.Canonical.storeHost {ok : Bool} (h : s.Canonical) : (s.storeHost ok).Canonical :=
  (h.each fun _ _ h => h.frame).frame.wearNote.ite (h.each fun _ _ h => h.frame).frame

theorem State.Canonical.storeRecord {result fseq hseq : Nat} (h : s.Canonical) : (s.storeRecord result fseq hseq).Canonical := h.commit

theorem State.Canonical.storeShow {r : Nat} (h : s.Canonical) : (s.storeShow r).Canonical := h.frame.storeRecord

theorem State.Canonical.storeAbandon (h : s.Canonical) : s.storeAbandon.Canonical := h.ite h.frame

theorem State.Canonical.eraseAgain {sec : Nat} (h : s.Canonical) : (s.eraseAgain sec).Canonical := h.frame.slotErased

theorem State.Canonical.journalErased {sec : Nat} (h : s.Canonical) : (s.journalErased sec).Canonical := h.commit

theorem State.Canonical.fieldHw {cause : Nat} (h : s.Canonical) : (s.fieldHw cause).Canonical :=
  ⟨Tab.wf_filter h.mem _, h.hostMem, rfl⟩

theorem State.Canonical.loadField (h : s.Canonical) : s.loadField.Canonical := by
  fun_cases State.loadField
  · exact (h.frame.foldl fun _ h _ => h.writeBytes.ite h).each fun _ _ h => h.frame
  · exact h

theorem State.Canonical.loadCal (h : s.Canonical) : s.loadCal.Canonical := by
  fun_cases State.loadCal <;> exact h.frame

theorem State.Canonical.resumeCounters {g : Option Gasp} (h : s.Canonical) : (s.resumeCounters g).Canonical :=
  h.frame.each fun _ _ h => h.frame

theorem State.Canonical.resumeEsn (h : s.Canonical) : s.resumeEsn.Canonical := h.frame.frame

theorem State.Canonical.resumeJournal {kept : Bool} {g : Option Gasp} (h : s.Canonical) : (s.resumeJournal kept g).2.Canonical := by
  fun_cases State.resumeJournal
  · exact h
  · exact h.frame
  · exact h
  · exact h.frame

theorem State.Canonical.runStart {cause : Nat} {r : Resume} {periodic : Bool} {g : Option Gasp} (h : s.Canonical) :
    (s.runStart cause r periodic g).Canonical :=
  (h.append.ite h.append.frame.append).foldl fun _ h _ => h.commit

theorem State.Canonical.settleAttempts (h : s.Canonical) : s.settleAttempts.Canonical :=
  h.foldl fun _ h _ => h.frame.frame.when fun _ h => h.quarantine

theorem State.Canonical.startRecords {half : List Nat} {stored : Bool} (h : s.Canonical) : (s.startRecords half stored).Canonical :=
  ((((h.each fun _ _ h => h.journalErased).when fun _ h => h.frame.storeRecord).when fun _ h => h.commit.raiseFault).when fun _ h =>
    h.frame.commit).when fun _ h => h.commit

theorem State.Canonical.armNext {g : Option Gasp} (h : s.Canonical) : (s.armNext g).Canonical :=
  (h.frame.each fun _ _ h => h.nvmSubmit).ite h.frame

theorem State.Canonical.loadImage (h : s.Canonical) : s.loadImage.Canonical :=
  h.frame.foldl fun _ h _ => h.setMem.ite h

theorem State.Canonical.fieldBoot {cause0 : Option Nat} {kept : Bool} (h : s.Canonical) : (s.fieldBoot cause0 kept).Canonical :=
  ((h.each fun _ _ h => h.eraseAgain).when fun _ h => h.frame)
    |>.frame.loadImage.loadCal.loadField.resumeCounters.resumeEsn.frame.resumeJournal.frame
    |>.runStart.settleAttempts.startRecords.refSetting.armNext.when fun _ h => h.requestLevel

theorem State.Canonical.fieldReset {cause : Option Nat} (h : s.Canonical) : (s.fieldReset cause).Canonical := h.fieldHw.fieldBoot

/-! ### The Host Controller's reset and start-up (R337, R390) -/

theorem State.Canonical.portSend {p : Port} {o : Output} (h : s.Canonical) : (s.portSend p o).Canonical := h.ite h.frame.frame

theorem State.Canonical.relaySet (h : s.Canonical) : s.relaySet.Canonical := h.frame.frame.ite h.frame

theorem State.Canonical.hostHold (h : s.Canonical) : s.hostHold.Canonical :=
  State.Canonical.relaySet ⟨h.mem, rfl, h.pktMem⟩

theorem State.Canonical.useAddress (h : s.Canonical) : s.useAddress.Canonical := h.frame.ite h.frame.frame

theorem State.Canonical.hostBoot (h : s.Canonical) : s.hostBoot.Canonical :=
  ((((State.Canonical.each (by split <;> exact h.frame.frame) fun _ _ h => h.frame).useAddress.relaySet.when
    fun _ h => h.raiseFault).when fun _ h => h.frame.commit).drainHost).thenIf fun h => h.frame.fieldReset

/-! ### Fault commands (R385 to R397) -/

theorem State.Canonical.ackBoth {mask : Nat} (h : s.Canonical) : (s.ackBoth mask).2.Canonical := by
  unfold State.ackBoth
  simp only [apply_ite Prod.snd]
  exact h.ite (h.ite h.ackDie.ackDie)

theorem State.Canonical.ackAny {p : List Byte} (h : s.Canonical) : (s.ackAny p).2.Canonical := by
  fun_cases State.ackAny
  · exact h
  · exact (h.when fun _ h => h.ackDie).when fun _ h => h.ackDie

theorem State.Canonical.releaseCapture {d : Die} (h : s.Canonical) : (s.releaseCapture d).Canonical := h.setCollector

theorem State.Canonical.autoAck {d : Die} {cls level : Nat} (h : s.Canonical) : (s.autoAck d cls level).Canonical := by
  fun_cases State.autoAck
  · exact h.ackDie
  · exact h.ackDie
  · exact h

theorem State.Canonical.journalFault {d : Die} {fr : List Byte} (h : s.Canonical) : (s.journalFault d fr).Canonical :=
  h.commit.ite h.commit.autoAck

theorem State.Canonical.takeRecord (h : s.Canonical) : s.takeRecord.Canonical := by
  unfold State.takeRecord
  split
  · exact h
  · refine (State.Canonical.journalFault ?_).send
    split
    · exact h.frame.frame.commit
    · exact h.frame

theorem State.Canonical.execRestartDelay {d : Die} (h : s.Canonical) : Result.Canonical (execRestartDelay d s) := by
  fun_cases execRestartDelay
  · exact h.next
  · exact h.frame.next
  · exact h.fieldReset.next
  · exact h.hostHold.next
  · exact h.next

theorem State.Canonical.wdkick {v : Nat} (h : s.Canonical) : (s.wdkick v).Canonical := h.frame.ite h.frame

end Sys2Proof.Machine
end

section
/-!
PROOFS. The radio with its packet memory, the registers and the power states keep the canonical form of the memories.
-/

namespace Sys2Proof.Machine

open Sys2Proof

variable {s t : State}

/-! ### The radio: shared operations (R426 to R444) -/

theorem State.Canonical.setPkt {off : Nat} {b : Byte} (h : s.Canonical) : (s.setPkt off b).Canonical :=
  ⟨h.mem, h.hostMem, Tab.wf_set h.pktMem off b⟩

theorem State.Canonical.setPkts {off : Nat} {l : List Byte} (h : s.Canonical) : (s.setPkts off l).Canonical := by
  induction l generalizing off s with
  | nil => exact h
  | cons b l ih => exact ih h.setPkt

theorem State.Canonical.radioPins (h : s.Canonical) : s.radioPins.Canonical := h.ite h.frame

theorem State.Canonical.setRadio {st : Nat} (h : s.Canonical) : (s.setRadio st).Canonical := h.frame.radioPins

theorem State.Canonical.calTry (h : s.Canonical) : s.calTry.Canonical := h.frame.ite h

theorem State.Canonical.calRequest (h : s.Canonical) : s.calRequest.Canonical := h.frame.calTry

theorem State.Canonical.radioGo {target : Nat} (h : s.Canonical) : (s.radioGo target).Canonical :=
  h.ite (h.frame.ite ((h.frame.ite h.frame).ite h.frame))

theorem State.Canonical.noteDuty (h : s.Canonical) : s.noteDuty.Canonical := h.frame.when fun _ h => h.raiseFault

theorem State.Canonical.placeFcs {p : Nat} (h : s.Canonical) : (s.placeFcs p).Canonical := h.setPkts

theorem State.Canonical.channelTry (h : s.Canonical) : s.channelTry.Canonical := h.ite (h.frame.ite h.frame)

theorem State.Canonical.headEnd {res : Nat} (h : s.Canonical) : (s.headEnd res).Canonical := by
  fun_cases State.headEnd
  · exact h
  · exact h.frame.txResult.channelTry.calTry

theorem State.Canonical.packetEnd {res : Nat} (h : s.Canonical) : (s.packetEnd res).Canonical := by
  fun_cases State.packetEnd
  · exact h
  · exact h.setRadio.headEnd

theorem State.Canonical.denied {c : TxCmd} (h : s.Canonical) : (s.denied c).Canonical := h.frame.frame.ite h.frame.headEnd

theorem State.Canonical.goOnAir {c : TxCmd} (h : s.Canonical) : (s.goOnAir c).Canonical := h.placeFcs.frame.frame.setRadio.frame

theorem State.Canonical.txGo (h : s.Canonical) : s.txGo.Canonical := by
  fun_cases State.txGo
  · exact h
  · exact h
  · exact h.denied
  · exact h.goOnAir

theorem State.Canonical.txPrepare {c : TxCmd} (h : s.Canonical) : (s.txPrepare c).Canonical :=
  (((h.frame.ite h).frame.frame.ite (h.frame.ite h).frame).ite ((h.frame.ite h).frame.ite (h.frame.ite h))).txGo

theorem State.Canonical.loopTry (h : s.Canonical) : s.loopTry.Canonical := h.frame.ite h

theorem State.Canonical.txAccept (h : s.Canonical) : s.txAccept.Canonical := by
  fun_cases State.txAccept
  · exact h
  · exact h
  · exact h.frame.headEnd
  · exact h.frame.noteDuty.headEnd
  · exact h.frame.txPrepare

theorem State.Canonical.txCommand {pkt : Nat} {urgent pri : Bool} {after : Then} (h : s.Canonical) :
    (s.txCommand pkt urgent pri after).Canonical :=
  h.frame.ite (h.txResult.ite (h.txResult.ite h.frame))

theorem State.Canonical.settleEnd (h : s.Canonical) : s.settleEnd.Canonical := h.frame.setRadio.calTry.txGo.ite h

theorem State.Canonical.mapCompute {i : Nat} (h : s.Canonical) : (s.mapCompute i).Canonical := by
  fun_cases State.mapCompute
  · exact h
  · exact h
  · exact h.frame.frame

/-! ### The radio: commands and happenings (R429 to R459) -/

theorem State.Canonical.radioDo {f : State → State} (h : s.Canonical) (hf : ∀ s, s.Canonical → (f s).Canonical) :
    Result.Canonical (s.radioDo f) :=
  ((hf _ h.loopTry).ite h).next

theorem State.Canonical.rxCommand {after : Then} (h : s.Canonical) : (s.rxCommand after).Canonical := h.frame.radioGo

theorem State.Canonical.leadEnd {grant : Bool} (h : s.Canonical) : (s.leadEnd grant).Canonical := by
  unfold State.leadEnd
  split
  · exact h
  · split
    · exact h
    · exact h.ite h.advanceTo.frame.frame.txGo

theorem State.Canonical.coexRetry (h : s.Canonical) : s.coexRetry.Canonical := by
  fun_cases State.coexRetry
  · exact h
  · exact h
  · exact h.frame.txPrepare

theorem State.Canonical.lossFault (h : s.Canonical) : s.lossFault.Canonical := h.frame.raiseFault

theorem State.Canonical.packetSent {airUs : Nat} {lossBad : Bool} (h : s.Canonical) : (s.packetSent airUs lossBad).Canonical := by
  fun_cases State.packetSent
  · exact h
  · exact h
  · exact ((h.frame.when fun _ h => h.frame).when fun _ h => h.lossFault).packetEnd

theorem State.Canonical.execSynthesiserCalibrationDone (h : s.Canonical) : Result.Canonical (execSynthesiserCalibrationDone s) :=
  h.radioDo fun _ h => h.frame.ite h

theorem State.Canonical.execTemperatureSample {c : Int} (h : s.Canonical) : Result.Canonical (execTemperatureSample c s) :=
  h.radioDo fun _ h => h.frame.calTry

theorem State.Canonical.execBackgroundCalibration {iq abandoned : Bool} {imageDb : Nat} (h : s.Canonical) :
    Result.Canonical (execBackgroundCalibration iq abandoned imageDb s) :=
  h.radioDo fun _ h => h.frame.ite h

theorem State.Canonical.lockLost (h : s.Canonical) : s.lockLost.Canonical := by
  unfold State.lockLost
  dsimp only
  refine State.Canonical.ite ?_ (State.Canonical.raiseFault (State.Canonical.frame ?_))
  · split
    · exact h.headEnd.ite h
    · exact h
  · split
    · exact h.frame.frame.packetEnd.ite (h.frame.headEnd.ite h.frame)
    · exact h.frame

theorem State.Canonical.grantWithdrawn (h : s.Canonical) : s.grantWithdrawn.Canonical := by
  fun_cases State.grantWithdrawn
  · exact h
  · exact h.frame.frame.packetEnd
  · exact h.frame
  · exact h

theorem State.Canonical.execDutyBucket (h : s.Canonical) : Result.Canonical (execDutyBucket s) :=
  h.radioDo fun _ h => h.frame.frame.ite h.frame

theorem State.Canonical.stf {opts : List Nat} (h : s.Canonical) : (s.stf opts).Canonical := by
  fun_cases State.stf
  · exact h
  · exact h.frame
  · exact h
  · exact h.frame

theorem State.Canonical.phr {hcsOk : Bool} {rate len : Nat} (h : s.Canonical) : (s.phr hcsOk rate len).Canonical :=
  h.ite (h.frame.txGo.ite (h.frame.ite h.frame))

theorem State.Canonical.xhr {hcsOk : Bool} {addr gen : Nat} (h : s.Canonical) : (s.xhr hcsOk addr gen).Canonical := by
  fun_cases State.xhr
  · exact h
  all_goals exact h.frame

theorem State.Canonical.storePacket {p : Nat} {k : DoorPacket} (h : s.Canonical) : (s.storePacket p k).Canonical := h.setPkts.frame

theorem State.Canonical.nodeHeard {i : Nat} {k : DoorPacket} (h : s.Canonical) : (s.nodeHeard i k).Canonical :=
  (h.frame.when fun _ h => h.frame).when fun _ h => h.mapCompute

theorem State.Canonical.doorReport {i : Nat} {closed : Bool} {rssi : Int} (h : s.Canonical) : (s.doorReport i closed rssi).Canonical :=
  h.ite h.writeDoorGroup.commit

theorem State.Canonical.rxEnd (h : s.Canonical) : s.rxEnd.Canonical := (h.frame.ite h.frame.setRadio).channelTry.calTry.txGo

theorem State.Canonical.packetReceived {k : DoorPacket} (h : s.Canonical) : (s.packetReceived k).Canonical := by
  unfold State.packetReceived
  dsimp only
  refine h.ite (h.rxEnd.ite (h.frame.rxEnd.ite ?_))
  split
  · exact h.frame.rxEnd
  · refine State.Canonical.rxEnd ?_
    split
    · exact h.storePacket
    · refine State.Canonical.ite ?_ h.storePacket
      split
      · exact h.storePacket.nodeHeard.doorReport
      · exact h.storePacket.nodeHeard

theorem State.Canonical.execMapSetAck {node : Fin 1024} (h : s.Canonical) : Result.Canonical (execMapSetAck node s) :=
  h.radioDo fun _ h => by split; exact h; exact h.frame

theorem State.Canonical.execMapReport {node : Fin 1024} {gen : Nat} {map : List Byte} (h : s.Canonical) :
    Result.Canonical (execMapReport node gen map s) :=
  h.radioDo fun _ h => h.frame.ite h.frame

theorem State.Canonical.doorLoop (h : s.Canonical) : s.doorLoop.2.Canonical := by
  fun_cases State.doorLoop
  · exact h
  · exact h.frame
  · exact h.frame

theorem State.Canonical.execDoorLinkLoopbackEnd {matched : Nat} (h : s.Canonical) : Result.Canonical (execDoorLinkLoopbackEnd matched s) :=
  h.radioDo fun _ h => h.ite (h.when fun _ h => h.frame).frame.radioPins

/-! ### Registers (R9, R11) -/

theorem State.Canonical.aonTouch {w : Nat} (h : s.Canonical) : (s.aonTouch w).Canonical := h.frame.ite h

theorem State.Canonical.ioConsume {a : Nat} (h : s.Canonical) : (s.ioConsume a).Canonical := by
  fun_cases State.ioConsume
  · exact h.takeRecord
  · exact h
  · exact h.frame
  · exact h.qpop
  · exact h
  · exact h.aonTouch
  · exact h
  · exact h

theorem State.Canonical.padRelease {mask : BitVec 4} (h : s.Canonical) : (s.padRelease mask).Canonical :=
  (h.frame.when fun _ h => h.radioPins).when fun _ h => h.pin.pin.pin

theorem State.Canonical.writePower {off v : Nat} (h : s.Canonical) : (s.writePower off v).Canonical := by
  fun_cases State.writePower
  · exact h.requestLevel
  · exact h.frame
  · exact h
  · exact h.padRelease
  · exact h.frame
  · exact h

theorem State.Canonical.writeField {off v : Nat} (h : s.Canonical) : (s.writeField off v).Canonical := h.frame.ite (h.frame.ite h)

theorem State.Canonical.writeReceive {off v : Nat} (h : s.Canonical) : (s.writeReceive off v).Canonical := h.frame.ite h

theorem State.Canonical.writeCard {off v : Nat} (h : s.Canonical) : (s.writeCard off v).Canonical := (h.each fun _ _ h => h.frame).ite h

theorem State.Canonical.dlcmd {v : Nat} (h : s.Canonical) : (s.dlcmd v).Canonical := by
  fun_cases State.dlcmd
  · exact h.radioGo
  · exact h.radioGo
  · exact h.radioGo
  · exact h.rxCommand
  · exact h.txCommand
  · exact h.calRequest
  · exact h

theorem State.Canonical.writeRadio {who : Writer} {off v : Nat} (h : s.Canonical) : (s.writeRadio who off v).Canonical :=
  h.ite (h.setPkts.ite (h.dlcmd.ite h))

theorem State.Canonical.writeFault {who : Writer} {off v : Nat} (h : s.Canonical) : (s.writeFault who off v).Canonical :=
  (h.ackDie.when fun _ h => h.releaseCapture).ite (h.wdkick.ite h)

theorem State.Canonical.writeTrack {off v : Nat} (h : s.Canonical) : (s.writeTrack off v).Canonical := by
  fun_cases State.writeTrack
  · exact h.frame.abortTrack
  · exact h.frame.stopStage
  · exact h.startTrack
  · exact h.frame
  · exact h.frame
  · exact h.verdict
  · exact h.frame
  · exact h
  · exact h.each fun _ _ h => h.qflush
  · exact h

theorem State.Canonical.writeAon {off v : Nat} (h : s.Canonical) : (s.writeAon off v).Canonical := h.frame.ite (h.frame.ite h)

theorem State.Canonical.ioWriteWord {who : Writer} {a v : Nat} (h : s.Canonical) : (s.ioWriteWord who a v).Canonical := by
  fun_cases State.ioWriteWord
  · exact h.writePower
  · exact h.writeField
  · exact h.writeReceive
  · exact h.writeCard
  · exact h.writeRadio
  · exact h.frame
  · exact h
  · exact h.writeFault
  · exact h.writeTrack
  · exact h.writeAon
  · exact h

theorem State.Canonical.hostIoWrite {a v : Nat} (h : s.Canonical) : (s.hostIoWrite a v).Canonical := h.frame.ite (h.frame.ite h)

theorem State.Canonical.execPadrel {d : Die} {mask : BitVec 4} (h : s.Canonical) : Result.Canonical (execPadrel d mask s) := by
  fun_cases execPadrel
  · exact h.padRelease.next
  · exact h.frame.next

/-! ### Supply and power states (R400 to R425) -/

theorem State.Canonical.warningHw (h : s.Canonical) : s.warningHw.Canonical :=
  ((h.each fun _ _ h => h.abortTrack).each fun _ _ h => h.frame).calibInterrupt.radioHalt.storeAbandon.frame

theorem State.Canonical.leaveLantern (h : s.Canonical) : s.leaveLantern.Canonical := (h.each fun _ _ h => h.frame).frame.lateDetects.send

theorem State.Canonical.execPowerFailWarning (h : s.Canonical) : Result.Canonical (execPowerFailWarning s) := by
  fun_cases execPowerFailWarning
  · exact h.next
  · exact (h.frame.warningHw.ite h.frame.warningHw.frame).next
  · exact h.frame.leaveLantern.frame.frame.next
  · exact h.frame.frame.next

theorem State.Canonical.powerLoss (h : s.Canonical) : s.powerLoss.Canonical := ⟨Tab.wf_filter h.mem _, rfl, rfl⟩

theorem State.Canonical.execTransitionEnd (h : s.Canonical) : Result.Canonical (execTransitionEnd s) := by
  fun_cases execTransitionEnd
  · exact h.next
  · exact (h.frame.frame.ite h.frame).next
  · exact (h.frame.frame.ite h.frame).frame.requestLevel.next
  · exact (h.frame.frame.ite h.frame).next

theorem State.Canonical.restoreList {fuel i : Nat} (h : s.Canonical) : (s.restoreList fuel i).Canonical := by
  induction fuel generalizing i s with
  | zero => exact h
  | succ fuel ih => exact (ih h.aonTouch.aonTouch).ite (h.ite ((ih h.ioWriteWord).ite (ih h)))

theorem State.Canonical.fieldWake (h : s.Canonical) : s.fieldWake.Canonical :=
  h.advance.leaveLantern.restoreList.ite (h.advance.fieldHw.restoreList.fieldBoot.frame.ite h)

theorem State.Canonical.hostWake (h : s.Canonical) : s.hostWake.Canonical := h.ite h.frame.frame.send

theorem State.Canonical.wakeDieUp {d : Die} (h : s.Canonical) : (s.wakeDieUp d).Canonical := by
  fun_cases State.wakeDieUp
  · exact (h.frame.ite h).fieldWake
  · exact (h.frame.ite h).hostWake

theorem State.Canonical.wakeNow {src : Nat} (h : s.Canonical) : (s.wakeNow src).Canonical := (h.when fun _ h => h.frame).wakeDieUp

theorem State.Canonical.decline {req code : Nat} (h : s.Canonical) : (s.decline req code).Canonical := h.frame.commit

theorem State.Canonical.wakeEvent {src : Nat} (h : s.Canonical) : (s.wakeEvent src).Canonical := h.ite (h.decline.ite (h.ite h.wakeNow))

/-- A state that takes the host memory of another. -/
theorem State.Canonical.withHostMemOf (h : s.Canonical) (ht : t.Canonical) : ({ t with hostMem := s.hostMem } : State).Canonical :=
  ⟨ht.mem, h.hostMem, ht.pktMem⟩

theorem State.Canonical.brownout {d : Die} (h : s.Canonical) : (s.brownout d).Canonical := by
  have h1 : (if s.asleep .field ≠ s.power.hostAsleep then
      { s with power := { s.power with lastWake := 8, wakeShown := s.power.wakeShown } } else s.wakeRecord 8).Canonical :=
    h.frame.ite h.frame
  have h2 {c : Bool} {o : Output} := h1.when (c := c) (f := State.emit o) fun _ h => h.frame
  cases d with
  | field => exact h.ite h2.advance.fieldHw.restoreList.fieldBoot.raiseFault
  | host => exact h.ite (h1.withHostMemOf h2.frame.hostHold).raiseFault

theorem State.Canonical.execWakeSymbol {d : Die} (h : s.Canonical) : Result.Canonical (execWakeSymbol d s) := by
  fun_cases execWakeSymbol
  · exact h.advance.fieldWake.next
  · exact h.next
  · exact h.hostWake.next
  · exact h.next

theorem State.Canonical.execWakeFailure {d : Die} (h : s.Canonical) : Result.Canonical (execWakeFailure d s) := by
  fun_cases execWakeFailure
  · exact h.next
  · exact h.fieldReset.next
  · exact h.frame.hostHold.next

theorem State.Canonical.execCurfewWindowEnd {levelEvent : Option Nat} (h : s.Canonical) :
    Result.Canonical (execCurfewWindowEnd levelEvent s) := by
  fun_cases execCurfewWindowEnd
  · exact h.next
  · exact h.frame.wakeNow.next
  · exact h.frame.next

theorem State.Canonical.execSniffPeriod {preamble : Option Int} (h : s.Canonical) : Result.Canonical (execSniffPeriod preamble s) := by
  fun_cases execSniffPeriod
  · exact h.wakeEvent.next
  · exact h.next
  · exact h.next

theorem State.Canonical.porterStop (h : s.Canonical) : s.porterStop.Canonical := h.frame.ite h.send.send.frame

theorem State.Canonical.powerDown {curfew : Bool} (h : s.Canonical) : (s.powerDown curfew).Canonical :=
  (h.each fun _ _ h => h.frame).frame.frame.frame

theorem State.Canonical.negotiate {req : Nat} (h : s.Canonical) : (s.negotiate req).Canonical := by
  fun_cases State.negotiate
  · exact h.decline
  · exact (h.frame.porterStop.when fun _ h => h.frame).powerDown
  · exact (h.frame.porterStop.when fun _ h => h.frame).powerDown.wakeNow
  · exact (h.frame.porterStop.when fun _ h => h.frame).powerDown

theorem State.Canonical.enter {req : Nat} (h : s.Canonical) : (s.enter req).Canonical := h.frame.send.ite h.negotiate

theorem State.Canonical.enterSleep {req : Nat} (h : s.Canonical) : (s.enterSleep req).2.Canonical := by
  fun_cases State.enterSleep
  · exact h
  · exact h
  · exact h
  · exact h
  · exact h.enter

theorem State.Canonical.request {req : Nat} (h : s.Canonical) : (s.request req).Canonical := h.ite h.enterSleep.frame

end Sys2Proof.Machine
end

section
/-!
PROOFS. Loads and stores, calibration and the dictionary keep the canonical form of the memories.
-/

namespace Sys2Proof.Machine

open Sys2Proof

variable {s t : State}

/-! ### Loads, stores, debug accesses (R250, R257, R275) -/

theorem State.Canonical.ioWrite {who : Writer} {a v : Nat} (h : s.Canonical) : (s.ioWrite who a v).Canonical :=
  h.ioWriteWord.negotiate.ite h.ioWriteWord

theorem State.Canonical.load {k : Die} {rd ra : RegNo} {imm : BitVec 16} {n : Nat} {signed far : Bool} (h : s.Canonical) :
    (s.load k rd ra imm n signed far).Canonical :=
  h.issue fun _ h => h.trapGuest.ite (h.trapHere.ite (h.trapBus.ite (h.wordFault.trapBus.ite
    (h.wordFix.ioConsume.ite h.wordFix).writeBack)))

theorem State.Canonical.storeBytes {k : Die} {a : Nat} {bs : List Byte} (h : s.Canonical) : (s.storeBytes k a bs).Canonical := by
  cases k with
  | field => exact h.writeBytes
  | host => exact h.foldl fun _ h _ => ⟨h.mem, Tab.wf_set h.hostMem _ _, h.pktMem⟩

theorem State.Canonical.storeData {k : Die} {rd ra : RegNo} {imm : BitVec 16} {n : Nat} {far : Bool} (h : s.Canonical) :
    (s.storeData k rd ra imm n far).Canonical :=
  h.issue fun _ h => h.trapGuest.ite (h.trapHere.ite (h.trapBus.ite (h.wordFault.retire.ite
    ((State.Canonical.retire (by split; exact h.ioWrite; exact h.hostIoWrite)).ite h.wordFix.storeBytes.retire))))

theorem State.Canonical.debugFail {a typ : Nat} (h : s.Canonical) : (s.debugFail a typ).Canonical := (h.eccFault.ite h.captureAccess).frame

theorem State.Canonical.debugAccess {typ a : Nat} {d : Word} (h : s.Canonical) : (s.debugAccess typ a d).Canonical := by
  refine h.ite ?_
  extract_lets _ s1 bad _ s2 v _ s3
  have h2 : s2.Canonical := h.frame.thenIf fun h => h.frame.commit
  have h3 : s3.Canonical := h2.frame
  exact h2.debugFail.ite ((h2.ite (h2.ioWrite.ite h2.eccFix.writeBytes)).ite (h3.ite (h3.ioConsume.ite h3.eccFix)))

/-! ### Calibration (R462 to R477) -/

theorem State.Canonical.calBegin {code target : Nat} {track : Option Nat} (h : s.Canonical) :
    (s.calBegin code target track).Canonical := by
  have applied : ∀ {o : Option Nat} {f : Nat → State → State} {s : State}, s.Canonical →
      (∀ v s, s.Canonical → (f v s).Canonical) →
      State.Canonical (match o with | some v => f v s | none => s) := by
    intro o f s h hf
    split
    · exact hf _ _ h
    · exact h
  exact applied (applied h.frame fun _ _ h => h.frame) fun _ _ h => h.frame

theorem State.Canonical.calEnd {state reason : Nat} (h : s.Canonical) : (s.calEnd state reason).Canonical :=
  (h.frame.each fun _ _ h => h.frame).each fun _ _ h => h.frame

theorem State.Canonical.calGo {code target : Nat} {track : Option Nat} (h : s.Canonical) : (s.calGo code target track).Canonical :=
  h.frame.ite h.calBegin

theorem State.Canonical.calibTry (h : s.Canonical) : s.calibTry.Canonical := by
  fun_cases State.calibTry
  · exact h.frame.calGo
  · exact h
  · exact h.frame.calGo
  · exact h

theorem State.Canonical.correct {rx : Bool} {i : Nat} {amp phase : Rat} (h : s.Canonical) : (s.correct rx i amp phase).Canonical :=
  h.frame.ite h.frame

theorem State.Canonical.calApply {code target : Nat} {m : CalMeasure} (h : s.Canonical) : (s.calApply code target m).Canonical := by
  fun_cases State.calApply
  · exact h.frame.correct
  · exact h.frame.correct
  all_goals exact h.frame.frame

theorem State.Canonical.calDuty {code : Nat} (h : s.Canonical) : (s.calDuty code).Canonical := h.frame.ite h

theorem State.Canonical.calJournal {code reason target : Nat} {v : Rat} (h : s.Canonical) : (s.calJournal code reason target v).Canonical :=
  h.commit

theorem State.Canonical.calWords {code target : Nat} {m : CalMeasure} (h : s.Canonical) : (s.calWords code target m).Canonical :=
  (h.each fun _ _ h => h.frame).frame.ite (h.each fun _ _ h => h.frame)

theorem State.Canonical.calFinish {code target : Nat} {m : CalMeasure} (h : s.Canonical) : (s.calFinish code target m).2.Canonical := by
  fun_cases State.calFinish
  · exact h.frame.calWords.calDuty.calEnd.calJournal
  · exact h.frame.calWords.calDuty.calEnd
  · exact h.frame.calWords.calDuty.frame.calApply.calEnd
  · exact h.frame.calWords.calDuty.frame.calEnd.calJournal

theorem State.Canonical.execCalibrationDone {m : CalMeasure} (h : s.Canonical) : Result.Canonical (execCalibrationDone m s) := by
  unfold Machine.execCalibrationDone
  dsimp only
  split
  · exact h.calibTry.next
  · exact h.calibTry.calFinish.calibTry.next
  · exact (State.Canonical.when h.calibTry.calFinish fun _ h => h.endSimple).calibTry.next

theorem State.Canonical.calStageGo {t : Nat} (h : s.Canonical) : (s.calStageGo t).Canonical :=
  (h.frame.endSimple.ite h.calBegin.frame).ite h.frame

theorem State.Canonical.calStart (h : s.Canonical) : s.calStart.2.Canonical := by
  fun_cases State.calStart
  · exact h
  · exact h
  · exact h
  · exact h
  · exact h.frame.calibTry

theorem State.Canonical.commitCal {p : List Byte} (h : s.Canonical) : (s.commitCal p).2.Canonical := by
  unfold State.commitCal
  simp only [apply_ite Prod.snd]
  exact h.ite (h.ite (h.frame.each fun _ _ h => h.nvmSubmit))

theorem State.Canonical.hfLoop (h : s.Canonical) : s.hfLoop.2.Canonical := by
  fun_cases State.hfLoop
  · exact h
  · exact h
  · exact h.frame
  · exact h.frame

/-! ### Dictionary reads (R300 to R305) -/

theorem State.Canonical.afterRead {idx sub : Nat} (h : s.Canonical) : (s.afterRead idx sub).Canonical := by
  fun_cases State.afterRead
  · exact h.frame
  · exact h.frame
  · exact h.frame
  · exact h.frame
  · exact h

theorem State.Canonical.dictRead {idx sub : Nat} (h : s.Canonical) : (s.dictRead idx sub).2.2.Canonical := by
  fun_cases State.dictRead
  · exact h
  · exact h
  · exact h
  · exact h.afterRead

/-! ### Dictionary writes (R300 to R309) -/

theorem State.Canonical.feederEnable {f : Nat} (h : s.Canonical) : (s.feederEnable f).Canonical := h.frame.ite (h.ite h.frame)

theorem State.Canonical.levelSetting (h : s.Canonical) : s.levelSetting.Canonical := h.requestLevel.ite (h.requestLevel.ite h)

theorem State.Canonical.settingEffect {idx sub : Nat} (h : s.Canonical) : (s.settingEffect idx sub).Canonical :=
  h.feederEnable.ite (h.refSetting.ite (h.writeBytes.ite (h.channelTry.ite
    ((h.ite h.radioPins).ite (h.frame.ite (h.frame.ite (h.frame.ite (h.levelSetting.ite (h.frame.release.streamOut.ite h.compileFor)))))))))

theorem State.Canonical.putObj {o : Obj} {idx sub : Nat} {v : List Byte} (h : s.Canonical) : (s.putObj o idx sub v).Canonical :=
  h.frame.frame.settingEffect

theorem State.Canonical.restoreDefaults (h : s.Canonical) : s.restoreDefaults.Canonical := h.frame.foldl fun _ h _ => h.settingEffect

theorem State.Canonical.captureArm {v : Nat} (h : s.Canonical) : (s.captureArm v).2.Canonical := by
  fun_cases State.captureArm
  · exact h.frame
  · exact h
  · exact h.frame

theorem State.Canonical.sweepStart {p : Nat} (h : s.Canonical) : (s.sweepStart p).2.Canonical := by
  fun_cases State.sweepStart
  · exact h
  · exact h.requestSweep

theorem State.Canonical.ringLoop (h : s.Canonical) : s.ringLoop.2.Canonical := by
  fun_cases State.ringLoop
  · exact h
  · exact h.frame
  · exact h.frame.relaySet

theorem State.Canonical.shiftEcho {overSpi : Bool} {v : Nat} (h : s.Canonical) : (s.shiftEcho overSpi v).Canonical := h.frame.frame

theorem State.Canonical.clearCounters {idx : Nat} (h : s.Canonical) : (s.clearCounters idx).Canonical := by
  fun_cases State.clearCounters
  · exact h.frame
  · exact h.frame
  · exact h.frame
  · exact h

theorem State.Canonical.action {idx sub : Nat} {v : List Byte} (h : s.Canonical) : (s.action idx sub v).2.Canonical := by
  fun_cases State.action
  · exact h.storeSettings
  · exact h
  · exact h.restoreDefaults
  · exact h.imagePage
  · exact h.relearn
  · exact h.frame
  · exact h.captureArm
  · exact h.frame
  · exact h.startSecurity
  · exact h.startTemplate
  · exact h.guestPage
  · exact h.frame
  · exact h.startApdu
  · exact h.calRequest
  · exact h.doorLoop
  · exact h.ringLoop
  · exact h.clearCounters
  · exact h.ackBoth
  · exact h.releaseCapture
  · exact h.releaseCapture
  · exact h.clearCounters
  · exact h.clearCounters
  · exact h.enterSleep
  · exact h.calStart
  · exact h.hfLoop
  · exact h.sweepStart

theorem State.Canonical.applyWrite {o : Obj} {overSpi : Bool} {idx sub : Nat} {v : List Byte} (h : s.Canonical) :
    (s.applyWrite o overSpi idx sub v).2.Canonical := by
  fun_cases State.applyWrite
  · exact h.action
  · exact h
  · exact h.writeDoorGroup
  · exact h.shiftEcho
  · exact h.putObj

theorem State.Canonical.countInvalid {st : Status} (h : s.Canonical) : (s.countInvalid st).Canonical := h.when fun _ h => h.frame

theorem State.Canonical.dictWrite {overSpi : Bool} {idx sub : Nat} {v : List Byte} (h : s.Canonical) :
    (s.dictWrite overSpi idx sub v).2.Canonical := by
  fun_cases State.dictWrite
  · exact h
  · exact h
  · exact h
  · exact h
  · exact h
  · exact h
  · exact h.applyWrite.mirror
  · exact h.applyWrite

end Sys2Proof.Machine
end

section
/-!
PROOFS. The twin, class A commands, incoming units and the ports keep the canonical form of the memories.
-/

namespace Sys2Proof.Machine

open Sys2Proof

variable {s t : State}

/-! ### The lead role and takeover (R359 to R375) -/

theorem State.Canonical.arpBoth {ip : Nat} (h : s.Canonical) : (s.arpBoth ip).Canonical := h.portSend.portSend

theorem State.Canonical.gainService (h : s.Canonical) : s.gainService.Canonical := h.frame.frame.arpBoth.ite h.frame

theorem State.Canonical.sendRole {lead : Bool} (h : s.Canonical) : (s.sendRole lead).Canonical := h.send

theorem State.Canonical.takeRole (h : s.Canonical) : s.takeRole.Canonical := h.frame.pin.sendRole.gainService

theorem State.Canonical.startCopy (h : s.Canonical) : s.startCopy.Canonical := h.frame.foldl fun _ h _ => h.send

theorem State.Canonical.leadReady (h : s.Canonical) : s.leadReady.Canonical := h.startCopy.ite h

theorem State.Canonical.yieldLead {handover : Bool} (h : s.Canonical) : (s.yieldLead handover).Canonical :=
  ((h.each fun _ _ h => h.abortTrack).each fun _ _ h => h.frame).frame.calibInterrupt.frame.pin.sendRole.elseIf fun h => h.raiseFault

theorem State.Canonical.handOver (h : s.Canonical) : s.handOver.Canonical := (h.each fun _ _ h => h.frame).send.yieldLead

theorem State.Canonical.handoverTry (h : s.Canonical) : s.handoverTry.Canonical := h.handOver.ite h

theorem State.Canonical.restartService {verify : Bool} {c : ChangeMsg} (h : s.Canonical) : (s.restartService verify c).Canonical := by
  fun_cases State.restartService
  · exact h.frame
  · exact h.frame
  · exact h.startTrack.frame
  · exact h
  · exact h

theorem State.Canonical.exchangeUnknown {c : ChangeMsg} {esn : Nat} (h : s.Canonical) : (s.exchangeUnknown c esn).Canonical := h.commit

theorem State.Canonical.resolveChange {p : ChangeMsg × Nat} (h : s.Canonical) : (s.resolveChange p).Canonical := by
  fun_cases State.resolveChange
  · exact h.restartService
  · exact h.frame.exchangeUnknown.endTemplate
  · exact h.frame.endApdu
  · exact h

theorem State.Canonical.commandUnknown {p : Nat × Nat} (h : s.Canonical) : (s.commandUnknown p).Canonical := h.frame.commit

theorem State.Canonical.resumeSweep (h : s.Canonical) : s.resumeSweep.Canonical := by
  fun_cases State.resumeSweep
  · exact h
  · exact h.frame.frame.nextWave

theorem State.Canonical.takeover {code : Nat} (h : s.Canonical) : (s.takeover code).Canonical :=
  (((h.takeRole.frame.foldl fun _ h _ => h.restartService).raiseFault.foldl fun _ h _ => h.resolveChange).settleAttempts.foldl fun _ h _ =>
    h.commandUnknown).resumeSweep.streamAll.when fun _ h => h.leadReady

theorem State.Canonical.trigger {code : Nat} (h : s.Canonical) : (s.trigger code).Canonical := h.ite (h.takeover.ite h.raiseFault)

/-! ### Class A commands (R311 to R318) -/

theorem State.Canonical.journalCommand {b : List Byte} {st : Status} (h : s.Canonical) : (s.journalCommand b st).Canonical := h.commit

theorem State.Canonical.badMac {slot : Nat} (h : s.Canonical) : (s.badMac slot).Canonical :=
  h.frame.frame.ite h.frame.frame.frame.commit.raiseFault

theorem State.Canonical.execSlotHoldEnd {slot : Fin 16} (h : s.Canonical) : Result.Canonical (execSlotHoldEnd slot s) := by
  fun_cases execSlotHoldEnd
  · exact h.next
  · exact h.advanceTs.frame.next

theorem State.Canonical.reserveBlock {slot ctr : Nat} (h : s.Canonical) : (s.reserveBlock slot ctr).Canonical := h.ite h.frame.frame.mirror

theorem State.Canonical.setMask {p : List Byte} (h : s.Canonical) : (s.setMask p).2.Canonical := by
  fun_cases State.setMask
  · exact h
  · exact h
  · exact h.frame.frame

theorem State.Canonical.loadTwin {p : List Byte} (h : s.Canonical) : (s.loadTwin p).2.Canonical := by
  fun_cases State.loadTwin
  · exact h.frame
  · exact h.frame.mirror
  · exact h.frame

theorem State.Canonical.handOverCmd {p : List Byte} (h : s.Canonical) : (s.handOverCmd p).2.Canonical := by
  fun_cases State.handOverCmd
  · exact h
  · exact h.frame

theorem State.Canonical.enableDebug {p : List Byte} (h : s.Canonical) : (s.enableDebug p).2.Canonical := by
  fun_cases State.enableDebug
  · exact h
  · exact h.frame
  · exact h.frame

theorem State.Canonical.runObject {idx sub : Nat} {p : List Byte} (h : s.Canonical) : (s.runObject idx sub p).2.Canonical := by
  fun_cases State.runObject
  · exact h.setMask
  · exact h.checkImage
  · exact h.emptyRoster
  · exact h
  · exact h.loadKey
  · exact h.loadIssuer
  · exact h.eraseKey
  · exact h.releaseTag
  · exact h.guestActivate
  · exact h.loadTwin
  · exact h.handOverCmd
  · exact h.ackAny
  · exact h.commitCal
  · exact h.enableDebug
  · exact h

theorem State.Canonical.runCommand {b : List Byte} (h : s.Canonical) : (s.runCommand b).2.Canonical := by
  fun_cases State.runCommand
  · exact h
  · exact h
  · exact h.runObject
  · exact h

theorem State.Canonical.finishCommand {c : CmdIn} {viaPorter mac : Bool} (h : s.Canonical) :
    (s.finishCommand c viaPorter mac).Canonical :=
  (h.runCommand.journalCommand.replyAfter.thenIf fun h => h.handoverTry).thenIf fun h => h.fieldReset

theorem State.Canonical.refuseCommand {c : CmdIn} {viaPorter : Bool} {st : Status} (h : s.Canonical) :
    (s.refuseCommand c viaPorter st).Canonical :=
  h.reply

theorem State.Canonical.failCommand {c : CmdIn} {viaPorter : Bool} {st : Status} (h : s.Canonical) :
    (s.failCommand c viaPorter st).Canonical :=
  h.journalCommand.reply

theorem State.Canonical.bootstrap {c : CmdIn} {viaPorter : Bool} (h : s.Canonical) : (s.bootstrap c viaPorter).Canonical :=
  h.countInvalid.refuseCommand.ite h.finishCommand

theorem State.Canonical.consume {c : CmdIn} {viaPorter : Bool} (h : s.Canonical) : (s.consume c viaPorter).Canonical :=
  h.frame.frame.mirror.failCommand.ite (h.frame.frame.mirror.frame.ite h.frame.frame.mirror.finishCommand)

theorem State.Canonical.checkCounter {c : CmdIn} {viaPorter : Bool} (h : s.Canonical) : (s.checkCounter c viaPorter).Canonical :=
  h.failCommand.ite (h.frame.failCommand.ite (h.failCommand.ite h.reserveBlock.consume))

theorem State.Canonical.checkMac {c : CmdIn} {viaPorter : Bool} (h : s.Canonical) : (s.checkMac c viaPorter).Canonical :=
  h.refuseCommand.ite (h.refuseCommand.ite (h.badMac.refuseCommand.ite h.checkCounter))

theorem State.Canonical.command {c : CmdIn} {viaPorter : Bool} (h : s.Canonical) : (s.command c viaPorter).Canonical := by
  fun_cases State.command
  · exact h.refuseCommand
  · exact h.refuseCommand
  · exact h.refuseCommand
  · exact h.refuseCommand
  · exact h.refuseCommand
  · exact h.bootstrap
  · exact h.checkMac

theorem State.Canonical.commandUnit {unit : List Byte} {c : CmdIn} (h : s.Canonical) : (s.commandUnit unit c).Canonical := by
  fun_cases State.commandUnit
  · exact h.refuseCommand
  · exact h.proxy

theorem State.Canonical.commandWhole {c : CmdIn} (h : s.Canonical) : (s.commandWhole c).Canonical := by
  fun_cases State.commandWhole
  · exact h.refuseCommand
  · exact h.command

/-! ### Units on their way in (R306 to R310) -/

theorem State.Canonical.proxyUnit {u : LdpIn} {q : DictReq} (h : s.Canonical) : (s.proxyUnit u q).Canonical := h.proxy

theorem State.Canonical.dictAnswer {u : LdpIn} {q : DictReq} {st : Status} {v : List Byte} (h : s.Canonical) :
    (s.dictAnswer u q st v).Canonical :=
  h.reply

theorem State.Canonical.serveRead {u : LdpIn} (h : s.Canonical) : (s.serveRead u).Canonical := by
  unfold State.serveRead
  dsimp only
  split
  · exact h.dictAnswer
  · exact h.proxyUnit.ite (State.Canonical.dictAnswer h.dictRead)

theorem State.Canonical.writeFor {overSpi : Bool} {idx sub : Nat} {v : List Byte} (h : s.Canonical) :
    (s.writeFor overSpi idx sub v).2.2.Canonical :=
  h.dictWrite

theorem State.Canonical.serveWrite {u : LdpIn} (h : s.Canonical) : (s.serveWrite u).Canonical := by
  unfold State.serveWrite
  dsimp only
  split
  · exact h.dictAnswer
  · exact h.proxyUnit.ite (State.Canonical.replyAfter h.writeFor)

theorem State.Canonical.setObserver {p : Peer} {mask : Nat} (h : s.Canonical) : (s.setObserver p mask).2.Canonical := by
  fun_cases State.setObserver
  · exact h.frame
  · exact h.frame
  · exact h
  · exact h.frame

theorem State.Canonical.serveSubscribe {u : LdpIn} (h : s.Canonical) : (s.serveSubscribe u).Canonical :=
  (h.setObserver.when fun _ h => h.mirror).reply

theorem State.Canonical.serveEventAck {u : LdpIn} (h : s.Canonical) : (s.serveEventAck u).Canonical := h.frame.mirror

theorem State.Canonical.ackStore {k off start count : Nat} (h : s.Canonical) : (s.ackStore k off start count).Canonical :=
  h.frame.ite h.frame.send.mirror.repair.streamOut

theorem State.Canonical.serveJournalAck {u : LdpIn} (h : s.Canonical) : (s.serveJournalAck u).Canonical := h.ackStore

theorem State.Canonical.serveUnit {whole : Bool} {u : LdpIn} (h : s.Canonical) : (s.serveUnit whole u).Canonical := by
  fun_cases State.serveUnit
  · exact h.serveRead
  · exact h.serveWrite
  · exact h.commandWhole
  · exact h.commandUnit
  · exact h.serveSubscribe
  · exact h.serveEventAck
  · exact h.serveJournalAck

theorem State.Canonical.ldpUnit {u : LdpIn} {whole : optParam Bool false} (h : s.Canonical) : (s.ldpUnit u whole).Canonical := by
  fun_cases State.ldpUnit
  · exact h
  · exact h.sendUnit
  · exact h.sendUnit
  · exact h.serveUnit

theorem State.Canonical.unitOf {utype : Nat} {u : LdpIn} (h : s.Canonical) : (s.unitOf utype u).Canonical := h.ldpUnit.ite h

theorem State.Canonical.commandOf {idx sub : Nat} {c : CmdIn} (h : s.Canonical) : (s.commandOf idx sub c).Canonical := h.ldpUnit.ite h

theorem State.Canonical.writeRow {overSpi : Bool} {idx sub : Nat} {v : List Byte} (h : s.Canonical) :
    (s.writeRow overSpi idx sub v).Canonical := by
  refine h.ite ?_
  split
  · exact h.reply
  · exact State.Canonical.replyAfter h.writeFor

/-! ### The ring port (R330 to R346) -/

theorem State.Canonical.forward {p : Port} {f : RingIn} (h : s.Canonical) : (s.forward p f).Canonical :=
  h.ite (h.frame.ite h.frame.portSend)

theorem State.Canonical.noteNode {mac : Nat} (h : s.Canonical) : (s.noteNode mac).Canonical := h.ite (h.frame.ite h.frame)

theorem State.Canonical.wakeAck (h : s.Canonical) : s.wakeAck.Canonical := h.arpBoth

theorem State.Canonical.wakeSeen (h : s.Canonical) : s.wakeSeen.Canonical :=
  h.ite ((h.wakeAck.frame.when fun _ h => h.wakeEvent).ite (h.wakeAck.wakeEvent.ite h.wakeAck.wakeEvent.frame))

theorem State.Canonical.takeUnit {ip udp : Nat} {u : LdpIn} (h : s.Canonical) : (s.takeUnit ip udp u).Canonical := h.ite h.frame.ldpUnit

theorem State.Canonical.deliverFrame {p : Port} {f : RingIn} (h : s.Canonical) : (s.deliverFrame p f).Canonical := by
  fun_cases State.deliverFrame
  · exact h.noteNode
  · exact h.frame
  · exact h.takeUnit
  · exact h.portSend
  · exact h
  · exact h.frame
  · exact h.portSend
  · exact h
  · exact h.wakeSeen
  all_goals exact h

theorem State.Canonical.takeFrame {p : Port} {f : RingIn} (h : s.Canonical) : (s.takeFrame p f).Canonical :=
  h.frame.ite (h.frame.ite h.frame.deliverFrame)

theorem State.Canonical.ringFrame {p : Port} {f : RingIn} (h : s.Canonical) : (s.ringFrame p f).Canonical :=
  h.ite (h.frame.ite (h.frame.ite (h.frame.ite (((h.ite h.frame).ite (h.ite h.frame).forward).thenIf fun h => h.takeFrame))))

/-! ### The SPI host port (R347 to R358) -/

theorem State.Canonical.shiftOut {k : Sel} (h : s.Canonical) : (s.shiftOut k).Canonical := h.frame.frame.frame.frame

theorem State.Canonical.spiUnitDone {k : Sel} {u : List Byte} (h : s.Canonical) : (s.spiUnitDone k u).Canonical :=
  h.frame.spiQueue.ite h.frame.ldpUnit

theorem State.Canonical.spiSegment {k : Sel} {start stop : Bool} {payload : List Byte} (h : s.Canonical) :
    (s.spiSegment k start stop payload).Canonical := by
  fun_cases State.spiSegment
  · exact (h.frame.ite h).frame
  · exact (h.frame.ite h).frame
  · exact (h.frame.ite h).spiUnitDone
  · exact (h.frame.ite h).frame

theorem State.Canonical.spiJudge {k : Sel} {f out : List Byte} (h : s.Canonical) : (s.spiJudge k f out).Canonical :=
  (h.frame.ite (h.frame.spiSegment.ite h.frame)).ite (h.frame.ite h.frame.frame)

theorem State.Canonical.spiCollide {k : Sel} {f : List Byte} (h : s.Canonical) : (s.spiCollide k f).Canonical := h.frame.frame

theorem State.Canonical.spiFrame {k : Sel} {f : List Byte} {both : Bool} (h : s.Canonical) : (s.spiFrame k f both).Canonical :=
  h.ite (h.frame.frame.ite (h.spiCollide.ite (h.frame.frame.frame.ite (h.frame.frame.ite (h.shiftOut.frame.ite h.shiftOut.spiJudge)))))

theorem State.Canonical.spiRow {ftype : Nat} {k : Sel} {f : List Byte} {both : Bool} (h : s.Canonical) :
    (s.spiRow ftype k f both).Canonical :=
  h.ite h.spiFrame

/-! ### The twin's rows (R359 to R375) -/

theorem State.Canonical.releaseReply {p : Payload} (h : s.Canonical) : (s.releaseReply p).Canonical := by
  fun_cases State.releaseReply
  · exact h
  · exact h.frame.reply

theorem State.Canonical.releaseCommand {p : Payload} (h : s.Canonical) : (s.releaseCommand p).Canonical := by
  fun_cases State.releaseCommand
  · exact h
  · exact h.frame.finishCommand

theorem State.Canonical.releaseRecord {r : JRec} (h : s.Canonical) : (s.releaseRecord r).Canonical := h.frame.frame.deliver.ite h.frame

theorem State.Canonical.mirrored {p : Payload} (h : s.Canonical) : (s.mirrored p).Canonical :=
  (State.Canonical.releaseReply (by split; exact h.releaseRecord; exact h.negotiate.ite h; exact h.frame.ite h; exact h)).releaseCommand

theorem State.Canonical.releaseAll (h : s.Canonical) : s.releaseAll.Canonical :=
  (((h.frame.foldl fun _ h _ => h.deliver).foldl fun _ h _ => h.reply).foldl fun _ h _ => h.finishCommand).thenIf fun h => h.negotiate

theorem State.Canonical.goSolo (h : s.Canonical) : s.goSolo.Canonical := h.frame.releaseAll.raiseFault.ite h

theorem State.Canonical.followTs {ts : Nat} (h : s.Canonical) : (s.followTs ts).Canonical := h.frame.ite h

theorem State.Canonical.fieldAnswer {n : Nat} (h : s.Canonical) : (s.fieldAnswer n).Canonical := by
  fun_cases State.fieldAnswer <;> exact h.send

theorem State.Canonical.fieldJudge {n fwd commanded : Nat} (h : s.Canonical) : (s.fieldJudge n fwd commanded).Canonical :=
  h.ite (h.frame.frame.raiseFault.ite h.frame.trigger)

theorem State.Canonical.mirrorRecord {r : JRec} (h : s.Canonical) : (s.mirrorRecord r).Canonical :=
  (h.frame.frame.ite (h.frame.frame.ite h.frame)).deliver

theorem State.Canonical.mirrorWave {w : WaveMsg} (h : s.Canonical) : (s.mirrorWave w).Canonical := by
  fun_cases State.mirrorWave <;> exact h.frame

theorem State.Canonical.mirrorClose {digest : Nat} (h : s.Canonical) : (s.mirrorClose digest).Canonical :=
  h.frame.closeHeld.ite h.frame.closeHeld.frame.raiseFault.frame.sendHello.sendPair

theorem State.Canonical.mirrorReserve {r : ReserveMsg} (h : s.Canonical) : (s.mirrorReserve r).Canonical := by
  fun_cases State.mirrorReserve
  · exact h.frame.frame
  · exact h.frame.frame
  · exact h.frame

theorem State.Canonical.mirrorKey {kind slot : Nat} {m : List Byte} (h : s.Canonical) : (s.mirrorKey kind slot m).Canonical := by
  fun_cases State.mirrorKey
  · exact h.frame
  · exact h
  · exact h.frame
  · exact h.frame
  · exact h.frame.frame
  · exact h

theorem State.Canonical.mirrorSetting {idx sub : Nat} {v : List Byte} (h : s.Canonical) : (s.mirrorSetting idx sub v).Canonical := by
  fun_cases State.mirrorSetting
  · exact h.restoreDefaults
  · exact h.writeDoorGroup
  · exact h.putObj
  · exact h
  · exact h

theorem State.Canonical.mirrorStore {k off : Nat} (h : s.Canonical) : (s.mirrorStore k off).Canonical := h.frame.release

theorem State.Canonical.pairedNow (h : s.Canonical) : s.pairedNow.Canonical := h.frame.startCopy.ite (h.frame.frame.ite h.frame)

theorem State.Canonical.unpaired (h : s.Canonical) : s.unpaired.Canonical := h.goSolo.frame.raiseFault

theorem State.Canonical.copyPart {p : ResyncPart} (h : s.Canonical) : (s.copyPart p).Canonical := by
  fun_cases State.copyPart
  · exact h.frame
  · exact h.mirrorReserve
  · exact h.mirrorKey
  · exact h.frame
  · exact h
  · exact h.mirrorRecord
  · exact h.frame
  · exact h.frame
  · exact h.frame
  · exact h.frame
  · exact h.frame
  · exact h.frame
  · exact h.mirrorSetting
  · exact h.frame

theorem State.Canonical.becomeSecond (h : s.Canonical) : s.becomeSecond.Canonical := h.frame.frame.ite h.frame

/-! ### The rows of the message links (R22 to R43) -/

theorem State.Canonical.twinHello {nonce : List Byte} {esn : Nat} {posA : Bool} (h : s.Canonical) :
    (s.twinHello nonce esn posA).Canonical :=
  (h.frame.ite h.frame.frame.raiseFault).ite (h.frame.frame.ite (h.frame.frame.unpaired.ite h.frame.frame.sendPair))

theorem State.Canonical.acknowledged {l : LinkEnd} {next : Nat} (h : s.Canonical) : (s.acknowledged l next).Canonical :=
  (h.modLink.foldl fun _ h _ => h.mirrored).ite h.modLink

theorem State.Canonical.takeAck {l : LinkEnd} {next : Nat} (h : s.Canonical) : (s.takeAck l next).Canonical :=
  h.acknowledged.modLink.pump.retransmit.ite h.acknowledged.modLink.pump

theorem State.Canonical.twinLost (h : s.Canonical) : s.twinLost.Canonical := h.frame.frame.ite h.frame.goSolo

theorem State.Canonical.refuseProxied (h : s.Canonical) : s.refuseProxied.Canonical := h.frame.foldl fun _ h _ => h.reply

theorem State.Canonical.execLinkLost {l : LinkEnd} (h : s.Canonical) : Result.Canonical (execLinkLost l s) := by
  fun_cases execLinkLost
  · exact h.next
  · exact h.modLink.raiseFault.next
  · exact h.modLink.refuseProxied.frame.raiseFault.next
  · exact h.modLink.twinLost.next

theorem State.Canonical.resendAll (h : s.Canonical) : s.resendAll.Canonical :=
  (h.modLink.foldl fun _ h _ => h.send).foldl fun _ h _ => h.send

theorem State.Canonical.resyncCurrent {l : LinkEnd} {rx : Nat} (h : s.Canonical) : (s.resyncCurrent l rx).Canonical :=
  h.modLink.resendAll.ite h.modLink

theorem State.Canonical.resyncAt {l : LinkEnd} {tx rx : Nat} (h : s.Canonical) : (s.resyncAt l tx rx).Canonical := by
  fun_cases State.resyncAt
  · exact (h.modLink.acknowledged.retransmit.ite h.modLink.resyncCurrent).pump.storeShow
  · exact (h.modLink.acknowledged.retransmit.ite h.modLink.resyncCurrent).pump
  · exact (h.modLink.acknowledged.retransmit.ite h.modLink.resyncCurrent).pump

theorem State.Canonical.serveProxied {peer : Peer} {rid : Nat} {q : DictReq} (h : s.Canonical) : (s.serveProxied peer rid q).Canonical := by
  cases q with
  | read idx sub => exact h.reply.ite (State.Canonical.reply h.dictRead)
  | write idx sub v => exact h.reply.ite (State.Canonical.replyAfter h.writeFor)

theorem State.Canonical.hostEvents {recs : List JRec} (h : s.Canonical) : (s.hostEvents recs).Canonical := h.frame.notifyAll.send

theorem State.Canonical.hostRecords {recs : List JRec} (h : s.Canonical) : (s.hostRecords recs).Canonical := h.frame.streamAll

theorem State.Canonical.storeKnown {k off : Nat} (h : s.Canonical) : (s.storeKnown k off).Canonical := h.ite h.frame.release

theorem State.Canonical.hostRole {lead : Bool} (h : s.Canonical) : (s.hostRole lead).Canonical := (h.ite h.gainService).ite h.frame

theorem State.Canonical.carryReport {b : List Byte} (h : s.Canonical) : (s.carryReport b).Canonical :=
  h.frame.ite (h.frame.foldl fun _ h _ => h.when fun _ h => h.frame)

end Sys2Proof.Machine
end

section
/-!
PROOFS. Every command, and so every step, keeps the canonical form of the three byte memories.
-/

namespace Sys2Proof.Machine

open Sys2Proof

variable {s : State}

/-- Every command keeps the canonical form. -/
theorem State.Canonical.exec (c : Instr) (h : s.Canonical) : Result.Canonical (exec c s) := by
  cases c with
  | linkHello => exact (h.receive fun _ h => h.twinHello.ite h).next
  | helloPeriod => exact .ite h.sendHello.next h.next
  | linkAck => exact (h.receive fun _ h => h.takeAck).next
  | ackPeriod => exact .ite h.sendAck.next h.next
  | retransmitTimeout => exact .ite h.retransmit.next h.next
  | linkLost => exact h.execLinkLost
  | linkResync => exact (h.receive fun _ h => h.resyncAt).next
  | dictReq => exact (h.receive fun _ h => h.serveProxied).next
  | dictRsp | cmdRsp => exact (h.receive fun _ h => h.proxyAnswer).next
  | cmdReq => exact (h.receive fun _ h => h.command).next
  | porterEvent => exact (h.receive fun _ h => h.hostEvents).next
  | porterEventAck | time | mService => exact (h.receive fun _ h => h.frame).next
  | porterJournal => exact (h.receive fun _ h => h.hostRecords).next
  | porterJournalAck => exact (h.receive fun _ h => h.storeKnown).next
  | powerState => exact (h.receive fun _ h => by split; exact h.hostRole.ite h; exact h).next
  | report => exact (h.receive fun _ h => h.carryReport).next
  | faultMsg => exact (h.receive fun _ h => by split; exact h.frame; exact h.journalFault).next
  | porterEcho => exact (h.receive fun _ h => h.modLink.ite h.echoBack).next
  | tbcclRead | tsSave | doorHoldOffEnd | debugExpiry | resume | journalCheckpoint | nodeForget | entryForget | returnToMains =>
    exact h.frame.next
  | referenceChange => exact .ite h.next (h.frame.commit.raiseFault.ite h.frame.commit).next
  | zeroCrossEdge => exact h.execZeroCrossEdge
  | freeRunning | lowPowerIdle => exact .ite h.frame.next h.next
  | mainsReport => exact .ite h.frame.next h.frame.goVirtual.next
  | mainsCycleEnd => exact h.advance.next
  | select => exact (h.beginStage fun _ _ h => h.beginSelect).next
  | shape => exact (h.beginStage fun _ _ h => (h.when fun _ h => h.frame).beginSelect).next
  | emit => exact (h.beginStage fun _ _ h => h.unlessLent fun _ h => h.emitFrame).next
  | listen | exchange => exact (h.beginStage fun _ _ h => h.unlessLent fun _ h => h.prepareListen).next
  | waitStage => exact (h.beginStage fun _ _ h => h.endPlain).next
  | meet => exact (h.beginStage fun _ _ h => h.frame).next
  | meetRelease => exact .ite h.next (h.meetRelease.waveBoundary.calibTry.handoverTry.ite h.meetRelease).next
  | branch => exact (h.beginStage fun _ _ h => h.advance.endPlain).next
  | defer => exact (h.beginStage fun _ _ h => h.frame.post).next
  | verdict => exact h.verdict.next
  | post | mark => exact (h.beginStage fun _ _ h => h.advance.frame.frame.post).next
  | callStage => exact (h.beginStage fun _ _ h => h.stackStop.ite h.advance.frame.goOn).next
  | returnStage => exact h.execReturnStage
  | sense => exact (h.senseRow.ite (h.beginStage fun _ _ h => h.senseOver)).next
  | calib => exact (h.beginStage fun _ _ h => (h.ite (h.ite h.frame)).calStageGo).next
  | halt => exact (h.beginStage fun _ _ h => h.credentialResult.stopTrack).next
  | tout => exact h.execTout
  | resourceWaitEnd => exact .ite h.calStageGo.next h.resourceWaitEnd.next
  | horizonEnd => exact h.execHorizonEnd
  | heldRelease => exact h.releaseHeld.next
  | qpop => exact h.qpop.next
  | qflush => exact h.qflush.next
  | start => exact .ite h.startTrack.frame.mirror.next h.startTrack.next
  | stop => exact (h.when fun _ h => h.sweepStop).stopStage.next
  | abort => exact h.abortTrack.next
  | acknowledgePulse => exact h.execAcknowledgePulse
  | selectorSettle => exact h.execSelectorSettle
  | budgetAdmission => exact h.admitWaiters.next
  | rampEnd => exact h.rampEnd.next
  | trainingComplete => exact h.trainingComplete.next
  | feederAbsent | feederShort | feederOverload => exact (h.feederFault.ite h).next
  | feederFenced => exact h.execFeederFenced
  | feederRecovery | holdOffEnd | step => exact (h.frame.ite h).next
  | aboveCap | powerAtZero => exact .ite h.frame.raiseFault.next h.next
  | peakTimeTick => exact (h.advanceTo.frame.reduceTo.raiseFault.ite h.advanceTo.frame).noteSum.next
  | heatsinkSample => exact (((h.frame.when fun _ h => h.reduceTo).when fun _ h => h.raiseFault).when fun _ h => h.raiseFault).noteSum.next
  | sof => exact h.execSof
  | frameReceived => exact h.execFrameReceived
  | windowClose => exact h.execWindowClose
  | impulseMark => exact .ite h.next (.ite h.frame.next ((h.frame.frame.frame.ite h.frame.frame).each fun _ _ h => h.frame).next)
  | markEnd => exact h.execMarkEnd
  | mapClear | captureArm | apduStart | templateWrite | templateStart | sweepStart | reportBuild | securityStart | doorGroupWrite
  | relearn | guestPage | store | restoreDefaults | counterClear | ringLoopback | shiftRegisterEcho | acknowledgeFaults
  | releaseCapture | calibrateNow | doorLinkLoopback | calibrationStart | hfLoopback => exact h.writeRow.next
  | captureTrigger => exact h.execCaptureTrigger
  | captureDone => exact .ite h.advanceTo.frame.next h.next
  | apduResult => exact .ite h.next h.requests.frame.frame.frame.frame.endApdu.next
  | templateResult => exact h.execTemplateResult
  | sweepPeriod => exact h.execSweepPeriod
  | sweepBegin => exact h.sweepBegin.next
  | sweepClose => exact h.sweepClose.next
  | closeWaitEnd => exact h.execCloseWaitEnd
  | emptyRoster | loadWrappedKey | loadIssuerKey | eraseSlot | releaseUid | guestActivate | enableCoreDebug | checkNewImage
  | setRightsMask | loadTwinKey | handOverLead | acknowledgeAnyLevel | injectFault | commitCalibration => exact h.commandOf.next
  | reportReady => exact h.execReportReady
  | securityResult => exact h.execSecurityResult
  | failuresLeaveWindow => exact h.execFailuresLeaveWindow
  | burstEnd => exact h.execBurstEnd
  | senseSkipped => exact h.execSenseSkipped
  | lanternScan => exact .ite h.next (h.each fun _ _ h => h.skipJudgement).frame.lanternNext.next
  | impulseRepeat => exact h.execImpulseRepeat
  | add | sub | and | or | xor | andn | clt | cltu | shl | shr | shra | shlr | shrr | shrar | addi | andi | ori | xori | clti | cltiu
  | ldhi => exact h.alu.next
  | mul | mulu | mac | macu => exact h.multiply.next
  | productWrite => exact (h.ite h.modCore).next
  | rdph | rdpl => exact (h.issue fun _ h => h.settleProducts.writeBack).next
  | wrph | wrpl => exact (h.issue fun _ h => h.settleProducts.modCore.retire).next
  | jmpr | jmpf => exact (h.issue fun _ h => h.transferBy).next
  | callr => exact (h.issue fun _ h => h.cycles.call).next
  | ret => exact (h.issue fun _ h => h.trapHere.ite h.transferBy).next
  | ldw | ldh | ldhu | ldb | ldbu | ldfw => exact h.load.next
  | stw | sth | stb | stfw => exact h.storeData.next
  | beq | bne | blt | bge | bltu | bgeu => exact h.branch.next
  | jmp => exact (h.issue fun _ h => h.transfer).next
  | call => exact (h.issue fun _ h => h.call).next
  | rdsr => exact (h.issue fun _ h => h.trapHere.ite (h.modCore.ite h).writeBack).next
  | wrsr => exact (h.issue fun _ h => h.trapHere.ite h.modCore.retire).next
  | lck => exact (h.issue fun _ h => h.modCore.retire.modCore).next
  | ulk => exact (h.issue fun _ h => h.modCore.retire.when fun _ h => h.serveDeferred).next
  | lockovr => exact (h.breakLock.ite h).next
  | trap => exact (h.issue fun _ h => h.passOn.trap.when fun _ h => h.guestReturned).next
  | rfe => exact (h.issue fun _ h => h.passOn.modCore.stepDone).next
  | wait => exact (h.issue fun _ h => h.retire.ite h.retire.modCore).next
  | brk => exact (h.issue fun _ h => h.retire.frame.ite h.passOn.trap).next
  | interrupt => exact (h.modCore.trap.ite h).next
  | guestStop => exact .ite h.trapGuest.next h.next
  | debugHalt => exact (h.ite (h.frame.ite h.frame)).next
  | debugPeek | debugConsume | debugWrite => exact h.debugAccess.next
  | lockstepMismatch => exact h.raiseFaultAt.next
  | performanceLevel | levelDrop => exact .ite h.requestLevel.next h.next
  | transitionEnd => exact h.execTransitionEnd
  | wdkick => exact h.wdkick.next
  | watchdog | auxOutOfRange => exact .ite h.next h.frame.raiseFault.next
  | scrub => exact .ite h.scrubField.scrubHost.next h.next
  | nvmProgramDone => exact h.execNvmProgramDone
  | nvmEraseDone => exact h.execNvmEraseDone
  | storeComplete => exact .ite h.next (.ite h.storeField.storeHost.nvmServe.storeShow.next h.storeField.storeHost.nvmServe.frame.next)
  | fieldReset => exact h.fieldReset.next
  | hostReset => exact h.hostHold.next
  | read | write | subscribe | eventAck | journalAck => exact h.unitOf.next
  | nextRecord => exact h.ldpUnit.next
  | eventResend => exact h.resendEvents.next
  | journalResend => exact h.resendStore.next
  | slotHoldEnd => exact h.execSlotHoldEnd
  | ringFrame | wakeFrame => exact h.ringFrame.next
  | supervision =>
    exact .ite h.next (.ite h.frame.portSend.portSend.next (h.frame.portSend.portSend.frame.commit.ite
      h.frame.portSend.portSend.frame.commit.raiseFault).next)
  | linkUp | ringLoopbackEnd => exact .ite h.next h.frame.relaySet.next
  | linkDown => exact h.frame.relaySet.next
  | hostReady => exact .ite h.next h.hostBoot.next
  | addressChange => exact .ite h.next h.useAddress.arpBoth.next
  | serviceArp => exact .ite h.next h.frame.wakeAck.next
  | spiIdle | spiUnit | spiEcho => exact h.spiRow.next
  | echoDurationEnd => exact .ite h.next h.shiftEcho.next
  | heartbeatTick => exact .ite h.next h.frame.pin.send.next
  | heartbeat => exact (h.receive fun _ h => h.frame.followTs).next
  | heartbeatMissed => exact .ite h.next (.ite h.frame.next h.frame.trigger.next)
  | haltIn => exact .ite h.next h.frame.trigger.next
  | fieldAbsent => exact .ite h.frame.send.next h.next
  | fieldQuery => exact (h.receive fun _ h => h.fieldAnswer).next
  | fieldReply => exact (h.receive fun _ h => h.fieldJudge).next
  | fieldQueryTimeout => exact .ite h.frame.trigger.next h.next
  | mJournal => exact (h.receive fun _ h => h.foldl fun _ h _ => h.mirrorRecord).next
  | mWave => exact (h.receive fun _ h => h.mirrorWave).next
  | mClose => exact (h.receive fun _ h => h.ite h.mirrorClose).next
  | mCounter => exact (h.receive fun _ h => h.frame.frame).next
  | mReserve => exact (h.receive fun _ h => h.mirrorReserve).next
  | mInflight => exact (h.receive fun _ h => (h.frame.ite h).frame).next
  | mKeys => exact (h.receive fun _ h => by split; exact h.mirrorKey; exact h.frame; exact h.frame).next
  | mDict => exact (h.receive fun _ h => by split; exact h.mirrorSetting; exact h.storeSettings).next
  | mHost => exact (h.receive fun _ h => by split; exact h.setObserver; exact h.frame; exact h.mirrorStore).next
  | mPower => exact (h.receive fun _ h => h.sendAck.frame.porterStop.powerDown).next
  | haltNotice | handover => exact (h.receive fun _ h => h.trigger).next
  | pair => exact (h.receive fun _ h => h.ite (h.pairedNow.ite h.unpaired)).next
  | resyncData => exact (h.receive fun _ h => h.ite ((h.ite h.frame).foldl fun _ h _ => h.copyPart)).next
  | roleDecision =>
    exact .ite h.next (.ite h.frame.becomeSecond.next (.ite h.frame.takeRole.leadReady.next
      (.ite h.frame.becomeSecond.next (.ite h.frame.next h.frame.frame.next))))
  | yield => exact .ite h.frame.next (.ite (.ite h.frame.next h.frame.yieldLead.next) h.frame.yieldLead.next)
  | mirrorTimeout => exact .ite h.goSolo.next h.next
  | handoverAbandoned => exact .ite h.next h.frame.commit.next
  | ack => exact h.ackDie.next
  | caprel => exact h.releaseCapture.next
  | fltqConsume => exact h.takeRecord.next
  | restartDelay => exact h.execRestartDelay
  | carrierOutOfTolerance | pllUnlock | railOutOfRange | collectorParityError => exact h.raiseFault.next
  | mainsAbsent => exact .ite h.next h.frame.goVirtual.next
  | powerFailWarning => exact h.execPowerFailWarning
  | warningClear => exact .ite h.next (h.frame.fieldReset.when fun _ h => h.frame).next
  | powerLoss => exact h.powerLoss.next
  | enterLantern | enterCurfew | enterCurfewDiscarding => exact h.request.next
  | curfewWindowEnd => exact h.execCurfewWindowEnd
  | wake => exact .ite h.brownout.next h.wakeEvent.next
  | wakeSymbol => exact h.execWakeSymbol
  | wakeFailure => exact h.execWakeFailure
  | brownout => exact h.brownout.next
  | padrel => exact h.execPadrel
  | sleep | idle | fsOn => exact h.radioDo fun _ h => h.radioGo
  | rx => exact h.radioDo fun _ h => h.rxCommand
  | tx => exact h.radioDo fun _ h => h.txCommand
  | calibrate => exact h.radioDo fun _ h => h.calRequest
  | transmitHead => exact h.radioDo fun _ h => h.txAccept
  | leadEnd => exact h.radioDo fun _ h => h.leadEnd
  | coexRetry => exact h.radioDo fun _ h => h.coexRetry
  | packetSent => exact h.radioDo fun _ h => h.packetSent
  | settleEnd => exact h.radioDo fun _ h => h.settleEnd
  | synthesiserCalibrationDone => exact h.execSynthesiserCalibrationDone
  | temperatureSample => exact h.execTemperatureSample
  | backgroundCalibration => exact h.execBackgroundCalibration
  | lossOfLock => exact h.radioDo fun _ h => h.lockLost
  | grantWithdrawn => exact h.radioDo fun _ h => h.grantWithdrawn
  | dutyBucket => exact h.execDutyBucket
  | sniffPeriod => exact h.execSniffPeriod
  | stfDetection => exact h.radioDo fun _ h => h.stf
  | phr => exact h.radioDo fun _ h => h.phr
  | xhr => exact h.radioDo fun _ h => h.xhr
  | packetReceived => exact h.radioDo fun _ h => h.packetReceived
  | mapSetAck => exact h.execMapSetAck
  | mapReport => exact h.execMapReport
  | doorLinkLoopbackEnd => exact h.execDoorLinkLoopbackEnd
  | calibrationDue => exact .ite h.frame.calibTry.next h.next
  | calibrationDone => exact h.execCalibrationDone
  | correctionStep => exact (h.foldl fun _ h _ => h.ite h.frame).next
  | hfLoopbackEnd | hbInEdge => exact .ite h.next h.frame.next
  | registerWrite => exact .ite h.ioWrite.next h.next
  | frameEnd => exact .ite h.next (.ite h.advanceTo.modulate.endSimple.next (.ite h.advanceTo.modulate.openWindow.next h.next))
  | unassignedOpcode => exact (h.ite (h.issue fun _ h => h.trapHere)).next
  | heartbeatLineBroken => exact .ite h.next (.ite h.frame.raiseFault.next h.frame.next)

theorem State.Canonical.step (h : s.Canonical) : Result.Canonical (step s) := by
  unfold Machine.step
  split
  · exact h.idle.next
  · exact h.frame.exec _

/-- Settles O20: the front command keeps the form by `State.Canonical.exec`, and an empty queue lets a tick pass. -/
theorem stepKeepsMemoryCanonical : Obligations.StepKeepsMemoryCanonical := fun _ t h => h.step t

end Sys2Proof.Machine
end

section
namespace Sys2Proof.Machine

open Sys2Proof

/-- Settles O17: a step matches on the queue, and its front command runs on the queue's rest. -/
theorem stepRunsFront : Obligations.StepRunsFront := by
  intro s c cs h
  simp [step, h]

end Sys2Proof.Machine
end

section
/-!
PROOFS. O38 and O39: the fault registers, the monitors, the watchdog, the restart delay and the release of pads.
-/

namespace Sys2Proof.Machine

open Sys2Proof

/-! ### Monitors, watchdog and pads (R386, R394, R419) -/

theorem wdkick_of_miss {v : Word} (h : v ≠ 0xA5C3) (s : State) :
    s.wdkick v.toNat = { s with power := { s.power with missedKicks := s.power.missedKicks + 1 } } :=
  if_neg fun e => h (BitVec.eq_of_toNat_eq e)

/-- The radio's pins follow their release; nothing else of the state does. -/
theorem radioPins_rest (s : State) : s.radioPins = { s with radio := { s.radio with fem := s.radioPins.radio.fem } } := by
  unfold State.radioPins
  split <;> rfl

/-- Pins of the TWIN connector that are driven leave at once. -/
theorem pin_of_driven {s : State} (h : s.power.padlat.getLsbD 2 = false) (n level : Nat) : s.pin n level = s.emit (.twinPin n level) :=
  if_neg (by rw [h]; decide)

/-- Released pads: the latches named are clear, and beside them only FEM pins and outputs may differ. -/
theorem padRelease_rest (m : BitVec 4) (s : State) : ∃ t : State, s.padRelease m = t ∧
    t.power = { s.power with padlat := s.power.padlat &&& ~~~m } ∧
    t = { s with power := t.power, radio := { s.radio with fem := t.radio.fem }, out := t.out } ∧ (m.getLsbD 0 = false → t.radio = s.radio) ∧
    t.out = (if s.power.padlat.getLsbD 2 = true ∧ m.getLsbD 2 = true then s.out ++
      [.twinPin 7 (if s.twin.role = 1 then 1 else 0), .twinPin 9 (bit s.twin.hbOut), .twinPin 13 (bit s.fltF.haltOut)] else s.out) := by
  obtain ⟨u, hu⟩ : ∃ u : State, u = { s with power := { s.power with padlat := s.power.padlat &&& ~~~m } } := ⟨_, rfl⟩
  obtain ⟨w, hw⟩ : ∃ w, w = u.when (m.getLsbD 0) State.radioPins := ⟨_, rfl⟩
  obtain ⟨fem, hfem, hkept⟩ : ∃ fem, w = { u with radio := { u.radio with fem := fem } } ∧
      (m.getLsbD 0 = false → ({ u.radio with fem := fem } : Radio) = u.radio) := by
    subst hw
    cases m.getLsbD 0
    · exact ⟨u.radio.fem, rfl, fun _ => rfl⟩
    · exact ⟨_, radioPins_rest u, nofun⟩
  refine ⟨_, rfl, ?_⟩
  unfold State.padRelease
  dsimp only
  rw [← hu, ← hw]
  by_cases h : s.power.padlat.getLsbD 2 = true ∧ m.getLsbD 2 = true
  · have hdriven : w.power.padlat.getLsbD 2 = false := by
      rw [hfem]
      dsimp only
      rw [hu, BitVec.getLsbD_and, BitVec.getLsbD_not, h.2, Bool.not_true, Bool.and_false, Bool.and_false]
    rw [if_pos h, h.1, h.2]
    simp only [State.when, Bool.and_self, if_true]
    rw [pin_of_driven hdriven 7, pin_of_driven (s := w.emit _) hdriven 9, pin_of_driven (s := (w.emit _).emit _) hdriven 13]
    subst hfem hu
    exact ⟨rfl, rfl, hkept, by simp [State.emit, bit]⟩
  · rw [if_neg h, Bool.eq_false_iff.2 fun e => h (Bool.and_eq_true_iff.1 e)]
    subst hfem hu
    exact ⟨rfl, rfl, hkept, rfl⟩

/-- Settles O39: each row is its monitor's, its delay's or its register's equation. -/
theorem monitorsAndRestartAct : Obligations.MonitorsAndRestartAct := by
  intro s ppm rail mv v m
  refine ⟨rfl, rfl, rfl, rfl, rfl, fun h => congrArg _ (wdkick_of_miss h s), fun h => if_pos h, fun h => if_neg (by simp [h]), fun h1 h2 h3 => ?_,
    fun h1 h2 => ?_, fun h => if_pos (by simp [h]), fun h => if_pos h, fun h => if_neg (by simp [h]), ?_, rfl⟩
  · exact (if_neg (by simp [h1])).trans (if_neg (by simp [h2, h3]))
  · exact (if_neg (by simp [h1])).trans (if_pos h2)
  · obtain ⟨t, h, ht⟩ := padRelease_rest m s
    exact ⟨t, congrArg _ h, ht⟩

/-! ### Acknowledgement (R385, R389) -/

/-- Several classes acknowledged one after the other stand at no level, without overflow; every other class and the rest of the
collector stay. -/
theorem Collector.ackAll (l : List Nat) (c : Collector) :
    let d := l.foldl (fun c k => ({ c with outst := Tab.set 0 c.outst k 0, ovf := Tab.set 0 c.ovf k 0 } : Collector)) c
    (∀ k, d.level k = if k ∈ l then 0 else c.level k) ∧ (∀ k, Tab.get 0 d.ovf k = if k ∈ l then 0 else Tab.get 0 c.ovf k) ∧
      d = { c with outst := d.outst, ovf := d.ovf } := by
  induction l generalizing c with
  | nil => exact ⟨fun _ => rfl, fun _ => rfl, rfl⟩
  | cons j l ih =>
    obtain ⟨hlevel, hovf, hrest⟩ := ih { c with outst := Tab.set 0 c.outst j 0, ovf := Tab.set 0 c.ovf j 0 }
    refine ⟨fun k => (hlevel k).trans ?_, fun k => (hovf k).trans ?_, hrest⟩
    all_goals
      simp only [Collector.level, Tab.get_set, List.mem_cons]
      by_cases hk : k = j <;> simp [hk]

/-- The classes that an acknowledgement names. -/
def ackNames (mask k : Nat) : Prop := k < 13 ∧ 1 ≤ k ∧ bitsOf mask k 1 = 1

theorem Collector.ack_rest (mask : Nat) (c : Collector) :
    (∀ k, ackNames mask k → (c.ack mask).level k = 0 ∧ Tab.get 0 (c.ack mask).ovf k = 0) ∧
    (∀ k, ¬ ackNames mask k → (c.ack mask).level k = c.level k ∧ Tab.get 0 (c.ack mask).ovf k = Tab.get 0 c.ovf k) ∧
    c.ack mask = { c with outst := (c.ack mask).outst, ovf := (c.ack mask).ovf } := by
  obtain ⟨hlevel, hovf, hrest⟩ := c.ackAll ((List.range 13).filter fun k => decide (1 ≤ k) && decide (bitsOf mask k 1 = 1))
  have hmem (k : Nat) : k ∈ ((List.range 13).filter fun k => decide (1 ≤ k) && decide (bitsOf mask k 1 = 1)) ↔ ackNames mask k := by
    simp [ackNames]
  exact ⟨fun k h => ⟨(hlevel k).trans (if_pos ((hmem k).2 h)), (hovf k).trans (if_pos ((hmem k).2 h))⟩,
    fun k h => ⟨(hlevel k).trans (if_neg (mt (hmem k).1 h)), (hovf k).trans (if_neg (mt (hmem k).1 h))⟩, hrest⟩

/-- The pair's mask has bit `k` - 1 for class `k`. -/
theorem ackNames_shifted (mask : BitVec 12) {k : Nat} (h1 : 1 ≤ k) (h2 : k ≤ 12) : ackNames (2 * mask.toNat) k ↔ mask.getLsbD (k - 1) = true := by
  obtain ⟨j, rfl⟩ : ∃ j, k = j + 1 := ⟨k - 1, by omega⟩
  have hbit : bitsOf (2 * mask.toNat) (j + 1) 1 = mask.toNat / 2 ^ j % 2 := by
    unfold bitsOf
    rw [pow_succ', Nat.mul_div_mul_left _ _ (by decide : 0 < 2), pow_one]
  rw [ackNames, hbit, Nat.add_sub_cancel, BitVec.getLsbD, Nat.testBit_eq_decide_div_mod_eq, decide_eq_true_eq]
  exact ⟨fun h => h.2.2, fun h => ⟨by omega, h1, h⟩⟩

theorem Collector.calm_iff (c : Collector) : c.calm = true ↔ ∀ k < 13, c.level k < 3 := by
  have hmax (l : List Nat) (m : Nat) : l.foldl (fun m k => max m (c.level k)) m < 3 ↔ m < 3 ∧ ∀ k ∈ l, c.level k < 3 := by
    induction l generalizing m with
    | nil => simp
    | cons j l ih =>
      rw [List.foldl_cons, ih, max_lt_iff, List.forall_mem_cons, and_assoc]
  rw [Collector.calm, decide_eq_true_eq, Collector.top, hmax]
  simp

/-- Acknowledged feeders and the radio's full power are all that follows on the field side. -/
theorem ackEffects_rest (mask : Nat) (s : State) : ∃ f r, s.ackEffects mask = { s with feeders := f, radio := { s.radio with reduced := r } } := by
  obtain ⟨f, hf⟩ : ∃ f, s.when (decide (bitsOf mask 4 1 = 1)) (fun s => s.each (List.range 16) fun f =>
      State.modFeeder f fun x => { x with held := 0, biasOn := x.biasOn || (decide (x.held ≠ 0) && s.objBool (0x2010 + f) 1) }) = { s with feeders := f } := by
    unfold State.when
    split
    · refine each_keeps (P := fun u => ∃ f, u = { s with feeders := f }) _ (fun i u hu => ?_) ⟨s.feeders, rfl⟩
      obtain ⟨f, rfl⟩ := hu
      exact ⟨_, rfl⟩
    · exact ⟨s.feeders, rfl⟩
  unfold State.ackEffects
  dsimp only
  rw [hf]
  unfold State.when
  split
  · exact ⟨f, false, rfl⟩
  · exact ⟨f, s.radio.reduced, rfl⟩

/-- On a module that is no second the safe state ends, and nothing else than the HALT line follows. -/
theorem safeEnd_of_no_second {s : State} (h : s.twin.role ≠ 2) : ∃ c : Collector, s.safeEnd = { s with fltF := c } ∧
    c = { s.fltF with safe := c.safe, haltOut := c.haltOut } ∧ (c.safe = true ↔ s.fltF.safe = true ∧ s.fltF.calm = false) := by
  unfold State.safeEnd State.rejoin
  split
  · rename_i hc
    obtain ⟨out, hout⟩ : ∃ b, b = (decide (s.fltF.top = 4) && s.fltF.haltOut) := ⟨_, rfl⟩
    rw [if_neg fun e => h e.1, ← hout]
    exact ⟨{ s.fltF with safe := false, haltOut := out }, rfl, rfl, by simp [hc]⟩
  · rename_i hc
    exact ⟨s.fltF, rfl, rfl, by simp [hc]⟩

/-! ### The record queue (R388, R393) -/

/-- The head record is taken, the safe state's record journalled before it. -/
theorem takeRecord_of_record {s u : State} {fr : List Byte} {q : List (List Byte)} (hq : s.fltF.queue = fr :: q)
    (hu : u = { s with fltF := { s.fltF with queue := q, safeRec := none } }) :
    s.takeRecord = ((s.fltF.safeRec.elim u (u.commit 5 2 ·)).journalFault .field fr).send .porterField 0x60 (.fault fr) := by
  subst hu
  unfold State.takeRecord
  rw [hq]
  dsimp only
  cases h : s.fltF.safeRec <;> rfl

/-- A record that is no acknowledging Note is journalled and nothing else. -/
theorem journalFault_of_kept {s : State} {d : Die} {fr : List Byte} (h : (s.commit 5 1 fr).objBool 0xA001 2 = false ∨ fieldLE fr 1 1 % 8 ≠ 1) :
    s.journalFault d fr = s.commit 5 1 fr := by
  have hauto : (s.commit 5 1 fr).autoAck d (fieldLE fr 0 1) (fieldLE fr 1 1 % 8) = s.commit 5 1 fr :=
    if_neg fun e => h.elim (fun h => by simp [h] at e) fun h => h e.2.1
  unfold State.journalFault
  dsimp only
  rw [hauto, ite_self]

/-- Settles O38: an acknowledgement is the collector's, its effects and the end of the safe state; the head record is journalled
and sent. -/
theorem faultRegistersAct : Obligations.FaultRegistersAct := by
  refine ⟨fun s mask hrole => ?_, fun s => rfl, fun s h => ?_, fun s u v fr q hq hu hv hkept => ?_⟩
  · obtain ⟨c, hc⟩ : ∃ c, c = s.fltF.ack (2 * mask.toNat) := ⟨_, rfl⟩
    obtain ⟨f, r, heff⟩ := ackEffects_rest (2 * mask.toNat) { s with fltF := c }
    obtain ⟨d, hend, hd, hsafe⟩ := safeEnd_of_no_second
      (s := { s with fltF := c, feeders := f, radio := { s.radio with reduced := r } }) hrole
    obtain ⟨hnamed, hother, hrest⟩ := s.fltF.ack_rest (2 * mask.toNat)
    rw [← hc] at hnamed hother hrest
    refine ⟨{ s with fltF := d, feeders := f, radio := { s.radio with reduced := r } }, ?_, fun cls h1 h2 => ?_, ?_, ?_, rfl, rfl⟩
    · rw [exec_ack, execAck, ← hend, ← heff, hc]; rfl
    · have hlevel : d.level cls = c.level cls := by rw [hd]; rfl
      have hovf : d.ovf = c.ovf := by rw [hd]
      dsimp only
      rw [hlevel, hovf]
      by_cases hn : ackNames (2 * mask.toNat) cls
      · rw [if_pos ((ackNames_shifted mask h1 h2).1 hn), if_pos ((ackNames_shifted mask h1 h2).1 hn)]
        exact hnamed cls hn
      · rw [if_neg (mt (ackNames_shifted mask h1 h2).2 hn), if_neg (mt (ackNames_shifted mask h1 h2).2 hn)]
        exact hother cls hn
    · have hlevel (k : Nat) : d.level k = c.level k := by rw [hd]; rfl
      have hs : c.safe = s.fltF.safe := by rw [hrest]
      dsimp only at hsafe ⊢
      rw [hsafe, hs, ← Bool.not_eq_true, Collector.calm_iff]
      simp only [hlevel, not_forall, not_lt, exists_prop]
    · dsimp only
      rw [hd]
      dsimp only
      rw [hrest]
  · rw [exec_fltqConsume, execFltqConsume, State.takeRecord, h]
  · have hv : v = s.fltF.safeRec.elim u (u.commit 5 2 ·) := hv.trans (by cases s.fltF.safeRec <;> rfl)
    rw [exec_fltqConsume, execFltqConsume, takeRecord_of_record hq hu, ← hv, journalFault_of_kept hkept]

end Sys2Proof.Machine
end

section
/-!
PROOFS. O43: the radio's state commands, settles, calibrations and the duty window.
-/

namespace Sys2Proof.Machine

open Sys2Proof

variable {s : State}

/-- A radio's row is its effect after a loop-back that waited has had its chance to begin. -/
theorem radioDo_of {s0 t : State} {f : State → State} (hs : s = s0.loopTry) (h : f s = t) :
    s0.radioDo f = .next (if hasRadio then t else s0) := by
  rw [State.radioDo, ← hs, h]

/-! ### Going to a state (R429, R430, R442) -/

theorem radioGo_of_latched {g : Nat} (h : s.power.padlat.getLsbD 0 = true) : s.radioGo g = s := if_pos h

theorem any_onAir_eq_false {q : List TxCmd} (h : ∀ c ∈ q, c.onAir = false) : q.any (fun c => c.onAir) = false := by
  simpa using h

section
variable {g : Nat} (hpads : s.power.padlat.getLsbD 0 = false) (hair : ∀ c ∈ s.radio.queue, c.onAir = false)
include hpads hair

/-- From a synthesiser that runs, or to a state without one, the radio moves and keeps a reception towards RX only. -/
theorem radioGo_of_running (h : ¬ (s.radio.state ≤ 1 ∧ 2 ≤ g ∨ s.radio.state = 5 ∧ 2 ≤ g)) : s.radioGo g = { s with radio := { s.radio with
    goal := g, moving := true, rxBusy := s.radio.rxBusy && decide (g = 3), rxDrop := s.radio.rxDrop && decide (g = 3) } } := by
  unfold State.radioGo
  dsimp only
  rw [if_neg (by rw [hpads]; decide), if_neg (by rw [any_onAir_eq_false hair]; decide), if_neg h]
  simp

/-- A synthesiser that is off settles first. -/
theorem radioGo_of_off (h : s.radio.state ≤ 1 ∨ s.radio.state = 5) (hg : 2 ≤ g) (hcal : s.radio.calPend = false) :
    s.radioGo g = { s with radio := { s.radio with goal := g, settle := true } } := by
  unfold State.radioGo
  dsimp only
  rw [if_neg (by rw [hpads]; decide), if_neg (by rw [any_onAir_eq_false hair]; decide), if_pos (h.imp (⟨·, hg⟩) (⟨·, hg⟩)),
    if_neg (by rw [hcal]; decide)]

/-- A calibration that waits runs in place of the settle. -/
theorem radioGo_of_pending (h : s.radio.state ≤ 1 ∨ s.radio.state = 5) (hg : 2 ≤ g) (hcal : s.radio.calPend = true) :
    s.radioGo g = { s with radio := { s.radio with goal := g, cal := true, calPend := false, lock := false } } := by
  unfold State.radioGo
  dsimp only
  rw [if_neg (by rw [hpads]; decide), if_neg (by rw [any_onAir_eq_false hair]; decide), if_pos (h.imp (⟨·, hg⟩) (⟨·, hg⟩)),
    if_pos hcal]

end

/-- With a packet on air the command only sets what follows it. -/
theorem radioGo_of_onAir {g : Nat} {c : TxCmd} (hpads : s.power.padlat.getLsbD 0 = false) (hq : s.radio.queue = [c]) (hair : c.onAir = true) :
    s.radioGo g = { s with radio := { s.radio with queue := [{ c with after := match g with | 0 => .sleep | 1 => .idle | 2 => .fsOn | _ => .rx }] } } := by
  unfold State.radioGo
  dsimp only
  rw [if_neg (by rw [hpads]; decide), hq, if_pos (by simpa using hair), List.map_singleton, if_pos hair]
    <;> rfl

/-! ### Calibrations (R431) -/

/-- The conditions under which a calibration that waits may start. -/
def Radio.calibrates (r : Radio) : Prop :=
  (r.state = 1 ∨ r.state = 2 ∨ r.state = 3) ∧ r.rxBusy = false ∧ r.queue = [] ∧ r.cal = false ∧ r.settle = false

theorem calTry_of_start (hp : s.radio.calPend = true) (h : s.radio.calibrates) :
    s.calTry = { s with radio := { s.radio with cal := true, calPend := false, lock := false, goal := s.radio.state } } := by
  obtain ⟨hstate, hrx, hq, hcal, hset⟩ := h
  exact if_pos ⟨hp, hstate, by simp [hrx], hq, by simp [hcal], by simp [hset]⟩

theorem calTry_of_wait (h : ¬ s.radio.calibrates) : s.calTry = s :=
  if_neg fun ⟨_, hstate, hrx, hq, hcal, hset⟩ => h ⟨hstate, by simpa using hrx, hq, by simpa using hcal, by simpa using hset⟩

theorem calTry_of_none (h : s.radio.calPend = false) : s.calTry = s := if_neg fun e => by simp [h] at e

/-- The radio comes to a state with its pins, unless they are latched or no FEM is fitted, and its frequency. -/
theorem setRadio_eq (g : Nat) (s : State) : s.setRadio g = { s with radio := { s.radio with
    state := g, moving := false, freq := s.synthKhz g
    fem := if s.power.padlat.getLsbD 0 then s.radio.fem else if s.objBool 0x7010 4 then femOf g s.fltF.safe else 0 } } := by
  cases h : s.power.padlat.getLsbD 0
  · exact if_neg (by simp only [h]; decide)
  · exact if_pos h

theorem txGo_of_empty (h : s.radio.queue = []) : s.txGo = s := by
  unfold State.txGo State.txHead
  rw [h]; rfl

/-- A settle or a transition brings the radio to its goal; with nothing waiting nothing goes on. -/
theorem settleEnd_of_idle (h : s.radio.settle = true ∨ s.radio.moving = true) (hcal : s.radio.calPend = false) (hq : s.radio.queue = []) :
    s.settleEnd = { s with radio := { s.radio with
      settle := false, moving := false, state := s.radio.goal, lock := decide (2 ≤ s.radio.goal ∧ s.radio.goal ≠ 5)
      freq := s.synthKhz s.radio.goal
      fem := if s.power.padlat.getLsbD 0 then s.radio.fem else if s.objBool 0x7010 4 then femOf s.radio.goal s.fltF.safe else 0 } } := by
  unfold State.settleEnd
  rw [if_pos h]
  dsimp only
  rw [setRadio_eq, calTry_of_none, txGo_of_empty]
  · rfl
  · exact hq
  · exact hcal

theorem searching_iff : s.searching = true ↔ s.radio.state = 3 ∧ s.radio.cal = false ∧ s.radio.settle = false ∧ s.radio.moving = false ∧
    s.radio.looping = false ∧ s.calib.staleRssi = false := by
  simp [State.searching, and_assoc]

theorem looping_eq_false {r : Radio} (h : r.loop ≠ 1) : r.looping = false := by
  simp [Radio.looping, h]

/-- A new bucket of the duty window; the mark of a Note may fall. -/
theorem dutyBucket_rest (s : State) : ∃ n, (n = s.radio.dutyNoted ∨ n = false) ∧
    (let u : State := { s with radio := { s.radio with duty := (0 :: s.radio.duty).take 3600 } }
     if u.dutySum < dutyLimit * 900000 then ({ u with radio := { u.radio with dutyNoted := false } } : State) else u) =
      { s with radio := { s.radio with duty := (0 :: s.radio.duty).take 3600, dutyNoted := n } } := by
  dsimp only
  split
  · exact ⟨false, .inr rfl, rfl⟩
  · exact ⟨s.radio.dutyNoted, .inl rfl, rfl⟩

/-- Settles O43: each row is what its effect gives after `loopTry`. -/
theorem radioStatesFollowCommands : Obligations.RadioStatesFollowCommands := by
  intro s0 s after r hs hr
  subst hr
  refine ⟨fun hpads => ⟨?_, ?_, ?_, ?_⟩, fun hpads hair => ⟨?_, fun hoff hcal => ⟨?_, ?_⟩, fun hoff hcal => ⟨?_, ?_⟩, fun h2 h4 => ⟨?_, ?_⟩⟩,
    fun c hpads hq hair => ⟨?_, ?_, ?_, ?_⟩, fun h hcal hq => ?_, fun h1 h2 => ?_, fun h => ⟨?_, fun c hc => ?_⟩, fun h => ?_, fun c hc hp => ?_,
    fun h => ?_, fun h => ?_, fun iq ab db => ⟨?_, ?_⟩, ?_⟩
  · exact radioDo_of hs (radioGo_of_latched hpads)
  · exact radioDo_of hs (radioGo_of_latched hpads)
  · exact radioDo_of hs (radioGo_of_latched hpads)
  · exact radioDo_of hs (radioGo_of_latched hpads)
  · intro c g hcg
    have hmove (h : g ≤ 1) : s.radioGo g = { s with radio := { s.radio with goal := g, moving := true, rxBusy := false, rxDrop := false } } := by
      rw [radioGo_of_running hpads hair (by omega)]
      simp [show g ≠ 3 by omega]
    simp only [List.mem_cons, Prod.mk.injEq, List.not_mem_nil, or_false] at hcg
    obtain ⟨rfl, rfl⟩ | ⟨rfl, rfl⟩ := hcg
    · exact radioDo_of hs (hmove (by decide))
    · exact radioDo_of hs (hmove (by decide))
  · exact radioDo_of hs (radioGo_of_off hpads hair hoff (by decide) hcal)
  · exact radioDo_of hs (radioGo_of_off (s := { s with radio := _ }) hpads hair hoff (by decide) hcal)
  · exact radioDo_of hs (radioGo_of_pending hpads hair hoff (by decide) hcal)
  · exact radioDo_of hs (radioGo_of_pending (s := { s with radio := _ }) hpads hair hoff (by decide) hcal)
  · exact radioDo_of hs ((radioGo_of_running hpads hair (by omega)).trans (by simp))
  · refine radioDo_of hs ((radioGo_of_running (g := 3) (s := { s with radio := { s.radio with rxThen := after } }) hpads hair
      (by dsimp only; omega)).trans (by simp))
  · exact radioDo_of hs (radioGo_of_onAir hpads hq hair)
  · exact radioDo_of hs (radioGo_of_onAir hpads hq hair)
  · exact radioDo_of hs (radioGo_of_onAir hpads hq hair)
  · exact radioDo_of hs (radioGo_of_onAir (s := { s with radio := _ }) hpads hq hair)
  · exact radioDo_of hs (settleEnd_of_idle h hcal hq)
  · exact radioDo_of hs (if_neg (by simp [h1, h2]))
  · exact radioDo_of hs (calTry_of_start (s := { s with radio := _ }) rfl h)
  · show execTemperatureSample c s0 = _
    unfold execTemperatureSample
    refine radioDo_of hs ?_
    rw [decide_eq_true hc]
    exact calTry_of_start (s := { s with radio := _ }) (Bool.or_true _) h
  · refine radioDo_of hs (calTry_of_wait (s := { s with radio := _ }) fun ⟨hstate, hrx, hq, hcal, hset⟩ => ?_)
    dsimp only at hstate hrx hq hcal hset
    simp [hrx, hq, hcal, hset] at h
    omega
  · show execTemperatureSample c s0 = _
    unfold execTemperatureSample
    refine radioDo_of hs ?_
    have hnear : (s.radio.calPend || decide ((c - s.radio.calTemp).natAbs ≥ 8)) = s.radio.calPend := by
      rw [decide_eq_false (by omega), Bool.or_false]
    dsimp only
    rw [hnear]
    exact calTry_of_none (s := { s with radio := _ }) hp
  · show execSynthesiserCalibrationDone s0 = _
    unfold execSynthesiserCalibrationDone
    refine radioDo_of hs ?_
    exact if_pos h
  · show execSynthesiserCalibrationDone s0 = _
    unfold execSynthesiserCalibrationDone
    refine radioDo_of hs ?_
    exact if_neg (by simp [h])
  · intro hstate hcal hset hmov hloop hstale hrx hiq hab
    show execBackgroundCalibration iq ab db s0 = _
    unfold execBackgroundCalibration
    refine radioDo_of hs ?_
    refine if_pos ?_
    rw [searching_iff.2 ⟨hstate, hcal, hset, hmov, looping_eq_false hloop, hstale⟩, hrx, hiq, hab]
    rfl
  · intro h
    show execBackgroundCalibration iq ab db s0 = _
    unfold execBackgroundCalibration
    refine radioDo_of hs ?_
    refine if_neg fun e => ?_
    simp only [Bool.and_eq_true, searching_iff, Bool.not_eq_true'] at e
    obtain ⟨⟨⟨hsearch, hrx⟩, hiq⟩, hab⟩ := e
    simp [hsearch.1, hrx, hiq, hab] at h
  · obtain ⟨n, hn, h⟩ := dutyBucket_rest s
    refine ⟨n, hn, ?_⟩
    show execDutyBucket s0 = _
    unfold execDutyBucket
    exact radioDo_of hs h

end Sys2Proof.Machine
end

section
/-!
PROOFS. O44: the door link's transmissions.
-/

namespace Sys2Proof.Machine

open Sys2Proof

variable {s : State} {c : TxCmd} {q : List TxCmd}

/-! ### The transmit queue (R433) -/

theorem txHead_of (hq : s.radio.queue = c :: q) : s.txHead = some c := by rw [State.txHead, hq]; rfl

theorem modHead_of (hq : s.radio.queue = c :: q) (f : TxCmd → TxCmd) : s.modHead f = { s with radio := { s.radio with queue := f c :: q } } := by
  rw [State.modHead, hq]

/-- An urgent command goes ahead of a queue none of which is urgent or accepted. -/
theorem enqueueTx_urgent (hc : c.urgent = true) (hq : ∀ x ∈ q, x.urgent = false ∧ x.t0 = none) : enqueueTx c q = c :: q := by
  have hfirst : q.findIdx (fun x => !x.urgent && x.t0.isNone) = 0 := by
    cases q with
    | nil => rfl
    | cons x q =>
      obtain ⟨hu, ht⟩ := hq x (List.mem_cons_self ..)
      simp [List.findIdx_cons, hu, ht]
  rw [enqueueTx, if_pos hc]
  dsimp only
  rw [hfirst]
  rfl

section
variable {pkt : Nat} {urgent pri : Bool} {after : Then}

theorem txCommand_of_bad (h : s.txHeaderOk pkt = false) :
    s.txCommand pkt urgent pri after = { s with radio := { s.radio with txIgnored := s.radio.txIgnored + 1 } } :=
  if_pos (by simp [h])

section
variable (h : s.txHeaderOk pkt = true) (hc : c = { pkt := pkt, urgent := urgent, pri := pri, after := after })
include h hc

theorem txCommand_of_barred (hs : s.fltF.safe = true ∨ s.power.warning = true) : s.txCommand pkt urgent pri after = s.txResult c 5 := by
  subst hc
  exact (if_neg (by simp [h])).trans (if_pos hs)

variable (hs : s.fltF.safe = false) (hw : s.power.warning = false)
include hs hw

theorem txCommand_of_full (hlen : 4 ≤ s.radio.queue.length) : s.txCommand pkt urgent pri after = s.txResult c 6 := by
  subst hc
  exact (if_neg (by simp [h])).trans ((if_neg (by simp [hs, hw])).trans (if_pos hlen))

theorem txCommand_of_room (hlen : s.radio.queue.length < 4) :
    s.txCommand pkt urgent pri after = { s with radio := { s.radio with queue := enqueueTx c s.radio.queue } } := by
  subst hc
  exact (if_neg (by simp [h])).trans ((if_neg (by simp [hs, hw])).trans (if_neg (by omega)))

end
end

/-! ### Acceptance and coexistence (R433, R440, R442, R459) -/

theorem txAccept_of_held (hq : s.radio.queue = c :: q) (h : c.t0 ≠ none ∨ s.power.padlat.getLsbD 0 = true ∨ s.radio.looping = true) :
    s.txAccept = s := by
  unfold State.txAccept
  rw [txHead_of hq]
  exact if_pos (h.imp_left Option.isSome_iff_ne_none.2)

theorem txAccept_of_free (hq : s.radio.queue = c :: q) (ht : c.t0 = none) (hpads : s.power.padlat.getLsbD 0 = false)
    (hloop : s.radio.looping = false) {u : State} (hu : u = { s with radio := { s.radio with queue := { c with t0 := some s.tb.cc } :: q } }) :
    s.txAccept = if u.fltF.safe ∨ u.power.warning then u.headEnd 5
      else if u.dutyRefuses (u.slotUs c.pkt) c.urgent then u.noteDuty.headEnd 2 else u.txPrepare c := by
  unfold State.txAccept
  rw [txHead_of hq]
  dsimp only
  rw [modHead_of hq, ← hu, if_neg (by simp only [ht, hpads, hloop]; decide)]

theorem looping_iff {r : Radio} : r.looping = true ↔ r.loop = 1 ∧ r.loopWait = false := by
  simp [Radio.looping]

theorem leadEnd_of_lead (hq : s.radio.queue = c :: q) {t : Nat} (ht : c.t0 = some t) (hair : c.onAir = false) (hwait : c.waiting = false)
    (hdone : c.leadDone = false) (hreq : s.radio.coexReq = true) (grant : Bool) {v : State}
    (hv : v = s.advanceTo ((t + usCt (s.objNat 0x7010 7)) % 2 ^ 48)) :
    s.leadEnd grant = State.txGo { v with radio := { v.radio with
      queue := { c with leadDone := true } :: q
      coexGnt := grant } } := by
  have hv' : v.radio.queue = c :: q := by rw [hv, advanceTo_radio, hq]
  unfold State.leadEnd
  rw [txHead_of hq]
  dsimp only
  rw [ht]
  dsimp only
  rw [if_neg (by simp [hair, hwait, hdone, hreq]), ← hv, modHead_of hv', ht]

theorem coexRetry_of_deferred (hq : s.radio.queue = c :: q) (h : c.waiting = true) : s.coexRetry = ({ s with radio := { s.radio with
    queue := { c with waiting := false, leadDone := false, t0 := some s.tb.cc } :: q } } : State).txPrepare c := by
  unfold State.coexRetry
  rw [txHead_of hq]
  dsimp only
  rw [if_neg (by simp [h]), modHead_of hq]

theorem coexRetry_of_current (hq : s.radio.queue = c :: q) (h : c.waiting = false) : s.coexRetry = s := by
  unfold State.coexRetry
  rw [txHead_of hq]
  exact if_pos (by simp [h])

/-! ### The end of a packet (R433, R434, R437, R439, R440) -/

theorem packetSent_of_onAir (hq : s.radio.queue = c :: q) (h : c.onAir = true) {us : Nat} {bad : Bool} {v w : State}
    (hv : v = if fieldLE (s.pktBytes (slotOff c.pkt) 16) 0 1 = 1 then (s.addDuty (us + 2 * c.ramp)).modNode
      (fieldLE (s.pktBytes (slotOff c.pkt) 16) 6 2) (fun n => { n with sent := n.sent + 1 }) else s.addDuty (us + 2 * c.ramp))
    (hw : w = if bad then v.lossFault else v) : s.packetSent us bad = w.packetEnd 0 := by
  unfold State.packetSent
  rw [txHead_of hq]
  dsimp only
  rw [if_neg (by simp [h]), hw, hv]
  simp only [State.when, decide_eq_true_eq]

theorem packetSent_of_none (hq : s.radio.queue = c :: q) (h : c.onAir = false) (us : Nat) (bad : Bool) : s.packetSent us bad = s := by
  unfold State.packetSent
  rw [txHead_of hq]
  exact if_pos (by simp [h])

theorem grantWithdrawn_of_none (hq : s.radio.queue = c :: q) (h : c.onAir = false ∨ c.coex = false) : s.grantWithdrawn = s := by
  unfold State.grantWithdrawn
  rw [txHead_of hq]
  exact if_neg fun e => by rcases h with h | h <;> simp [h] at e

theorem grantWithdrawn_of_coex (hq : s.radio.queue = c :: q) (hair : c.onAir = true) (hcoex : c.coex = true) {v : State}
    (hv : v = { s with radio := { s.radio with withdrawals := s.radio.withdrawals + 1, coexGnt := false } }) :
    s.grantWithdrawn = if c.abort then (v.addDuty (v.cutUs c)).packetEnd 4 else v := by
  unfold State.grantWithdrawn
  rw [txHead_of hq]
  dsimp only
  rw [if_pos ⟨hair, hcoex⟩, ← hv]

theorem lockLost_of_onAir (hstate : 2 ≤ s.radio.state ∧ s.radio.state ≤ 4) (hq : s.radio.queue = c :: q) (hair : c.onAir = true) {v w : State}
    (hv : v = { s with radio := { s.radio with lock := false, lockLosses := s.radio.lockLosses + 1, rxBusy := false, rxDrop := false } })
    (hw : w = (v.addDuty (v.cutUs c)).packetEnd 3) :
    s.lockLost = ({ w with radio := { w.radio with cal := true, calPend := false, settle := false, goal := w.radio.state } } : State).raiseFault
      .field 12 1 2 (natLE 2 s.radio.channel) := by
  have hhead : v.txHead = some c := by rw [hv]; exact txHead_of hq
  unfold State.lockLost
  dsimp only
  rw [if_neg (by omega), ← hv, hhead]
  dsimp only
  rw [if_pos hair, ← hw]

theorem lockLost_of_off (hq : s.radio.queue = []) (h : s.radio.state ≤ 1 ∨ s.radio.state = 5) : s.lockLost = s := by
  unfold State.lockLost State.txHead
  rw [hq]
  exact if_pos h

/-- A loop-back that begins leaves the queue and the state of the radio. -/
theorem loopTry_rest (s : State) : s.loopTry.radio.queue = s.radio.queue ∧ s.loopTry.radio.state = s.radio.state := by
  unfold State.loopTry
  dsimp only
  split
  · exact ⟨rfl, rfl⟩
  · exact ⟨rfl, rfl⟩

/-! ### Going on air (R429, R433, R438) -/

theorem setPkts_rest (off : Nat) (l : List Byte) (s : State) : ∃ m, s.setPkts off l = { s with pktMem := m } := by
  induction l generalizing off s with
  | nil => exact ⟨s.pktMem, rfl⟩
  | cons b l ih =>
    obtain ⟨m, h⟩ := ih (off + 1) (s.setPkt off b)
    exact ⟨m, h⟩

theorem placeFcs_rest (p : Nat) (s : State) : s.placeFcs p = { s with pktMem := (s.placeFcs p).pktMem } := by
  obtain ⟨m, h⟩ := setPkts_rest (slotOff p + 16 + (fieldLE (s.pktBytes (slotOff p) 16) 4 2 - 4))
    (fcsOf (s.pktBytes (slotOff p + 16) (fieldLE (s.pktBytes (slotOff p) 16) 4 2 - 4))) s
  rw [show s.placeFcs p = { s with pktMem := m } from h]

section
variable (hq : s.radio.queue = c :: q) (ht : c.t0 ≠ none) (hair : c.onAir = false) (hwait : c.waiting = false) (hcal : s.radio.cal = false)
  (hset : s.radio.settle = false) (hmov : s.radio.moving = false) (hrx : s.radio.rxBusy = false)
include hq ht hair hwait hcal hset hmov hrx

/-- The head is ready: with its lead done, or without coexistence, the grant decides. -/
theorem txGo_of_ready (hlead : s.objBool 0x7010 6 = false ∨ c.leadDone = true) :
    s.txGo = if s.objBool 0x7010 6 = true ∧ ¬ s.radio.coexGnt = true then s.denied c else s.goOnAir c := by
  have hnone : c.t0.isNone = false := by simpa [Option.isSome_iff_ne_none] using ht
  unfold State.txGo
  rw [txHead_of hq]
  dsimp only
  rw [if_neg]
  rintro (h | h | h | h | h | h | h | ⟨h1, h2⟩)
  · simp [hnone] at h
  · simp [hair] at h
  · simp [hwait] at h
  · simp [hcal] at h
  · simp [hset] at h
  · simp [hmov] at h
  · simp [hrx] at h
  · simp [h1, h2] at hlead

end

theorem denied_of_retry (hq : s.radio.queue = c :: q) (h : c.retries < s.objNat 0x7010 9) : s.denied c = { s with radio := { s.radio with
    denials := s.radio.denials + 1, coexReq := false, coexPri := false, queue := { c with waiting := true, retries := c.retries + 1 } :: q } } :=
  (if_pos h).trans (modHead_of (s := { s with radio := { s.radio with denials := s.radio.denials + 1, coexReq := false, coexPri := false } }) hq _)

/-- The transmit sequence sets the radio, places the FCS and sends the packet. -/
theorem goOnAir_rest (hq : s.radio.queue = c :: q) : ∃ t : State, s.goOnAir c = t ∧ t.radio.state = 4 ∧
    t.radio.txst = (s.tb.cc + usCt (if s.radio.state = 3 then 23 else 3)) % 2 ^ 48 % 2 ^ 32 ∧
    t.radio.queue = { c with onAir := true, coex := s.objBool 0x7010 6, abort := s.objBool 0x7010 8, ramp := s.objNat 0x7010 10 } :: q ∧
    t.out = s.out ++ [.radioPacket c.pkt s.radio.channel t.outputDbm (s.objNat 0x7010 10) (s.objNat 0x7020 2) (t.slotXhr c.pkt) (t.slotSymbols c.pkt)] ∧
    t.pktMem = (s.placeFcs c.pkt).pktMem ∧ t.radio.freq = s.centreKhz ∧ t.radio.coexReq = s.radio.coexReq ∧
    t = { s with radio := t.radio, pktMem := t.pktMem, out := t.out } := by
  obtain ⟨m, hm⟩ : ∃ m, m = (s.placeFcs c.pkt).pktMem := ⟨_, rfl⟩
  obtain ⟨d, u, hu, hdef⟩ : ∃ d, ∃ u : State, u = { s with
      pktMem := m
      radio := { s.radio with
        queue := { c with onAir := true, coex := s.objBool 0x7010 6, abort := s.objBool 0x7010 8, ramp := s.objNat 0x7010 10 } :: q
        txst := (s.tb.cc + usCt (if s.radio.state = 3 then 23 else 3)) % 2 ^ 48 % 2 ^ 32
        delay := d } } ∧
      s.goOnAir c = (u.setRadio 4).emit (.radioPacket c.pkt u.radio.channel u.outputDbm (s.objNat 0x7010 10) (u.objNat 0x7020 2)
        (u.slotXhr c.pkt) (u.slotSymbols c.pkt)) := by
    refine ⟨min 65535 ((((s.tb.cc + usCt (if s.radio.state = 3 then 23 else 3)) % 2 ^ 48 + 2 ^ 48 - c.t0.getD s.tb.cc) % 2 ^ 48) * 25 / 339),
      _, rfl, ?_⟩
    unfold State.goOnAir
    dsimp only
    rw [placeFcs_rest, ← hm, modHead_of (s := { s with pktMem := m }) hq]
  rw [setRadio_eq] at hdef
  subst hu
  exact ⟨_, hdef, rfl, rfl, rfl, rfl, hm, rfl, rfl, rfl⟩

theorem txPrepare_of_running (hcoex : s.objBool 0x7010 6 = false) (h : 2 ≤ s.radio.state ∧ s.radio.state ≤ 4) (hcal : s.radio.cal = false) :
    s.txPrepare c = s.txGo := by
  unfold State.txPrepare
  rw [if_neg (by simp [hcoex])]
  dsimp only
  rw [if_neg (by simp [hcal]), if_neg (by omega)]

/-- Settles O44: each row is its operation's equation after `loopTry`. -/
theorem transmissionsProceed : Obligations.TransmissionsProceed := by
  refine ⟨?_, ?_, ?_, ?_, ?_⟩
  · intro s0 s r after urgent pri p c hs hr hc
    subst hr
    refine ⟨fun h => radioDo_of hs (txCommand_of_bad h), fun h => ⟨fun hb => radioDo_of hs (txCommand_of_barred h hc hb), fun hsafe hwarn =>
      ⟨fun hlen => radioDo_of hs (txCommand_of_full h hc hsafe hwarn hlen), fun hlen => ⟨fun hu => ?_, fun hu hall => ?_⟩⟩⟩⟩
    · refine radioDo_of hs ((txCommand_of_room h hc hsafe hwarn hlen).trans ?_)
      rw [enqueueTx, if_neg (by simp [hc, hu])]
    · refine radioDo_of hs ((txCommand_of_room h hc hsafe hwarn hlen).trans ?_)
      rw [enqueueTx_urgent (by rw [hc]; exact hu) hall]
  · intro s0 s u r c d q hs hr hq
    subst hr
    refine ⟨fun ht hpads hloop hd hu => ?_, fun h => radioDo_of hs (txAccept_of_held hq (h.imp_right (Or.imp_right looping_iff.2))),
      fun t ht hair hwait hdone hreq grant v hv => ?_, fun h => ⟨_, rfl, radioDo_of hs (coexRetry_of_deferred hq h)⟩,
      fun h => radioDo_of hs (coexRetry_of_current hq h), fun h us bad hd v w hh hv hw => ?_,
      fun h us bad => ⟨radioDo_of hs (packetSent_of_none hq h us bad), radioDo_of hs (grantWithdrawn_of_none hq (.inl h))⟩,
      fun _ h => radioDo_of hs (grantWithdrawn_of_none hq (.inr h)), fun hair hcoex v hv => radioDo_of hs (grantWithdrawn_of_coex hq hair hcoex hv),
      fun hstate hair v w hv hw => radioDo_of hs (lockLost_of_onAir hstate hq hair hv hw)⟩
    · have hacc := txAccept_of_free hq ht hpads (Bool.eq_false_iff.2 (mt looping_iff.1 hloop)) (hd ▸ hu)
      have hsafe : u.fltF = s.fltF := by rw [hu]
      have hpow : u.power = s.power := by rw [hu]
      rw [hsafe, hpow] at hacc
      exact ⟨fun h => radioDo_of hs (hacc.trans (if_pos h)), fun h1 h2 => radioDo_of hs (hacc.trans (if_neg (by simp [h1, h2])))⟩
    · refine radioDo_of hs ((leadEnd_of_lead hq ht hair hwait hdone hreq grant hv).trans ?_)
      rw [show v.radio.queue = c :: q by rw [hv, advanceTo_radio, hq]]
    · subst hh
      exact radioDo_of hs (packetSent_of_onAir hq h hv hw)
  · intro s hq hstate
    obtain ⟨hq', hstate'⟩ := loopTry_rest s
    exact radioDo_of rfl (lockLost_of_off (hq'.trans hq) (by omega))
  · intro s c q hq ht hair hwait hcal hset hmov hrx
    refine ⟨fun h => ?_, fun hcoex hdone hgnt hretry => ?_⟩
    · rw [txGo_of_ready hq ht hair hwait hcal hset hmov hrx (h.imp_right (·.1)), if_neg]
      · exact goOnAir_rest hq
      · rintro ⟨h1, h2⟩
        simp [h1, h2] at h
    · rw [txGo_of_ready hq ht hair hwait hcal hset hmov hrx (.inr hdone), if_pos ⟨hcoex, by simp [hgnt]⟩]
      exact denied_of_retry hq hretry
  · intro s c hcoex hstate hcal
    exact txPrepare_of_running hcoex hstate hcal

end Sys2Proof.Machine
end

section
/-!
PROOFS. O45: the door link's reception.
-/

namespace Sys2Proof.Machine

open Sys2Proof

variable {s : State}

/-! ### Detection (R450) -/

/-- The enabled options among those detected. -/
def State.enabledOpts (s : State) (opts : List Nat) : List Nat :=
  opts.filter fun o => decide (1 ≤ o ∧ o ≤ 4) && decide (bitsOf (s.objNat 0x7010 2) (o - 1) 1 = 1)

theorem foldl_min_mem_le (o : Nat) (os : List Nat) : os.foldl min o ∈ o :: os ∧ ∀ x ∈ o :: os, os.foldl min o ≤ x := by
  induction os generalizing o with
  | nil => simp
  | cons a os ih =>
    obtain ⟨hmem, hle⟩ := ih (min o a)
    have hmin : os.foldl min (min o a) ≤ min o a := hle _ (List.mem_cons_self ..)
    rw [List.foldl_cons]
    simp only [List.mem_cons, forall_eq_or_imp] at hmem hle ⊢
    refine ⟨?_, by omega, by omega, hle.2⟩
    rcases hmem with h | h
    · rcases min_choice o a with e | e
      · exact .inl (h.trans e)
      · exact .inr (.inl (h.trans e))
    · exact .inr (.inr h)

section
variable {opts os : List Nat} {o : Nat}

theorem stf_of_none (h : s.enabledOpts opts = []) : s.stf opts = s := by
  unfold State.stf
  rw [← State.enabledOpts, h]

variable (h : s.enabledOpts opts = o :: os)
include h

theorem stf_of_locked (hb : s.radio.rxBusy = true) : s.stf opts = { s with radio := { s.radio with ignoredPre := s.radio.ignoredPre + 1 } } := by
  unfold State.stf
  rw [← State.enabledOpts, h]
  exact if_pos hb

theorem stf_of_idle (hb : s.radio.rxBusy = false) (hs : s.searching = false) : s.stf opts = s := by
  unfold State.stf
  rw [← State.enabledOpts, h]
  exact (if_neg (by simp [hb])).trans (if_pos (by simp [hs]))

theorem stf_of_search (hb : s.radio.rxBusy = false) (hs : s.searching = true) : s.stf opts = { s with radio := { s.radio with
    rxBusy := true, rxDrop := false, phrDone := false, rxExt := false, rxNode := 0xFFFF, rxGen := 0, rxMcs := 0, rxLen := 0
    lockOpt := os.foldl min o, stfCc := s.tb.cc } } := by
  unfold State.stf
  rw [← State.enabledOpts, h]
  exact (if_neg (by simp [hb])).trans (if_neg (by simp [hs]))

end

/-! ### Headers (R450, R451, R455) -/

section
variable {rate len : Nat}

theorem phr_of_unlocked (ok : Bool) (h : s.radio.rxBusy = false ∨ s.radio.phrDone = true) : s.phr ok rate len = s :=
  if_pos (h.imp_left fun h => by simp [h])

variable (hb : s.radio.rxBusy = true) (hd : s.radio.phrDone = false)
include hb hd

theorem phr_of_bad : s.phr false rate len = State.txGo { s with radio := { s.radio with rxBusy := false, phrFails := s.radio.phrFails + 1 } } :=
  (if_neg (by simp [hb, hd])).trans (if_pos (by decide))

/-- A good header is noted where its rate is allowed, extended or of its option, and drops the packet elsewhere. -/
theorem phr_of_good {ext : Bool} (he : ext = (decide (rate = 31) && decide (s.radio.lockOpt = 1) && s.objBool 0x7020 1)) :
    s.phr true rate len = if ext ∨ (ndbps s.radio.lockOpt rate).isSome then
      { s with radio := { s.radio with phrDone := true, rxExt := ext, rxMcs := if ext then 255 else rate, rxLen := len } }
      else { s with radio := { s.radio with phrDone := true, rxDrop := true, rateFails := s.radio.rateFails + 1, rxLen := len } } := by
  unfold State.phr
  dsimp only
  rw [if_neg (by simp [hb, hd]), if_neg (by decide), ← he]

end

section
variable {addr gen : Nat}

theorem xhr_of_none (h : s.radio.rxBusy = false ∨ s.radio.rxExt = false ∨ s.radio.rxDrop = true) (ok : Bool) : s.xhr ok addr gen = s :=
  if_pos (by rcases h with h | h | h <;> simp [h])

variable (hb : s.radio.rxBusy = true) (he : s.radio.rxExt = true) (hd : s.radio.rxDrop = false)
include hb he hd

theorem xhr_of_bad : s.xhr false addr gen = { s with radio := { s.radio with rxDrop := true, xhrFails := s.radio.xhrFails + 1 } } :=
  (if_neg (by simp [hb, he, hd])).trans (if_pos (by decide))

theorem xhr_of_unknown (h : s.xhrNode addr = none) :
    s.xhr true addr gen = { s with radio := { s.radio with rxDrop := true, xhrFails := s.radio.xhrFails + 1 } } := by
  unfold State.xhr
  dsimp only
  rw [if_neg (by simp [hb, he, hd]), if_neg (by decide), h]

theorem xhr_of_node {i : Nat} (h : s.xhrNode addr = some i) : s.xhr true addr gen =
    if gen ≠ 0 ∧ (gen = (s.node i).upGen ∨ ((s.node i).bothGens = true ∧ gen = (s.node i).prevGen)) then
      { s with radio := { s.radio with rxNode := i, rxGen := gen } }
    else { s with radio := { s.radio with rxDrop := true, xhrFails := s.radio.xhrFails + 1 } } := by
  unfold State.xhr
  dsimp only
  rw [if_neg (by simp [hb, he, hd]), if_neg (by decide), h]

end

/-! ### Packets (R430, R457) -/

/-- What a packet from a node leaves there: its levels and its door report, where the node is enabled. -/
def State.heardFrom (i : Nat) (k : DoorPacket) (s : State) : State :=
  if s.objBool (0x7400 + i) 1 then
    match k.msg with
    | .doorReport closed => (s.nodeHeard i k).doorReport i closed k.rssi
    | .other => s.nodeHeard i k
  else s

section
variable {k : DoorPacket}

theorem packetReceived_of_unlocked (h : s.radio.rxBusy = false ∨ s.radio.phrDone = false) : s.packetReceived k = s :=
  if_pos (h.imp (fun h => by simp [h]) fun h => by simp [h])

variable (hb : s.radio.rxBusy = true) (hp : s.radio.phrDone = true)
include hb hp

theorem packetReceived_of_dropped (hd : s.radio.rxDrop = true) : s.packetReceived k = s.rxEnd :=
  (if_neg (by simp [hb, hp])).trans (if_pos hd)

variable (hd : s.radio.rxDrop = false)
include hd

theorem packetReceived_of_bad (hf : fcsGood (s.psduOf k) = false) :
    s.packetReceived k = State.rxEnd { s with radio := { s.radio with fcsFails := s.radio.fcsFails + 1 } } :=
  (if_neg (by simp [hb, hp])).trans ((if_neg (by simp [hd])).trans (if_pos (by simp [hf])))

variable (hf : fcsGood (s.psduOf k) = true)
include hf

theorem packetReceived_of_full (h : s.freeSlot = none) :
    s.packetReceived k = State.rxEnd { s with radio := { s.radio with ringFull := s.radio.ringFull + 1 } } := by
  unfold State.packetReceived
  dsimp only
  rw [if_neg (by simp [hb, hp]), if_neg (by simp [hd]), if_neg (by simp [hf]), h]

/-- A packet in its slot is noted at the node that sent it, and the reception ends. -/
theorem packetReceived_of_slot {p : Nat} (h : s.freeSlot = some p) :
    s.packetReceived k = ((if s.radio.rxExt = true then some s.radio.rxNode else k.node).elim (s.storePacket p k)
      fun i => (s.storePacket p k).heardFrom i k).rxEnd := by
  unfold State.packetReceived
  dsimp only
  rw [if_neg (by simp [hb, hp]), if_neg (by simp [hd]), if_neg (by simp [hf]), h]
  cases (if s.radio.rxExt = true then some s.radio.rxNode else k.node) <;> rfl

end

theorem heardFrom_of_enabled {k : DoorPacket} {i : Nat} (he : s.objBool (0x7400 + i) 1 = true) :
    (k.msg = .other → s.heardFrom i k = s.nodeHeard i k) ∧
    (∀ cl, k.msg = .doorReport cl → s.heardFrom i k = (s.nodeHeard i k).doorReport i cl k.rssi) :=
  ⟨fun hm => by rw [State.heardFrom, if_pos he, hm], fun cl hm => by rw [State.heardFrom, if_pos he, hm]⟩

/-- Settles O45: each row is its operation's equation after `loopTry`. -/
theorem receptionProceeds : Obligations.ReceptionProceeds := by
  intro s0 s r hs hr
  subst hr
  refine ⟨fun opts en o os hen => ?_, fun ok rate len => ⟨fun h => radioDo_of hs (phr_of_unlocked ok h), fun hb hd => ?_⟩,
    fun addr gen => ⟨fun h ok => radioDo_of hs (xhr_of_none h ok), fun hb he hd => ⟨radioDo_of hs (xhr_of_bad hb he hd),
      fun h => radioDo_of hs (xhr_of_unknown hb he hd h), fun i h => radioDo_of hs (xhr_of_node hb he hd h)⟩⟩,
    fun k => ⟨fun h => radioDo_of hs (packetReceived_of_unlocked h), fun hb hp => ⟨fun hd => radioDo_of hs (packetReceived_of_dropped hb hp hd),
      fun hd hf => radioDo_of hs (packetReceived_of_bad hb hp hd hf), fun hd hf h => radioDo_of hs (packetReceived_of_full hb hp hd hf h),
      fun p hd hf h => ?_⟩⟩,
    fun n => ⟨fun h => ?_, fun m g h => ?_, fun g m h => ?_, fun g m h => ?_⟩, fun m => ⟨fun h => ?_, fun hl hw v hv => ?_⟩⟩
  · change en = s.enabledOpts opts at hen
    refine ⟨fun h => radioDo_of hs (stf_of_none (hen.symm.trans h)), fun h hb => radioDo_of hs (stf_of_locked (hen.symm.trans h) hb),
      fun h hb hn => radioDo_of hs (stf_of_idle (hen.symm.trans h) hb hn), fun h hb h3 hcal hset hmov hloop hstale => ?_⟩
    obtain ⟨hmem, hle⟩ := foldl_min_mem_le o os
    rw [h]
    exact ⟨_, hmem, hle, radioDo_of hs (stf_of_search (hen.symm.trans h) hb
      (searching_iff.2 ⟨h3, hcal, hset, hmov, looping_eq_false hloop, hstale⟩))⟩
  · refine ⟨radioDo_of hs (phr_of_bad hb hd), fun hrate hopt hset => ?_, fun b hrate hn => ?_, fun hn hext => ?_⟩
    · exact radioDo_of hs ((phr_of_good (ext := true) hb hd (by simp [hrate, hopt, hset])).trans (if_pos (.inl rfl)))
    · exact radioDo_of hs ((phr_of_good (ext := false) hb hd (by simp [hrate])).trans (if_pos (.inr (by simp [hn]))))
    · have he : false = (decide (rate = 31) && decide (s.radio.lockOpt = 1) && s.objBool 0x7020 1) := by
        rcases hext with h | h | h <;> simp [h]
      exact radioDo_of hs ((phr_of_good hb hd he).trans (if_neg (by simp [hn])))
  · have hslot := packetReceived_of_slot hb hp hd hf h
    refine ⟨fun hw => radioDo_of hs (hslot.trans (by rw [hw]; rfl)), fun i hw => ?_⟩
    rw [hw] at hslot
    refine ⟨fun he => radioDo_of hs (hslot.trans (congrArg State.rxEnd (if_neg (by simp [he])))), fun he => ?_⟩
    obtain ⟨hplain, hdoor⟩ := heardFrom_of_enabled he
    exact ⟨fun hm => radioDo_of hs (hslot.trans (congrArg State.rxEnd (hplain hm))),
      fun cl hm => radioDo_of hs (hslot.trans (congrArg State.rxEnd (hdoor cl hm)))⟩
  · show execMapSetAck n s0 = _
    unfold execMapSetAck
    refine radioDo_of hs ?_
    rw [h]
  · show execMapSetAck n s0 = _
    unfold execMapSetAck
    refine radioDo_of hs ?_
    rw [h]
  · show execMapReport n g m s0 = _
    unfold execMapReport
    refine radioDo_of hs ?_
    exact if_pos h
  · show execMapReport n g m s0 = _
    unfold execMapReport
    refine radioDo_of hs ?_
    exact if_neg (by simp [h])
  · show execDoorLinkLoopbackEnd m s0 = _
    unfold execDoorLinkLoopbackEnd
    refine radioDo_of hs ?_
    exact if_pos fun hl => by
      rcases h with h | h <;> simp [Radio.looping, h] at hl
  · show execDoorLinkLoopbackEnd m s0 = _
    unfold execDoorLinkLoopbackEnd
    refine radioDo_of hs ?_
    have hv' : v = s.when (decide (s.radio.loopDuty ≠ 0)) (State.addDuty s.radio.loopDuty) := by
      rw [hv, State.when]
      by_cases h : s.radio.loopDuty = 0 <;> simp [h]
    rw [if_neg (by simp [Radio.looping, hl, hw])]
    dsimp only
    rw [← hv']

end Sys2Proof.Machine
end

section
/-!
PROOFS. O42: wake events, wake symbols, failures, brown-outs, the window of a Curfew entry and the sniffer.
-/

namespace Sys2Proof.Machine

open Sys2Proof

variable {s : State}

/-! ### An event of a source (R413, R415, R416) -/

section
variable {src : Nat}

theorem wakeEvent_of_disabled (h : s.wakeEnabled src = false) : s.wakeEvent src = s := if_pos (by simp [h])

variable (h : s.wakeEnabled src = true)
include h

theorem wakeEvent_of_negotiation (he : s.power.entering ≠ 0) : s.wakeEvent src = s.decline s.power.entering 7 :=
  (if_neg (by simp [h])).trans (if_pos he)

variable (he : s.power.entering = 0)
include he

theorem wakeEvent_of_lost (hw : s.asleep (wakeDie src) = false ∨ s.power.window = true ∨ s.levelHolds src = false) : s.wakeEvent src = s :=
  (if_neg (by simp [h])).trans ((if_neg (by simp [he])).trans (if_pos (by simpa using hw)))

theorem wakeEvent_of_sleep (ha : s.asleep (wakeDie src) = true) (hw : s.power.window = false) (hl : s.levelHolds src = true) :
    s.wakeEvent src = s.wakeNow src :=
  (if_neg (by simp [h])).trans ((if_neg (by simp [he])).trans (if_neg (by simp [ha, hw, hl])))

end

theorem asleep_field_iff : s.asleep .field = true ↔ s.power.state = 1 ∨ s.power.state = 2 := decide_eq_true_iff

/-- Where both dies sleep the record is taken first; then the die of the source wakes. -/
theorem wakeNow_eq (src : Nat) {u : State} (hu : u = if (s.power.state = 1 ∨ s.power.state = 2) ∧ s.power.hostAsleep = true then s.wakeRecord src else s) :
    s.wakeNow src = u.wakeDieUp (wakeDie src) := by
  rw [hu, State.wakeNow, State.when]
  simp only [Bool.and_eq_true, asleep_field_iff]

theorem wakeRecorded_power {src : Nat} {u : State} (hu : u = if (s.power.state = 1 ∨ s.power.state = 2) ∧ s.power.hostAsleep = true then s.wakeRecord src else s) :
    u.power.state = s.power.state ∧ u.power.hostAsleep = s.power.hostAsleep := by
  rw [hu]
  split <;> exact ⟨rfl, rfl⟩

/-! ### Waking a die (R409, R412, R417, R420) -/

theorem fieldWake_of_lantern (h : s.power.state = 1) : s.fieldWake = ((s.advance (usCt 300)).leaveLantern).restoreList 16 0 := if_pos h

theorem fieldWake_of_run (h : s.power.state = 0) : s.fieldWake = s := (if_neg (by omega)).trans (if_neg (by omega))

/-- A requested sweep leaves the power manager. -/
theorem requestSweep_power (p : Nat) (at_ : Option Nat) (s : State) : (s.requestSweep p at_).power = s.power := by
  rw [requestSweep_eq]
  split
  · rfl
  · split <;> rfl

theorem lateDetects_power (s : State) : s.lateDetects.power = s.power := by
  refine List.foldlRecOn (motive := fun u : State => u.power = s.power) _ _ rfl fun u hu x _ => ?_
  dsimp only
  split
  · rw [requestSweep_power, commit_power, hu]
  · rw [commit_power, hu]

theorem leaveLantern_state (s : State) : s.leaveLantern.power.state = 0 := by
  unfold State.leaveLantern
  dsimp only
  rw [send_power, lateDetects_power]

theorem hostWake_awake (h : s.power.hostAsleep = true) : s.hostWake.power.hostAsleep = false := by
  unfold State.hostWake
  rw [if_neg (by simp [h])]
  dsimp only
  rw [send_power]
  rfl

/-! ### Brown-outs (R420, R423) -/

theorem brownout_of_awake {d : Die} (h : s.asleep d = false) : s.brownout d = s := if_pos (by simp [h])

section
variable {u : State} (hu : u = if s.asleep .field ≠ s.power.hostAsleep then { s with power := { s.power with lastWake := 8 } } else s.wakeRecord 8)
include hu

theorem brownout_field (h : s.asleep .field = true) : s.brownout .field =
    ((((((if u.power.hostAsleep then u.emit (.wakeSymbol .host) else u).advance (usCt 9000)).fieldHw 2).restoreList 16 0).fieldBoot
      (some 2) true).raiseFault .field 7 2 2 [b8 s.power.state]) := by
  unfold State.brownout
  rw [if_neg (by simp [h])]
  dsimp only
  rw [← hu]
  rfl

theorem brownout_host (h : s.asleep .host = true) {v : State} (hv : v = if u.asleep .field then u.emit (.wakeSymbol .field) else u) :
    s.brownout .host = ({ ({ v with power := { v.power with hostAsleep := false } } : State).hostHold with hostMem := u.hostMem } : State).raiseFault
      .host 7 2 2 [b8 s.power.state] := by
  unfold State.brownout
  rw [if_neg (by simp [h])]
  dsimp only
  rw [← hu, State.when, ← hv]

end

/-! ### The end of the window (R415) -/

theorem execCurfewWindowEnd_of_window (h : s.power.window = true) {u : State} (hu : u = { s with power := { s.power with window := false } })
    {ev : Option Nat} {seen : List Nat} (hseen : [1, 2, 5, 6, 7].filter (fun k => u.wakeEnabled k && u.levelHolds k && (decide (ev = some k) || decide (k = 6))) = seen) :
    execCurfewWindowEnd ev s = .next (seen.head?.elim u u.wakeNow) := by
  unfold execCurfewWindowEnd
  rw [if_neg (by simp [h])]
  dsimp only
  rw [← hu, hseen]
  cases seen <;> rfl

/-- Mains, the only level that the state shows, does not call; a level seen in the window is served if it still holds. -/
theorem window_seen {u : State} (h6 : u.wakeEnabled 6 = false ∨ u.levelHolds 6 = false) :
    [1, 2, 5, 6, 7].filter (fun k => u.wakeEnabled k && u.levelHolds k && (decide (none = some k) || decide (k = 6))) = [] ∧
    ∀ j ∈ [1, 2, 5, 7], u.wakeEnabled j = true → u.levelHolds j = true →
      [1, 2, 5, 6, 7].filter (fun k => u.wakeEnabled k && u.levelHolds k && (decide (some j = some k) || decide (k = 6))) = [j] := by
  have hmains : u.wakeEnabled 6 = true → u.levelHolds 6 = false := fun h => h6.resolve_left (by simp [h])
  refine ⟨?_, fun j hj hen hl => ?_⟩
  · simpa [List.filter_cons] using hmains
  · simp only [List.mem_cons, List.not_mem_nil, or_false] at hj
    rcases hj with rfl | rfl | rfl | rfl <;> simpa [List.filter_cons, hen, hl] using hmains

/-- Settles O42: an event of an enabled source wakes its die or is lost; the other rows are their operations' equations. -/
theorem wakesAct : Obligations.WakesAct := by
  refine ⟨fun s src hsrc => ?_, fun s => ⟨fun h => ⟨fieldWake_of_lantern h, leaveLantern_state _⟩, fieldWake_of_run, fun h => ⟨_, rfl, hostWake_awake h⟩,
    fun hf hh => ⟨?_, ?_⟩, fun hf hh => if_pos ⟨hh, hf⟩, fun h => if_neg (by simp [State.asleep, h]), fun h => ⟨?_, ?_, ?_, ?_⟩, fun h => ⟨?_, ?_, ?_⟩⟩,
    fun s u v hf hh hu hv => ⟨?_, rfl, ?_⟩, fun s u hu => ⟨fun hf hh => ?_, fun hf hh => ?_⟩,
    fun s u hu => ⟨fun h e => if_pos (by simp [h]), fun h h6 => ?_⟩, fun s l => ⟨fun h hl => if_pos ⟨h, hl⟩, fun h => if_neg (by omega), rfl⟩⟩
  · have hexec : exec (.wake src) s = .next (s.wakeEvent src) := if_neg fun e => hsrc (Fin.ext e)
    have hdie : wakeDie src = if (src : Nat) ≤ 3 then .host else .field := rfl
    rw [hexec, ← hdie]
    refine ⟨fun h => by rw [wakeEvent_of_disabled h], fun h he => by rw [wakeEvent_of_negotiation h he], fun h he =>
      ⟨fun hw => by rw [wakeEvent_of_lost h he hw], fun ha hw hl u hu => ?_⟩⟩
    obtain ⟨hstate, hhost⟩ := wakeRecorded_power (src := src) hu
    rw [wakeEvent_of_sleep h he ha hw hl, wakeNow_eq src hu]
    refine ⟨fun h3 hf => ?_, fun h3 hf => ?_, fun h3 => ?_⟩
    · rw [hdie, if_pos h3, State.wakeDieUp, if_neg (by omega)]
    · rw [hdie, if_pos h3, State.wakeDieUp, if_pos (by omega)]
    · rw [hdie, if_neg (by omega), State.wakeDieUp, hhost]
  · exact if_pos ⟨asleep_field_iff.2 hf, by simp [hh]⟩
  · exact if_neg (by simp [State.asleep, hf])
  · exact if_neg (by simp [State.asleep, h])
  · exact if_pos (by simp [State.asleep, h])
  · exact congrArg _ (brownout_of_awake (by simp [State.asleep, h]))
  · exact congrArg _ (brownout_of_awake (by simp [State.asleep, h]))
  · exact if_neg (by simp [h])
  · exact if_pos (by simp [State.asleep, h])
  · exact congrArg _ (brownout_of_awake (d := .host) h)
  · have hu' : u = if s.asleep .field ≠ s.power.hostAsleep then { s with power := { s.power with lastWake := 8 } } else s.wakeRecord 8 := by
      rw [if_neg (by simp [asleep_field_iff.2 hf, hh])]; exact hu
    have hhost : u.power.hostAsleep = true := by rw [hu]; exact hh
    rw [exec_brownout, execBrownout, brownout_field hu' (asleep_field_iff.2 hf), if_pos hhost, ← hv]
  · have hu' : u = if s.asleep .field ≠ s.power.hostAsleep then { s with power := { s.power with lastWake := 8 } } else s.wakeRecord 8 := by
      rw [if_neg (by simp [asleep_field_iff.2 hf, hh])]; exact hu
    have hfield : u.asleep .field = true := asleep_field_iff.2 (by rw [hu]; exact hf)
    rw [exec_brownout, execBrownout, brownout_host hu' hh rfl, if_pos hfield, show u.hostMem = s.hostMem by rw [hu]]
    rfl
  · have hu' : u = if s.asleep .field ≠ s.power.hostAsleep then { s with power := { s.power with lastWake := 8 } } else s.wakeRecord 8 := by
      rw [if_pos (by simp [asleep_field_iff.2 hf, hh])]; exact hu
    have hhost : ¬ u.power.hostAsleep = true := by rw [hu]; simp [hh]
    rw [exec_brownout, execBrownout, brownout_field hu' (asleep_field_iff.2 hf), if_neg hhost]
  · have hawake : s.asleep .field = false := by simp [State.asleep, hf]
    have hu' : u = if s.asleep .field ≠ s.power.hostAsleep then { s with power := { s.power with lastWake := 8 } } else s.wakeRecord 8 := by
      rw [if_pos (by simp [hawake, hh])]; exact hu
    have hfield : ¬ u.asleep .field = true := by rw [hu]; simp [State.asleep, hf]
    rw [exec_brownout, execBrownout, brownout_host hu' hh rfl, if_neg hfield, show u.hostMem = s.hostMem by rw [hu], hf]
  · obtain ⟨hnone, hsome⟩ := window_seen h6
    exact ⟨execCurfewWindowEnd_of_window h hu hnone, fun k hk hen hl => execCurfewWindowEnd_of_window h hu (hsome k hk hen hl)⟩

end Sys2Proof.Machine
end

section
/-!
PROOFS. O24: writes that start loop-backs, calibrations and the echo, acknowledge faults, and release the capture.
-/

namespace Sys2Proof.Machine

open Sys2Proof

variable {s t : State} {idx sub : Nat} {v : List Byte} {st : Status}

/-! ### Rows of an object that is fitted, or is not (R5, R309) -/

/-- The row of a write of an object that is written, on a module without twin, answers with what its rule makes of the value. -/
theorem writeRow_of_object {o : Obj} (hw : s.takesWrites) (hat : objectAt idx sub false = .ok o) (hlock : lockedObj idx sub = false)
    (hacc : o.access ≠ .ro ∧ o.access ≠ .cmd) (hfits : o.valueOk v = true) {overSpi : Bool}
    (happly : s.applyWrite o overSpi idx sub v = (st, t)) (htwin : t.twin = s.twin) :
    s.writeRow overSpi idx sub v = t.answers idx sub st := by
  obtain ⟨hserve, hrole, hH, hF, hrecovery⟩ := hw
  obtain ⟨hro, hcmd⟩ := hacc
  have hrole' : t.twin.role = 0 := htwin ▸ hrole
  have hlocate : s.locate idx sub false = .ok o := by simp [State.locate, hat, hH, hF, hrecovery]
  have hsecond : s.secondLocks idx = false := by simp [State.secondLocks, hrole]
  have hwrite : s.dictWrite overSpi idx sub v = (st, t) := by
    unfold State.dictWrite
    rw [hlocate]
    cases hk : o.access <;> simp_all [mirror_of_no_twin hrole']
  simp only [State.writeRow, hserve, frontEnd_of_reachable hat fun _ => hH, State.writeFor, hwrite, replyAfter_of_no_twin hrole']
  rfl

/-- A write-only object of the radio that a rule does not lock and that takes the value 1. -/
structure RadioAction (idx sub : Nat) : Prop where
  range : 0x7000 ≤ idx ∧ idx < 0x8000 ∧ idx ≠ 0x7000
  check : (findObj idx sub).any (fun o => decide (o.access = .wo) && o.valueOk [1]) = true
  unlocked : lockedObj idx sub = false

theorem writeRow_of_radio (hw : s.takesWrites) (ho : RadioAction idx sub) (hact : s.action idx sub [1] = (st, t)) (htwin : t.twin = s.twin) :
    s.writeRow false idx sub [1] = if hasRadio then t.answers idx sub st else s.answers idx sub .notFitted := by
  obtain ⟨hrange, hcheck, hlock⟩ := ho
  cases hfound : findObj idx sub with
  | none => simp [hfound] at hcheck
  | some o =>
    obtain ⟨hwo, hfits⟩ : o.access = .wo ∧ o.valueOk [1] = true := by simpa [hfound] using hcheck
    by_cases hr : hasRadio = true
    · have hat : objectAt idx sub false = .ok o := by
        unfold objectAt
        rw [if_neg (by omega), if_neg (by simp [hr]), hfound]
      rw [if_pos hr]
      exact writeRow_of_object hw hat hlock (by simp [hwo]) hfits ((if_pos hwo).trans hact) htwin
    · have hat : objectAt idx sub false = .error .notFitted := by
        unfold objectAt
        rw [if_neg (by omega), if_pos ⟨hr, hrange.1, hrange.2.1, by simp⟩]
      rw [if_neg hr]
      simp only [State.writeRow, hw.serves, frontEnd_of_error hat]
      rfl

/-! ### The ring's loop-back and the echo (R337, R344, R356) -/

/-- The relay touches the ring's ports, its own state and the count of its moves. -/
theorem relaySet_rest (s : State) : ∃ r : Ring, s.relaySet = { s with ring := r } ∧ r.loop = s.ring.loop := by
  unfold State.relaySet
  dsimp only
  split
  · exact ⟨_, rfl, rfl⟩
  · exact ⟨_, rfl, rfl⟩

theorem ringLoop_of_free (hloop : s.ring.loop ≠ 1) (hwarn : s.power.warning = false) (hrole : s.twin.role = 0) :
    s.ringLoop = (.ok, ({ s with ring := { s.ring with loop := 1, loopSent := 0, loopMatched := 0 } } : State).relaySet) :=
  (if_neg hloop).trans (if_neg (by simp [hwarn, hrole]))

theorem ringLoop_of_warning (hloop : s.ring.loop ≠ 1) (hwarn : s.power.warning = true) :
    s.ringLoop = (.refused, { s with ring := { s.ring with loop := 4 } }) :=
  (if_neg hloop).trans (if_pos (.inl hwarn))

theorem exec_ringLoopback_of (hw : s.takesWrites) (h : s.ringLoop = (st, t)) (htwin : t.twin = s.twin) :
    exec (.ringLoopback [1]) s = .next (t.answers 0x8007 2 st) :=
  congrArg _ (writeRow_of_check (idx := 0x8007) (sub := 2) (v := [1]) hw (by decide +kernel) (by decide) (by decide) h htwin)

theorem exec_shiftRegisterEcho_of (hw : s.takesWrites) (p : Peer) {n : Byte} (hn : n = 0 ∨ n = 1) :
    exec (.shiftRegisterEcho p [n]) s = .next ((s.shiftEcho (decide (p = .spi)) (leNat [n])).answers 0x8801 1 .ok) := by
  have hfound : findObj 0x8801 1 = some ⟨0x8801, 1, 0x01, 0x01, .nat 1, .rw, .range 0 1, natLE 1 0⟩ := by decide +kernel
  have hat : objectAt 0x8801 1 false = .ok ⟨0x8801, 1, 0x01, 0x01, .nat 1, .rw, .range 0 1, natLE 1 0⟩ := by
    unfold objectAt
    rw [if_neg (by decide), if_neg (by simp), hfound]
  refine congrArg Host.Outcome.next (writeRow_of_object hw hat (by decide) (by decide) ?_ ?_ rfl)
  · obtain rfl | rfl := hn <;> decide
  · simp [State.applyWrite, State.refusal]

/-! ### Faults (R385, R395) -/

theorem ackDie_field_twin (hrole : s.twin.role = 0) (mask : Nat) : (s.ackDie .field mask).twin = s.twin := by
  obtain ⟨f, r, heff⟩ := ackEffects_rest mask { s with fltF := s.fltF.ack mask }
  obtain ⟨c, hend, -, -⟩ := safeEnd_of_no_second (s := { s with fltF := s.fltF.ack mask, feeders := f, radio := { s.radio with reduced := r } })
    (show s.twin.role ≠ 2 by omega)
  have h : s.ackDie .field mask = (State.ackEffects mask { s with fltF := s.fltF.ack mask }).safeEnd := rfl
  rw [h, heff, hend]

theorem ackDie_host_twin (mask : Nat) (s : State) : (s.ackDie .host mask).twin = s.twin := by
  unfold State.ackDie
  dsimp only
  split <;> rfl

theorem ackBoth_of_reserved {mask : Nat} (h : classMaskOk mask = false) : s.ackBoth mask = (.valueRange, s) := if_pos h

theorem ackBoth_of_low {mask : Nat} (hok : classMaskOk mask = true) (h : s.anyHigh mask = false) :
    s.ackBoth mask = (.ok, (s.ackDie .field mask).ackDie .host mask) := by
  rw [State.ackBoth, if_neg (by simp [hok]), if_neg (by simp [h])]

theorem ackBoth_of_high {mask : Nat} (hok : classMaskOk mask = true) (h : s.anyHigh mask = true) : s.ackBoth mask = (.authRequired, s) := by
  rw [State.ackBoth, if_neg (by simp [hok]), if_pos h]

theorem exec_acknowledgeFaults_of (hw : s.takesWrites) (m : BitVec 16) (h : s.ackBoth m.toNat = (st, t)) (htwin : t.twin = s.twin) :
    exec (.acknowledgeFaults (natLE 2 m.toNat)) s = .next (t.answers 0xA001 1 st) := by
  have hfound : findObj 0xA001 1 = some ⟨0xA001, 1, 0x01, 0x01, .nat 2, .wo, .any, []⟩ := by decide +kernel
  have ho : Takes 0xA001 1 (natLE 2 m.toNat) _ := ⟨hfound, by decide, by decide, rfl⟩
  have hval : leNat (natLE 2 m.toNat) = m.toNat := (leNat_natLE 2 _).trans (Nat.mod_eq_of_lt m.isLt)
  exact congrArg _ (writeRow_of_action hw ho rfl ((congrArg s.ackBoth hval).trans h) htwin)

/-! ### Calibrations (R463, R465, R469) -/

theorem calBegin_twin (code target : Nat) (track : Option Nat) (s : State) : (s.calBegin code target track).twin = s.twin := by
  unfold State.calBegin
  dsimp only
  split <;> split <;> rfl

theorem calGo_twin (code target : Nat) (track : Option Nat) (s : State) : (s.calGo code target track).twin = s.twin := by
  unfold State.calGo
  split
  · rfl
  · exact calBegin_twin ..

theorem calibTry_twin (s : State) : s.calibTry.twin = s.twin := by
  unfold State.calibTry
  split
  · split
    · exact calGo_twin ..
    · rfl
  · split
    · exact calGo_twin ..
    · rfl

theorem calTry_twin (s : State) : s.calTry.twin = s.twin := by
  unfold State.calTry
  dsimp only
  split <;> rfl

theorem exec_calibrationStart_of (hw : s.takesWrites) (h : s.calStart = (st, t)) (htwin : t.twin = s.twin) :
    exec (.calibrationStart [1]) s = .next (t.answers 0xC000 4 st) :=
  congrArg _ (writeRow_of_check (idx := 0xC000) (sub := 4) (v := [1]) hw (by decide +kernel) (by decide) (by decide) h htwin)

section
variable {c n : Nat} (hc : c = s.objNat 0xC000 1) (hn : n = s.objNat 0xC000 2) (hcode : c ∈ [1, 2, 3, 4]) (hok : calTargetOk c n = true)
include hc hn hcode hok

theorem calStart_of_free (hrun : s.calib.running = none) (hcommit : s.calib.commit = none) (hwanted : s.calib.wanted = none) :
    s.calStart = (.ok, ({ s with calib := { s.calib with state := 1, reason := 0, wanted := some (c, n) } } : State).calibTry) := by
  have hlow : c ≠ 6 ∧ c ≠ 5 := by constructor <;> rintro rfl <;> simp at hcode
  unfold State.calStart
  dsimp only
  rw [← hc, ← hn, if_neg (by simp [hlow.1]), if_neg (by simp [hok]), if_neg (by simp [hrun, hcommit, hwanted]), if_neg (by simp [hlow.2])]

theorem calStart_of_running (hrun : s.calib.running ≠ none) : s.calStart = (.busy, s) := by
  have hlow : c ≠ 6 := by rintro rfl; simp at hcode
  unfold State.calStart
  dsimp only
  rw [← hc, ← hn, if_neg (by simp [hlow]), if_neg (by simp [hok]), if_pos (.inl (Option.isSome_iff_ne_none.2 hrun))]

end

/-! ### The other loop-backs (R459, R476) -/

theorem doorLoop_of_free (hloop : s.radio.loop ≠ 1) (hsafe : s.fltF.safe = false) (hwarn : s.power.warning = false)
    (hdepth : s.objNat 0x7040 1 = 3 → s.objBool 0x7010 4 = true ∧ s.dutyRefuses (100 * s.loopUs) false = false) :
    s.doorLoop = (.ok, { s with radio := { s.radio with loop := 1, loopWait := true, loopSent := 0, loopMatched := 0
                                                        loopDuty := if s.objNat 0x7040 1 = 3 then 100 * s.loopUs else 0 } }) := by
  refine (if_neg hloop).trans (if_neg ?_)
  by_cases h : s.objNat 0x7040 1 = 3
  · simp [hsafe, hwarn, hdepth h]
  · simp [hsafe, hwarn, h]

theorem exec_hfLoopback_of (hw : s.takesWrites) (h : s.hfLoop = (st, t)) (htwin : t.twin = s.twin) :
    exec (.hfLoopback [1]) s = .next (t.answers 0xC020 3 st) :=
  congrArg _ (writeRow_of_check (idx := 0xC020) (sub := 3) (v := [1]) hw (by decide +kernel) (by decide) (by decide) h htwin)

section
variable {d n : Nat} (hd : d = s.objNat 0xC020 1) (hn : n = s.objNat 0xC020 2) (hloop : s.calib.loop ≠ 1) (hok : loopTargetOk d n = true)
  (hrole : s.twin.role = 0)
include hd hn hloop hok hrole

theorem hfLoop_of_free (hair : d ∈ [3, 4] → s.fltF.safe = false ∧ s.power.warning = false) (hfeeder : d = 4 → (s.feeder n).status = 1)
    (hd5 : d ≠ 5) : s.hfLoop = (.ok, { s with calib := { s.calib with loop := 1, loopDepth := d, loopTarget := n, loopSent := 0, loopMatched := 0 } }) := by
  unfold State.hfLoop
  dsimp only
  rw [← hd, ← hn, if_neg hloop, if_neg (by simp [hok]), if_neg]
  by_cases h3 : d = 3
  · simp [h3, hair (by simp [h3]), hrole]
  by_cases h4 : d = 4
  · simp [h4, hair (by simp [h4]), hfeeder h4, hrole]
  · have : ¬ (3 ≤ d ∧ d ≤ 5) := by omega
    simp [this, hd5, h4]

theorem hfLoop_of_pair (hd5 : d = 5) : s.hfLoop = (.refused, { s with calib := { s.calib with loop := 4 } }) := by
  unfold State.hfLoop
  dsimp only
  rw [← hd, ← hn, if_neg hloop, if_neg (by simp [hok]), if_pos (by simp [hd5, State.mirrors, hrole])]

end

/-- Settles O24: each row is its object's action on a module without twin, answered with the action's status. -/
theorem maintenanceWritesAct : Obligations.MaintenanceWritesAct := by
  intro s hw
  have hcalNow : RadioAction 0x7011 6 := ⟨by decide, by decide +kernel, by decide⟩
  have hdoor : RadioAction 0x7040 4 := ⟨by decide, by decide +kernel, by decide⟩
  refine ⟨fun hloop hwarn => ?_, fun hloop => exec_ringLoopback_of hw (if_pos hloop) rfl,
    fun hloop hwarn => exec_ringLoopback_of hw (ringLoop_of_warning hloop hwarn) rfl, fun a b => ?_, ?_, fun p => ?_,
    fun m h => exec_acknowledgeFaults_of hw m (ackBoth_of_reserved h) rfl, fun m hok hlow => ?_, fun m hok hhigh => ?_,
    congrArg _ (writeRow_of_check hw (by decide +kernel) (by decide) (by decide) rfl rfl), ?_, fun hloop hsafe hwarn hdepth => ?_,
    fun hloop => ?_, fun c n hc hn hcode hok hrun hcommit hwanted => ?_, fun hcode hok hrun => ?_,
    fun d n hd hn hloop hok hair hfeeder hd5 => exec_hfLoopback_of hw (hfLoop_of_free hd hn hloop hok hw.alone hair hfeeder hd5) rfl,
    fun hloop hd5 hok => exec_hfLoopback_of hw (hfLoop_of_pair rfl rfl hloop (by rw [hd5]; exact hok) hw.alone hd5) rfl,
    fun hloop => exec_hfLoopback_of hw (if_pos hloop) rfl⟩
  · obtain ⟨r, hr, hl⟩ := relaySet_rest ({ s with ring := { s.ring with loop := 1, loopSent := 0, loopMatched := 0 } } : State)
    exact ⟨_, exec_ringLoopback_of hw (ringLoop_of_free hloop hwarn hw.alone) (by rw [hr]), rfl, by rw [hr]; exact hl⟩
  · exact (exec_shiftRegisterEcho_of hw (.ring a b) (.inr rfl)).trans (by simp [State.shiftEcho, State.setObj, b8, leNat])
  · exact (exec_shiftRegisterEcho_of hw .spi (.inr rfl)).trans (by simp [State.shiftEcho, State.setObj, b8, leNat])
  · exact (exec_shiftRegisterEcho_of hw p (.inl rfl)).trans (by simp [State.shiftEcho, State.setObj, b8, leNat])
  · exact exec_acknowledgeFaults_of hw m (ackBoth_of_low hok hlow) ((ackDie_host_twin _ _).trans (ackDie_field_twin hw.alone _))
  · exact exec_acknowledgeFaults_of hw m (ackBoth_of_high hok hhigh) rfl
  · refine congrArg Host.Outcome.next ((writeRow_of_radio hw hcalNow (t := s.calRequest) rfl ?_).trans rfl)
    exact calTry_twin _
  · refine congrArg Host.Outcome.next ((writeRow_of_radio hw hdoor (doorLoop_of_free hloop hsafe hwarn hdepth) rfl).trans ?_)
    split <;> rfl
  · refine congrArg Host.Outcome.next ((writeRow_of_radio hw hdoor (t := s) (if_pos hloop) rfl).trans ?_)
    split <;> rfl
  · exact exec_calibrationStart_of hw (calStart_of_free hc hn hcode hok hrun hcommit hwanted) (calibTry_twin _)
  · exact exec_calibrationStart_of hw (calStart_of_running rfl rfl hcode hok hrun) rfl

end Sys2Proof.Machine
end

section
/-!
PROOFS. O50: the twin's timers, lines and role decisions.
-/

namespace Sys2Proof.Machine

open Sys2Proof

variable {s u : State}

/-! ### Heartbeats and lines (R359, R371, R378, R379, R422) -/

/-- A module that runs alone ignores the twin's lines and timers. -/
theorem exec_twinLine_of_alone {c : Instr} (halone : s.twin.state = 0)
    (hc : c ∈ [.heartbeatTick, .hbInEdge, .heartbeatLineBroken, .heartbeatMissed, .haltIn]) : exec c s = .next s := by
  simp only [List.mem_cons, List.not_mem_nil, or_false] at hc
  rcases hc with rfl | rfl | rfl | rfl | rfl
  · exact if_pos (.inl halone)
  all_goals exact if_pos halone

/-- A pin of the TWIN connector is driven unless its pads are latched. -/
theorem pin_eq (n v : Nat) (s : State) :
    s.pin n v = { s with out := if s.power.padlat.getLsbD 2 then s.out else s.out ++ [.twinPin n v] } := by
  unfold State.pin
  cases s.power.padlat.getLsbD 2 <;> rfl

theorem exec_heartbeatTick_of_run (htwin : s.twin.state ≠ 0) (hcore : s.coreF.stopped = false) (hdbg : s.dbg.halted = false)
    (hpower : s.power.state = 0) : exec .heartbeatTick s = .next (State.send .twin 0x90 (.heartbeat s.tb.ts) { s with
      twin := { s.twin with hbOut := !s.twin.hbOut }
      out := if s.power.padlat.getLsbD 2 then s.out else s.out ++ [.twinPin 9 (bit !s.twin.hbOut)] }) := by
  show execHeartbeatTick s = _
  unfold execHeartbeatTick
  rw [if_neg (by simp [htwin, hcore, hdbg, hpower])]
  dsimp only
  rw [pin_eq]

/-- A broken heartbeat line is a fault while the messages still arrive. -/
theorem exec_heartbeatLineBroken_of_twin (htwin : s.twin.state ≠ 0) :
    exec .heartbeatLineBroken s = .next (if s.twin.hbMsg
      then State.raiseFault .field 9 8 1 [] { s with twin := { s.twin with hbLine := false } }
      else { s with twin := { s.twin with hbLine := false } }) :=
  (if_neg htwin).trans (apply_ite _ _ _ _).symm

/-- Missed heartbeats are a trigger unless both modules sleep. -/
theorem exec_heartbeatMissed_of_twin (htwin : s.twin.state ≠ 0) :
    exec .heartbeatMissed s = .next (if s.twin.sleeping
      then { s with twin := { s.twin with hbLine := false, hbMsg := false } }
      else State.trigger 1 { s with twin := { s.twin with hbLine := false, hbMsg := false } }) :=
  (if_neg htwin).trans (apply_ite _ _ _ _).symm

/-! ### Cross-monitoring (R370) -/

theorem litFeeder_iff (s : State) (n : Nat) :
    s.litFeeder n = true ↔ (∃ ca ∈ s.twin.lit, feederOf ca = n) ∨ ∃ c ∈ s.twin.services, feederOf c.ca = n := by
  simp [State.litFeeder]

/-- A second asks about an absent field when a mirrored wave or exchange energises the feeder, once, while it is monitored. -/
theorem exec_fieldAbsent_eq (s : State) (n : Fin 16) :
    exec (.fieldAbsent n) s = if s.twin.role = 2 ∧ s.objBool 0x9001 2 = true ∧
        ((∃ ca ∈ s.twin.lit, feederOf ca = n.val) ∨ ∃ c ∈ s.twin.services, feederOf c.ca = n.val) ∧
        s.twin.masked.contains n.val = false ∧ s.twin.queries.contains n.val = false
      then .next (State.send .twin 0x91 (.fieldQuery n.val) { s with twin := { s.twin with queries := s.twin.queries ++ [n.val] } })
      else .next s := by
  simp only [← litFeeder_iff]
  simp only [← Bool.not_eq_true]
  rfl

/-! ### The lead without its second, and a handover that waits (R367, R375) -/

theorem exec_mirrorTimeout_eq (s : State) :
    exec .mirrorTimeout s = if s.twin.role = 1 ∧ (s.twin.state = 3 ∨ s.twin.state = 4) ∧ ∃ m ∈ s.linkT.window, 0x80 ≤ m.typ
      then .next (State.raiseFault .field 9 3 2 [] (State.releaseAll { s with twin := { s.twin with state := 5 } }))
      else .next s := by
  show execMirrorTimeout s = _
  unfold execMirrorTimeout State.goSolo
  by_cases hrole : s.twin.role = 1 ∧ (s.twin.state = 3 ∨ s.twin.state = 4)
  · simp [hrole]
  · have : ¬ (s.twin.role = 1 ∧ (s.twin.state = 3 ∨ s.twin.state = 4) ∧ ∃ m ∈ s.linkT.window, 0x80 ≤ m.typ) := fun h => hrole ⟨h.1, h.2.1⟩
    rw [if_neg this, if_neg hrole, ite_self]

/-! ### Role decisions (R363, R374) -/

theorem exec_roleDecision_of_decided {r : Bool} (h : s.twin.state ≠ 1) : exec (.roleDecision r) s = .next s := if_pos h

section
variable (hstate : s.twin.state = 1)
include hstate

theorem exec_roleDecision_of_roleIn : exec (.roleDecision true) s =
    .next (State.becomeSecond { s with twin := { s.twin with roleIn := true } }) :=
  if_neg (not_not.2 hstate)

/-- Paired modules decide by the newest record that each has committed, then by position. -/
theorem exec_roleDecision_of_paired (hp : s.twin.paired = true) (hu : u = { s with twin := { s.twin with roleIn := false } }) :
    exec (.roleDecision false) s = .next (if s.twin.peerEsn < s.journal.esn - 1 ∨ s.journal.esn - 1 = s.twin.peerEsn ∧ s.twin.posA = true
      then u.takeRole.leadReady else u.becomeSecond) := by
  subst hu
  show execRoleDecision false s = _
  unfold execRoleDecision
  rw [if_neg (not_not.2 hstate)]
  simp only [hp, Bool.true_and, Bool.not_true, Bool.false_and, Bool.or_false, if_true, apply_ite Host.Outcome.next, Bool.or_eq_true,
    Bool.and_eq_true, decide_eq_true_eq, gt_iff_lt, Bool.false_eq_true, if_false]

/-- Unpaired modules wait for a link that is up; without one, position A and a position B that has waited lead. -/
theorem exec_roleDecision_of_unpaired (hp : s.twin.paired = false) (hu : u = { s with twin := { s.twin with roleIn := false } }) :
    exec (.roleDecision false) s = .next (if s.linkT.up then u
      else if s.twin.posA = true ∨ s.twin.role = 2 then u.takeRole.leadReady else { u with twin := { u.twin with role := 2 } }) := by
  subst hu
  show execRoleDecision false s = _
  unfold execRoleDecision
  rw [if_neg (not_not.2 hstate)]
  cases hup : s.linkT.up <;> simp [hp, hup, apply_ite Host.Outcome.next]

end

/-! ### ROLE_IN rises (R363, R374) -/

theorem exec_yield_of_no_lead (h : s.twin.role ≠ 1) : exec .yield s = .next { s with twin := { s.twin with roleIn := true } } := if_pos h

/-- Of two lines that rise within 10 us, position A's stays. -/
theorem exec_yield_of_lead (h : s.twin.role = 1) (hu : u = { s with twin := { s.twin with roleIn := true } }) :
    exec .yield s = .next (if s.tb.ts ≤ s.twin.roleTs + 10 then if s.twin.posA then u else u.yieldLead true else u.yieldLead false) := by
  subst hu
  show execYield s = _
  unfold execYield
  rw [if_neg (not_not.2 h)]
  simp only [apply_ite Host.Outcome.next]

/-- Settles O50, one equation for each row. -/
theorem twinTimersAndLinesAct : Obligations.TwinTimersAndLinesAct := by
  unfold Obligations.TwinTimersAndLinesAct
  refine ⟨fun s c => exec_twinLine_of_alone,
    fun s htwin => ⟨fun h => if_pos (.inr h), exec_heartbeatTick_of_run htwin, if_neg htwin, fun h => ?_, fun h => ?_, fun h => ?_, fun h => ?_, if_neg htwin⟩, fun s n => ⟨fun h => ?_, fun h => ?_, fun h => if_pos h, fun h => if_neg (by simpa using h)⟩,
    fun s => ⟨fun h => ?_, fun h => ?_, fun h => if_neg (not_not.2 h), fun h => if_pos (by simp [h])⟩,
    fun s u r hu => ⟨exec_roleDecision_of_decided, fun hstate => ⟨?_, ?_, ?_, ?_⟩⟩,
    fun s u hu => ⟨fun h => hu ▸ exec_yield_of_no_lead h, fun h hlate => ?_, fun h hnear => ?_⟩⟩
  · rw [exec_heartbeatLineBroken_of_twin htwin, if_pos h]
  · rw [exec_heartbeatLineBroken_of_twin htwin, if_neg (by simp [h])]
  · rw [exec_heartbeatMissed_of_twin htwin, if_pos h]
  · rw [exec_heartbeatMissed_of_twin htwin, if_neg (by simp [h])]
  · rw [exec_fieldAbsent_eq, if_pos h]
  · rw [exec_fieldAbsent_eq, if_neg h]
  · rw [exec_mirrorTimeout_eq, if_pos h]
  · rw [exec_mirrorTimeout_eq, if_neg h]
  · rintro rfl
    rw [hu, exec_roleDecision_of_roleIn hstate]
  · rintro rfl hp
    exact exec_roleDecision_of_paired hstate hp hu
  · rintro rfl hp hup
    rw [exec_roleDecision_of_unpaired hstate hp hu, if_pos hup]
  · rintro rfl hp hup
    rw [exec_roleDecision_of_unpaired hstate hp hu, if_neg (by simp [hup])]
  · rw [exec_yield_of_lead h hu, if_neg (by omega)]
  · rw [exec_yield_of_lead h hu, if_pos hnear]

end Sys2Proof.Machine
end

section
/-!
PROOFS. O48: heartbeats, queries, replies, notices and pairing over the twin link.
-/

namespace Sys2Proof.Machine

open Sys2Proof

variable {s : State} {f : List Byte} {typ : Nat}

/-! ### What roles and pairing leave of the twin's state -/

theorem portSend_rest (p : Port) (o : Output) (s : State) :
    ∃ a b l, s.portSend p o = { s with ring := { s.ring with a := a, b := b }, out := l } := by
  unfold State.portSend
  split
  · exact ⟨s.ring.a, s.ring.b, s.out, rfl⟩
  · cases p <;> exact ⟨_, _, _, rfl⟩

theorem arpBoth_rest (ip : Nat) (s : State) : ∃ a b l, s.arpBoth ip = { s with ring := { s.ring with a := a, b := b }, out := l } := by
  obtain ⟨a, b, l, ha⟩ := portSend_rest .a (.arp .a ip) s
  obtain ⟨a', b', l', hb⟩ := portSend_rest .b (.arp .b ip) { s with ring := { s.ring with a := a, b := b }, out := l }
  exact ⟨a', b', l', by unfold State.arpBoth; rw [ha, hb]⟩

@[simp] theorem gainService_twin (s : State) : s.gainService.twin = s.twin := by
  unfold State.gainService
  dsimp only
  split
  · obtain ⟨a, b, l, h⟩ := arpBoth_rest (s.serviceSet.objNat 0x8006 1) { s.serviceSet with ring := { s.serviceSet.ring with arps := 2 } }
    rw [h]
    rfl
  · rfl

@[simp] theorem pin_twin (n v : Nat) (s : State) : (s.pin n v).twin = s.twin := by
  unfold State.pin
  split <;> rfl

/-- A module that takes the role leads alone at first, with its word path open. -/
theorem takeRole_twin (s : State) :
    s.takeRole.twin = { s.twin with role := 1, state := 5, roleTs := s.tb.ts, blocked := false, roleIn := false } := by
  simp [State.takeRole, State.sendRole]

theorem foldl_send_twin {α : Type} (e : LinkEnd) (typ : Nat) (b : α → Payload) (l : List α) (s : State) :
    (l.foldl (fun s a => s.send e typ (b a)) s).twin = s.twin := by
  induction l generalizing s with
  | nil => rfl
  | cons a l ih => exact (ih _).trans (send_twin ..)

/-- A lead that begins the copy has a second in state 3. -/
theorem startCopy_twin (s : State) : s.startCopy.twin = { s.twin with state := 3 } := foldl_send_twin ..

theorem pairedNow_of_lead (h : s.twin.role = 1) : s.pairedNow = State.startCopy { s with twin := { s.twin with paired := true } } := if_pos h

theorem pairedNow_paired (s : State) : s.pairedNow.twin.paired = true := by
  unfold State.pairedNow
  dsimp only
  split
  · rw [startCopy_twin]
  · split <;> rfl

/-- A module that is no lead has nothing to give up when it does not pair. -/
theorem unpaired_of_no_lead (h : s.twin.role ≠ 1) :
    s.unpaired = State.raiseFault .field 9 1 2 [] { s with twin := { s.twin with
      paired := false
      state := if s.twin.role = 2 ∧ s.twin.state ≠ 7 then 2 else s.twin.state } } := by
  unfold State.unpaired State.goSolo
  rw [if_neg (fun h' => h h'.1)]
  dsimp only
  rw [if_neg h]

/-! ### The rows (R361, R362, R369 to R371, R375) -/

/-- The peer's hello at a wrong position is a fault once. -/
theorem twinHello_of_wrong {n : List Byte} {e : Nat} {p : Bool} (hp : p ≠ s.twin.posA) {w : State}
    (hw : w = { s with twin := { s.twin with peerNonce := n, peerEsn := e } }) :
    s.twinHello n e p = if s.twin.posBad then w else
      State.raiseFault .field 9 2 2 [] { w with twin := { w.twin with posBad := true, paired := false } } := by
  subst hw
  exact if_pos hp

/-- At the right position a new nonce asks for a new pairing. -/
theorem twinHello_of_right {n : List Byte} {e : Nat} {v : State}
    (hv : v = { s with twin := { s.twin with peerNonce := n, peerEsn := e, posBad := false } }) :
    s.twinHello n e s.twin.posA =
      if s.twin.paired = true ∧ s.twin.peerNonce = n then v else if s.twin.key = [] then v.unpaired else v.sendPair := by
  subst hv
  unfold State.twinHello
  dsimp only
  rw [if_neg (not_not.2 rfl)]
  simp only [decide_eq_true_eq, not_not]

/-- The position that a hello names, or this module's opposite's where it names none. -/
theorem getD_ne_iff {p : Option Bool} {a : Bool} : p.getD a ≠ a ↔ p = some (!a) := by
  cases p with
  | none => simp
  | some b => cases a <;> cases b <;> simp

theorem followTs_of_behind {ts : Nat} (hrole : s.twin.role = 2) (hp : s.twin.paired = true) (h : s.tb.ts < max ts s.twin.mirrorTs) :
    s.followTs ts = { s with tb := { s.tb with ts := max ts s.twin.mirrorTs }, twin := { s.twin with tsSteps := s.twin.tsSteps + 1 } } :=
  if_pos ⟨hrole, hp, h⟩

theorem followTs_of_else {ts : Nat} (h : s.twin.role ≠ 2 ∨ s.twin.paired = false ∨ max ts s.twin.mirrorTs ≤ s.tb.ts) : s.followTs ts = s := by
  refine if_neg fun ⟨hrole, hp, hlt⟩ => ?_
  rcases h with h | h | h
  · exact h hrole
  · exact absurd (hp.symm.trans h) (by decide)
  · omega

theorem fieldAnswer_of_none {n : Nat} (h : ∀ i < 8, (s.chain i).routed = false ∨ (s.chain i).feeder ≠ n) :
    s.fieldAnswer n = s.send .twin 0x92 (.fieldReply n 0 0) := by
  have hnone : ((List.range 8).find? fun x => (s.chain x).routed && decide ((s.chain x).feeder = n)) = none := by
    simp only [List.find?_eq_none, List.mem_range]
    intro i hi
    rcases h i hi with h | h <;> simp [h]
  unfold State.fieldAnswer
  rw [hnone]

/-- The chain that is routed to a feeder, the first where there are several, answers for it. -/
theorem fieldAnswer_of_routed {n x : Nat} (hx : x < 8) (hr : (s.chain x).routed = true) (hf : (s.chain x).feeder = n)
    (hfirst : ∀ i < x, (s.chain i).routed = false ∨ (s.chain i).feeder ≠ n) :
    s.fieldAnswer n = s.send .twin 0x92 (.fieldReply n (s.chain x).fwd ((s.chain x).power * 1000).floor.toNat) := by
  have hsome : ((List.range 8).find? fun x => (s.chain x).routed && decide ((s.chain x).feeder = n)) = some x := by
    rw [List.find?_range_eq_some]
    refine ⟨by simp [hr, hf], List.mem_range.2 hx, fun i hi => ?_⟩
    rcases hfirst i hi with h | h <;> simp [h]
  unfold State.fieldAnswer
  rw [hsome]

section
variable {n fwd cmd : Nat}

theorem fieldJudge_of_unasked (h : s.twin.queries.contains n = false) : s.fieldJudge n fwd cmd = s := if_pos (by simpa using h)

variable (h : s.twin.queries.contains n = true) {w : State} (hw : w = { s with twin := { s.twin with queries := s.twin.queries.filter (· ≠ n) } })
include h hw

theorem fieldJudge_of_asked : s.fieldJudge n fwd cmd = if cmd ≤ 2 * fwd
    then State.raiseFault .field 5 3 2 [b8 n] { w with twin := { w.twin with masked := s.twin.masked ++ [n], answered := s.twin.answered + 1 } }
    else w.trigger 2 := by
  subst hw
  exact if_neg (not_not.2 h)

end

/-- A trigger acts on a second in Run only. -/
theorem trigger_of_no_second {code : Nat} (h : s.twin.role ≠ 2 ∨ s.power.state ≠ 0) : s.trigger code = s := if_pos h

theorem trigger_of_second {code : Nat} (hrole : s.twin.role = 2) (hpower : s.power.state = 0) :
    s.trigger code = if s.twin.state = 4 then s.takeover code else s.raiseFault .field 9 7 3 [] :=
  if_neg (by simp [hrole, hpower])

/-- Messages without SEQ leave the link as it is. -/
theorem accepts_of_unsequenced {e : LinkEnd} (h : unsequenced e typ = true) : s.accepts e typ = s := if_pos h

/-- Settles O48: a frame that passes its checks is delivered to the state as it is, and each delivery has its equation. -/
theorem twinNoticesAct : Obligations.TwinNoticesAct := by
  unfold Obligations.TwinNoticesAct
  refine ⟨fun s f typ hruns hup hcheck htyp => ?_, fun s code => ⟨trigger_of_no_second, trigger_of_second⟩,
    fun s => ⟨pairedNow_paired s, by simp [takeRole_twin], by simp [takeRole_twin], by simp [takeRole_twin],
      fun h => by rw [pairedNow_of_lead h, startCopy_twin], unpaired_of_no_lead⟩⟩
  have hrow : ∀ d : State → State, unsequenced .twin typ = true → (.next (s.receive .twin typ f d) : Result) = .next (d s) := fun d hun => by
    rw [receive_of_passed hruns hup hcheck htyp, accepts_of_unsequenced hun]
  refine ⟨?_, ?_, ?_, ?_, ?_, ?_, ?_⟩
  · rintro rfl pos w v rfl rfl
    have hrow := hrow (fun s => if LinkEnd.twin = .twin then
      s.twinHello (sliceBytes f 8 8) (payloadLE f 8 8) (pos.getD s.twin.posA) else s) rfl
    refine ⟨fun hpos => hrow.trans (congrArg Host.Outcome.next ?_), fun hpos => hrow.trans (congrArg Host.Outcome.next ?_)⟩
    · exact twinHello_of_wrong (getD_ne_iff.2 hpos) rfl
    · have hright : pos.getD s.twin.posA = s.twin.posA := not_not.1 fun h => hpos (getD_ne_iff.1 h)
      rw [if_pos rfl, hright]
      exact twinHello_of_right rfl
  · rintro rfl w rfl
    have hrow := hrow (fun s =>
      ({ s with twin := { s.twin with hbMsg := true, leadTs := payloadLE f 0 8, sleeping := false } } : State).followTs (payloadLE f 0 8)) rfl
    exact ⟨fun hrole hp hlt => hrow.trans (congrArg Host.Outcome.next (followTs_of_behind hrole hp hlt)),
      fun h => hrow.trans (congrArg Host.Outcome.next (followTs_of_else h))⟩
  · rintro rfl n x
    have hrow := hrow (State.fieldAnswer n.val) rfl
    exact ⟨fun h => hrow.trans (congrArg Host.Outcome.next (fieldAnswer_of_none h)),
      fun hx hr hf hfirst => hrow.trans (congrArg Host.Outcome.next (fieldAnswer_of_routed hx hr hf hfirst))⟩
  · rintro rfl n fwd cmd w hw
    have hrow := hrow (State.fieldJudge n.val fwd cmd) rfl
    refine ⟨fun h => hrow.trans (congrArg Host.Outcome.next (fieldJudge_of_unasked h)), fun h hle => hrow.trans (congrArg Host.Outcome.next ?_),
      fun h hlt => hrow.trans (congrArg Host.Outcome.next ?_)⟩
    · rw [fieldJudge_of_asked h hw, if_pos hle]
    · rw [fieldJudge_of_asked h hw, if_neg (by omega)]
  · rintro rfl
    exact hrow _ rfl
  · rintro rfl
    exact hrow _ rfl
  · rintro rfl
    have hrow := hrow (fun s =>
      if s.twin.posBad then s
      else if s.twin.key ≠ [] ∧ sliceBytes f 8 8 = pairMac s.twin.key s.twin.nonce s.twin.peerEsn then s.pairedNow
      else s.unpaired) rfl
    refine ⟨fun h => hrow.trans (congrArg Host.Outcome.next (if_pos h)),
      fun h hkey hmac => hrow.trans (congrArg Host.Outcome.next ?_), fun h hbad => hrow.trans (congrArg Host.Outcome.next ?_)⟩
    · exact (if_neg (by simp [h])).trans (if_pos ⟨hkey, hmac⟩)
    · refine (if_neg (by simp [h])).trans (if_neg fun ⟨hkey, hmac⟩ => ?_)
      exact hbad.elim hkey fun h => h hmac

end Sys2Proof.Machine
end

section
/-!
PROOFS. O49: the items that a lead mirrors to its second.
-/

namespace Sys2Proof.Machine

open Sys2Proof

variable {s u : State} {f : List Byte} {typ : Nat}

/-! ### Counters and reservations (R365) -/

/-- A mirrored counter raises its slot's last counter, and is listed until its command has ended. -/
theorem mirrorCounter_last (s : State) (k n i : Nat) :
    ((s.modCmdSlot k fun x => { x with last := max x.last n }).cmdSlot i).last =
      if i = k then max (s.cmdSlot k).last n else (s.cmdSlot i).last := by
  rw [cmdSlot_modCmdSlot]
  split <;> rfl

/-- A mirrored reservation raises its limit and is programmed. -/
theorem mirrorReserve_esn {r : ReserveMsg} (h : r.kind = 0) : s.mirrorReserve r =
    { s with journal := { s.journal with esnLimit := r.first + 65536 }, nvm := (s.nvm.recycle s.journal.esn).add 3 0 r.first } := by
  unfold State.mirrorReserve
  rw [h]
  rfl

theorem mirrorReserve_counter {r : ReserveMsg} (h : r.kind = 1) : s.mirrorReserve r =
    { s.modCmdSlot r.slot fun k => { k with reserved := r.first + 4096 } with nvm := (s.nvm.recycle s.journal.esn).add 4 r.slot r.first } := by
  unfold State.mirrorReserve
  rw [h]
  rfl

theorem mirrorReserve_counter_nvm {r : ReserveMsg} (h : r.kind = 1) :
    (s.mirrorReserve r).nvm = (s.nvm.recycle s.journal.esn).add 4 r.slot r.first := by
  rw [mirrorReserve_counter h]

theorem mirrorReserve_counter_reserved {r : ReserveMsg} (h : r.kind = 1) :
    ((s.mirrorReserve r).cmdSlot r.slot).reserved = r.first + 4096 := by
  rw [mirrorReserve_counter h]
  show ((s.modCmdSlot r.slot fun k => { k with reserved := r.first + 4096 }).cmdSlot r.slot).reserved = _
  rw [cmdSlot_modCmdSlot, if_pos rfl]

theorem mirrorReserve_offset {r : ReserveMsg} (h : 2 ≤ r.kind) : s.mirrorReserve r =
    { s with journal := { s.journal with offLimit := r.first + 4194304 }, nvm := s.nvm.anchorAdd 1 r.first s.journal.esn } := by
  unfold State.mirrorReserve
  match hk : r.kind, h with
  | n + 2, _ => rfl

/-! ### Records and the close (R365, R366, R374) -/

/-- A record that ends no command and is of no security result is only taken into the journal, below its capacity. -/
theorem mirrorRecord_rest {r : JRec} (h7 : r.group ≠ 7) (h2 : r.group ≠ 2) (hlen : s.journal.ring.length < 65536) :
    ∃ n lF lH lT o, s.mirrorRecord r = { s with
      journal := { s.journal with
        ring := s.journal.ring ++ [r], next := (r.off + 64) % 2 ^ 48, chain := r.rmac, esn := r.esn + 1, released := n }
      twin := { s.twin with mirrorEsn := max s.twin.mirrorEsn r.esn, mirrorTs := max s.twin.mirrorTs r.ts }
      linkF := lF, linkH := lH, linkT := lT, out := o } := by
  unfold State.mirrorRecord
  dsimp only
  rw [if_neg (fun h => h7 h.1), if_neg (fun h => h2 h.1), show s.journal.ring.length + 1 - 65536 = 0 by omega, List.drop_zero]
  obtain ⟨lF, lH, lT, o, h⟩ := deliver_rest r { s with
    journal := { s.journal with
      ring := s.journal.ring ++ [r], next := (r.off + 64) % 2 ^ 48, chain := r.rmac, esn := r.esn + 1
      released := if anyRequired s then s.journal.released else (r.off + 64) % 2 ^ 48 }
    twin := { s.twin with mirrorEsn := max s.twin.mirrorEsn r.esn, mirrorTs := max s.twin.mirrorTs r.ts } }
  exact ⟨_, lF, lH, lT, o, h⟩

/-- The mirrored close of a sweep recomputes the roster; a digest that differs asks for a copy. -/
theorem mirrorClose_of_sweep {p k n dig : Nat} (h : s.twin.sweep = some (p, k, n)) {w : State}
    (hw : w = State.closeHeld 8 { s with
      twin := { s.twin with sweep := none, sweepCoils := [], sweepRes := [], lit := [] }
      sweeps := { s.sweeps with held := s.sweeps.held ++
        [{ plan := p, coils := s.twin.sweepCoils, results := mergeResults s.twin.sweepCoils s.abortedCoil s.twin.sweepRes }] } }) :
    s.mirrorClose dig = if w.roster.digest = dig then w else (((State.raiseFault .field 9 4 2 []
      { w with twin := { w.twin with mismatches := w.twin.mismatches + 1 } }).beginCopy).sendHello .twin).sendPair := by
  subst hw
  unfold State.mirrorClose
  rw [h]

/-- A copy is taken once no fault of the field side stands; a second that was not taking one begins. -/
def State.takeCopy (parts : List ResyncPart) (s : State) : State :=
  if s.fltF.calm = false then s else parts.foldl State.copyPart (if s.twin.state = 3 then s else s.beginCopy)

theorem takeCopy_of_taking {parts : List ResyncPart} (h : s.fltF.calm = true) (h3 : s.twin.state = 3) :
    s.takeCopy parts = parts.foldl State.copyPart s := by
  unfold State.takeCopy
  rw [if_neg (by simp [h]), if_pos h3]

theorem takeCopy_of_new {parts : List ResyncPart} (h : s.fltF.calm = true) (h3 : s.twin.state ≠ 3) :
    s.takeCopy parts = parts.foldl State.copyPart s.beginCopy := by
  unfold State.takeCopy
  rw [if_neg (by simp [h]), if_neg h3]

/-- Settles O49: a frame that passes its checks is delivered with the expected SEQ advanced, and each item is what its rule makes of it. -/
theorem mirrorItemsAreTaken : Obligations.MirrorItemsAreTaken := by
  unfold Obligations.MirrorItemsAreTaken
  refine ⟨fun s u f typ hruns hup hcheck htyp hmirror hu => ?_, fun s r h7 h2 _ hlen => ?_,
    fun s dig p k n w h hw => ?_, fun s => ⟨rfl, rfl, rfl, rfl, rfl⟩⟩
  · have hrow : ∀ d : State → State, (.next (s.receive .twin typ f d) : Result) = .next (d u) := fun d => by
      have hseq : unsequenced .twin typ = false := by
        simp only [unsequenced, Bool.or_eq_false_iff, Bool.and_eq_false_iff, decide_eq_false_iff_not]
        omega
      rw [receive_of_passed hruns hup hcheck htyp, hu]
      unfold State.accepts
      rw [hseq]
      rfl
    subst hu
    refine ⟨?_, ?_, ?_, ?_, ?_, ?_, ?_, ?_, ?_, ?_, ?_, ?_⟩
    · rintro rfl
      exact hrow _
    · rintro rfl p k w l res
      exact ⟨hrow _, hrow _, hrow _⟩
    · rintro rfl gen dig
      exact hrow _
    · rintro rfl k n
      exact ⟨_, hrow _, rfl, rfl, fun i => mirrorCounter_last _ _ _ _⟩
    · rintro rfl r
      refine ⟨_, hrow _, fun h => ?_, fun h => ?_, fun h => mirrorReserve_offset h⟩
      · rw [mirrorReserve_esn h]
        exact ⟨rfl, rfl⟩
      · exact ⟨mirrorReserve_counter_reserved h, mirrorReserve_counter_nvm h⟩
    · rintro rfl c
      refine (hrow _).trans (congrArg _ ?_)
      dsimp only
      by_cases h : c.opened = false ∧ c.kind = 3 ∧ 256 ≤ c.what
      · rw [if_pos h, if_pos (by simpa using h)]
      · rw [if_neg h, if_neg (by simpa using h)]
    · rintro rfl c
      exact hrow _
    · rintro rfl
      exact ⟨fun _ _ _ => hrow _, fun _ _ => hrow _, fun _ _ _ => hrow _⟩
    · rintro rfl
      exact ⟨fun _ _ _ => hrow _, hrow _⟩
    · rintro rfl
      exact ⟨fun _ _ => hrow _, fun _ _ => hrow _, fun _ _ => hrow _⟩
    · rintro rfl curfew
      exact hrow _
    · rintro rfl parts
      have hrow := hrow (State.takeCopy parts)
      exact ⟨fun h => hrow.trans (congrArg _ (if_pos h)), fun h h3 => hrow.trans (congrArg _ (takeCopy_of_taking h h3)),
        fun h h3 => hrow.trans (congrArg _ (takeCopy_of_new h h3))⟩
  · obtain ⟨n, lF, lH, lT, o, ht⟩ := mirrorRecord_rest h7 h2 hlen
    dsimp only
    rw [ht]
    exact ⟨rfl, rfl, rfl, rfl, rfl, rfl⟩
  · refine ⟨fun h' => ?_, fun h' => ?_⟩
    · rw [mirrorClose_of_sweep h hw, if_pos h']
    · rw [mirrorClose_of_sweep h hw, if_neg h']

end Sys2Proof.Machine
end

section
/-!
PROOFS. O60: frames of the SPI host port.
-/

namespace Sys2Proof.Machine

open Sys2Proof

variable {s u : State} {k : Sel} {f out : List Byte} {both : Bool}

/-! ### The port's endpoints (R349, R354) -/

@[simp] theorem endp_setEnd (k : Sel) (e : SpiEnd) (p : Spi) : (p.setEnd k e).endp k = e := by
  cases k <;> rfl

@[simp] theorem setEnd_setEnd (k : Sel) (e e' : SpiEnd) (p : Spi) : (p.setEnd k e).setEnd k e' = p.setEnd k e' := by
  cases k <;> rfl

theorem spiRow_of_other {n : Nat} (h : fieldLE f 1 1 ≠ n ∧ (fieldLE f 1 1 = 0 ∨ fieldLE f 1 1 = 1 ∨ fieldLE f 1 1 = 0x7E)) :
    s.spiRow n k f both = s := if_pos h

theorem spiRow_of_own {n : Nat} (h : ¬ (fieldLE f 1 1 ≠ n ∧ (fieldLE f 1 1 = 0 ∨ fieldLE f 1 1 = 1 ∨ fieldLE f 1 1 = 0x7E))) :
    s.spiRow n k f both = s.spiFrame k f both := if_neg h

/-! ### The checks of a frame (R350) -/

/-- Check 2: the frame's CRC. -/
def spiCrcOk (k : Sel) (f : List Byte) : Prop := fieldLE f (frameSize k - 4) 4 = crc32c (f.take (frameSize k - 4))

/-- Check 3: reserved fields, the length and the padding. -/
def spiHeadOk (k : Sel) (f : List Byte) : Prop :=
  fieldLE f 2 1 / 16 = 0 ∧ (spiFields f).flen ≤ selRoom k ∧
    sliceBytes f (4 + (spiFields f).flen) (selRoom k - (spiFields f).flen) = zeros (selRoom k - (spiFields f).flen) ∧
    (fieldLE f 1 1 = 0 → (spiFields f).flen = 0)

/-- Check 4: a type of the list. -/
def spiTypeOk (f : List Byte) : Prop := fieldLE f 1 1 = 0 ∨ fieldLE f 1 1 = 1 ∨ fieldLE f 1 1 = 0x7E

/-- The header's check as the port makes it, field by field. -/
theorem spiHeadOk_iff : spiHeadOk k f ↔ ¬ ((spiFields f).reason ≠ 0 ∨ (spiFields f).pend ≠ 0 ∨ (spiFields f).flen > selRoom k ∨
    sliceBytes f (4 + (spiFields f).flen) (selRoom k - (spiFields f).flen) ≠ zeros (selRoom k - (spiFields f).flen) ∨
    ((spiFields f).ftype = 0 ∧ (spiFields f).flen ≠ 0)) := by
  have hbits : fieldLE f 2 1 / 16 = 0 ↔ (spiFields f).reason = 0 ∧ (spiFields f).pend = 0 := by
    simp only [spiFields]
    omega
  simp only [spiHeadOk, hbits, not_or, not_not, not_lt, gt_iff_lt, not_and, and_assoc]
  rfl

section
variable (hlen : f.length = frameSize k)
include hlen

theorem spiForm_of_badCrc (h : ¬ spiCrcOk k f) : spiForm k f = 1 := (if_neg (not_not.2 hlen)).trans (if_pos h)

variable (hcrc : spiCrcOk k f)
include hcrc

theorem spiForm_of_badHead (h : ¬ spiHeadOk k f) : spiForm k f = 2 :=
  (if_neg (not_not.2 hlen)).trans ((if_neg (not_not.2 hcrc)).trans (if_pos (not_not.1 (mt spiHeadOk_iff.2 h))))

variable (hhead : spiHeadOk k f)
include hhead

theorem spiForm_of_badType (h : ¬ spiTypeOk f) : spiForm k f = 3 :=
  (if_neg (not_not.2 hlen)).trans ((if_neg (not_not.2 hcrc)).trans ((if_neg (spiHeadOk_iff.1 hhead)).trans
    (if_pos (by simpa [spiTypeOk, spiFields, not_or] using h))))

theorem spiForm_of_good (h : spiTypeOk f) : spiForm k f = 0 :=
  (if_neg (not_not.2 hlen)).trans ((if_neg (not_not.2 hcrc)).trans ((if_neg (spiHeadOk_iff.1 hhead)).trans
    (if_neg (by simpa [spiTypeOk, spiFields, or_iff_not_imp_left] using h))))

end

theorem isRepeat_iff {e : SpiEnd} : e.isRepeat f = true ↔ ∃ a, e.ref = some (a, f) := by
  unfold SpiEnd.isRepeat
  cases e.ref with
  | none => simp
  | some r => obtain ⟨a, g⟩ := r; simp

/-! ### A frame at the port (R350, R351, R355 to R357) -/

theorem spiOn_iff : s.spiOn = true ↔
    s.power.hostReady = true ∧ s.power.hostReset = false ∧ s.power.hostAsleep = false ∧ s.objBool 0x8800 0x0C = true := by
  simp [State.spiOn, and_assoc]

theorem spiFrame_of_off (h : ¬ s.spiOn = true) : s.spiFrame k f both = s := if_pos h

section
variable (hon : s.spiOn = true)
include hon

theorem spiFrame_of_echo (h : s.spi.echo = true) : s.spiFrame k f both =
    { s with out := s.out ++ [.spiFrame k (padTo 1 (Config.randomBytes s.fresh 1) ++ f.take (f.length - 1))], fresh := s.fresh + 1 } :=
  (if_neg (not_not.2 hon)).trans (if_pos h)

variable (hecho : s.spi.echo = false)
include hecho

theorem spiFrame_of_both (h : both = true) : s.spiFrame k f both = s.spiCollide k f :=
  (if_neg (not_not.2 hon)).trans ((if_neg (by simp [hecho])).trans (if_pos h))

variable (hboth : both = false)
include hboth

theorem spiFrame_of_badLength (hlen : f.length ≠ frameSize k) : s.spiFrame k f both = State.spiRefuse k (fieldLE f 0 1) 2
    { s with out := s.out ++ [.spiFrame k ((s.shiftBytes k).1.take f.length)], fresh := s.fresh + 1 } := by
  unfold State.spiFrame
  rw [if_neg (not_not.2 hon), if_neg (by simp [hecho]), if_neg (by simp [hboth]), if_pos hlen]
  rfl

variable (hlen : f.length = frameSize k)
include hlen

theorem spiFrame_of_repeat (hform : spiForm k f = 0) (h : ∃ a, (s.spi.endp k).ref = some (a, f)) : s.spiFrame k f both =
    { s with spi := { s.spi with retrans := s.spi.retrans + 1 }, out := s.out ++ [.spiFrame k (s.spi.endp k).orig] } := by
  unfold State.spiFrame
  rw [if_neg (not_not.2 hon), if_neg (by simp [hecho]), if_neg (by simp [hboth]), if_neg (not_not.2 hlen), if_pos ⟨hform, isRepeat_iff.2 h⟩]
  rfl

/-- Any other frame shifts the pending reply out and is judged. -/
theorem spiFrame_of_new (h : ¬ (spiForm k f = 0 ∧ ∃ a, (s.spi.endp k).ref = some (a, f))) : s.spiFrame k f both =
    if spiForm k f ≠ 0 then (s.shiftOut k).spiRefuse k (fieldLE f 0 1) (spiForm k f) else (s.shiftOut k).spiJudge k f (s.shiftBytes k).1 := by
  unfold State.spiFrame
  rw [if_neg (not_not.2 hon), if_neg (by simp [hecho]), if_neg (by simp [hboth]), if_neg (not_not.2 hlen),
    if_neg fun h' => h ⟨h'.1, isRepeat_iff.1 h'.2⟩]
  rfl

theorem spiFrame_of_refused {n : Nat} (hform : spiForm k f = n) (hn : n ≠ 0) :
    s.spiFrame k f both = (s.shiftOut k).spiRefuse k (fieldLE f 0 1) n := by
  subst hform
  rw [spiFrame_of_new hon hecho hboth hlen fun h => hn h.1, if_pos hn]

theorem spiFrame_of_passed (hform : spiForm k f = 0) (h : ¬ ∃ a, (s.spi.endp k).ref = some (a, f)) :
    s.spiFrame k f both = (s.shiftOut k).spiJudge k f (s.shiftBytes k).1 := by
  rw [spiFrame_of_new hon hecho hboth hlen fun h' => h h'.2, if_neg (not_not.2 hform)]

end

/-- A collision answers both selects, the other one with an ALIVE of its own. -/
theorem spiCollide_rest (k : Sel) (f : List Byte) (s : State) : ∃ p : Spi, s.spiCollide k f = { s with spi := p, fresh := s.fresh + 1 } ∧
    p.collisions = s.spi.collisions + 1 ∧ (p.endp k).reply = some { alive := fieldLE f 0 1, reason := 2, echo := none } ∧
    (∃ n, (p.endp (match k with | .sel0 => Sel.sel1 | .sel1 => Sel.sel0)).reply = some { alive := n, reason := 2, echo := none }) ∧
    p = { s.spi with
      collisions := p.collisions
      e0 := { s.spi.e0 with reply := p.e0.reply }
      e1 := { s.spi.e1 with reply := p.e1.reply } } := by
  cases k <;> exact ⟨_, rfl, rfl, rfl, ⟨_, rfl⟩, rfl⟩

/-- Every frame falls under exactly one of the port's cases. -/
theorem spiFrame_cases (s : State) (k : Sel) (f : List Byte) (both : Bool) :
    let on : Prop := s.power.hostReady = true ∧ s.power.hostReset = false ∧ s.power.hostAsleep = false ∧ s.objBool 0x8800 0x0C = true
    let heard : Prop := on ∧ s.spi.echo = false ∧ both = false
    let repeats : Prop := spiCrcOk k f ∧ spiHeadOk k f ∧ spiTypeOk f ∧ ∃ a, (s.spi.endp k).ref = some (a, f)
    (¬ on → s.spiFrame k f both = s) ∧
    (on → s.spi.echo = true → s.spiFrame k f both =
      { s with out := s.out ++ [.spiFrame k (padTo 1 (Config.randomBytes s.fresh 1) ++ f.take (f.length - 1))], fresh := s.fresh + 1 }) ∧
    (on → s.spi.echo = false → both = true → ∃ p : Spi, s.spiFrame k f both = { s with spi := p, fresh := s.fresh + 1 } ∧
      p.collisions = s.spi.collisions + 1 ∧ (p.endp k).reply = some { alive := fieldLE f 0 1, reason := 2, echo := none } ∧
      (∃ n, (p.endp (match k with | .sel0 => Sel.sel1 | .sel1 => Sel.sel0)).reply = some { alive := n, reason := 2, echo := none }) ∧
      p = { s.spi with
        collisions := p.collisions
        e0 := { s.spi.e0 with reply := p.e0.reply }
        e1 := { s.spi.e1 with reply := p.e1.reply } }) ∧
    (heard → f.length ≠ frameSize k → s.spiFrame k f both = State.spiRefuse k (fieldLE f 0 1) 2
      { s with out := s.out ++ [.spiFrame k ((s.shiftBytes k).1.take f.length)], fresh := s.fresh + 1 }) ∧
    (heard → f.length = frameSize k → repeats → s.spiFrame k f both =
      { s with spi := { s.spi with retrans := s.spi.retrans + 1 }, out := s.out ++ [.spiFrame k (s.spi.endp k).orig] }) ∧
    (heard → f.length = frameSize k → ¬ repeats →
      (¬ spiCrcOk k f → s.spiFrame k f both = (s.shiftOut k).spiRefuse k (fieldLE f 0 1) 1) ∧
      (spiCrcOk k f → ¬ spiHeadOk k f → s.spiFrame k f both = (s.shiftOut k).spiRefuse k (fieldLE f 0 1) 2) ∧
      (spiCrcOk k f → spiHeadOk k f → ¬ spiTypeOk f → s.spiFrame k f both = (s.shiftOut k).spiRefuse k (fieldLE f 0 1) 3) ∧
      (spiCrcOk k f → spiHeadOk k f → spiTypeOk f → s.spiFrame k f both = (s.shiftOut k).spiJudge k f (s.shiftBytes k).1)) := by
  intro on heard repeats
  refine ⟨fun h => spiFrame_of_off (mt spiOn_iff.1 h), fun hon => spiFrame_of_echo (spiOn_iff.2 hon), fun hon hecho hboth => ?_,
    fun ⟨hon, hecho, hboth⟩ => spiFrame_of_badLength (spiOn_iff.2 hon) hecho hboth,
    fun ⟨hon, hecho, hboth⟩ hlen ⟨hcrc, hhead, htype, href⟩ =>
      spiFrame_of_repeat (spiOn_iff.2 hon) hecho hboth hlen (spiForm_of_good hlen hcrc hhead htype) href,
    fun ⟨hon, hecho, hboth⟩ hlen hnew => ?_⟩
  · rw [spiFrame_of_both (spiOn_iff.2 hon) hecho hboth]
    exact spiCollide_rest k f s
  · have hrefused {n : Nat} := spiFrame_of_refused (n := n) (spiOn_iff.2 hon) hecho hboth hlen
    exact ⟨fun hcrc => hrefused (spiForm_of_badCrc hlen hcrc) (by decide), fun hcrc hhead => hrefused (spiForm_of_badHead hlen hcrc hhead) (by decide),
      fun hcrc hhead htype => hrefused (spiForm_of_badType hlen hcrc hhead htype) (by decide),
      fun hcrc hhead htype => spiFrame_of_passed (spiOn_iff.2 hon) hecho hboth hlen (spiForm_of_good hlen hcrc hhead htype)
        fun href => hnew ⟨hcrc, hhead, htype, href⟩⟩

/-! ### The alive counter (R351) -/

theorem isNew_iff {e : SpiEnd} {a : Nat} : e.isNew a = true ↔ e.ref = none ∨ ∃ b g, e.ref = some (b, g) ∧ a = (b + 1) % 256 := by
  unfold SpiEnd.isNew
  cases e.ref with
  | none => simp
  | some r => obtain ⟨b, g⟩ := r; simp

theorem spiJudge_of_full (hnew : (s.spi.endp k).isNew (fieldLE f 0 1) = true)
    (hroom : ¬ ((s.spi.endp k).part.getD []).length + (spiPayload f).length ≤ 2048) :
    s.spiJudge k f out = s.spiRefuse k (fieldLE f 0 1) 5 := by
  unfold State.spiJudge
  exact (if_pos hnew).trans (if_pos (by simpa [SpiEnd.room] using hroom))

section
variable (hold : ¬ (s.spi.endp k).isNew (fieldLE f 0 1) = true)
include hold

theorem spiJudge_of_same {g : List Byte} (h : (s.spi.endp k).ref = some (fieldLE f 0 1, g)) : s.spiJudge k f out = s.spiRefuse k (fieldLE f 0 1) 4 := by
  unfold State.spiJudge
  exact (if_neg hold).trans (if_pos (by simp [h, spiFields]))

theorem spiJudge_of_skipped (h : ¬ ∃ g, (s.spi.endp k).ref = some (fieldLE f 0 1, g)) : s.spiJudge k f out =
    State.spiRefuse k (fieldLE f 0 1) 4 { s with spi := s.spi.setEnd k { (s.spi.endp k) with ref := some (fieldLE f 0 1, f), orig := out } } := by
  unfold State.spiJudge
  refine (if_neg hold).trans (if_neg fun hany => h ?_)
  obtain ⟨⟨a, g⟩, href, ha⟩ := Option.any_eq_true .. |>.1 hany
  obtain rfl : a = fieldLE f 0 1 := of_decide_eq_true ha
  exact ⟨g, href⟩

end

/-- The endpoint after a frame that is accepted: the new reference, the bytes shifted out, and the reply. -/
def SpiEnd.accepting (f out : List Byte) (e : SpiEnd) : SpiEnd :=
  { e with
    ref := some (fieldLE f 0 1, f)
    orig := out
    reply := some { alive := fieldLE f 0 1, reason := 0, echo := if fieldLE f 1 1 = 0x7E then some (spiPayload f) else none } }

/-- An accepted frame is counted at its select. -/
def Spi.counted (k : Sel) (p : Spi) : Spi := match k with | .sel0 => { p with acc0 := p.acc0 + 1 } | .sel1 => { p with acc1 := p.acc1 + 1 }

theorem spiJudge_of_accepted (hnew : (s.spi.endp k).isNew (fieldLE f 0 1) = true)
    (hroom : ((s.spi.endp k).part.getD []).length + (spiPayload f).length ≤ 2048)
    (hu : u = { s with spi := (s.spi.setEnd k ((s.spi.endp k).accepting f out)).counted k }) :
    s.spiJudge k f out = if fieldLE f 1 1 = 1 then
      u.spiSegment k (decide (fieldLE f 2 1 / 8 % 2 = 1)) (decide (fieldLE f 2 1 / 4 % 2 = 1)) (spiPayload f) else u := by
  subst hu
  exact (if_pos hnew).trans (if_neg (by simpa [SpiEnd.room] using hroom))

/-! ### Refusals and replies (R350, R352, R354) -/

/-- A refusal counts by its reason, at no other counter. -/
theorem refuse_counts (r : Nat) (p : Spi) :
    (p.refuse r).badCrc = p.badCrc + (if r = 1 then 1 else 0) ∧ (p.refuse r).badFrame = p.badFrame + (if r = 2 then 1 else 0) ∧
    (p.refuse r).badType = p.badType + (if r = 3 then 1 else 0) ∧ (p.refuse r).aliveBreak = p.aliveBreak + (if r = 4 then 1 else 0) ∧
    (1 ≤ r → r ≤ 5 → (p.refuse r).full = p.full + (if r = 5 then 1 else 0)) ∧
    p.refuse r = { p with
      e0 := (p.refuse r).e0, e1 := (p.refuse r).e1
      badCrc := (p.refuse r).badCrc, badFrame := (p.refuse r).badFrame, badType := (p.refuse r).badType
      aliveBreak := (p.refuse r).aliveBreak, full := (p.refuse r).full } := by
  unfold Spi.refuse
  match r with
  | 1 | 2 | 3 | 4 => simp
  | 0 => simp
  | n + 5 => 
    refine ⟨by simp, by simp, by simp, by simp, fun _ h => ?_, rfl⟩
    obtain rfl : n = 0 := by omega
    rfl

section
variable {r : SpiReply} (h : (s.spi.endp k).reply = some r)
include h

theorem shiftBytes_of_echo {p : List Byte} (he : r.echo = some p) :
    s.shiftBytes k = (spiBytes k r.alive 0x7E r.reason (decide ((s.spi.endp k).outq ≠ [])) false false p, false) := by
  simp [State.shiftBytes, h, he]

theorem shiftBytes_of_idle (he : r.echo = none) (hq : (s.spi.endp k).outq = []) :
    s.shiftBytes k = (spiBytes k r.alive 0 r.reason false false false [], false) := by
  simp [State.shiftBytes, h, he, hq]

theorem shiftBytes_of_segment {p : List Byte} {a z : Bool} {q : List (List Byte × Bool × Bool)} (he : r.echo = none)
    (hq : (s.spi.endp k).outq = (p, a, z) :: q) :
    s.shiftBytes k = (spiBytes k r.alive 1 r.reason (decide (q ≠ [])) a z p, true) := by
  simp [State.shiftBytes, h, he, hq]

end

/-! ### Reassembly (R353) -/

/-- The state with what an endpoint holds of a unit replaced, and discards counted. -/
def State.spiPart (k : Sel) (p : Option (List Byte)) (n : Nat) (s : State) : State :=
  { s with spi := { (s.spi.setEnd k { (s.spi.endp k) with part := p }) with discards := s.spi.discards + n } }

theorem spiDiscard_eq (k : Sel) (p : Option (List Byte)) (s : State) : s.spiDiscard k p = s.spiPart k p 1 := rfl

theorem spiPart_spiPart (k : Sel) (p q : Option (List Byte)) (m n : Nat) (s : State) :
    (s.spiPart k p m).spiPart k q n = s.spiPart k q (m + n) := by
  cases k <;> simp [State.spiPart, Spi.setEnd, Spi.endp, Nat.add_assoc]

/-- What an endpoint that holds nothing does with a segment that starts nothing. -/
theorem spiSegment_of_none {stop : Bool} {body : List Byte} (h : (s.spi.endp k).part = none) :
    s.spiSegment k false stop body = s.spiPart k none 1 := by
  unfold State.spiSegment
  rw [h]
  rfl

/-- The unit that a segment makes: too long, completed, or held. -/
def State.spiTake (k : Sel) (stop : Bool) (unit : List Byte) (s : State) : State :=
  if unit.length > 1408 then s.spiPart k none 1
  else if stop then s.spiUnitDone k unit
  else { s with spi := s.spi.setEnd k { (s.spi.endp k) with part := some unit } }

theorem spiPart_zero (k : Sel) (p : Option (List Byte)) (s : State) :
    s.spiPart k p 0 = { s with spi := s.spi.setEnd k { (s.spi.endp k) with part := p } } := by
  cases k <;> rfl

/-- A segment that goes on. -/
theorem spiSegment_of_next {stop : Bool} {body b : List Byte} (h : (s.spi.endp k).part = some b) :
    s.spiSegment k false stop body = s.spiTake k stop (b ++ body) := by
  unfold State.spiSegment
  rw [h]
  rfl

/-- A segment that starts a unit discards what was held. -/
theorem spiSegment_of_start {stop : Bool} {body : List Byte} :
    s.spiSegment k true stop body = State.spiTake k stop body (if (s.spi.endp k).part.isSome then s.spiPart k none 1 else s) := by
  unfold State.spiSegment
  cases h : (s.spi.endp k).part <;> rfl

/-- A segment makes a unit of what is held, or of nothing at a start, which loses what is held. -/
theorem spiSegment_of_unit {start stop : Bool} {body unit : List Byte} {n : Nat} (hheld : start = true ∨ (s.spi.endp k).part ≠ none)
    (hunit : unit = (if start = true then [] else (s.spi.endp k).part.getD []) ++ body)
    (hn : n = if start = true ∧ (s.spi.endp k).part ≠ none then 1 else 0) :
    ∃ w : State, s.spiSegment k start stop body = w.spiTake k stop unit ∧ ∀ p m, w.spiPart k p m = s.spiPart k p (n + m) := by
  subst hunit hn
  cases start with
  | false =>
    obtain ⟨b, hb⟩ := Option.ne_none_iff_exists'.1 (hheld.resolve_left (by decide))
    exact ⟨s, by rw [spiSegment_of_next hb, hb]; rfl, fun p m => by simp⟩
  | true =>
    refine ⟨_, spiSegment_of_start, fun p m => ?_⟩
    cases (s.spi.endp k).part with
    | none => simp
    | some b => simp [spiPart_spiPart]

theorem spiTake_of_long {stop : Bool} {unit : List Byte} (h : 1408 < unit.length) : s.spiTake k stop unit = s.spiPart k none 1 := if_pos h

theorem spiTake_of_open {unit : List Byte} (h : unit.length ≤ 1408) : s.spiTake k false unit = s.spiPart k (some unit) 0 :=
  (if_neg (by omega)).trans (spiPart_zero ..).symm

theorem spiTake_of_done {unit : List Byte} (h : unit.length ≤ 1408) : s.spiTake k true unit =
    if unitSel (fieldLE unit 1 1) ≠ k then (s.spiPart k none 0).spiQueue k (errorUnit unit)
    else (s.spiPart k none 0).ldpUnit { peer := .spi, bytes := unit } := by
  rw [spiPart_zero]
  exact if_neg (by omega)

/-! ### The echo's end (R356) -/

theorem objNat_setObj_same (i j : Nat) (v : List Byte) : (s.setObj i j v).objNat i j = leNat v := congrArg leNat (obj_setObj_same _ i j v)

/-- Settles O60: a frame falls under the first check that fails, an accepted one is judged by its ALIVE, and a segment makes a unit of
what its endpoint holds. -/
theorem spiFramesAreAnswered : Obligations.SpiFramesAreAnswered := by
  unfold Obligations.SpiFramesAreAnswered
  refine ⟨fun s k f both => ⟨fun h => congrArg _ (spiRow_of_other h), fun h => congrArg _ (spiRow_of_own h), fun h => congrArg _ (spiRow_of_other h),
      fun h => congrArg _ (spiRow_of_own h), fun h => congrArg _ (spiRow_of_other h), fun h => congrArg _ (spiRow_of_own h)⟩,
    fun s u k f out both hu hout => ?_, fun s k f out => ?_, fun s k a r => ?_,
    fun s k r h => ⟨fun p => shiftBytes_of_echo h, shiftBytes_of_idle h, fun p a z q => shiftBytes_of_segment h⟩,
    fun s u k start stop body unit => ?_, fun s => ⟨fun h => if_pos (by simp [h]),
      fun h => ⟨_, if_neg (not_not.2 h), rfl, objNat_setObj_same 0x8801 1 [b8 0], rfl⟩⟩⟩
  · subst hu hout
    cases k with
    | sel0 => exact spiFrame_cases s .sel0 f both
    | sel1 => exact spiFrame_cases s .sel1 f both
  · intro e a body fresh same fits
    refine ⟨fun hfresh hfits => spiJudge_of_full (isNew_iff.2 hfresh) hfits, fun hfresh ⟨g, hg⟩ => spiJudge_of_same (mt isNew_iff.1 hfresh) hg,
      fun hfresh hsame => spiJudge_of_skipped (mt isNew_iff.1 hfresh) hsame, ?_⟩
    intro reply m p u hfresh hfits hu hp
    refine spiJudge_of_accepted (isNew_iff.2 hfresh) hfits (hu.trans ?_)
    rw [hp]
    cases k <;> rfl
  · obtain ⟨hcrc, hframe, htype, halive, hfull, hrest⟩ := refuse_counts r s.spi
    cases k with
    | sel0 => exact ⟨_, rfl, rfl, hcrc, hframe, htype, halive, hfull, congrArg (Spi.setEnd .sel0 _) hrest⟩
    | sel1 => exact ⟨_, rfl, rfl, hcrc, hframe, htype, halive, hfull, congrArg (Spi.setEnd .sel1 _) hrest⟩
  · intro held loses part hunit
    refine ⟨?_, fun hheld => ?_⟩
    · rintro rfl h
      exact spiSegment_of_none h
    · obtain ⟨w, hw, hpart⟩ := spiSegment_of_unit (stop := stop) hheld hunit rfl
      refine ⟨fun hlen => ?_, fun hlen hstop => ?_, fun hlen hstop hu => ?_⟩
      · rw [hw, spiTake_of_long hlen]
        exact hpart _ _
      · rw [hw, hstop, spiTake_of_open hlen]
        exact hpart _ _
      · rw [hw, hstop, spiTake_of_done hlen, hpart, hu]
        rfl

end Sys2Proof.Machine
end

section
/-!
PROOFS. O59: the ring port.
-/

namespace Sys2Proof.Machine

open Sys2Proof

variable {s u v : State} {p : Port} {f : RingIn}

/-! ### Ports (R330, R331) -/

theorem otherPort_ne (p : Port) : otherPort p ≠ p := by
  cases p <;> decide

theorem port_setPort (p q : Port) (x : RingPort) (r : Ring) : (r.setPort p x).port q = if q = p then x else r.port q := by
  cases p <;> cases q <;> rfl

theorem setPort_rest (p : Port) (x : RingPort) (r : Ring) : r.setPort p x = { r with a := (r.setPort p x).a, b := (r.setPort p x).b } := by
  cases p <;> rfl

/-- A port that sends a frame is up afterwards. -/
def RingPort.awake (x : RingPort) : RingPort := { x with link := if x.link = 2 then 1 else x.link }

theorem portAwake_eq (p : Port) (s : State) : s.portAwake p = s.modPort p RingPort.awake :=
  congrArg (State.modPort p · s) (funext fun x => by unfold RingPort.awake; split <;> rfl)

/-- What is sent on a port whose link is up leaves, and wakes the port. -/
theorem portSend_of_up {o : Output} (h : (s.ring.port p).link ≠ 0) :
    s.portSend p o = { s with ring := s.ring.setPort p (s.ring.port p).awake, out := s.out ++ [o] } := by
  unfold State.portSend
  rw [if_neg h, portAwake_eq]
  rfl

/-! ### A frame at a port (R330, R332 to R334) -/

theorem ringFrame_of_down (h : ¬ (s.ring.port p).link ≠ 0) : s.ringFrame p f = s := if_pos (not_not.1 h)

section
variable (hup : (s.ring.port p).link ≠ 0)
include hup

theorem ringFrame_of_long (hlen : 1528 < f.len) : s.ringFrame p f = s.modPort p fun x => { x with badFcs := x.badFcs + 1 } :=
  (if_neg hup).trans (if_pos hlen)

variable (hlen : f.len ≤ 1528)
include hlen

theorem ringFrame_of_untagged (h : ¬ (f.tagged = true ∧ f.sizeOk = true)) :
    s.ringFrame p f = { s with ring := { s.ring with untagged := s.ring.untagged + 1 } } :=
  (if_neg hup).trans ((if_neg (by omega)).trans (if_pos (by simpa [or_iff_not_imp_left] using h)))

variable (htag : f.tagged = true ∧ f.sizeOk = true)
include htag

theorem ringFrame_of_own (h : s.ownMac f.src = true) : s.ringFrame p f = { s with ring := { s.ring with own := s.ring.own + 1 } } :=
  (if_neg hup).trans ((if_neg (by omega)).trans ((if_neg (by simp [htag])).trans (if_pos h)))

/-- Any other frame is forwarded unless it is for this module, and an intact one for the module is taken. -/
theorem ringFrame_of_other (h : s.ownMac f.src = false) (hu : u = if f.fcsOk = true then s else s.modPort p fun x => { x with badFcs := x.badFcs + 1 })
    (hv : v = if u.ownMac f.dst = true then u else u.forward p f) :
    s.ringFrame p f = if f.fcsOk = true ∧ v.frameForMe f = true then v.takeFrame p f else v := by
  subst hu hv
  exact (if_neg hup).trans ((if_neg (by omega)).trans ((if_neg (by simp [htag])).trans (if_neg (by simp [h]))))

end

theorem frameForMe_iff : s.frameForMe f = true ↔ s.ownMac f.dst = true ∨ f.dst = 2 ^ 48 - 1 ∨ f.dst = 0x01154E000100 := by
  unfold State.frameForMe
  rw [Bool.or_eq_true, Bool.or_eq_true, decide_eq_true_eq, decide_eq_true_eq, or_assoc]
  rfl

/-! ### Forwarding (R333) -/

theorem forward_of_stays (h : (s.ring.port (otherPort p)).link = 0 ∨ (f.src, f.seq, p) ∈ s.ring.sent) : s.forward p f = s :=
  if_pos (by simpa using h)

section
variable (hgo : ¬ ((s.ring.port (otherPort p)).link = 0 ∨ (f.src, f.seq, p) ∈ s.ring.sent))
include hgo

theorem forward_of_full (hq : f.egressFull = true) : s.forward p f = { s with ring := { s.ring with qfull := s.ring.qfull + 1 } } :=
  (if_neg (by simpa using hgo)).trans (if_pos hq)

/-- The ring port after a frame was forwarded: the frame is listed as sent if it is intact, and the port it leaves by is awake. -/
def Ring.forwarded (p : Port) (f : RingIn) (r : Ring) : Ring :=
  ({ r with
    badEnd := r.badEnd + bit (!f.fcsOk)
    sent := if f.fcsOk then r.sent ++ [(f.src, f.seq, p)] else r.sent } : Ring).setPort (otherPort p) (r.port (otherPort p)).awake

theorem forward_of_room (hq : f.egressFull = false) :
    s.forward p f = { s with ring := s.ring.forwarded p f, out := s.out ++ [.ring (otherPort p) (highClass f) f] } := by
  unfold State.forward
  dsimp only
  rw [if_neg (by simpa using hgo), if_neg (by simp [hq])]
  have hport (r : Ring) (n : Nat) (l : List (Nat × Nat × Port)) (q : Port) : ({ r with badEnd := n, sent := l } : Ring).port q = r.port q := by
    cases q <;> rfl
  rw [portSend_of_up (by rw [hport]; exact fun h => hgo (.inl h)), hport]
  rfl

end

theorem forwarded_badEnd (p : Port) (f : RingIn) (r : Ring) : (r.forwarded p f).badEnd = r.badEnd + (if f.fcsOk = true then 0 else 1) := by
  unfold Ring.forwarded
  cases p <;> cases f.fcsOk <;> rfl

theorem forwarded_sent (p : Port) (f : RingIn) (r : Ring) :
    (r.forwarded p f).sent = if f.fcsOk = true then r.sent ++ [(f.src, f.seq, p)] else r.sent := by
  cases p <;> rfl

theorem forwarded_port (p : Port) (f : RingIn) (r : Ring) : (r.forwarded p f).port p = r.port p ∧
    (r.forwarded p f).port (otherPort p) = (r.port (otherPort p)).awake := by
  cases p <;> exact ⟨rfl, rfl⟩

theorem forwarded_rest (p : Port) (f : RingIn) (r : Ring) : r.forwarded p f = { r with
    a := (r.forwarded p f).a, b := (r.forwarded p f).b, badEnd := (r.forwarded p f).badEnd, sent := (r.forwarded p f).sent } := by
  cases p <;> rfl

/-! ### Delivery (R334, R335, R340 to R343) -/

theorem takeFrame_of_seen (h : (f.src, f.seq) ∈ s.ring.seen) : s.takeFrame p f = { s with ring := { s.ring with dups := s.ring.dups + 1 } } :=
  if_pos (by simpa using h)

theorem takeFrame_of_first (h : (f.src, f.seq) ∉ s.ring.seen) (hu : u = { s with ring := { s.ring with seen := s.ring.seen ++ [(f.src, f.seq)] } }) :
    s.takeFrame p f = if f.vid ≠ 0 then u else u.deliverFrame p f := by
  subst hu
  exact if_neg (by simpa using h)

theorem deliverFrame_eq {b : RingBody} (h : f.body = b) : s.deliverFrame p f = s.deliverFrame p { f with body := b } := by
  subst h
  rfl

theorem noteNode_of_known {m : Nat} (h : m ∈ s.ring.nodes) : s.noteNode m = s := if_pos (by simpa using h)

theorem noteNode_of_new {m : Nat} (h : m ∉ s.ring.nodes) : s.noteNode m = if 64 ≤ s.ring.nodes.length
    then { s with ring := { s.ring with tableFull := s.ring.tableFull + 1 } } else { s with ring := { s.ring with nodes := s.ring.nodes ++ [m] } } :=
  if_neg (by simpa using h)

theorem takeUnit_of_other {ip udp : Nat} {x : LdpIn} (h : s.ownIp ip = false ∨ udp ≠ s.ring.udp) : s.takeUnit ip udp x = s :=
  if_pos (by simpa using h)

/-- A peer that asked at the service address is answered from there. -/
theorem takeUnit_of_own {ip udp : Nat} {x : LdpIn} (hip : s.ownIp ip = true) (hudp : udp = s.ring.udp) : s.takeUnit ip udp x =
    State.ldpUnit x { s with ring := { s.ring with asked := s.ring.asked.filter (· ≠ x.peer) ++ if ip = s.ring.ip then [] else [x.peer] } } := by
  refine (if_neg (by simp [hip, hudp])).trans (congrArg (State.ldpUnit x) ?_)
  by_cases h : ip = s.ring.ip <;> simp [h]

theorem wakeAck_rest (s : State) : ∃ a b l, s.wakeAck = { s with ring := { s.ring with a := a, b := b }, out := l } := arpBoth_rest ..

theorem wakeSeen_of_window (h : s.power.window = true) : s.wakeSeen = s := if_pos h

theorem wakeSeen_of_run (hwin : s.power.window = false) (hrun : s.power.hostAsleep = false) (hentry : s.power.entering = 0) :
    s.wakeSeen = { s.wakeAck with ring := { s.wakeAck.ring with wakesRun := s.ring.wakesRun + 1 } } := by
  unfold State.wakeSeen
  obtain ⟨a, b, l, h⟩ := wakeAck_rest s
  rw [if_neg (by simp [hwin]), h]
  dsimp only
  rw [if_pos (by simp [hrun])]
  simp [State.when, hentry]

theorem wakeSeen_of_asleep (hwin : s.power.window = false) (hsleep : s.power.hostAsleep = true) (hu : u = s.wakeAck.wakeEvent 3) :
    s.wakeSeen = if u.power.hostAsleep = true then u else { u with ring := { u.ring with wakes := u.ring.wakes + 1 } } := by
  subst hu
  unfold State.wakeSeen
  have hpower : s.wakeAck.power = s.power := by
    obtain ⟨a, b, l, h⟩ := wakeAck_rest s
    rw [h]
  rw [if_neg (by simp [hwin])]
  dsimp only
  rw [if_neg (by rw [hpower]; simp [hsleep])]

/-! ### Supervision and tables (R332, R335, R343) -/

@[simp] theorem portSend_power (p : Port) (o : Output) (s : State) : (s.portSend p o).power = s.power := by
  obtain ⟨a, b, l, h⟩ := portSend_rest p o s
  rw [h]

/-- A supervision frame leaves on each port; a change of the closed state that the host side sees awake is journalled. -/
theorem exec_supervision_of_relay {a b : Bool} (hrelay : s.ring.relay ≠ 0)
    (hu : u = { s with ring := { s.ring with back := (a, b) :: s.ring.back.take 1, supSeq := (s.ring.supSeq + 1) % 65536 } })
    (hv : v = (u.portSend .a (.supervision .a s.ring.supSeq)).portSend .b (.supervision .b s.ring.supSeq))
    {now : Bool} (hnow : now = backBoth ((a, b) :: s.ring.back.take 1)) :
    exec (.supervision a b) s = if s.power.hostAsleep = true ∨ now = s.ring.closed then .next v
      else .next (let w : State := ({ v with ring := { v.ring with closed := now } } : State).commit 6 8 [if now = true then 1 else 0]
        if now = true then w else w.raiseFault .host 2 2 1 []) := by
  have hpower : v.power = s.power := by simp [hv, hu]
  subst hnow
  show execSupervision a b s = _
  unfold execSupervision
  rw [if_neg hrelay]
  dsimp only
  rw [← hu, ← hv, hpower]
  generalize backBoth ((a, b) :: s.ring.back.take 1) = now
  by_cases hsame : s.power.hostAsleep = true ∨ now = s.ring.closed
  · rw [if_pos hsame, if_pos (hsame.imp_right Eq.symm)]
  · rw [if_neg hsame, if_neg (mt (Or.imp_right Eq.symm) hsame)]
    cases now <;> rfl

theorem mem_sent_forget {l : List (Nat × Nat × Port)} {m n x y : Nat} :
    (x, y, p) ∈ l.filter (fun x => decide ((x.1, x.2.1) ≠ (m, n))) ↔ (x, y, p) ∈ l ∧ (x, y) ≠ (m, n) := by
  simp only [List.mem_filter, decide_eq_true_eq]

/-! ### Links and the relay (R330, R331, R337, R338, R344) -/

theorem exec_linkUp_of_open (hrelay : s.ring.relay ≠ 0) (hlink : (s.ring.port p).link = 0) :
    exec (.linkUp p) s = .next (s.modPort p fun x => { x with link := 1, armed := false }).relaySet :=
  if_neg (by simp [hrelay, hlink])

/-- The relay is closed while the host side is not ready, is held in reset, or tests the ring. -/
theorem relayState_eq_zero : s.relayState = 0 ↔ s.power.hostReady = false ∨ s.power.hostReset = true ∨ s.ring.loop = 1 := by
  unfold State.relayState
  split
  · next h => simpa using h
  · next h => 
    have : ¬ (s.power.hostReady = false ∨ s.power.hostReset = true ∨ s.ring.loop = 1) := by simpa using h
    simp only [this, iff_false]
    split <;> decide

theorem relayState_of_open (h : s.relayState ≠ 0) : s.relayState = if s.ring.a.link ≠ 0 ∨ s.ring.b.link ≠ 0 then 1 else 2 := by
  have h' := h
  unfold State.relayState at h' ⊢
  split
  · next hc => exact absurd (if_pos hc) h'
  · rfl

theorem relaySet_eq (hu : u = { s with ring := { s.ring with
      relay := s.relayState
      relayOps := s.ring.relayOps + (if (s.relayState = 0) = (s.ring.relay = 0) then 0 else 1) } }) :
    s.relaySet = if s.relayState = 0 then { u with ring := { u.ring with a := u.ring.a.down, b := u.ring.b.down } } else u := by
  have hbit : bit (decide ((s.relayState = 0) ≠ (s.ring.relay = 0))) = if (s.relayState = 0) = (s.ring.relay = 0) then 0 else 1 := by
    by_cases h : (s.relayState = 0) = (s.ring.relay = 0) <;> simp [h, bit]
  unfold State.relaySet
  dsimp only
  rw [hbit, hu]

/-! ### Addresses (R340, R341) -/

theorem useAddress_of_set (h : s.objNat 0x8001 1 ≠ 0) : s.useAddress = { s with ring := { s.ring with
    newAddr := false, udp := s.objNat 0x8001 5, ip := s.objNat 0x8001 1 } } := by
  simp [State.useAddress, h]

theorem useAddress_of_unset (h : s.objNat 0x8001 1 = 0) : s.useAddress = { s with
    ring := { s.ring with newAddr := false, udp := s.objNat 0x8001 5, ip := Config.linkLocal s.fresh }
    fresh := s.fresh + 1 } := by
  simp [State.useAddress, h, State.draw]

theorem exec_addressChange_of_ready (hnew : s.ring.newAddr = true) (hready : s.power.hostReady = true) :
    exec .addressChange s = .next (s.useAddress.arpBoth s.useAddress.ring.ip) :=
  if_neg (by simp [hnew, hready])

theorem wakeAck_of_service (h : s.ring.service = true) : s.wakeAck = s.arpBoth (s.objNat 0x8006 1) :=
  congrArg (State.arpBoth · s) (if_pos h)

theorem exec_serviceArp_of_active (harps : s.ring.arps ≠ 0) (hservice : s.ring.service = true)
    (hu : u = { s with ring := { s.ring with arps := s.ring.arps - 1 } }) : exec .serviceArp s = .next (u.arpBoth (u.objNat 0x8006 1)) := by
  subst hu
  exact (if_neg (by simp [harps, hservice])).trans (congrArg Host.Outcome.next (wakeAck_of_service hservice))

/-- Settles O59: each case of a frame, of its forwarding and of its delivery has its equation, and so has each row of the port. -/
theorem ringPortActs : Obligations.RingPortActs := by
  unfold Obligations.RingPortActs
  refine ⟨fun s p f => ⟨rfl, rfl⟩, fun s u v p f => ?_, fun s p f => ?_, fun s u p f hu => ⟨takeFrame_of_seen, fun h hvid => ?_, fun h hvid => ?_⟩,
    fun s p f => ?_, fun s u v a b back hback hu hv => ?_, fun s m n => ⟨rfl, _, rfl, rfl, fun x => ?_, fun x y p => mem_sent_forget⟩,
    fun s p => ⟨fun h => if_pos h, exec_linkUp_of_open, rfl, (apply_ite _ _ _ _).symm⟩, fun s u r hr hu => ?_,
    fun s n m => ⟨fun h => if_pos h, fun h => ?_⟩,
    fun s => ⟨fun h => if_pos (by simpa using h), fun hnew hready => ?_, fun h => if_pos (by simpa using h), fun u => exec_serviceArp_of_active⟩⟩
  · intro up framed
    refine ⟨ringFrame_of_down, ringFrame_of_long, ringFrame_of_untagged, ringFrame_of_own, fun hup hlen htag hown hu hv => ?_⟩
    have hframe := ringFrame_of_other hup hlen htag hown hu hv
    refine ⟨fun hok hme => ?_, fun h => ?_⟩
    · rw [hframe, if_pos ⟨hok, frameForMe_iff.2 hme⟩]
    · rw [hframe, if_neg]
      rintro ⟨hok, hme⟩
      rcases h with h | ⟨hown, hall, hsup⟩
      · exact absurd (h.symm.trans hok) (by decide)
      · rcases frameForMe_iff.1 hme with h | h | h
        · exact absurd (hown.symm.trans h) (by decide)
        · exact hall h
        · exact hsup h
  · intro q stays
    obtain ⟨hsame, hother⟩ := forwarded_port p f s.ring
    exact ⟨forward_of_stays, forward_of_full, fun hgo hq => ⟨_, forward_of_room hgo hq, forwarded_badEnd .., forwarded_sent .., hother, hsame,
      forwarded_rest ..⟩⟩
  · rw [takeFrame_of_first h hu, if_pos hvid]
  · rw [takeFrame_of_first h hu, if_neg (not_not.2 hvid)]
  · refine ⟨fun h => ?_, fun ip d u h => ?_, fun ip h => deliverFrame_eq h, fun ip h => deliverFrame_eq h, fun h => ?_, fun h => ?_⟩
    · have hdeliver : s.deliverFrame p f = s.noteNode f.src := deliverFrame_eq h
      refine ⟨fun hk => hdeliver.trans (noteNode_of_known hk), fun hk hfull => ?_, fun hk hroom => ?_⟩
      · rw [hdeliver, noteNode_of_new hk, if_pos hfull]
      · rw [hdeliver, noteNode_of_new hk, if_neg (by omega)]
    · have hdeliver : s.deliverFrame p f = if s.power.hostAsleep then s.discardAsleep else s.takeUnit ip d u := deliverFrame_eq h
      refine ⟨fun hsleep => hdeliver.trans (if_pos hsleep), fun hrun hnot => ?_, fun hrun hip hudp => ?_⟩
      · rw [hdeliver, if_neg (by simp [hrun]), takeUnit_of_other hnot]
      · rw [hdeliver, if_neg (by simp [hrun]), takeUnit_of_own hip hudp]
    · have hdeliver : s.deliverFrame p f = s.wakeSeen := deliverFrame_eq h
      exact ⟨fun hw => hdeliver.trans (wakeSeen_of_window hw), fun hw hrun hentry => hdeliver.trans (wakeSeen_of_run hw hrun hentry),
        fun u hw hsleep hu => hdeliver.trans (wakeSeen_of_asleep hw hsleep hu)⟩
    · rcases h with h | h | h
      · exact deliverFrame_eq h
      · exact deliverFrame_eq h
      · exact deliverFrame_eq h
  · subst hback
    intro now
    have hexec (hrelay : s.ring.relay ≠ 0) := exec_supervision_of_relay hrelay hu hv (now := now) rfl
    refine ⟨fun h => if_pos h, fun hrelay h => ?_, fun hrelay hrun hnow => ?_⟩
    · rw [hexec hrelay, if_pos h]
    · rw [hexec hrelay, if_neg (by simp [hrun, hnow])]
  · simp
  · subst hr
    refine ⟨relayState_eq_zero, fun h => ⟨relayState_of_open h, ?_⟩, fun h => ?_⟩
    · rw [relaySet_eq hu, if_neg h]
    · rw [relaySet_eq hu, if_pos h]
  · refine (if_neg (not_not.2 h)).trans ?_
    simp only [Bool.and_eq_true, decide_eq_true_eq, ge_iff_le]
  · by_cases h : s.objNat 0x8001 1 = 0
    · refine ⟨s.useAddress, ?_, ?_, fun h' => absurd h h', ?_, exec_addressChange_of_ready hnew hready⟩ <;> rw [useAddress_of_unset h]
    · refine ⟨s.useAddress, ?_, ?_, fun _ => ?_, ?_, exec_addressChange_of_ready hnew hready⟩ <;> rw [useAddress_of_set h]
      exact ⟨rfl, rfl⟩

end Sys2Proof.Machine
end

section
/-!
PROOFS. The queue of waiting commands (log 1). `State.Queued.f` says that the operation `f` keeps it, in the way in which
`State.Canonical.f` says so of the memories: `h.f.g` for first `f`, then `g`, and `hs.ite ht` for a branch. Here: record updates,
branches and folds, and the operations that every module shares.
-/

namespace Sys2Proof.Machine

open Sys2Proof

variable {s t : State} {ks : List Instr}

/-- The commands that wait are those of a list. -/
def State.Queued (s : State) (ks : List Instr) : Prop := s.pending = ks

/-! ### Updates, branches and folds -/

/-- A record update that leaves the queue alone keeps it. -/
theorem State.Queued.frame {tb tracks chains feeders budget coilCal rxs bins capture template apdu roster sweeps report
    keys sense coreF coreH guest dbg mem hostMem ecc nvm settings aon journal observers recent proxied cmds linkF linkH linkT hostTs carried
    carrying fltF fltH records ring spi twin power radio pktMem nodes calib dict counts out fresh}
    (h : s.Queued ks) :
    State.Queued ⟨s.pending, tb, tracks, chains, feeders, budget, coilCal, rxs, bins, capture, template, apdu, roster, sweeps,
      report, keys, sense, coreF, coreH, guest, dbg, mem, hostMem, ecc, nvm, settings, aon, journal, observers, recent, proxied,
      cmds, linkF, linkH, linkT, hostTs, carried, carrying, fltF, fltH, records, ring, spi, twin, power, radio, pktMem, nodes,
      calib, dict, counts, out, fresh⟩ ks :=
  h

theorem State.Queued.ite {c : Prop} {_ : Decidable c} (hs : s.Queued ks) (ht : t.Queued ks) : (if c then s else t).Queued ks := by
  split
  · exact hs
  · exact ht

/-- A branch between two operations. -/
theorem State.Queued.iteApply {c : Prop} {_ : Decidable c} {f g : State → State} (hf : (f s).Queued ks) (hg : (g s).Queued ks) :
    ((if c then f else g) s).Queued ks := by
  split
  · exact hf
  · exact hg

/-- A branch that goes on from the state that the other branch leaves. -/
theorem State.Queued.thenIf {c : Prop} {_ : Decidable c} (h : s.Queued ks) (ht : s.Queued ks → t.Queued ks) :
    (if c then t else s).Queued ks := (ht h).ite h

theorem State.Queued.elseIf {c : Prop} {_ : Decidable c} (h : s.Queued ks) (ht : s.Queued ks → t.Queued ks) :
    (if c then s else t).Queued ks := h.ite (ht h)

theorem State.Queued.foldl {α : Type} {f : State → α → State} {l : List α} (h : s.Queued ks)
    (hf : ∀ s, s.Queued ks → ∀ a, (f s a).Queued ks) : (l.foldl f s).Queued ks :=
  List.foldlRecOn l f h fun s hs a _ => hf s hs a

/-- A fold that carries a value beside the state. -/
theorem State.Queued.foldl_snd {α β : Type} {f : β × State → α → β × State} {l : List α} {p : β × State} (hp : p.2.Queued ks)
    (hf : ∀ p, p.2.Queued ks → ∀ a, (f p a).2.Queued ks) : (l.foldl f p).2.Queued ks :=
  List.foldlRecOn (motive := fun p => p.2.Queued ks) l f hp fun p hp a _ => hf p hp a

/-- A result that is a next state with the queue. -/
def Result.Queued (ks : List Instr) (r : Result) : Prop := ∃ t, r = .next t ∧ t.Queued ks

theorem State.Queued.next (h : s.Queued ks) : Result.Queued ks (.next s) := ⟨s, rfl, h⟩

theorem Result.Queued.ite {c : Prop} {_ : Decidable c} {r r' : Result} (hr : Result.Queued ks r) (hr' : Result.Queued ks r') :
    Result.Queued ks (if c then r else r') := by
  split
  · exact hr
  · exact hr'

/-! ### Shared operations -/

theorem State.Queued.each {l : List Nat} {f : Nat → State → State} (h : s.Queued ks)
    (hf : ∀ i s, s.Queued ks → (f i s).Queued ks) : (s.each l f).Queued ks := h.foldl fun _ h i => hf i _ h

theorem State.Queued.when {c : Bool} {f : State → State} (h : s.Queued ks) (hf : ∀ s, s.Queued ks → (f s).Queued ks) :
    (s.when c f).Queued ks := (hf s h).ite h

theorem State.Queued.writeByte {a : Nat} {v : Byte} (h : s.Queued ks) : (s.writeByte a v).Queued ks := by
  fun_cases State.writeByte
  · exact h.frame
  · exact h.frame
  · exact h
  · exact h.frame

theorem State.Queued.writeBytes {a : Nat} {l : List Byte} (h : s.Queued ks) : (s.writeBytes a l).Queued ks := by
  induction l generalizing a s with
  | nil => exact h
  | cons v l ih => exact ih h.writeByte

theorem State.Queued.hitBins {a b : Nat} (h : s.Queued ks) : (s.hitBins a b).Queued ks := h.ite (h.each fun _ _ h => h.frame)

theorem State.Queued.splitMark {v : Nat} (h : s.Queued ks) : (s.splitMark v).Queued ks := by
  fun_cases State.splitMark
  · exact h.hitBins.frame
  · exact h

theorem State.Queued.advance {n : Nat} (h : s.Queued ks) : (s.advance n).Queued ks := (advance_pending _ n).trans h

theorem State.Queued.advanceTo {cc : Nat} (h : s.Queued ks) : (s.advanceTo cc).Queued ks := (advanceTo_pending _ cc).trans h

theorem State.Queued.advanceTs {ts : Nat} (h : s.Queued ks) : (s.advanceTs ts).Queued ks := h.advance

theorem State.Queued.setCore {k : Die} {c : Kenier} (h : s.Queued ks) : (s.setCore k c).Queued ks := by
  fun_cases State.setCore <;> exact h.frame

theorem State.Queued.modCore {k : Die} {f : Kenier → Kenier} (h : s.Queued ks) : (s.modCore k f).Queued ks := h.setCore

theorem State.Queued.irqSet {k : Die} {n : Nat} (h : s.Queued ks) : (s.irqSet k n).Queued ks := h.modCore

theorem State.Queued.irqClear {k : Die} {n : Nat} (h : s.Queued ks) : (s.irqClear k n).Queued ks := h.modCore

theorem State.Queued.setLink {e : LinkEnd} {l : Link} (h : s.Queued ks) : (s.setLink e l).Queued ks := by
  fun_cases State.setLink <;> exact h.frame

theorem State.Queued.modLink {e : LinkEnd} {f : Link → Link} (h : s.Queued ks) : (s.modLink e f).Queued ks := h.setLink

theorem State.Queued.pump {e : LinkEnd} {fuel : Nat} (h : s.Queued ks) : (s.pump e fuel).Queued ks := by
  induction fuel generalizing s with
  | zero => exact h
  | succ fuel ih =>
    unfold State.pump
    dsimp only
    split
    · exact h
    · exact h.ite (ih h.setLink.frame)

theorem State.Queued.send {e : LinkEnd} {typ : Nat} {body : Payload} (h : s.Queued ks) : (s.send e typ body).Queued ks :=
  (send_pending _ e typ body).trans h

theorem State.Queued.sendHello {e : LinkEnd} (h : s.Queued ks) : (s.sendHello e).Queued ks := h.send.ite h.send

theorem State.Queued.sendPair (h : s.Queued ks) : s.sendPair.Queued ks := h.send

theorem State.Queued.pin {n level : Nat} (h : s.Queued ks) : (s.pin n level).Queued ks := h.ite h.frame

theorem State.Queued.mirror {typ : Nat} {body : Payload} (h : s.Queued ks) : (s.mirror typ body).Queued ks :=
  (mirror_pending _ typ body).trans h

theorem State.Queued.deliver {r : JRec} (h : s.Queued ks) : (s.deliver r).Queued ks := (h.ite h.send).send

theorem State.Queued.reserveEsn (h : s.Queued ks) : s.reserveEsn.Queued ks := h.ite h.frame.frame.mirror

theorem State.Queued.reserveOff (h : s.Queued ks) : s.reserveOff.Queued ks := h.ite h.frame.mirror

theorem State.Queued.announce {r : JRec} (h : s.Queued ks) : (s.announce r).Queued ks := h.frame.send.ite h.mirror.deliver

theorem State.Queued.append {g typ : Nat} {data : List Byte} (h : s.Queued ks) : (s.append g typ data).Queued ks :=
  h.reserveEsn.reserveOff.frame.announce

theorem State.Queued.commit {g typ : Nat} {data : List Byte} (h : s.Queued ks) : (s.commit g typ data).Queued ks :=
  (commit_pending _ g typ data).trans h

theorem State.Queued.release (h : s.Queued ks) : s.release.Queued ks := by
  fun_cases State.release
  · exact h.frame
  · exact h.frame.when fun _ h => h.frame

end Sys2Proof.Machine
end

section
/-!
PROOFS. Tracks, faults, stages and emission keep the queue.
-/

namespace Sys2Proof.Machine

open Sys2Proof

variable {s t : State} {ks : List Instr}

/-! ### Tracks (R61, R74 to R80) -/

theorem State.Queued.dropChain {x : Nat} (h : s.Queued ks) : (s.dropChain x).Queued ks := h.frame.frame

theorem State.Queued.dropChains {t : Nat} (h : s.Queued ks) : (s.dropChains t).Queued ks := by
  fun_cases State.dropChains
  · exact (h.each fun _ _ h => h.dropChain).dropChain
  · exact h.each fun _ _ h => h.dropChain
  · exact h.each fun _ _ h => h.dropChain

theorem State.Queued.endLent {t : Nat} (h : s.Queued ks) : (s.endLent t).Queued ks := by
  fun_cases State.endLent
  · exact h
  · exact h
  · exact h.dropChain.frame

theorem State.Queued.dropTraining {t : Nat} (h : s.Queued ks) : (s.dropTraining t).Queued ks := (h.each fun _ _ h => h.frame).ite h

theorem State.Queued.postHalt {t reason : Nat} (h : s.Queued ks) : (s.postHalt t reason).Queued ks := h.frame.ite h.frame

theorem State.Queued.endCredential {t : Nat} (h : s.Queued ks) : (s.endCredential t).Queued ks := by
  fun_cases State.endCredential
  · exact h
  · exact h.frame.mirror

theorem State.Queued.stopTrack {t reason : Nat} {post : Bool} (h : s.Queued ks) : (s.stopTrack t reason post).Queued ks :=
  h.dropTraining.dropChains.endCredential.frame.frame.thenIf fun h => h.postHalt

theorem State.Queued.resume {t after : Nat} (h : s.Queued ks) : (s.resume t after).Queued ks := by
  fun_cases State.resume
  · exact h.frame
  · exact h.stopTrack
  all_goals exact h.frame

theorem State.Queued.post {t : Nat} {pkt : List (List Byte)} {after : Nat} {irq : Bool} (h : s.Queued ks) :
    (s.post t pkt after irq).Queued ks :=
  (h.frame.when fun _ h => h.irqSet).resume.ite h.frame

theorem State.Queued.releaseHeld {t : Nat} (h : s.Queued ks) : (s.releaseHeld t).Queued ks :=
  h.ite (h.frame.when fun _ h => h.irqSet).resume

theorem State.Queued.abortTrack {reason t : Nat} (h : s.Queued ks) : (s.abortTrack reason t).Queued ks :=
  h.ite (h.frame.ite (h.frame.ite (h.endLent.stopTrack.ite h.endLent.stopTrack.frame)))

theorem State.Queued.safeTrack {t : Nat} (h : s.Queued ks) : (s.safeTrack t).Queued ks := h.abortTrack.frame

/-! ### Fault collection, the safe state, Halt (R381 to R396) -/

theorem State.Queued.setCollector {d : Die} {c : Collector} (h : s.Queued ks) : (s.setCollector d c).Queued ks := by
  fun_cases State.setCollector <;> exact h.frame

theorem State.Queued.txResult {c : TxCmd} {res : Nat} (h : s.Queued ks) : (s.txResult c res).Queued ks := h.frame.ite h.frame.commit

theorem State.Queued.radioHalt (h : s.Queued ks) : s.radioHalt.Queued ks :=
  (State.Queued.frame (by split; exact h.frame; exact h)).foldl fun _ h _ => h.txResult

theorem State.Queued.calibInterrupt (h : s.Queued ks) : s.calibInterrupt.Queued ks := by
  fun_cases State.calibInterrupt
  · exact h
  · exact ((h.frame.each fun _ _ h => h.frame).each fun _ _ h => h.frame).commit

theorem State.Queued.sweepStop (h : s.Queued ks) : s.sweepStop.Queued ks := by
  fun_cases State.sweepStop
  · exact h
  · exact h.frame

theorem State.Queued.safeState {fr : List Byte} (h : s.Queued ks) : (s.safeState fr).Queued ks :=
  ((h.each fun _ _ h => h.safeTrack).each fun _ _ h => h.frame).sweepStop.calibInterrupt.radioHalt.frame

theorem State.Queued.haltDie {d : Die} (h : s.Queued ks) : (s.haltDie d).Queued ks := by
  fun_cases State.haltDie
  · exact h.modCore.setCollector.frame.pin.when fun _ h => h.send
  · exact h.modCore.setCollector.frame

theorem State.Queued.react {d : Die} {eff : Nat} {fr : List Byte} (h : s.Queued ks) : (s.react d eff fr).Queued ks := by
  cases d with
  | field => exact ((h.when fun _ h => h.safeState).when fun _ h => h.frame).when fun _ h => h.haltDie
  | host => exact (h.when fun _ h => h.frame).when fun _ h => h.haltDie

theorem State.Queued.drainHost (h : s.Queued ks) : s.drainHost.Queued ks := h.ite (h.frame.foldl fun _ h _ => h.send)

theorem State.Queued.raiseFaultAt {d : Die} {cls cause raised : Nat} {detail : List Byte} {acc : Option Access} (h : s.Queued ks) :
    (s.raiseFaultAt d cls cause raised detail acc).Queued ks :=
  (h.setCollector.ite h.setCollector.react).drainHost.ite (h.setCollector.ite h.setCollector.react)

theorem State.Queued.raiseFault {d : Die} {cls cause raised : Nat} {detail : List Byte} (h : s.Queued ks) :
    (s.raiseFault d cls cause raised detail).Queued ks :=
  h.raiseFaultAt

theorem State.Queued.eccFault {a master typ : Nat} (h : s.Queued ks) : (s.eccFault a master typ).Queued ks :=
  (h.frame.when fun _ h => (h.frame.ite h).frame).raiseFaultAt

theorem State.Queued.rejoin (h : s.Queued ks) : s.rejoin.Queued ks := (h.frame.sendHello.sendPair.ite h.frame).ite h

theorem State.Queued.safeEnd (h : s.Queued ks) : s.safeEnd.Queued ks := h.frame.rejoin.ite h

theorem State.Queued.ackEffects {mask : Nat} (h : s.Queued ks) : (s.ackEffects mask).Queued ks :=
  (h.when fun _ h => h.each fun _ _ h => h.frame).when fun _ h => h.frame

theorem State.Queued.ackDie {d : Die} {mask : Nat} (h : s.Queued ks) : (s.ackDie d mask).Queued ks := by
  fun_cases State.ackDie
  · exact h.setCollector.ackEffects.safeEnd
  · exact h.setCollector.frame
  · exact h.setCollector

/-! ### Stages (R58 to R73, R138) -/

theorem State.Queued.illegal {t : Nat} (h : s.Queued ks) : (s.illegal t).Queued ks := h.stopTrack

theorem State.Queued.fetchStop {t a typ : Nat} (h : s.Queued ks) : (s.fetchStop t a typ).Queued ks := h.stopTrack.eccFault

theorem State.Queued.eccFix {a n : Nat} (h : s.Queued ks) : (s.eccFix a n).Queued ks := h.each fun _ _ h => h.frame

theorem State.Queued.readStage {t : Nat} (h : s.Queued ks) : (s.readStage t).Queued ks := (h.eccFix.foldl fun _ h _ => h.eccFix).frame

theorem State.Queued.startAction {t cc given : Nat} {late : Bool} {g : Stage} (h : s.Queued ks) :
    (s.startAction t cc given late g).Queued ks :=
  h.advanceTo.frame

theorem State.Queued.beginStage {t kind : Nat} {air : Bool} {chk : Stage → State → Check} {act : Stage → State → State}
    (h : s.Queued ks) (ha : ∀ g s, s.Queued ks → (act g s).Queued ks) : (s.beginStage t kind air chk act).Queued ks := by
  fun_cases State.beginStage
  · exact h
  · exact h.fetchStop
  · exact h
  · exact h.readStage.illegal
  · exact h.readStage.illegal
  · exact h.readStage.illegal
  · exact h.readStage.fetchStop
  · exact h.readStage.frame
  · exact h.readStage.illegal
  · exact h.readStage.fetchStop
  · exact ha _ _ h.readStage.startAction

theorem State.Queued.goOn {t : Nat} (h : s.Queued ks) : (s.goOn t).Queued ks := h.resume

theorem State.Queued.endPlain {t out : Nat} (h : s.Queued ks) : (s.endPlain t out).Queued ks := h.frame.frame.goOn

theorem State.Queued.endAir {t out : Nat} {dtrunc : Bool} {r : ResultInfo} {rest : List (Nat × List Byte)} (h : s.Queued ks) :
    (s.endAir t out dtrunc r rest).Queued ks :=
  h.frame.frame.frame.post.ite h.frame.frame.goOn

theorem State.Queued.endSimple {t out : Nat} (h : s.Queued ks) : (s.endSimple t out).Queued ks := h.endAir

theorem State.Queued.meetRelease {mask : Nat} (h : s.Queued ks) : (s.meetRelease mask).Queued ks :=
  h.ite (h.advance.each fun _ _ h => h.frame.endPlain)

theorem State.Queued.verdict {t w : Nat} (h : s.Queued ks) : (s.verdict t w).Queued ks :=
  h.frame.ite (h.frame.frame.resume.ite h.frame.frame.frame.resume)

theorem State.Queued.stackStop {t : Nat} (h : s.Queued ks) : (s.stackStop t).Queued ks := h.stopTrack.raiseFault

theorem State.Queued.execReturnStage {t : Fin 9} (h : s.Queued ks) : Result.Queued ks (execReturnStage t s) := by
  refine (h.beginStage fun _ _ h => ?_).next
  dsimp only
  split
  · exact h.stackStop
  · exact h.advance.frame.goOn

theorem State.Queued.credentialResult {t : Nat} (h : s.Queued ks) : (s.credentialResult t).Queued ks := by
  fun_cases State.credentialResult
  · exact h
  · exact h.frame.commit
  · exact h.commit

theorem State.Queued.execHorizonEnd {t : Fin 9} (h : s.Queued ks) : Result.Queued ks (execHorizonEnd t s) := by
  fun_cases execHorizonEnd
  · exact (h.advanceTo.frame.endSimple.ite ((h.advanceTo.frame.frame.frame.post.ite h.advanceTo.frame.frame.frame.goOn).ite
      h.advanceTo.frame.endPlain)).next
  · exact h.next

theorem State.Queued.qpop {t : Nat} (h : s.Queued ks) : (s.qpop t).Queued ks := h.frame.when fun _ h => h.irqClear

theorem State.Queued.qflush {t : Nat} (h : s.Queued ks) : (s.qflush t).Queued ks := h.frame.ite h.frame.irqClear.releaseHeld

theorem State.Queued.raiseLevel (h : s.Queued ks) : s.raiseLevel.Queued ks := h.frame.ite h

theorem State.Queued.startTrack {t entry : Nat} (h : s.Queued ks) : (s.startTrack t entry).Queued ks :=
  h.frame.frame.ite (h.frame.ite h.frame.raiseLevel.frame)

theorem State.Queued.stopStage {t : Nat} (h : s.Queued ks) : (s.stopStage t).Queued ks := by
  fun_cases State.stopStage
  · exact h
  · exact h.stopTrack
  · exact h.frame
  · exact h.stopTrack
  · exact h.frame
  · exact h
  · exact h.stopTrack

/-! ### Emission, training, windows (R60 to R63, R102 to R133) -/

theorem State.Queued.setRange {v range cc : Nat} (h : s.Queued ks) : (s.setRange v range cc).Queued ks := h.frame.frame.ite h.frame

theorem State.Queued.loopStep {v : Nat} (h : s.Queued ks) : (s.loopStep v).Queued ks := h.frame.frame.frame.frame.ite h

theorem State.Queued.startTraining {v : Nat} (h : s.Queued ks) : (s.startTraining v).Queued ks := h.frame.ite h.frame.setRange.frame

theorem State.Queued.openChain {gain v : Nat} (h : s.Queued ks) : (s.openChain gain v).Queued ks :=
  (h.when fun _ h => h.loopStep.frame).setRange

theorem State.Queued.openWindow {t ref : Nat} (h : s.Queued ks) : (s.openWindow t ref).Queued ks :=
  ((h.each fun _ _ h => h.openChain).when fun _ h => h.frame).frame

theorem State.Queued.modulate {t : Nat} {on : Bool} (h : s.Queued ks) : (s.modulate t on).Queued ks :=
  (h.each fun _ _ h => h.frame).ite ((h.each fun _ _ h => h.frame).each fun _ _ h => h.frame)

theorem State.Queued.emitFrame {t : Nat} (h : s.Queued ks) : (s.emitFrame t).Queued ks :=
  (h.frame.endSimple.ite h.frame.openWindow).ite (h.fetchStop.ite (h.frame.each fun _ _ h => h.frame).modulate.frame)

theorem State.Queued.airGo {t : Nat} (h : s.Queued ks) : (s.airGo t).Queued ks := h.frame.openWindow.ite h.frame.emitFrame

theorem State.Queued.prepareListen {t : Nat} (h : s.Queued ks) : (s.prepareListen t).Queued ks :=
  h.frame.ite (h.airGo.ite (h.each fun _ _ h => h.startTraining).frame)

theorem State.Queued.unlessLent {t : Nat} {f : State → State} (h : s.Queued ks) (hf : ∀ s, s.Queued ks → (f s).Queued ks) :
    (s.unlessLent t f).Queued ks := h.frame.ite (hf s h)

end Sys2Proof.Machine
end

section
/-!
PROOFS. Outgoing units, the links, the field engine and the receiver keep the queue.
-/

namespace Sys2Proof.Machine

open Sys2Proof

variable {s t : State} {ks : List Instr}

/-! ### Units on their way out (R306, R307, R324, R325) -/

theorem State.Queued.spiQueue {k : Sel} {u : List Byte} (h : s.Queued ks) : (s.spiQueue k u).Queued ks := h.frame.frame

theorem State.Queued.sendUnit {p : Peer} {u : List Byte} (h : s.Queued ks) : (s.sendUnit p u).Queued ks := by
  fun_cases State.sendUnit
  · exact h.frame
  · exact h.spiQueue

theorem State.Queued.reply {r : Reply} (h : s.Queued ks) : (s.reply r).Queued ks := by
  fun_cases State.reply
  · exact (h.ite h.frame).sendUnit
  · exact h.frame
  · exact h.send

theorem State.Queued.proxy {p : Proxied} (h : s.Queued ks) : (s.proxy p).Queued ks := by
  fun_cases State.proxy <;> exact h.frame.send

theorem State.Queued.proxyAnswer {peer : Peer} {rid : Nat} {q : Option DictReq} {resp : List Byte} (h : s.Queued ks) :
    (s.proxyAnswer peer rid q resp).Queued ks := by
  fun_cases State.proxyAnswer
  · exact h.frame.reply
  · exact h

theorem State.Queued.replyAfter {key : Option Payload} {r : Reply} (h : s.Queued ks) : (s.replyAfter key r).Queued ks := by
  fun_cases State.replyAfter
  · exact h.frame
  · exact h.reply
  · exact h.reply

theorem State.Queued.sendRecords {k : Nat} {rs : List JRec} (h : s.Queued ks) : (s.sendRecords k rs).Queued ks :=
  h.foldl fun _ h _ => h.sendUnit

theorem State.Queued.streamOut {k : Nat} (h : s.Queued ks) : (s.streamOut k).Queued ks := by
  fun_cases State.streamOut
  · exact h
  · exact h
  · exact h.frame.sendRecords

theorem State.Queued.streamAll (h : s.Queued ks) : s.streamAll.Queued ks := h.each fun _ _ h => h.streamOut

theorem State.Queued.resendStore {k : Nat} (h : s.Queued ks) : (s.resendStore k).Queued ks := h.ite h.frame.frame.streamOut

theorem State.Queued.repair {k start count : Nat} (h : s.Queued ks) : (s.repair k start count).Queued ks :=
  h.ite (h.sendRecords.sendUnit.ite h.sendRecords)

theorem State.Queued.sendEvents {p : Peer} {dropped resent : Bool} {rs : List JRec} (h : s.Queued ks) :
    (s.sendEvents p dropped resent rs).Queued ks :=
  h.foldl fun _ h _ => h.ite h.sendUnit

theorem State.Queued.notify {rs : List JRec} {o : Observer} (h : s.Queued ks) : (s.notify rs o).Queued ks := h.ite h.frame.sendEvents

theorem State.Queued.notifyAll {rs : List JRec} (h : s.Queued ks) : (s.notifyAll rs).Queued ks := h.foldl fun _ h _ => h.notify

theorem State.Queued.resendEvents {p : Peer} (h : s.Queued ks) : (s.resendEvents p).Queued ks := by
  fun_cases State.resendEvents
  · exact h
  · exact h
  · exact h.frame.sendEvents

/-! ### The receiver of a message link (R24 to R28) -/

theorem State.Queued.sendAck {e : LinkEnd} (h : s.Queued ks) : (s.sendAck e).Queued ks := h.modLink.send

theorem State.Queued.sendResync {e : LinkEnd} (h : s.Queued ks) : (s.sendResync e).Queued ks := h.send

theorem State.Queued.linkUps {e : LinkEnd} (h : s.Queued ks) : (s.linkUps e).Queued ks :=
  h.ite (h.modLink.sendResync.frame.frame.sendHello.ite h.modLink.sendResync)

theorem State.Queued.receive {e : LinkEnd} {typ : Nat} {f : List Byte} {deliver : State → State} (h : s.Queued ks)
    (hd : ∀ s, s.Queued ks → (deliver s).Queued ks) : (s.receive e typ f deliver).Queued ks :=
  have h1 := h.ite h.linkUps
  h.ite (h1.modLink.sendAck.ite (h.ite ((hd _ h1).ite (hd _ h1.modLink))))

theorem State.Queued.retransmit {e : LinkEnd} (h : s.Queued ks) : (s.retransmit e).Queued ks := h.modLink.foldl fun _ h _ => h.frame

theorem State.Queued.echoBack {e : LinkEnd} {f : List Byte} (h : s.Queued ks) : (s.echoBack e f).Queued ks := h.send

/-! ### The field engine (R82 to R114) -/

theorem State.Queued.noteSum (h : s.Queued ks) : s.noteSum.Queued ks := h.frame.ite h

theorem State.Queued.endSelect {t out : Nat} (h : s.Queued ks) : (s.endSelect t out).Queued ks := (h.when fun _ h => h.frame).endAir

theorem State.Queued.sendWord {ca : Nat} (h : s.Queued ks) : (s.sendWord ca).Queued ks := h.frame.frame

theorem State.Queued.sendWords {t tries : Nat} {cas : List Nat} (h : s.Queued ks) : (s.sendWords t tries cas).Queued ks :=
  (h.each fun _ _ h => h.sendWord).frame

theorem State.Queued.wordGo {t : Nat} (h : s.Queued ks) : (s.wordGo t).Queued ks := h.frame.ite h.sendWords

theorem State.Queued.routeAndSend {t : Nat} (h : s.Queued ks) : (s.routeAndSend t).Queued ks :=
  h.illegal.raiseFault.ite ((h.foldl fun _ h _ => h.frame).endSelect.ite (h.foldl fun _ h _ => h.frame).wordGo)

theorem State.Queued.selectGo {t : Nat} (h : s.Queued ks) : (s.selectGo t).Queued ks :=
  h.frame.ite (h.frame.ite (h.frame.ite (((h.when fun _ h => h.frame).each fun _ _ h => h.frame).frame.frame.ite
    ((h.when fun _ h => h.frame).each fun _ _ h => h.frame).frame.routeAndSend)))

theorem State.Queued.beginSelect {t : Nat} {ms : List Member} (h : s.Queued ks) : (s.beginSelect t ms).Queued ks :=
  ((h.each fun _ _ h => h.dropChain).when fun _ h => h.frame.dropChain).frame.selectGo

theorem State.Queued.execAcknowledgePulse {p : AckPulse} (h : s.Queued ks) : Result.Queued ks (execAcknowledgePulse p s) := by
  fun_cases execAcknowledgePulse
  · exact (h.advanceTo.frame.ite h.advanceTo).next
  · exact h.next

theorem State.Queued.startRamps {t : Nat} (h : s.Queued ks) : (s.startRamps t).Queued ks :=
  ((h.foldl fun _ h _ => h.frame).foldl fun _ h _ => h.frame).frame.noteSum

theorem State.Queued.admission {t : Nat} (h : s.Queued ks) : (s.admission t).Queued ks :=
  (h.each fun _ _ h => h.frame).endSelect.ite (h.startRamps.ite h.frame.frame.frame)

theorem State.Queued.noAck {t : Nat} {fs : List Nat} (h : s.Queued ks) : (s.noAck t fs).Queued ks :=
  h.endSelect.each fun _ _ h => h.frame.when fun _ h => h.raiseFault

theorem State.Queued.settled {t tries : Nat} {un : List Nat} (h : s.Queued ks) : (s.settled t tries un).Queued ks :=
  (h.admission.ite h.frame).ite (h.sendWords.ite (h.noAck.ite h.frame))

theorem State.Queued.execSelectorSettle {t : Fin 9} (h : s.Queued ks) : Result.Queued ks (execSelectorSettle t s) := by
  fun_cases execSelectorSettle
  · exact (h.advanceTo.each fun _ _ h => h.frame).settled.next
  · exact h.next

theorem State.Queued.admitWaiters {fuel : Nat} (h : s.Queued ks) : (s.admitWaiters fuel).Queued ks := by
  induction fuel generalizing s with
  | zero => exact h
  | succ fuel ih =>
    unfold State.admitWaiters
    split
    · exact h
    · exact (ih h.frame.startRamps).ite h

theorem State.Queued.trainMembers {t : Nat} (h : s.Queued ks) : (s.trainMembers t).Queued ks :=
  (h.each fun _ _ h => h.startTraining).frame

theorem State.Queued.upEnd {x t : Nat} (h : s.Queued ks) : (s.upEnd x t).Queued ks :=
  h.frame.frame.frame.trainMembers.ite h.frame.frame.frame

theorem State.Queued.downEnd {x t : Nat} (h : s.Queued ks) : (s.downEnd x t).Queued ks :=
  (h.frame.frame.routeAndSend.ite (h.frame.frame.endSelect.ite h.frame.frame)).each fun _ _ h => h.wordGo

theorem State.Queued.rampEnd {x : Nat} (h : s.Queued ks) : (s.rampEnd x).Queued ks :=
  h.ite (h.advanceTo.frame.upEnd.ite h.advanceTo.frame.downEnd)

theorem State.Queued.afterTraining {t : Nat} (h : s.Queued ks) : (s.afterTraining t).Queued ks := (h.endSelect.ite h.airGo).ite h

theorem State.Queued.trainingComplete {f depth range ci cq : Nat} (h : s.Queued ks) :
    (s.trainingComplete f depth range ci cq).Queued ks :=
  h.ite ((h.advanceTo.frame.frame.setRange.when fun _ h => h.raiseFault.iteApply h.raiseFault).each fun _ _ h => h.afterTraining)

theorem State.Queued.resourceWaitEnd {t : Nat} (h : s.Queued ks) : (s.resourceWaitEnd t).Queued ks := by
  fun_cases State.resourceWaitEnd
  · exact h.selectGo
  · exact h
  · exact h.selectGo
  · exact h
  · exact h.emitFrame
  · exact h.prepareListen
  · exact h.prepareListen
  · exact (h.each fun _ _ h => h.startTraining.ite h).frame.afterTraining
  · exact h

theorem State.Queued.feederFault {f status cause level ma : Nat} (h : s.Queued ks) : (s.feederFault f status cause level ma).Queued ks :=
  h.frame.raiseFault

theorem State.Queued.execFeederFenced {f : Fin 16} {fwd refl : Nat} (h : s.Queued ks) :
    Result.Queued ks (execFeederFenced f fwd refl s) := by
  fun_cases execFeederFenced
  · exact h.next
  · exact h.next
  · exact h.frame.frame.abortTrack.feederFault.next

theorem State.Queued.reduceTo {limit : Rat} {cause us : Nat} (h : s.Queued ks) : (s.reduceTo limit cause us).Queued ks :=
  (h.each fun _ _ h => h.frame).frame.commit

/-! ### Receiving (R115 to R143) -/

theorem State.Queued.execSof {t : Fin 9} {out dec : Nat} {m : SofMark} (h : s.Queued ks) : Result.Queued ks (execSof t out dec m s) := by
  fun_cases execSof
  · exact h.next
  · exact h.next
  · exact h.advanceTo.frame.next

theorem State.Queued.countChanges {v : Nat} {a : AgcTrace} (h : s.Queued ks) : (s.countChanges v a).Queued ks :=
  (h.setRange.ite h).foldl fun _ h _ => h.setRange.frame

theorem State.Queued.storeFrame {slot : Nat} {j : Machine.Judged} (h : s.Queued ks) : (s.storeFrame slot j).Queued ks :=
  h.writeBytes

theorem State.Queued.countFrames {bins : List Nat} (h : s.Queued ks) : (s.countFrames bins).Queued ks :=
  h.ite (h.each fun _ _ h => h.frame)

theorem State.Queued.endListen {t : Nat} {w : Window} {out ca : Nat} {a b : Option OutFrame} {alts : List AltFrame}
    {agc : List AgcTrace} (h : s.Queued ks) : (s.endListen t w out ca a b alts agc).Queued ks := by
  have stored {o : Option OutFrame} {c : Bool} {slot : Nat} {s : State} (h : s.Queued ks) :
      (match o with | some x => s.when c (State.storeFrame slot x.j) | none => s : State).Queued ks := by
    split
    · exact h.when fun _ h => h.storeFrame
    · exact h
  exact State.Queued.endAir (stored (stored ((h.frame.frame.when fun _ h => h.frame).when fun _ h => h.countFrames)))

theorem State.Queued.execFrameReceived {t : Fin 9} {r0 : RxFrame} {r1 : Option RxFrame} {alts : List AltFrame} {e : FrameTail}
    (h : s.Queued ks) : Result.Queued ks (execFrameReceived t r0 r1 alts e s) := by
  fun_cases execFrameReceived
  · exact h.next
  · exact h.next
  · exact h.advance.next
  · exact (h.advance.foldl fun _ h _ => h.countChanges).endListen.next

theorem State.Queued.execWindowClose {t : Fin 9} (h : s.Queued ks) : Result.Queued ks (execWindowClose t s) := by
  fun_cases execWindowClose
  · exact h.next
  · exact h.next
  · exact h.advanceTo.endListen.next

theorem State.Queued.dropWaits {t : Nat} (h : s.Queued ks) : (s.dropWaits t).Queued ks := h.each fun _ _ h => h.frame

theorem State.Queued.timeout {t : Nat} (h : s.Queued ks) : (s.timeout t).Queued ks := by
  fun_cases State.timeout
  · exact h.endSimple
  · exact h.endSelect
  · exact h.endSelect
  · exact h.endSimple
  · exact h.endSimple
  · exact h.frame.frame.endSelect
  · exact (h.dropWaits.each fun _ _ h => h.frame).frame
  · exact h.dropWaits.endSimple
  · exact h.frame.endPlain
  · exact h.endPlain
  · exact h
  · exact h

theorem State.Queued.execTout {t : Fin 9} (h : s.Queued ks) : Result.Queued ks (execTout t s) := by
  fun_cases execTout
  · exact h.next
  · exact h.next
  · exact h.advanceTo.timeout.next

theorem State.Queued.execMarkEnd {f : Fin 16} (h : s.Queued ks) : Result.Queued ks (execMarkEnd f s) := by
  fun_cases execMarkEnd
  · exact h.next
  · exact h.advance.next
  · exact (h.advance.frame.hitBins.frame.each fun _ _ h => h.frame).next

theorem State.Queued.execCaptureTrigger (h : s.Queued ks) : Result.Queued ks (execCaptureTrigger s) := by
  fun_cases execCaptureTrigger
  · exact h.next
  · exact h.frame.next
  · exact h.next

end Sys2Proof.Machine
end

section
/-!
PROOFS. Sweeps, exchanges, tag security, the roster and card detection keep the queue.
-/

namespace Sys2Proof.Machine

open Sys2Proof

variable {s t : State} {ks : List Instr}

/-! ### Sweeps (R172 to R183) -/

theorem State.Queued.requestSweep {p : Nat} {at_ : Option Nat} (h : s.Queued ks) : (s.requestSweep p at_).Queued ks :=
  h.ite (h.frame.ite h.frame)

theorem State.Queued.compileFor {idx : Nat} (h : s.Queued ks) : (s.compileFor idx).Queued ks :=
  h.frame.ite ((h.each fun _ _ h => h.frame).ite h)

theorem State.Queued.enterResults {obs : List CoilObs} (h : s.Queued ks) : (s.enterResults obs).Queued ks := by
  fun_cases State.enterResults
  · exact h
  · exact (h.foldl fun _ h _ => h.foldl fun _ h _ => h.frame).frame
  · exact (h.foldl fun _ h _ => h.foldl fun _ h _ => h.frame).frame.foldl fun _ h _ => h.mirror

theorem State.Queued.nextWave (h : s.Queued ks) : s.nextWave.Queued ks := by
  fun_cases State.nextWave
  · exact h
  · exact h
  · exact h.frame.mirror

theorem State.Queued.replan (h : s.Queued ks) : s.replan.Queued ks := by
  fun_cases State.replan
  · exact h
  · exact h
  · exact h.frame.frame

theorem State.Queued.waveBoundary {obs : List CoilObs} (h : s.Queued ks) : (s.waveBoundary obs).Queued ks := by
  fun_cases State.waveBoundary
  · exact h.enterResults
  · exact h.enterResults
  · exact h.enterResults.replan.nextWave

theorem State.Queued.afterService (h : s.Queued ks) : s.afterService.Queued ks := by
  fun_cases State.afterService
  · exact h
  · exact h.replan
  · exact h

theorem State.Queued.sweepBegin (h : s.Queued ks) : s.sweepBegin.Queued ks := by
  fun_cases State.sweepBegin
  · exact h
  · exact h
  · exact h.frame.frame
  · exact h.frame.frame.frame.frame

theorem State.Queued.execSweepPeriod {p : Fin 16} (h : s.Queued ks) : Result.Queued ks (execSweepPeriod p s) := by
  fun_cases execSweepPeriod
  · exact h.next
  · exact h.next
  · exact h.advanceTs.requestSweep.next

/-! ### Exchanges and guest calls (R165 to R170, R270 to R272) -/

theorem State.Queued.serviceMsg {opened : Bool} {kind handle ca what : Nat} {changes : Bool} (h : s.Queued ks) :
    (s.serviceMsg opened kind handle ca what changes).Queued ks :=
  h.mirror.when fun _ h => h.mirror

theorem State.Queued.clearSecured {handle : Nat} (h : s.Queued ks) : (s.clearSecured handle).Queued ks := by
  fun_cases State.clearSecured
  · exact h
  · exact h.frame
  · exact h

theorem State.Queued.endTemplate {status : Nat} {resp : List Byte} (h : s.Queued ks) : (s.endTemplate status resp).Queued ks :=
  ((h.commit.frame.when fun _ h => h.clearSecured).when fun _ h => h.serviceMsg).afterService

theorem State.Queued.startTemplate (h : s.Queued ks) : s.startTemplate.2.Queued ks := by
  fun_cases State.startTemplate
  · exact h
  · exact h.frame.endTemplate
  · exact h.frame.endTemplate
  · exact h.frame.serviceMsg

theorem State.Queued.callGuest {entry status : Nat} {resp : List Byte} (h : s.Queued ks) :
    (s.callGuest entry status resp).Queued ks := h.writeBytes.frame

theorem State.Queued.guestReturned {status len : Nat} {resp : List Byte} (h : s.Queued ks) :
    (s.guestReturned status len resp).Queued ks :=
  h.frame.endTemplate.ite h.frame.endTemplate

theorem State.Queued.guestStop {a : Nat} (h : s.Queued ks) : (s.guestStop a).Queued ks := by
  fun_cases State.guestStop
  · exact h
  · exact h.frame.commit.raiseFault.endTemplate

theorem State.Queued.requests {ca : Nat} {rs : List Request} (h : s.Queued ks) : (s.requests ca rs).Queued ks :=
  h.foldl fun _ h _ => h.frame

theorem State.Queued.execTemplateResult {answers : List SlotObs} {g : Option GuestReturn} (h : s.Queued ks) :
    Result.Queued ks (execTemplateResult answers g s) := by
  unfold Machine.execTemplateResult
  dsimp only
  refine .ite h.next (.ite h.requests.endTemplate.next ?_)
  split
  · exact h.requests.callGuest.guestReturned.next
  · exact h.requests.callGuest.next

theorem State.Queued.endApdu {status : Nat} {resp : List Byte} (h : s.Queued ks) : (s.endApdu status resp).Queued ks :=
  (((h.commit.when fun _ h => h.frame).commit.clearSecured.ite h.commit).frame.when fun _ h => h.serviceMsg).afterService

theorem State.Queued.startApdu (h : s.Queued ks) : s.startApdu.2.Queued ks := by
  fun_cases State.startApdu
  · exact h
  · exact h.frame.endApdu
  · exact h.frame.endApdu
  · exact h.frame.endApdu
  · exact h.frame.serviceMsg

/-! ### Tag security (R202 to R223) -/

theorem State.Queued.putKey {kind slot : Nat} {m : List Byte} (h : s.Queued ks) : (s.putKey kind slot m).Queued ks :=
  (h.when fun _ h => h.commit).frame.frame.mirror

theorem State.Queued.loadKey {p : List Byte} (h : s.Queued ks) : (s.loadKey p).2.Queued ks := by
  fun_cases State.loadKey
  · exact h.putKey.frame.frame
  · exact h.putKey
  · exact h.frame

theorem State.Queued.loadIssuer {p : List Byte} (h : s.Queued ks) : (s.loadIssuer p).2.Queued ks := by
  fun_cases State.loadIssuer
  · exact h
  · exact h.frame.frame.frame.mirror

theorem State.Queued.eraseKey {p : List Byte} (h : s.Queued ks) : (s.eraseKey p).2.Queued ks := by
  fun_cases State.eraseKey
  · exact h
  · exact h
  · exact h.frame.frame.frame.mirror
  · exact h.putKey

theorem State.Queued.mirrorAttempt {t : TagId} (h : s.Queued ks) : (s.mirrorAttempt t).Queued ks := by
  fun_cases State.mirrorAttempt <;> exact h.mirror

theorem State.Queued.releaseTag {p : List Byte} (h : s.Queued ks) : (s.releaseTag p).2.Queued ks := by
  fun_cases State.releaseTag
  · exact h.frame.mirror.mirrorAttempt
  · exact h

theorem State.Queued.execFailuresLeaveWindow {tag : TagId} (h : s.Queued ks) : Result.Queued ks (execFailuresLeaveWindow tag s) := by
  unfold Machine.execFailuresLeaveWindow
  split
  · exact h.next
  · exact .ite h.next h.advanceTs.frame.next

theorem State.Queued.securityRecord {typ handle profile status : Nat} (h : s.Queued ks) :
    (s.securityRecord typ handle profile status).Queued ks := by
  fun_cases State.securityRecord
  · exact h
  · exact h.commit

theorem State.Queued.secDone {a : SecAction} {status : Nat} (h : s.Queued ks) : (s.secDone a status).Queued ks := h.frame.ite h

theorem State.Queued.quarantine {t : TagId} (h : s.Queued ks) : (s.quarantine t).Queued ks :=
  h.ite ((h.frame.foldl fun _ h _ => h.secDone).mirror.thenIf fun h => h.raiseFault)

theorem State.Queued.secRun {a : SecAction} {i : Nat} {k : SecHeld} (h : s.Queued ks) : (s.secRun a i k).Queued ks := h.frame.serviceMsg

theorem State.Queued.thenOrigin {a : SecAction} (h : s.Queued ks) : (s.thenOrigin a).Queued ks := by
  fun_cases State.thenOrigin
  · exact h
  · exact h.frame
  · exact h

theorem State.Queued.secAttempt {a : SecAction} {i : Nat} (h : s.Queued ks) : (s.secAttempt a i).Queued ks :=
  h.secDone.ite (h.securityRecord.thenOrigin.secDone.ite (h.thenOrigin.secDone.ite
    (h.thenOrigin.secDone.ite (h.quarantine.thenOrigin.secDone.ite (h.frame.thenOrigin.secDone.ite
    (h.thenOrigin.secDone.ite (h.frame.when fun _ h => h.frame).mirrorAttempt.secRun))))))

theorem State.Queued.secOrigin {a : SecAction} {i : Nat} (h : s.Queued ks) : (s.secOrigin a i).Queued ks := h.secDone.ite h.secRun

theorem State.Queued.secStart {a : SecAction} (h : s.Queued ks) : (s.secStart a).Queued ks := by
  fun_cases State.secStart
  · exact h.secDone
  · exact h.secDone
  · exact h.secAttempt
  · exact h.secDone
  · exact h.securityRecord.secDone
  · exact h.secOrigin

theorem State.Queued.secNext {fuel : Nat} (h : s.Queued ks) : (s.secNext fuel).Queued ks := by
  induction fuel generalizing s with
  | zero => exact h
  | succ fuel ih =>
    refine h.ite ?_
    split
    · exact h
    · exact ih h.frame.secStart

theorem State.Queued.secQueue {a : SecAction} (h : s.Queued ks) : (s.secQueue a).Queued ks := h.frame.secNext

theorem State.Queued.startSecurity (h : s.Queued ks) : s.startSecurity.2.Queued ks := by
  fun_cases State.startSecurity
  · exact h
  · exact h.frame
  · exact h.frame
  · exact h.frame
  · exact h.frame.secQueue

theorem State.Queued.secEnd {a : SecAction} {status slot : Nat} (h : s.Queued ks) : (s.secEnd a status slot).Queued ks :=
  h.frame.secDone.serviceMsg.afterService.secNext

theorem State.Queued.secFailed {a : SecAction} {t : TagId} (h : s.Queued ks) : (s.secFailed a t).Queued ks :=
  h.frame.frame.mirrorAttempt.securityRecord.clearSecured.when fun _ h => h.quarantine

theorem State.Queued.attemptResult {a : SecAction} {ok : Bool} (h : s.Queued ks) : (s.attemptResult a ok).Queued ks :=
  h.frame.mirrorAttempt.frame.thenOrigin.secEnd.ite h.secFailed.thenOrigin.secEnd

theorem State.Queued.originResult {a : SecAction} {sig : List Byte} (h : s.Queued ks) : (s.originResult a sig).Queued ks := by
  fun_cases State.originResult
  · exact h.frame.secEnd
  · exact h.securityRecord.secEnd

theorem State.Queued.execSecurityResult {r : SecurityEnd} (h : s.Queued ks) : Result.Queued ks (execSecurityResult r s) := by
  fun_cases execSecurityResult
  · exact h.next
  · exact h.requests.requests.originResult.next
  · exact h.requests.attemptResult.next
  · exact h.requests.attemptResult.next

/-! ### The roster and its closes (R174 to R199) -/

theorem State.Queued.releaseEntry {i : Nat} (h : s.Queued ks) : (s.releaseEntry i).Queued ks := h.frame.frame

theorem State.Queued.evict {fuel : Nat} {c : Closing} (h : s.Queued ks) : (s.evict fuel c).2.Queued ks := by
  induction fuel generalizing c s with
  | zero => exact h
  | succ fuel ih =>
    unfold State.evict
    dsimp only
    split
    · exact h
    · split
      · exact h
      · exact ih h.frame

theorem State.Queued.applySeen {n g i b : Nat} {amb : Bool} {e : Entry} {c : Closing} (h : s.Queued ks) :
    (applySeen n g i b amb e c s).2.Queued ks :=
  h.frame

/-- The state in which an index is allocated. -/
theorem State.Queued.allocate {i : Nat} {t : State} (h : s.Queued ks) (e : s.allocate = .got i t) : t.Queued ks := by
  unfold State.allocate at e
  dsimp only at e
  split at e
  · cases e; exact h.frame
  · split at e
    · cases e
    · split at e <;> cases e
      exact h.frame

theorem State.Queued.applyNew {n g b : Nat} {amb : Bool} {t : TagId} {c : Closing} (h : s.Queued ks) :
    (Machine.applyNew n g b amb t c s).2.2.Queued ks := by
  have h1 : (if s.roster.free = 0 then State.evict 1 c s else (c, s)).2.Queued ks := by split; exact h.evict; exact h
  unfold Machine.applyNew
  dsimp only
  split
  · exact h1
  · exact h1.frame
  · next e => exact (h1.allocate e).frame

theorem State.Queued.applyMissed {m i : Nat} {e : Entry} {c : Closing} (h : s.Queued ks) : (applyMissed m i e c s).2.Queued ks := by
  fun_cases applyMissed
  · exact h
  · exact h.releaseEntry
  · exact h.frame
  · exact h.frame

theorem State.Queued.closeItem {it : CloseItem} {c : Closing} (h : s.Queued ks) : (s.closeItem it c).2.2.Queued ks := by
  fun_cases State.closeItem
  · exact h
  · exact h.applyMissed
  · exact h.applySeen
  · exact h.applyNew

theorem State.Queued.closeItems {l : List CloseItem} {c : Closing} (h : s.Queued ks) : (s.closeItems l c).2.Queued ks := by
  induction l generalizing c s with
  | nil => exact h
  | cons it l ih =>
    have h1 : (s.closeItem it c).2.2.Queued ks := h.closeItem
    unfold State.closeItems
    split
    · next e => rw [e] at h1; exact ih h1
    · next e => rw [e] at h1; exact h1

theorem State.Queued.applySec {x : SecChange} {c : Closing} (h : s.Queued ks) : (s.applySec x c).2.Queued ks := by
  fun_cases State.applySec
  · exact h
  · exact h.frame.ite (h.frame.ite h)
  · exact (h.frame.ite (h.frame.ite h)).frame

theorem State.Queued.applyQuar {i : Nat} {c : Closing} (h : s.Queued ks) : (s.applyQuar i c).2.Queued ks := by
  fun_cases State.applyQuar
  · exact h
  · exact h.frame

theorem State.Queued.closeSecurity {c : Closing} (h : s.Queued ks) : (s.closeSecurity c).2.Queued ks :=
  foldl_snd (foldl_snd h.frame fun _ h _ => h.applySec) fun _ h _ => h.applyQuar

theorem State.Queued.commitClose {e : CloseEvent} (h : s.Queued ks) : (s.commitClose e).Queued ks := h.commit

theorem State.Queued.journalFailed {plan gen : Nat} {x : CoilResult} (h : s.Queued ks) : (s.journalFailed plan gen x).Queued ks :=
  h.commit.ite h

theorem State.Queued.onArrival {e : CloseEvent} (h : s.Queued ks) : (s.onArrival e).Queued ks := by
  fun_cases State.onArrival
  · exact h
  · exact h
  · exact h
  · exact h
  · exact h.secQueue
  · exact h.secQueue
  · exact h

theorem State.Queued.finishClose {c : Closing} (h : s.Queued ks) : (s.finishClose c).Queued ks :=
  ((((h.closeSecurity.frame.frame.foldl fun _ h _ => h.journalFailed).foldl fun _ h _ => h.commitClose).when fun _ h =>
    h.commit).commit.when fun _ h => h.foldl fun _ h _ => h.send).mirror.foldl fun _ h _ => h.onArrival

theorem State.Queued.closeWork {c : Closing} (h : s.Queued ks) : (s.closeWork c).Queued ks :=
  h.closeItems.finishClose.ite h.closeItems.frame

theorem State.Queued.closeBegin {r : SweepResult} (h : s.Queued ks) : (s.closeBegin r).Queued ks := by
  unfold State.closeBegin
  dsimp only
  exact State.Queued.closeWork h.evict

theorem State.Queued.closeHeld {fuel : Nat} (h : s.Queued ks) : (s.closeHeld fuel).Queued ks := by
  induction fuel generalizing s with
  | zero => exact h
  | succ fuel ih =>
    refine h.ite ?_
    split
    · exact h
    · exact ih h.frame.closeBegin

theorem State.Queued.sweepClose {obs : List CoilObs} (h : s.Queued ks) : (s.sweepClose obs).Queued ks := by
  fun_cases State.sweepClose
  · exact h.enterResults
  · exact h.enterResults
  · exact h.enterResults.frame.closeHeld

theorem State.Queued.execCloseWaitEnd (h : s.Queued ks) : Result.Queued ks (execCloseWaitEnd s) := by
  unfold Machine.execCloseWaitEnd
  split
  · exact h.next
  · refine (State.Queued.closeWork (State.Queued.frame ?_)).closeHeld.next
    split
    · exact h
    · exact h.advanceTs

theorem State.Queued.emptyEntry {i : Nat} (h : s.Queued ks) : (s.emptyEntry i).Queued ks :=
  ((h.when fun _ h => h.commit).when fun _ h => h.commit).releaseEntry

theorem State.Queued.emptyRoster (h : s.Queued ks) : s.emptyRoster.Queued ks := by
  fun_cases State.emptyRoster
  · exact (h.each fun _ _ h => h.emptyEntry).frame.frame.closeBegin.closeHeld
  · exact (h.each fun _ _ h => h.emptyEntry).frame.frame.closeHeld

theorem State.Queued.execReportReady (h : s.Queued ks) : Result.Queued ks (execReportReady s) := by
  fun_cases execReportReady
  · exact h.next
  all_goals exact h.frame.next

/-! ### Card detection (R224 to R239) -/

theorem State.Queued.senseOver {t : Nat} {cas : List Nat} (h : s.Queued ks) : (s.senseOver t cas).Queued ks :=
  h.frame.frame.ite h.frame.sendWords

theorem State.Queued.senseRow (h : s.Queued ks) : s.senseRow.Queued ks := by
  fun_cases State.senseRow
  · exact h
  · exact h
  · exact h.frame.frame.senseOver

theorem State.Queued.detect {ca dev profile : Nat} {closed : Bool} (h : s.Queued ks) : (s.detect ca dev profile closed).Queued ks :=
  (h.frame.when fun _ h => h.frame).frame.ite ((h.frame.when fun _ h => h.frame).commit.requestSweep.ite
    (h.frame.when fun _ h => h.frame).commit)

theorem State.Queued.lateDetects (h : s.Queued ks) : s.lateDetects.Queued ks :=
  h.frame.foldl fun _ h _ => h.commit.requestSweep.ite h.commit

theorem State.Queued.judgeBurst {b : Burst} {profile : Nat} {closed noadapt : Bool} (h : s.Queued ks) :
    (s.judgeBurst b profile closed noadapt).2.Queued ks := by
  unfold State.judgeBurst
  simp only [apply_ite Prod.snd]
  exact h.ite (h.frame.ite (h.frame.ite (h.frame.detect.ite (h.frame.ite h.frame.frame))))

theorem State.Queued.skipJudgement {ca : Nat} (h : s.Queued ks) : (s.skipJudgement ca).2.Queued ks := h.frame.frame.frame.frame

theorem State.Queued.judgeBursts {profile : Nat} {shut : List Nat} {noadapt : Bool} {bs : List Burst} (h : s.Queued ks) :
    (s.judgeBursts profile shut noadapt bs).2.Queued ks := by
  induction bs generalizing s with
  | nil => exact h
  | cons b bs ih => exact ih h.judgeBurst

theorem State.Queued.endSense {t ca out : Nat} {j : Judgement} {cc : Nat} (h : s.Queued ks) : (s.endSense t ca out j cc).Queued ks :=
  h.frame.frame.frame.ite (h.frame.frame.post.ite h.frame.frame.goOn)

theorem State.Queued.trackBursts {t : Nat} {bs : List Burst} (h : s.Queued ks) : (s.trackBursts t bs).Queued ks := by
  have skipped {l : List Nat} {p : List (Nat × Judgement) × State} (hp : p.2.Queued ks) :
      (l.foldl (fun a ca => (a.1 ++ [(ca, (a.2.skipJudgement ca).1)], (a.2.skipJudgement ca).2)) p).2.Queued ks :=
    foldl_snd hp fun _ h ca => h.skipJudgement (ca := ca)
  unfold State.trackBursts
  dsimp only
  split
  all_goals
    exact State.Queued.endSense (State.Queued.foldl (skipped (h.ite h.advanceTo).judgeBursts) fun _ h _ => h.frame)

theorem State.Queued.lanternNext (h : s.Queued ks) : s.lanternNext.Queued ks := by
  fun_cases State.lanternNext
  · exact h.frame
  · exact h.frame
  · exact h.sendWord.when fun _ h => h.frame

theorem State.Queued.lanternLeave {ca : Nat} (h : s.Queued ks) : (s.lanternLeave ca).Queued ks := h.frame.lanternNext

theorem State.Queued.lanternSettle (h : s.Queued ks) : s.lanternSettle.Queued ks := by
  fun_cases State.lanternSettle
  · exact h
  · exact h.advanceTo.frame
  · exact h.advanceTo.frame.sendWord.frame
  · exact h.advanceTo.frame.skipJudgement.lanternLeave

theorem State.Queued.lanternBurst {b : Burst} (h : s.Queued ks) : (s.lanternBurst b).Queued ks :=
  h.lanternSettle.ite h.lanternSettle.advance.frame.judgeBurst.frame.lanternLeave

theorem State.Queued.execBurstEnd {by_ : SenseBy} {bs : List Burst} (h : s.Queued ks) : Result.Queued ks (execBurstEnd by_ bs s) := by
  fun_cases execBurstEnd
  · exact h.trackBursts.next
  · exact h.next
  · exact h.next
  · exact (h.foldl fun _ h _ => h.lanternBurst).next

theorem State.Queued.execSenseSkipped {by_ : SenseBy} (h : s.Queued ks) : Result.Queued ks (execSenseSkipped by_ s) := by
  fun_cases execSenseSkipped
  · exact h.advanceTo.trackBursts.next
  · exact h.next
  · exact h.next
  · exact h.lanternSettle.lanternSettle.skipJudgement.lanternLeave.next
  · exact h.lanternSettle.lanternSettle.next

theorem State.Queued.writeDoorGroup {g : Nat} {v : List Byte} (h : s.Queued ks) : (s.writeDoorGroup g v).Queued ks :=
  h.frame.ite (h.frame.each fun _ _ h => h.frame)

theorem State.Queued.relearn (h : s.Queued ks) : s.relearn.Queued ks := h.each fun _ _ h => h.frame

theorem State.Queued.execImpulseRepeat (h : s.Queued ks) : Result.Queued ks (execImpulseRepeat s) := by
  fun_cases execImpulseRepeat
  · exact h.next
  · exact h.next
  · exact h.advance.frame.lanternNext.next

end Sys2Proof.Machine
end

section
/-!
PROOFS. The Kenier cores beside their memory accesses, and the timebase, keep the queue.
-/

namespace Sys2Proof.Machine

open Sys2Proof

variable {s t : State} {ks : List Instr}

/-! ### Traps, issue and completion (R246 to R265) -/

theorem State.Queued.captureAccess {d : Die} {acc : Access} (h : s.Queued ks) : (s.captureAccess d acc).Queued ks := h.ite h.setCollector

theorem State.Queued.trap {k : Die} {cause code : Nat} {tpc : BitVec 25} (h : s.Queued ks) : (s.trap k cause code tpc).Queued ks :=
  (h.frame.ite h).setCore.raiseFault.ite (h.frame.ite h).setCore

theorem State.Queued.trapHere {k : Die} {cause : Nat} (h : s.Queued ks) : (s.trapHere k cause).Queued ks := h.trap

theorem State.Queued.trapBus {k : Die} {a typ : Nat} (h : s.Queued ks) : (s.trapBus k a typ).Queued ks :=
  h.captureAccess.modCore.trapHere

theorem State.Queued.trapGuest {k : Die} (h : s.Queued ks) : (s.trapGuest k).Queued ks := h.trapHere.guestStop

theorem State.Queued.requestLevel {l : Nat} (h : s.Queued ks) : (s.requestLevel l).Queued ks := h.frame.ite (h.frame.ite h.frame)

theorem State.Queued.serveDeferred {k : Die} (h : s.Queued ks) : (s.serveDeferred k).Queued ks := by
  fun_cases State.serveDeferred
  · exact h
  · exact (h.when fun _ h => h.frame).frame
  · exact h.when fun _ h => h.frame

theorem State.Queued.breakLock {k : Die} (h : s.Queued ks) : (s.breakLock k).Queued ks := h.modCore.trapHere.raiseFault.serveDeferred

theorem State.Queued.trapIllegalEnd {k : Die} (h : s.Queued ks) : (s.trapIllegalEnd k).Queued ks :=
  h.modCore.trapHere.when fun _ h => h.serveDeferred

theorem State.Queued.hostEccFix {a : Nat} (h : s.Queued ks) : (s.hostEccFix a).Queued ks := h.frame.ite h

theorem State.Queued.wordFix {k : Die} {a : Nat} (h : s.Queued ks) : (s.wordFix k a).Queued ks := by
  fun_cases State.wordFix
  · exact h.eccFix
  · exact h.hostEccFix

theorem State.Queued.wordFault {k : Die} {a typ : Nat} (h : s.Queued ks) : (s.wordFault k a typ).Queued ks := by
  fun_cases State.wordFault
  · exact h.eccFault
  · exact h.raiseFaultAt

theorem State.Queued.cycles {k : Die} {n : Nat} (h : s.Queued ks) : (s.cycles k n).Queued ks := h.modCore.when fun _ h => h.frame

theorem State.Queued.spend {k : Die} (h : s.Queued ks) : (s.spend k).Queued ks := h.frame.cycles

theorem State.Queued.issue {k : Die} {r : IssueRule} {act : State → State} (h : s.Queued ks)
    (ha : ∀ s, s.Queued ks → (act s).Queued ks) : (s.issue k r act).Queued ks :=
  have h1 := h.modCore
  h.ite (h1.breakLock.ite (h1.trapGuest.ite (h1.trapHere.ite (h1.trapHere.ite ((h1.trapGuest.ite h1.trapBus).ite
    (h1.wordFault.trapBus.ite (h1.trapIllegalEnd.ite (h1.trapHere.ite (h1.trapGuest.ite (ha _ h1.wordFix))))))))))

theorem State.Queued.stepDone {k : Die} (h : s.Queued ks) : (s.stepDone k).Queued ks := h.frame.ite (h.frame.ite h)

theorem State.Queued.retire {k : Die} (h : s.Queued ks) : (s.retire k).Queued ks := h.spend.modCore.stepDone

theorem State.Queued.writeBack {k : Die} {rd : RegNo} {v : Word} {dist : Nat} (h : s.Queued ks) : (s.writeBack k rd v dist).Queued ks :=
  h.modCore.retire

theorem State.Queued.alu {k : Die} {rd : RegNo} {f : Kenier → Word} (h : s.Queued ks) : (s.alu k rd f).Queued ks :=
  h.issue fun _ h => h.writeBack

theorem State.Queued.transfer {k : Die} {target window : Nat} (h : s.Queued ks) : (s.transfer k target window).Queued ks :=
  h.spend.modCore

/-! ### Register instructions and transfers (R246 to R259) -/

theorem State.Queued.multiply {k : Die} {signed acc : Bool} {ra rb : RegNo} (h : s.Queued ks) :
    (s.multiply k signed acc ra rb).Queued ks :=
  h.issue fun _ h => h.modCore.retire

theorem State.Queued.settleProducts {k : Die} (h : s.Queued ks) : (s.settleProducts k).Queued ks := h.ite (h.frame.modCore.ite h.frame)

theorem State.Queued.transferBy {k : Die} {target window : Nat} (h : s.Queued ks) : (s.transferBy k target window).Queued ks :=
  h.cycles.transfer

theorem State.Queued.call {k : Die} {target : Nat} (h : s.Queued ks) : (s.call k target).Queued ks := h.trapHere.ite h.modCore.transfer

theorem State.Queued.mispredict {k : Die} (h : s.Queued ks) : (s.mispredict k).Queued ks := h.frame.frame.cycles.modCore

theorem State.Queued.branch {k : Die} {taken : Kenier → Bool} {disp : BitVec 16} (h : s.Queued ks) : (s.branch k taken disp).Queued ks :=
  h.issue fun _ h => (h.when fun _ h => h.mispredict).transfer.ite (h.when fun _ h => h.mispredict).transfer

/-! ### System instructions, interrupts, halts (R248 to R276) -/

theorem State.Queued.passOn {k : Die} (h : s.Queued ks) : (s.passOn k).Queued ks := h.spend.modCore

/-! ### The timebase (R44 to R55) -/

theorem State.Queued.refSetting (h : s.Queued ks) : s.refSetting.Queued ks := h.ite h.frame.commit

theorem State.Queued.lockMains (h : s.Queued ks) : s.lockMains.Queued ks := (h.each fun _ _ h => h.splitMark).frame.commit

theorem State.Queued.acceptEdge {period : Nat} (h : s.Queued ks) : (s.acceptEdge period).Queued ks := h.frame.lockMains.ite h.frame

theorem State.Queued.execZeroCrossEdge {after : Nat} (h : s.Queued ks) : Result.Queued ks (execZeroCrossEdge after s) := by
  fun_cases execZeroCrossEdge
  · exact h.advance.next
  · exact h.advance.frame.next
  · exact (h.advance.acceptEdge.ite h.advance.frame).next

theorem State.Queued.goVirtual (h : s.Queued ks) : s.goVirtual.Queued ks := h.frame.ite h

end Sys2Proof.Machine
end

section
/-!
PROOFS. Storage, settings, the resets of both sides and the fault commands keep the queue.
-/

namespace Sys2Proof.Machine

open Sys2Proof

variable {s t : State} {ks : List Instr}

/-! ### Storage, settings, reset and start-up (R279 to R299, R406) -/

theorem State.Queued.scrubPass (h : s.Queued ks) : s.scrubPass.Queued ks := h.frame.foldl fun _ h _ => h.frame.raiseFault

theorem State.Queued.scrubField (h : s.Queued ks) : s.scrubField.Queued ks := by
  have scrubbed {n : Nat} {a b c : State} (ha : a.Queued ks) (hb : b.Queued ks) (hc : c.Queued ks) :
      (match n with | 1 => a | 2 => b | _ => c : State).Queued ks := by split; exact ha; exact hb; exact hc
  exact (scrubbed h.frame.eccFix h.frame.eccFault h.frame).thenIf fun h => h.scrubPass

theorem State.Queued.scrubHost (h : s.Queued ks) : s.scrubHost.Queued ks := by
  fun_cases State.scrubHost
  · exact h.frame.frame
  · exact h.frame.raiseFaultAt
  · exact h.frame

theorem State.Queued.slotErased {sec : Nat} (h : s.Queued ks) : (s.slotErased sec).Queued ks := h.frame.ite h

theorem State.Queued.nvmStart {o : NvmOp} (h : s.Queued ks) : (s.nvmStart o).Queued ks := h.frame.frame.slotErased.ite h.frame

theorem State.Queued.nvmServe (h : s.Queued ks) : s.nvmServe.Queued ks := by
  fun_cases State.nvmServe
  · exact h
  · exact h.frame
  · exact h.frame.nvmStart
  · exact h

theorem State.Queued.nvmSubmit {o : NvmOp} (h : s.Queued ks) : (s.nvmSubmit o).Queued ks :=
  State.Queued.nvmServe (by split; exact h.frame.frame.ite h.frame; exact h.frame)

theorem State.Queued.program {a : Nat} {l : List Byte} (h : s.Queued ks) : (s.program a l).Queued ks := by
  fun_induction State.program with
  | case1 => exact h
  | case2 _ _ _ _ ih => exact ih h.frame

theorem State.Queued.execNvmProgramDone (h : s.Queued ks) : Result.Queued ks (execNvmProgramDone s) := by
  fun_cases execNvmProgramDone
  · exact h.next
  · exact h.program.frame.nvmServe.next
  · exact h.next

theorem State.Queued.erased {prio : Nat} (h : s.Queued ks) : (s.erased prio).Queued ks := by
  fun_cases State.erased
  · exact h
  · exact h.frame
  · exact h.frame
  · exact h
  · exact h

theorem State.Queued.eraseFailed {o : NvmOp} (h : s.Queued ks) : (s.eraseFailed o).Queued ks :=
  (h.frame.frame.ite h.frame).raiseFault.ite (h.frame.frame.ite h.frame).raiseFault

theorem State.Queued.execNvmEraseDone {verified : Bool} (h : s.Queued ks) : Result.Queued ks (execNvmEraseDone verified s) := by
  fun_cases execNvmEraseDone
  · exact h.next
  · exact h.frame.frame.erased.nvmServe.next
  · exact h.frame.eraseFailed.nvmServe.next
  · exact h.next

theorem State.Queued.imagePage {v : List Byte} (h : s.Queued ks) : (s.imagePage v).Queued ks := h.nvmSubmit

theorem State.Queued.settleImage (h : s.Queued ks) : s.settleImage.Queued ks := (h.foldl fun _ h _ => h.program).frame.nvmServe

theorem State.Queued.checkImage {p : List Byte} (h : s.Queued ks) : (s.checkImage p).2.Queued ks := by
  fun_cases State.checkImage <;> exact h.settleImage

theorem State.Queued.guestPage {v : List Byte} (h : s.Queued ks) : (s.guestPage v).Queued ks := h.writeBytes.frame

theorem State.Queued.guestActivate {p : List Byte} (h : s.Queued ks) : (s.guestActivate p).2.Queued ks := by
  fun_cases State.guestActivate <;> exact h.frame

theorem State.Queued.storeSettings (h : s.Queued ks) : s.storeSettings.2.Queued ks := by
  fun_cases State.storeSettings
  · exact h
  · exact h
  · exact h
  · exact h
  · exact h
  · exact (h.frame.each fun _ _ h => h.nvmSubmit).mirror

theorem State.Queued.wearNote {d : Die} {before now : Nat} (h : s.Queued ks) : (s.wearNote d before now).Queued ks :=
  h.commit.raiseFault.ite h

theorem State.Queued.storeField {ok : Bool} (h : s.Queued ks) : (s.storeField ok).Queued ks :=
  (h.frame.foldl fun _ h _ => (h.ite h.frame).frame).frame.wearNote.ite h.frame.frame

theorem State.Queued.storeHost {ok : Bool} (h : s.Queued ks) : (s.storeHost ok).Queued ks :=
  (h.each fun _ _ h => h.frame).frame.wearNote.ite (h.each fun _ _ h => h.frame).frame

theorem State.Queued.storeRecord {result fseq hseq : Nat} (h : s.Queued ks) : (s.storeRecord result fseq hseq).Queued ks := h.commit

theorem State.Queued.storeShow {r : Nat} (h : s.Queued ks) : (s.storeShow r).Queued ks := h.frame.storeRecord

theorem State.Queued.storeAbandon (h : s.Queued ks) : s.storeAbandon.Queued ks := h.ite h.frame

theorem State.Queued.eraseAgain {sec : Nat} (h : s.Queued ks) : (s.eraseAgain sec).Queued ks := h.frame.slotErased

theorem State.Queued.journalErased {sec : Nat} (h : s.Queued ks) : (s.journalErased sec).Queued ks := h.commit

theorem State.Queued.fieldHw {cause : Nat} (h : s.Queued ks) : (s.fieldHw cause).Queued ks :=
  h.frame

theorem State.Queued.loadField (h : s.Queued ks) : s.loadField.Queued ks := by
  fun_cases State.loadField
  · exact (h.frame.foldl fun _ h _ => h.writeBytes.ite h).each fun _ _ h => h.frame
  · exact h

theorem State.Queued.loadCal (h : s.Queued ks) : s.loadCal.Queued ks := by
  fun_cases State.loadCal <;> exact h.frame

theorem State.Queued.resumeCounters {g : Option Gasp} (h : s.Queued ks) : (s.resumeCounters g).Queued ks :=
  h.frame.each fun _ _ h => h.frame

theorem State.Queued.resumeEsn (h : s.Queued ks) : s.resumeEsn.Queued ks := h.frame.frame

theorem State.Queued.resumeJournal {kept : Bool} {g : Option Gasp} (h : s.Queued ks) : (s.resumeJournal kept g).2.Queued ks := by
  fun_cases State.resumeJournal
  · exact h
  · exact h.frame
  · exact h
  · exact h.frame

theorem State.Queued.runStart {cause : Nat} {r : Resume} {periodic : Bool} {g : Option Gasp} (h : s.Queued ks) :
    (s.runStart cause r periodic g).Queued ks :=
  (h.append.ite h.append.frame.append).foldl fun _ h _ => h.commit

theorem State.Queued.settleAttempts (h : s.Queued ks) : s.settleAttempts.Queued ks :=
  h.foldl fun _ h _ => h.frame.frame.when fun _ h => h.quarantine

theorem State.Queued.startRecords {half : List Nat} {stored : Bool} (h : s.Queued ks) : (s.startRecords half stored).Queued ks :=
  ((((h.each fun _ _ h => h.journalErased).when fun _ h => h.frame.storeRecord).when fun _ h => h.commit.raiseFault).when fun _ h =>
    h.frame.commit).when fun _ h => h.commit

theorem State.Queued.armNext {g : Option Gasp} (h : s.Queued ks) : (s.armNext g).Queued ks :=
  (h.frame.each fun _ _ h => h.nvmSubmit).ite h.frame

theorem State.Queued.loadImage (h : s.Queued ks) : s.loadImage.Queued ks :=
  h.frame.foldl fun _ h _ => h.frame.ite h

theorem State.Queued.fieldBoot {cause0 : Option Nat} {kept : Bool} (h : s.Queued ks) : (s.fieldBoot cause0 kept).Queued ks :=
  ((h.each fun _ _ h => h.eraseAgain).when fun _ h => h.frame)
    |>.frame.loadImage.loadCal.loadField.resumeCounters.resumeEsn.frame.resumeJournal.frame
    |>.runStart.settleAttempts.startRecords.refSetting.armNext.when fun _ h => h.requestLevel

theorem State.Queued.fieldReset {cause : Option Nat} (h : s.Queued ks) : (s.fieldReset cause).Queued ks := h.fieldHw.fieldBoot

/-! ### The Host Controller's reset and start-up (R337, R390) -/

theorem State.Queued.portSend {p : Port} {o : Output} (h : s.Queued ks) : (s.portSend p o).Queued ks := h.ite h.frame.frame

theorem State.Queued.relaySet (h : s.Queued ks) : s.relaySet.Queued ks := h.frame.frame.ite h.frame

theorem State.Queued.hostHold (h : s.Queued ks) : s.hostHold.Queued ks := h.frame.frame.relaySet

theorem State.Queued.useAddress (h : s.Queued ks) : s.useAddress.Queued ks := h.frame.ite h.frame.frame

theorem State.Queued.hostBoot (h : s.Queued ks) : s.hostBoot.Queued ks :=
  ((((State.Queued.each (by split <;> exact h.frame.frame) fun _ _ h => h.frame).useAddress.relaySet.when
    fun _ h => h.raiseFault).when fun _ h => h.frame.commit).drainHost).thenIf fun h => h.frame.fieldReset

/-! ### Fault commands (R385 to R397) -/

theorem State.Queued.ackBoth {mask : Nat} (h : s.Queued ks) : (s.ackBoth mask).2.Queued ks := by
  unfold State.ackBoth
  simp only [apply_ite Prod.snd]
  exact h.ite (h.ite h.ackDie.ackDie)

theorem State.Queued.ackAny {p : List Byte} (h : s.Queued ks) : (s.ackAny p).2.Queued ks := by
  fun_cases State.ackAny
  · exact h
  · exact (h.when fun _ h => h.ackDie).when fun _ h => h.ackDie

theorem State.Queued.releaseCapture {d : Die} (h : s.Queued ks) : (s.releaseCapture d).Queued ks := h.setCollector

theorem State.Queued.autoAck {d : Die} {cls level : Nat} (h : s.Queued ks) : (s.autoAck d cls level).Queued ks := by
  fun_cases State.autoAck
  · exact h.ackDie
  · exact h.ackDie
  · exact h

theorem State.Queued.journalFault {d : Die} {fr : List Byte} (h : s.Queued ks) : (s.journalFault d fr).Queued ks :=
  h.commit.ite h.commit.autoAck

theorem State.Queued.takeRecord (h : s.Queued ks) : s.takeRecord.Queued ks := by
  unfold State.takeRecord
  split
  · exact h
  · refine (State.Queued.journalFault ?_).send
    split
    · exact h.frame.frame.commit
    · exact h.frame

theorem State.Queued.execRestartDelay {d : Die} (h : s.Queued ks) : Result.Queued ks (execRestartDelay d s) := by
  fun_cases execRestartDelay
  · exact h.next
  · exact h.frame.next
  · exact h.fieldReset.next
  · exact h.hostHold.next
  · exact h.next

theorem State.Queued.wdkick {v : Nat} (h : s.Queued ks) : (s.wdkick v).Queued ks := h.frame.ite h.frame

end Sys2Proof.Machine
end

section
/-!
PROOFS. The radio with its packet memory, the registers and the power states keep the queue.
-/

namespace Sys2Proof.Machine

open Sys2Proof

variable {s t : State} {ks : List Instr}

/-! ### The radio: shared operations (R426 to R444) -/

theorem State.Queued.setPkt {off : Nat} {b : Byte} (h : s.Queued ks) : (s.setPkt off b).Queued ks :=
  h.frame

theorem State.Queued.setPkts {off : Nat} {l : List Byte} (h : s.Queued ks) : (s.setPkts off l).Queued ks := by
  induction l generalizing off s with
  | nil => exact h
  | cons b l ih => exact ih h.setPkt

theorem State.Queued.radioPins (h : s.Queued ks) : s.radioPins.Queued ks := h.ite h.frame

theorem State.Queued.setRadio {st : Nat} (h : s.Queued ks) : (s.setRadio st).Queued ks := h.frame.radioPins

theorem State.Queued.calTry (h : s.Queued ks) : s.calTry.Queued ks := h.frame.ite h

theorem State.Queued.calRequest (h : s.Queued ks) : s.calRequest.Queued ks := h.frame.calTry

theorem State.Queued.radioGo {target : Nat} (h : s.Queued ks) : (s.radioGo target).Queued ks :=
  h.ite (h.frame.ite ((h.frame.ite h.frame).ite h.frame))

theorem State.Queued.noteDuty (h : s.Queued ks) : s.noteDuty.Queued ks := h.frame.when fun _ h => h.raiseFault

theorem State.Queued.placeFcs {p : Nat} (h : s.Queued ks) : (s.placeFcs p).Queued ks := h.setPkts

theorem State.Queued.channelTry (h : s.Queued ks) : s.channelTry.Queued ks := h.ite (h.frame.ite h.frame)

theorem State.Queued.headEnd {res : Nat} (h : s.Queued ks) : (s.headEnd res).Queued ks := by
  fun_cases State.headEnd
  · exact h
  · exact h.frame.txResult.channelTry.calTry

theorem State.Queued.packetEnd {res : Nat} (h : s.Queued ks) : (s.packetEnd res).Queued ks := by
  fun_cases State.packetEnd
  · exact h
  · exact h.setRadio.headEnd

theorem State.Queued.denied {c : TxCmd} (h : s.Queued ks) : (s.denied c).Queued ks := h.frame.frame.ite h.frame.headEnd

theorem State.Queued.goOnAir {c : TxCmd} (h : s.Queued ks) : (s.goOnAir c).Queued ks := h.placeFcs.frame.frame.setRadio.frame

theorem State.Queued.txGo (h : s.Queued ks) : s.txGo.Queued ks := by
  fun_cases State.txGo
  · exact h
  · exact h
  · exact h.denied
  · exact h.goOnAir

theorem State.Queued.txPrepare {c : TxCmd} (h : s.Queued ks) : (s.txPrepare c).Queued ks :=
  (((h.frame.ite h).frame.frame.ite (h.frame.ite h).frame).ite ((h.frame.ite h).frame.ite (h.frame.ite h))).txGo

theorem State.Queued.loopTry (h : s.Queued ks) : s.loopTry.Queued ks := h.frame.ite h

theorem State.Queued.txAccept (h : s.Queued ks) : s.txAccept.Queued ks := by
  fun_cases State.txAccept
  · exact h
  · exact h
  · exact h.frame.headEnd
  · exact h.frame.noteDuty.headEnd
  · exact h.frame.txPrepare

theorem State.Queued.txCommand {pkt : Nat} {urgent pri : Bool} {after : Then} (h : s.Queued ks) :
    (s.txCommand pkt urgent pri after).Queued ks :=
  h.frame.ite (h.txResult.ite (h.txResult.ite h.frame))

theorem State.Queued.settleEnd (h : s.Queued ks) : s.settleEnd.Queued ks := h.frame.setRadio.calTry.txGo.ite h

theorem State.Queued.mapCompute {i : Nat} (h : s.Queued ks) : (s.mapCompute i).Queued ks := by
  fun_cases State.mapCompute
  · exact h
  · exact h
  · exact h.frame.frame

/-! ### The radio: commands and happenings (R429 to R459) -/

theorem State.Queued.radioDo {f : State → State} (h : s.Queued ks) (hf : ∀ s, s.Queued ks → (f s).Queued ks) :
    Result.Queued ks (s.radioDo f) :=
  ((hf _ h.loopTry).ite h).next

theorem State.Queued.rxCommand {after : Then} (h : s.Queued ks) : (s.rxCommand after).Queued ks := h.frame.radioGo

theorem State.Queued.leadEnd {grant : Bool} (h : s.Queued ks) : (s.leadEnd grant).Queued ks := by
  unfold State.leadEnd
  split
  · exact h
  · split
    · exact h
    · exact h.ite h.advanceTo.frame.frame.txGo

theorem State.Queued.coexRetry (h : s.Queued ks) : s.coexRetry.Queued ks := by
  fun_cases State.coexRetry
  · exact h
  · exact h
  · exact h.frame.txPrepare

theorem State.Queued.lossFault (h : s.Queued ks) : s.lossFault.Queued ks := h.frame.raiseFault

theorem State.Queued.packetSent {airUs : Nat} {lossBad : Bool} (h : s.Queued ks) : (s.packetSent airUs lossBad).Queued ks := by
  fun_cases State.packetSent
  · exact h
  · exact h
  · exact ((h.frame.when fun _ h => h.frame).when fun _ h => h.lossFault).packetEnd

theorem State.Queued.execSynthesiserCalibrationDone (h : s.Queued ks) : Result.Queued ks (execSynthesiserCalibrationDone s) :=
  h.radioDo fun _ h => h.frame.ite h

theorem State.Queued.execTemperatureSample {c : Int} (h : s.Queued ks) : Result.Queued ks (execTemperatureSample c s) :=
  h.radioDo fun _ h => h.frame.calTry

theorem State.Queued.execBackgroundCalibration {iq abandoned : Bool} {imageDb : Nat} (h : s.Queued ks) :
    Result.Queued ks (execBackgroundCalibration iq abandoned imageDb s) :=
  h.radioDo fun _ h => h.frame.ite h

theorem State.Queued.lockLost (h : s.Queued ks) : s.lockLost.Queued ks := by
  unfold State.lockLost
  dsimp only
  refine State.Queued.ite ?_ (State.Queued.raiseFault (State.Queued.frame ?_))
  · split
    · exact h.headEnd.ite h
    · exact h
  · split
    · exact h.frame.frame.packetEnd.ite (h.frame.headEnd.ite h.frame)
    · exact h.frame

theorem State.Queued.grantWithdrawn (h : s.Queued ks) : s.grantWithdrawn.Queued ks := by
  fun_cases State.grantWithdrawn
  · exact h
  · exact h.frame.frame.packetEnd
  · exact h.frame
  · exact h

theorem State.Queued.execDutyBucket (h : s.Queued ks) : Result.Queued ks (execDutyBucket s) :=
  h.radioDo fun _ h => h.frame.frame.ite h.frame

theorem State.Queued.stf {opts : List Nat} (h : s.Queued ks) : (s.stf opts).Queued ks := by
  fun_cases State.stf
  · exact h
  · exact h.frame
  · exact h
  · exact h.frame

theorem State.Queued.phr {hcsOk : Bool} {rate len : Nat} (h : s.Queued ks) : (s.phr hcsOk rate len).Queued ks :=
  h.ite (h.frame.txGo.ite (h.frame.ite h.frame))

theorem State.Queued.xhr {hcsOk : Bool} {addr gen : Nat} (h : s.Queued ks) : (s.xhr hcsOk addr gen).Queued ks := by
  fun_cases State.xhr
  · exact h
  all_goals exact h.frame

theorem State.Queued.storePacket {p : Nat} {k : DoorPacket} (h : s.Queued ks) : (s.storePacket p k).Queued ks := h.setPkts.frame

theorem State.Queued.nodeHeard {i : Nat} {k : DoorPacket} (h : s.Queued ks) : (s.nodeHeard i k).Queued ks :=
  (h.frame.when fun _ h => h.frame).when fun _ h => h.mapCompute

theorem State.Queued.doorReport {i : Nat} {closed : Bool} {rssi : Int} (h : s.Queued ks) : (s.doorReport i closed rssi).Queued ks :=
  h.ite h.writeDoorGroup.commit

theorem State.Queued.rxEnd (h : s.Queued ks) : s.rxEnd.Queued ks := (h.frame.ite h.frame.setRadio).channelTry.calTry.txGo

theorem State.Queued.packetReceived {k : DoorPacket} (h : s.Queued ks) : (s.packetReceived k).Queued ks := by
  unfold State.packetReceived
  dsimp only
  refine h.ite (h.rxEnd.ite (h.frame.rxEnd.ite ?_))
  split
  · exact h.frame.rxEnd
  · refine State.Queued.rxEnd ?_
    split
    · exact h.storePacket
    · refine State.Queued.ite ?_ h.storePacket
      split
      · exact h.storePacket.nodeHeard.doorReport
      · exact h.storePacket.nodeHeard

theorem State.Queued.execMapSetAck {node : Fin 1024} (h : s.Queued ks) : Result.Queued ks (execMapSetAck node s) :=
  h.radioDo fun _ h => by split; exact h; exact h.frame

theorem State.Queued.execMapReport {node : Fin 1024} {gen : Nat} {map : List Byte} (h : s.Queued ks) :
    Result.Queued ks (execMapReport node gen map s) :=
  h.radioDo fun _ h => h.frame.ite h.frame

theorem State.Queued.doorLoop (h : s.Queued ks) : s.doorLoop.2.Queued ks := by
  fun_cases State.doorLoop
  · exact h
  · exact h.frame
  · exact h.frame

theorem State.Queued.execDoorLinkLoopbackEnd {matched : Nat} (h : s.Queued ks) : Result.Queued ks (execDoorLinkLoopbackEnd matched s) :=
  h.radioDo fun _ h => h.ite (h.when fun _ h => h.frame).frame.radioPins

/-! ### Registers (R9, R11) -/

theorem State.Queued.aonTouch {w : Nat} (h : s.Queued ks) : (s.aonTouch w).Queued ks := h.frame.ite h

theorem State.Queued.ioConsume {a : Nat} (h : s.Queued ks) : (s.ioConsume a).Queued ks := by
  fun_cases State.ioConsume
  · exact h.takeRecord
  · exact h
  · exact h.frame
  · exact h.qpop
  · exact h
  · exact h.aonTouch
  · exact h
  · exact h

theorem State.Queued.padRelease {mask : BitVec 4} (h : s.Queued ks) : (s.padRelease mask).Queued ks :=
  (h.frame.when fun _ h => h.radioPins).when fun _ h => h.pin.pin.pin

theorem State.Queued.writePower {off v : Nat} (h : s.Queued ks) : (s.writePower off v).Queued ks := by
  fun_cases State.writePower
  · exact h.requestLevel
  · exact h.frame
  · exact h
  · exact h.padRelease
  · exact h.frame
  · exact h

theorem State.Queued.writeField {off v : Nat} (h : s.Queued ks) : (s.writeField off v).Queued ks := h.frame.ite (h.frame.ite h)

theorem State.Queued.writeReceive {off v : Nat} (h : s.Queued ks) : (s.writeReceive off v).Queued ks := h.frame.ite h

theorem State.Queued.writeCard {off v : Nat} (h : s.Queued ks) : (s.writeCard off v).Queued ks := (h.each fun _ _ h => h.frame).ite h

theorem State.Queued.dlcmd {v : Nat} (h : s.Queued ks) : (s.dlcmd v).Queued ks := by
  fun_cases State.dlcmd
  · exact h.radioGo
  · exact h.radioGo
  · exact h.radioGo
  · exact h.rxCommand
  · exact h.txCommand
  · exact h.calRequest
  · exact h

theorem State.Queued.writeRadio {who : Writer} {off v : Nat} (h : s.Queued ks) : (s.writeRadio who off v).Queued ks :=
  h.ite (h.setPkts.ite (h.dlcmd.ite h))

theorem State.Queued.writeFault {who : Writer} {off v : Nat} (h : s.Queued ks) : (s.writeFault who off v).Queued ks :=
  (h.ackDie.when fun _ h => h.releaseCapture).ite (h.wdkick.ite h)

theorem State.Queued.writeTrack {off v : Nat} (h : s.Queued ks) : (s.writeTrack off v).Queued ks := by
  fun_cases State.writeTrack
  · exact h.frame.abortTrack
  · exact h.frame.stopStage
  · exact h.startTrack
  · exact h.frame
  · exact h.frame
  · exact h.verdict
  · exact h.frame
  · exact h
  · exact h.each fun _ _ h => h.qflush
  · exact h

theorem State.Queued.writeAon {off v : Nat} (h : s.Queued ks) : (s.writeAon off v).Queued ks := h.frame.ite (h.frame.ite h)

theorem State.Queued.ioWriteWord {who : Writer} {a v : Nat} (h : s.Queued ks) : (s.ioWriteWord who a v).Queued ks := by
  fun_cases State.ioWriteWord
  · exact h.writePower
  · exact h.writeField
  · exact h.writeReceive
  · exact h.writeCard
  · exact h.writeRadio
  · exact h.frame
  · exact h
  · exact h.writeFault
  · exact h.writeTrack
  · exact h.writeAon
  · exact h

theorem State.Queued.hostIoWrite {a v : Nat} (h : s.Queued ks) : (s.hostIoWrite a v).Queued ks := h.frame.ite (h.frame.ite h)

theorem State.Queued.execPadrel {d : Die} {mask : BitVec 4} (h : s.Queued ks) : Result.Queued ks (execPadrel d mask s) := by
  fun_cases execPadrel
  · exact h.padRelease.next
  · exact h.frame.next

/-! ### Supply and power states (R400 to R425) -/

theorem State.Queued.warningHw (h : s.Queued ks) : s.warningHw.Queued ks :=
  ((h.each fun _ _ h => h.abortTrack).each fun _ _ h => h.frame).calibInterrupt.radioHalt.storeAbandon.frame

theorem State.Queued.leaveLantern (h : s.Queued ks) : s.leaveLantern.Queued ks := (h.each fun _ _ h => h.frame).frame.lateDetects.send

theorem State.Queued.execPowerFailWarning (h : s.Queued ks) : Result.Queued ks (execPowerFailWarning s) := by
  fun_cases execPowerFailWarning
  · exact h.next
  · exact (h.frame.warningHw.ite h.frame.warningHw.frame).next
  · exact h.frame.leaveLantern.frame.frame.next
  · exact h.frame.frame.next

theorem State.Queued.powerLoss (h : s.Queued ks) : s.powerLoss.Queued ks := h.frame

theorem State.Queued.execTransitionEnd (h : s.Queued ks) : Result.Queued ks (execTransitionEnd s) := by
  fun_cases execTransitionEnd
  · exact h.next
  · exact (h.frame.frame.ite h.frame).next
  · exact (h.frame.frame.ite h.frame).frame.requestLevel.next
  · exact (h.frame.frame.ite h.frame).next

theorem State.Queued.restoreList {fuel i : Nat} (h : s.Queued ks) : (s.restoreList fuel i).Queued ks := by
  induction fuel generalizing i s with
  | zero => exact h
  | succ fuel ih => exact (ih h.aonTouch.aonTouch).ite (h.ite ((ih h.ioWriteWord).ite (ih h)))

theorem State.Queued.fieldWake (h : s.Queued ks) : s.fieldWake.Queued ks :=
  h.advance.leaveLantern.restoreList.ite (h.advance.fieldHw.restoreList.fieldBoot.frame.ite h)

theorem State.Queued.hostWake (h : s.Queued ks) : s.hostWake.Queued ks := h.ite h.frame.frame.send

theorem State.Queued.wakeDieUp {d : Die} (h : s.Queued ks) : (s.wakeDieUp d).Queued ks := by
  fun_cases State.wakeDieUp
  · exact (h.frame.ite h).fieldWake
  · exact (h.frame.ite h).hostWake

theorem State.Queued.wakeNow {src : Nat} (h : s.Queued ks) : (s.wakeNow src).Queued ks := (h.when fun _ h => h.frame).wakeDieUp

theorem State.Queued.decline {req code : Nat} (h : s.Queued ks) : (s.decline req code).Queued ks := h.frame.commit

theorem State.Queued.wakeEvent {src : Nat} (h : s.Queued ks) : (s.wakeEvent src).Queued ks := h.ite (h.decline.ite (h.ite h.wakeNow))

theorem State.Queued.brownout {d : Die} (h : s.Queued ks) : (s.brownout d).Queued ks := by
  have h1 : (if s.asleep .field ≠ s.power.hostAsleep then
      { s with power := { s.power with lastWake := 8, wakeShown := s.power.wakeShown } } else s.wakeRecord 8).Queued ks :=
    h.frame.ite h.frame
  have h2 {c : Bool} {o : Output} := h1.when (c := c) (f := State.emit o) fun _ h => h.frame
  cases d with
  | field => exact h.ite h2.advance.fieldHw.restoreList.fieldBoot.raiseFault
  | host => exact h.ite h2.frame.hostHold.frame.raiseFault

theorem State.Queued.execWakeSymbol {d : Die} (h : s.Queued ks) : Result.Queued ks (execWakeSymbol d s) := by
  fun_cases execWakeSymbol
  · exact h.advance.fieldWake.next
  · exact h.next
  · exact h.hostWake.next
  · exact h.next

theorem State.Queued.execWakeFailure {d : Die} (h : s.Queued ks) : Result.Queued ks (execWakeFailure d s) := by
  fun_cases execWakeFailure
  · exact h.next
  · exact h.fieldReset.next
  · exact h.frame.hostHold.next

theorem State.Queued.execCurfewWindowEnd {levelEvent : Option Nat} (h : s.Queued ks) :
    Result.Queued ks (execCurfewWindowEnd levelEvent s) := by
  fun_cases execCurfewWindowEnd
  · exact h.next
  · exact h.frame.wakeNow.next
  · exact h.frame.next

theorem State.Queued.execSniffPeriod {preamble : Option Int} (h : s.Queued ks) : Result.Queued ks (execSniffPeriod preamble s) := by
  fun_cases execSniffPeriod
  · exact h.wakeEvent.next
  · exact h.next
  · exact h.next

theorem State.Queued.porterStop (h : s.Queued ks) : s.porterStop.Queued ks := h.frame.ite h.send.send.frame

theorem State.Queued.powerDown {curfew : Bool} (h : s.Queued ks) : (s.powerDown curfew).Queued ks :=
  (h.each fun _ _ h => h.frame).frame.frame.frame

theorem State.Queued.negotiate {req : Nat} (h : s.Queued ks) : (s.negotiate req).Queued ks := by
  fun_cases State.negotiate
  · exact h.decline
  · exact (h.frame.porterStop.when fun _ h => h.frame).powerDown
  · exact (h.frame.porterStop.when fun _ h => h.frame).powerDown.wakeNow
  · exact (h.frame.porterStop.when fun _ h => h.frame).powerDown

theorem State.Queued.enter {req : Nat} (h : s.Queued ks) : (s.enter req).Queued ks := h.frame.send.ite h.negotiate

theorem State.Queued.enterSleep {req : Nat} (h : s.Queued ks) : (s.enterSleep req).2.Queued ks := by
  fun_cases State.enterSleep
  · exact h
  · exact h
  · exact h
  · exact h
  · exact h.enter

theorem State.Queued.request {req : Nat} (h : s.Queued ks) : (s.request req).Queued ks := h.ite h.enterSleep.frame

end Sys2Proof.Machine
end

section
/-!
PROOFS. Loads and stores, calibration and the dictionary keep the queue.
-/

namespace Sys2Proof.Machine

open Sys2Proof

variable {s t : State} {ks : List Instr}

/-! ### Loads, stores, debug accesses (R250, R257, R275) -/

theorem State.Queued.ioWrite {who : Writer} {a v : Nat} (h : s.Queued ks) : (s.ioWrite who a v).Queued ks :=
  h.ioWriteWord.negotiate.ite h.ioWriteWord

theorem State.Queued.load {k : Die} {rd ra : RegNo} {imm : BitVec 16} {n : Nat} {signed far : Bool} (h : s.Queued ks) :
    (s.load k rd ra imm n signed far).Queued ks :=
  h.issue fun _ h => h.trapGuest.ite (h.trapHere.ite (h.trapBus.ite (h.wordFault.trapBus.ite
    (h.wordFix.ioConsume.ite h.wordFix).writeBack)))

theorem State.Queued.storeBytes {k : Die} {a : Nat} {bs : List Byte} (h : s.Queued ks) : (s.storeBytes k a bs).Queued ks := by
  cases k with
  | field => exact h.writeBytes
  | host => exact h.foldl fun _ h _ => h.frame

theorem State.Queued.storeData {k : Die} {rd ra : RegNo} {imm : BitVec 16} {n : Nat} {far : Bool} (h : s.Queued ks) :
    (s.storeData k rd ra imm n far).Queued ks :=
  h.issue fun _ h => h.trapGuest.ite (h.trapHere.ite (h.trapBus.ite (h.wordFault.retire.ite
    ((State.Queued.retire (by split; exact h.ioWrite; exact h.hostIoWrite)).ite h.wordFix.storeBytes.retire))))

theorem State.Queued.debugFail {a typ : Nat} (h : s.Queued ks) : (s.debugFail a typ).Queued ks := (h.eccFault.ite h.captureAccess).frame

theorem State.Queued.debugAccess {typ a : Nat} {d : Word} (h : s.Queued ks) : (s.debugAccess typ a d).Queued ks := by
  refine h.ite ?_
  extract_lets _ s1 bad _ s2 v _ s3
  have h2 : s2.Queued ks := h.frame.thenIf fun h => h.frame.commit
  have h3 : s3.Queued ks := h2.frame
  exact h2.debugFail.ite ((h2.ite (h2.ioWrite.ite h2.eccFix.writeBytes)).ite (h3.ite (h3.ioConsume.ite h3.eccFix)))

/-! ### Calibration (R462 to R477) -/

theorem State.Queued.calBegin {code target : Nat} {track : Option Nat} (h : s.Queued ks) :
    (s.calBegin code target track).Queued ks := by
  have applied : ∀ {o : Option Nat} {f : Nat → State → State} {s : State}, s.Queued ks →
      (∀ v s, s.Queued ks → (f v s).Queued ks) →
      (match o with | some v => f v s | none => s : State).Queued ks := by
    intro o f s h hf
    split
    · exact hf _ _ h
    · exact h
  exact applied (applied h.frame fun _ _ h => h.frame) fun _ _ h => h.frame

theorem State.Queued.calEnd {state reason : Nat} (h : s.Queued ks) : (s.calEnd state reason).Queued ks :=
  (h.frame.each fun _ _ h => h.frame).each fun _ _ h => h.frame

theorem State.Queued.calGo {code target : Nat} {track : Option Nat} (h : s.Queued ks) : (s.calGo code target track).Queued ks :=
  h.frame.ite h.calBegin

theorem State.Queued.calibTry (h : s.Queued ks) : s.calibTry.Queued ks := by
  fun_cases State.calibTry
  · exact h.frame.calGo
  · exact h
  · exact h.frame.calGo
  · exact h

theorem State.Queued.correct {rx : Bool} {i : Nat} {amp phase : Rat} (h : s.Queued ks) : (s.correct rx i amp phase).Queued ks :=
  h.frame.ite h.frame

theorem State.Queued.calApply {code target : Nat} {m : CalMeasure} (h : s.Queued ks) : (s.calApply code target m).Queued ks := by
  fun_cases State.calApply
  · exact h.frame.correct
  · exact h.frame.correct
  all_goals exact h.frame.frame

theorem State.Queued.calDuty {code : Nat} (h : s.Queued ks) : (s.calDuty code).Queued ks := h.frame.ite h

theorem State.Queued.calJournal {code reason target : Nat} {v : Rat} (h : s.Queued ks) : (s.calJournal code reason target v).Queued ks :=
  h.commit

theorem State.Queued.calWords {code target : Nat} {m : CalMeasure} (h : s.Queued ks) : (s.calWords code target m).Queued ks :=
  (h.each fun _ _ h => h.frame).frame.ite (h.each fun _ _ h => h.frame)

theorem State.Queued.calFinish {code target : Nat} {m : CalMeasure} (h : s.Queued ks) : (s.calFinish code target m).2.Queued ks := by
  fun_cases State.calFinish
  · exact h.frame.calWords.calDuty.calEnd.calJournal
  · exact h.frame.calWords.calDuty.calEnd
  · exact h.frame.calWords.calDuty.frame.calApply.calEnd
  · exact h.frame.calWords.calDuty.frame.calEnd.calJournal

theorem State.Queued.execCalibrationDone {m : CalMeasure} (h : s.Queued ks) : Result.Queued ks (execCalibrationDone m s) := by
  unfold Machine.execCalibrationDone
  dsimp only
  split
  · exact h.calibTry.next
  · exact h.calibTry.calFinish.calibTry.next
  · exact (State.Queued.when h.calibTry.calFinish fun _ h => h.endSimple).calibTry.next

theorem State.Queued.calStageGo {t : Nat} (h : s.Queued ks) : (s.calStageGo t).Queued ks :=
  (h.frame.endSimple.ite h.calBegin.frame).ite h.frame

theorem State.Queued.calStart (h : s.Queued ks) : s.calStart.2.Queued ks := by
  fun_cases State.calStart
  · exact h
  · exact h
  · exact h
  · exact h
  · exact h.frame.calibTry

theorem State.Queued.commitCal {p : List Byte} (h : s.Queued ks) : (s.commitCal p).2.Queued ks := by
  unfold State.commitCal
  simp only [apply_ite Prod.snd]
  exact h.ite (h.ite (h.frame.each fun _ _ h => h.nvmSubmit))

theorem State.Queued.hfLoop (h : s.Queued ks) : s.hfLoop.2.Queued ks := by
  fun_cases State.hfLoop
  · exact h
  · exact h
  · exact h.frame
  · exact h.frame

/-! ### Dictionary reads (R300 to R305) -/

theorem State.Queued.afterRead {idx sub : Nat} (h : s.Queued ks) : (s.afterRead idx sub).Queued ks := by
  fun_cases State.afterRead
  · exact h.frame
  · exact h.frame
  · exact h.frame
  · exact h.frame
  · exact h

theorem State.Queued.dictRead {idx sub : Nat} (h : s.Queued ks) : (s.dictRead idx sub).2.2.Queued ks := by
  fun_cases State.dictRead
  · exact h
  · exact h
  · exact h
  · exact h.afterRead

/-! ### Dictionary writes (R300 to R309) -/

theorem State.Queued.feederEnable {f : Nat} (h : s.Queued ks) : (s.feederEnable f).Queued ks := h.frame.ite (h.ite h.frame)

theorem State.Queued.levelSetting (h : s.Queued ks) : s.levelSetting.Queued ks := h.requestLevel.ite (h.requestLevel.ite h)

theorem State.Queued.settingEffect {idx sub : Nat} (h : s.Queued ks) : (s.settingEffect idx sub).Queued ks :=
  h.feederEnable.ite (h.refSetting.ite (h.writeBytes.ite (h.channelTry.ite
    ((h.ite h.radioPins).ite (h.frame.ite (h.frame.ite (h.frame.ite (h.levelSetting.ite (h.frame.release.streamOut.ite h.compileFor)))))))))

theorem State.Queued.putObj {o : Obj} {idx sub : Nat} {v : List Byte} (h : s.Queued ks) : (s.putObj o idx sub v).Queued ks :=
  h.frame.frame.settingEffect

theorem State.Queued.restoreDefaults (h : s.Queued ks) : s.restoreDefaults.Queued ks := h.frame.foldl fun _ h _ => h.settingEffect

theorem State.Queued.captureArm {v : Nat} (h : s.Queued ks) : (s.captureArm v).2.Queued ks := by
  fun_cases State.captureArm
  · exact h.frame
  · exact h
  · exact h.frame

theorem State.Queued.sweepStart {p : Nat} (h : s.Queued ks) : (s.sweepStart p).2.Queued ks := by
  fun_cases State.sweepStart
  · exact h
  · exact h.requestSweep

theorem State.Queued.ringLoop (h : s.Queued ks) : s.ringLoop.2.Queued ks := by
  fun_cases State.ringLoop
  · exact h
  · exact h.frame
  · exact h.frame.relaySet

theorem State.Queued.shiftEcho {overSpi : Bool} {v : Nat} (h : s.Queued ks) : (s.shiftEcho overSpi v).Queued ks := h.frame.frame

theorem State.Queued.clearCounters {idx : Nat} (h : s.Queued ks) : (s.clearCounters idx).Queued ks := by
  fun_cases State.clearCounters
  · exact h.frame
  · exact h.frame
  · exact h.frame
  · exact h

theorem State.Queued.action {idx sub : Nat} {v : List Byte} (h : s.Queued ks) : (s.action idx sub v).2.Queued ks := by
  fun_cases State.action
  · exact h.storeSettings
  · exact h
  · exact h.restoreDefaults
  · exact h.imagePage
  · exact h.relearn
  · exact h.frame
  · exact h.captureArm
  · exact h.frame
  · exact h.startSecurity
  · exact h.startTemplate
  · exact h.guestPage
  · exact h.frame
  · exact h.startApdu
  · exact h.calRequest
  · exact h.doorLoop
  · exact h.ringLoop
  · exact h.clearCounters
  · exact h.ackBoth
  · exact h.releaseCapture
  · exact h.releaseCapture
  · exact h.clearCounters
  · exact h.clearCounters
  · exact h.enterSleep
  · exact h.calStart
  · exact h.hfLoop
  · exact h.sweepStart

theorem State.Queued.applyWrite {o : Obj} {overSpi : Bool} {idx sub : Nat} {v : List Byte} (h : s.Queued ks) :
    (s.applyWrite o overSpi idx sub v).2.Queued ks := by
  fun_cases State.applyWrite
  · exact h.action
  · exact h
  · exact h.writeDoorGroup
  · exact h.shiftEcho
  · exact h.putObj

theorem State.Queued.countInvalid {st : Status} (h : s.Queued ks) : (s.countInvalid st).Queued ks := h.when fun _ h => h.frame

theorem State.Queued.dictWrite {overSpi : Bool} {idx sub : Nat} {v : List Byte} (h : s.Queued ks) :
    (s.dictWrite overSpi idx sub v).2.Queued ks := by
  fun_cases State.dictWrite
  · exact h
  · exact h
  · exact h
  · exact h
  · exact h
  · exact h
  · exact h.applyWrite.mirror
  · exact h.applyWrite

end Sys2Proof.Machine
end

section
/-!
PROOFS. The twin, class A commands, incoming units and the ports keep the queue.
-/

namespace Sys2Proof.Machine

open Sys2Proof

variable {s t : State} {ks : List Instr}

/-! ### The lead role and takeover (R359 to R375) -/

theorem State.Queued.arpBoth {ip : Nat} (h : s.Queued ks) : (s.arpBoth ip).Queued ks := h.portSend.portSend

theorem State.Queued.gainService (h : s.Queued ks) : s.gainService.Queued ks := h.frame.frame.arpBoth.ite h.frame

theorem State.Queued.sendRole {lead : Bool} (h : s.Queued ks) : (s.sendRole lead).Queued ks := h.send

theorem State.Queued.takeRole (h : s.Queued ks) : s.takeRole.Queued ks := h.frame.pin.sendRole.gainService

theorem State.Queued.startCopy (h : s.Queued ks) : s.startCopy.Queued ks := h.frame.foldl fun _ h _ => h.send

theorem State.Queued.leadReady (h : s.Queued ks) : s.leadReady.Queued ks := h.startCopy.ite h

theorem State.Queued.yieldLead {handover : Bool} (h : s.Queued ks) : (s.yieldLead handover).Queued ks :=
  ((h.each fun _ _ h => h.abortTrack).each fun _ _ h => h.frame).frame.calibInterrupt.frame.pin.sendRole.elseIf fun h => h.raiseFault

theorem State.Queued.handOver (h : s.Queued ks) : s.handOver.Queued ks := (h.each fun _ _ h => h.frame).send.yieldLead

theorem State.Queued.handoverTry (h : s.Queued ks) : s.handoverTry.Queued ks := h.handOver.ite h

theorem State.Queued.restartService {verify : Bool} {c : ChangeMsg} (h : s.Queued ks) : (s.restartService verify c).Queued ks := by
  fun_cases State.restartService
  · exact h.frame
  · exact h.frame
  · exact h.startTrack.frame
  · exact h
  · exact h

theorem State.Queued.exchangeUnknown {c : ChangeMsg} {esn : Nat} (h : s.Queued ks) : (s.exchangeUnknown c esn).Queued ks := h.commit

theorem State.Queued.resolveChange {p : ChangeMsg × Nat} (h : s.Queued ks) : (s.resolveChange p).Queued ks := by
  fun_cases State.resolveChange
  · exact h.restartService
  · exact h.frame.exchangeUnknown.endTemplate
  · exact h.frame.endApdu
  · exact h

theorem State.Queued.commandUnknown {p : Nat × Nat} (h : s.Queued ks) : (s.commandUnknown p).Queued ks := h.frame.commit

theorem State.Queued.resumeSweep (h : s.Queued ks) : s.resumeSweep.Queued ks := by
  fun_cases State.resumeSweep
  · exact h
  · exact h.frame.frame.nextWave

theorem State.Queued.takeover {code : Nat} (h : s.Queued ks) : (s.takeover code).Queued ks :=
  (((h.takeRole.frame.foldl fun _ h _ => h.restartService).raiseFault.foldl fun _ h _ => h.resolveChange).settleAttempts.foldl fun _ h _ =>
    h.commandUnknown).resumeSweep.streamAll.when fun _ h => h.leadReady

theorem State.Queued.trigger {code : Nat} (h : s.Queued ks) : (s.trigger code).Queued ks := h.ite (h.takeover.ite h.raiseFault)

/-! ### Class A commands (R311 to R318) -/

theorem State.Queued.journalCommand {b : List Byte} {st : Status} (h : s.Queued ks) : (s.journalCommand b st).Queued ks := h.commit

theorem State.Queued.badMac {slot : Nat} (h : s.Queued ks) : (s.badMac slot).Queued ks :=
  h.frame.frame.ite h.frame.frame.frame.commit.raiseFault

theorem State.Queued.execSlotHoldEnd {slot : Fin 16} (h : s.Queued ks) : Result.Queued ks (execSlotHoldEnd slot s) := by
  fun_cases execSlotHoldEnd
  · exact h.next
  · exact h.advanceTs.frame.next

theorem State.Queued.reserveBlock {slot ctr : Nat} (h : s.Queued ks) : (s.reserveBlock slot ctr).Queued ks := h.ite h.frame.frame.mirror

theorem State.Queued.setMask {p : List Byte} (h : s.Queued ks) : (s.setMask p).2.Queued ks := by
  fun_cases State.setMask
  · exact h
  · exact h
  · exact h.frame.frame

theorem State.Queued.loadTwin {p : List Byte} (h : s.Queued ks) : (s.loadTwin p).2.Queued ks := by
  fun_cases State.loadTwin
  · exact h.frame
  · exact h.frame.mirror
  · exact h.frame

theorem State.Queued.handOverCmd {p : List Byte} (h : s.Queued ks) : (s.handOverCmd p).2.Queued ks := by
  fun_cases State.handOverCmd
  · exact h
  · exact h.frame

theorem State.Queued.enableDebug {p : List Byte} (h : s.Queued ks) : (s.enableDebug p).2.Queued ks := by
  fun_cases State.enableDebug
  · exact h
  · exact h.frame
  · exact h.frame

theorem State.Queued.runObject {idx sub : Nat} {p : List Byte} (h : s.Queued ks) : (s.runObject idx sub p).2.Queued ks := by
  fun_cases State.runObject
  · exact h.setMask
  · exact h.checkImage
  · exact h.emptyRoster
  · exact h
  · exact h.loadKey
  · exact h.loadIssuer
  · exact h.eraseKey
  · exact h.releaseTag
  · exact h.guestActivate
  · exact h.loadTwin
  · exact h.handOverCmd
  · exact h.ackAny
  · exact h.commitCal
  · exact h.enableDebug
  · exact h

theorem State.Queued.runCommand {b : List Byte} (h : s.Queued ks) : (s.runCommand b).2.Queued ks := by
  fun_cases State.runCommand
  · exact h
  · exact h
  · exact h.runObject
  · exact h

theorem State.Queued.finishCommand {c : CmdIn} {viaPorter mac : Bool} (h : s.Queued ks) :
    (s.finishCommand c viaPorter mac).Queued ks :=
  (h.runCommand.journalCommand.replyAfter.thenIf fun h => h.handoverTry).thenIf fun h => h.fieldReset

theorem State.Queued.refuseCommand {c : CmdIn} {viaPorter : Bool} {st : Status} (h : s.Queued ks) :
    (s.refuseCommand c viaPorter st).Queued ks :=
  h.reply

theorem State.Queued.failCommand {c : CmdIn} {viaPorter : Bool} {st : Status} (h : s.Queued ks) :
    (s.failCommand c viaPorter st).Queued ks :=
  h.journalCommand.reply

theorem State.Queued.bootstrap {c : CmdIn} {viaPorter : Bool} (h : s.Queued ks) : (s.bootstrap c viaPorter).Queued ks :=
  h.countInvalid.refuseCommand.ite h.finishCommand

theorem State.Queued.consume {c : CmdIn} {viaPorter : Bool} (h : s.Queued ks) : (s.consume c viaPorter).Queued ks :=
  h.frame.frame.mirror.failCommand.ite (h.frame.frame.mirror.frame.ite h.frame.frame.mirror.finishCommand)

theorem State.Queued.checkCounter {c : CmdIn} {viaPorter : Bool} (h : s.Queued ks) : (s.checkCounter c viaPorter).Queued ks :=
  h.failCommand.ite (h.frame.failCommand.ite (h.failCommand.ite h.reserveBlock.consume))

theorem State.Queued.checkMac {c : CmdIn} {viaPorter : Bool} (h : s.Queued ks) : (s.checkMac c viaPorter).Queued ks :=
  h.refuseCommand.ite (h.refuseCommand.ite (h.badMac.refuseCommand.ite h.checkCounter))

theorem State.Queued.command {c : CmdIn} {viaPorter : Bool} (h : s.Queued ks) : (s.command c viaPorter).Queued ks := by
  fun_cases State.command
  · exact h.refuseCommand
  · exact h.refuseCommand
  · exact h.refuseCommand
  · exact h.refuseCommand
  · exact h.refuseCommand
  · exact h.bootstrap
  · exact h.checkMac

theorem State.Queued.commandUnit {unit : List Byte} {c : CmdIn} (h : s.Queued ks) : (s.commandUnit unit c).Queued ks := by
  fun_cases State.commandUnit
  · exact h.refuseCommand
  · exact h.proxy

theorem State.Queued.commandWhole {c : CmdIn} (h : s.Queued ks) : (s.commandWhole c).Queued ks := by
  fun_cases State.commandWhole
  · exact h.refuseCommand
  · exact h.command

/-! ### Units on their way in (R306 to R310) -/

theorem State.Queued.proxyUnit {u : LdpIn} {q : DictReq} (h : s.Queued ks) : (s.proxyUnit u q).Queued ks := h.proxy

theorem State.Queued.dictAnswer {u : LdpIn} {q : DictReq} {st : Status} {v : List Byte} (h : s.Queued ks) :
    (s.dictAnswer u q st v).Queued ks :=
  h.reply

theorem State.Queued.serveRead {u : LdpIn} (h : s.Queued ks) : (s.serveRead u).Queued ks := by
  unfold State.serveRead
  dsimp only
  split
  · exact h.dictAnswer
  · exact h.proxyUnit.ite (State.Queued.dictAnswer h.dictRead)

theorem State.Queued.writeFor {overSpi : Bool} {idx sub : Nat} {v : List Byte} (h : s.Queued ks) :
    (s.writeFor overSpi idx sub v).2.2.Queued ks :=
  h.dictWrite

theorem State.Queued.serveWrite {u : LdpIn} (h : s.Queued ks) : (s.serveWrite u).Queued ks := by
  unfold State.serveWrite
  dsimp only
  split
  · exact h.dictAnswer
  · exact h.proxyUnit.ite (State.Queued.replyAfter h.writeFor)

theorem State.Queued.setObserver {p : Peer} {mask : Nat} (h : s.Queued ks) : (s.setObserver p mask).2.Queued ks := by
  fun_cases State.setObserver
  · exact h.frame
  · exact h.frame
  · exact h
  · exact h.frame

theorem State.Queued.serveSubscribe {u : LdpIn} (h : s.Queued ks) : (s.serveSubscribe u).Queued ks :=
  (h.setObserver.when fun _ h => h.mirror).reply

theorem State.Queued.serveEventAck {u : LdpIn} (h : s.Queued ks) : (s.serveEventAck u).Queued ks := h.frame.mirror

theorem State.Queued.ackStore {k off start count : Nat} (h : s.Queued ks) : (s.ackStore k off start count).Queued ks :=
  h.frame.ite h.frame.send.mirror.repair.streamOut

theorem State.Queued.serveJournalAck {u : LdpIn} (h : s.Queued ks) : (s.serveJournalAck u).Queued ks := h.ackStore

theorem State.Queued.serveUnit {whole : Bool} {u : LdpIn} (h : s.Queued ks) : (s.serveUnit whole u).Queued ks := by
  fun_cases State.serveUnit
  · exact h.serveRead
  · exact h.serveWrite
  · exact h.commandWhole
  · exact h.commandUnit
  · exact h.serveSubscribe
  · exact h.serveEventAck
  · exact h.serveJournalAck

theorem State.Queued.ldpUnit {u : LdpIn} {whole : optParam Bool false} (h : s.Queued ks) : (s.ldpUnit u whole).Queued ks := by
  fun_cases State.ldpUnit
  · exact h
  · exact h.sendUnit
  · exact h.sendUnit
  · exact h.serveUnit

theorem State.Queued.unitOf {utype : Nat} {u : LdpIn} (h : s.Queued ks) : (s.unitOf utype u).Queued ks := h.ldpUnit.ite h

theorem State.Queued.commandOf {idx sub : Nat} {c : CmdIn} (h : s.Queued ks) : (s.commandOf idx sub c).Queued ks := h.ldpUnit.ite h

theorem State.Queued.writeRow {overSpi : Bool} {idx sub : Nat} {v : List Byte} (h : s.Queued ks) :
    (s.writeRow overSpi idx sub v).Queued ks := by
  refine h.ite ?_
  split
  · exact h.reply
  · exact State.Queued.replyAfter h.writeFor

/-! ### The ring port (R330 to R346) -/

theorem State.Queued.forward {p : Port} {f : RingIn} (h : s.Queued ks) : (s.forward p f).Queued ks :=
  h.ite (h.frame.ite h.frame.portSend)

theorem State.Queued.noteNode {mac : Nat} (h : s.Queued ks) : (s.noteNode mac).Queued ks := h.ite (h.frame.ite h.frame)

theorem State.Queued.wakeAck (h : s.Queued ks) : s.wakeAck.Queued ks := h.arpBoth

theorem State.Queued.wakeSeen (h : s.Queued ks) : s.wakeSeen.Queued ks :=
  h.ite ((h.wakeAck.frame.when fun _ h => h.wakeEvent).ite (h.wakeAck.wakeEvent.ite h.wakeAck.wakeEvent.frame))

theorem State.Queued.takeUnit {ip udp : Nat} {u : LdpIn} (h : s.Queued ks) : (s.takeUnit ip udp u).Queued ks := h.ite h.frame.ldpUnit

theorem State.Queued.deliverFrame {p : Port} {f : RingIn} (h : s.Queued ks) : (s.deliverFrame p f).Queued ks := by
  fun_cases State.deliverFrame
  · exact h.noteNode
  · exact h.frame
  · exact h.takeUnit
  · exact h.portSend
  · exact h
  · exact h.frame
  · exact h.portSend
  · exact h
  · exact h.wakeSeen
  all_goals exact h

theorem State.Queued.takeFrame {p : Port} {f : RingIn} (h : s.Queued ks) : (s.takeFrame p f).Queued ks :=
  h.frame.ite (h.frame.ite h.frame.deliverFrame)

theorem State.Queued.ringFrame {p : Port} {f : RingIn} (h : s.Queued ks) : (s.ringFrame p f).Queued ks :=
  h.ite (h.frame.ite (h.frame.ite (h.frame.ite (((h.ite h.frame).ite (h.ite h.frame).forward).thenIf fun h => h.takeFrame))))

/-! ### The SPI host port (R347 to R358) -/

theorem State.Queued.shiftOut {k : Sel} (h : s.Queued ks) : (s.shiftOut k).Queued ks := h.frame.frame.frame.frame

theorem State.Queued.spiUnitDone {k : Sel} {u : List Byte} (h : s.Queued ks) : (s.spiUnitDone k u).Queued ks :=
  h.frame.spiQueue.ite h.frame.ldpUnit

theorem State.Queued.spiSegment {k : Sel} {start stop : Bool} {payload : List Byte} (h : s.Queued ks) :
    (s.spiSegment k start stop payload).Queued ks := by
  fun_cases State.spiSegment
  · exact (h.frame.ite h).frame
  · exact (h.frame.ite h).frame
  · exact (h.frame.ite h).spiUnitDone
  · exact (h.frame.ite h).frame

theorem State.Queued.spiJudge {k : Sel} {f out : List Byte} (h : s.Queued ks) : (s.spiJudge k f out).Queued ks :=
  (h.frame.ite (h.frame.spiSegment.ite h.frame)).ite (h.frame.ite h.frame.frame)

theorem State.Queued.spiCollide {k : Sel} {f : List Byte} (h : s.Queued ks) : (s.spiCollide k f).Queued ks := h.frame.frame

theorem State.Queued.spiFrame {k : Sel} {f : List Byte} {both : Bool} (h : s.Queued ks) : (s.spiFrame k f both).Queued ks :=
  h.ite (h.frame.frame.ite (h.spiCollide.ite (h.frame.frame.frame.ite (h.frame.frame.ite (h.shiftOut.frame.ite h.shiftOut.spiJudge)))))

theorem State.Queued.spiRow {ftype : Nat} {k : Sel} {f : List Byte} {both : Bool} (h : s.Queued ks) :
    (s.spiRow ftype k f both).Queued ks :=
  h.ite h.spiFrame

/-! ### The twin's rows (R359 to R375) -/

theorem State.Queued.releaseReply {p : Payload} (h : s.Queued ks) : (s.releaseReply p).Queued ks := by
  fun_cases State.releaseReply
  · exact h
  · exact h.frame.reply

theorem State.Queued.releaseCommand {p : Payload} (h : s.Queued ks) : (s.releaseCommand p).Queued ks := by
  fun_cases State.releaseCommand
  · exact h
  · exact h.frame.finishCommand

theorem State.Queued.releaseRecord {r : JRec} (h : s.Queued ks) : (s.releaseRecord r).Queued ks := h.frame.frame.deliver.ite h.frame

theorem State.Queued.mirrored {p : Payload} (h : s.Queued ks) : (s.mirrored p).Queued ks :=
  (State.Queued.releaseReply (by split; exact h.releaseRecord; exact h.negotiate.ite h; exact h.frame.ite h; exact h)).releaseCommand

theorem State.Queued.releaseAll (h : s.Queued ks) : s.releaseAll.Queued ks :=
  (((h.frame.foldl fun _ h _ => h.deliver).foldl fun _ h _ => h.reply).foldl fun _ h _ => h.finishCommand).thenIf fun h => h.negotiate

theorem State.Queued.goSolo (h : s.Queued ks) : s.goSolo.Queued ks := h.frame.releaseAll.raiseFault.ite h

theorem State.Queued.followTs {ts : Nat} (h : s.Queued ks) : (s.followTs ts).Queued ks := h.frame.ite h

theorem State.Queued.fieldAnswer {n : Nat} (h : s.Queued ks) : (s.fieldAnswer n).Queued ks := by
  fun_cases State.fieldAnswer <;> exact h.send

theorem State.Queued.fieldJudge {n fwd commanded : Nat} (h : s.Queued ks) : (s.fieldJudge n fwd commanded).Queued ks :=
  h.ite (h.frame.frame.raiseFault.ite h.frame.trigger)

theorem State.Queued.mirrorRecord {r : JRec} (h : s.Queued ks) : (s.mirrorRecord r).Queued ks :=
  (h.frame.frame.ite (h.frame.frame.ite h.frame)).deliver

theorem State.Queued.mirrorWave {w : WaveMsg} (h : s.Queued ks) : (s.mirrorWave w).Queued ks := by
  fun_cases State.mirrorWave <;> exact h.frame

theorem State.Queued.mirrorClose {digest : Nat} (h : s.Queued ks) : (s.mirrorClose digest).Queued ks :=
  h.frame.closeHeld.ite h.frame.closeHeld.frame.raiseFault.frame.sendHello.sendPair

theorem State.Queued.mirrorReserve {r : ReserveMsg} (h : s.Queued ks) : (s.mirrorReserve r).Queued ks := by
  fun_cases State.mirrorReserve
  · exact h.frame.frame
  · exact h.frame.frame
  · exact h.frame

theorem State.Queued.mirrorKey {kind slot : Nat} {m : List Byte} (h : s.Queued ks) : (s.mirrorKey kind slot m).Queued ks := by
  fun_cases State.mirrorKey
  · exact h.frame
  · exact h
  · exact h.frame
  · exact h.frame
  · exact h.frame.frame
  · exact h

theorem State.Queued.mirrorSetting {idx sub : Nat} {v : List Byte} (h : s.Queued ks) : (s.mirrorSetting idx sub v).Queued ks := by
  fun_cases State.mirrorSetting
  · exact h.restoreDefaults
  · exact h.writeDoorGroup
  · exact h.putObj
  · exact h
  · exact h

theorem State.Queued.mirrorStore {k off : Nat} (h : s.Queued ks) : (s.mirrorStore k off).Queued ks := h.frame.release

theorem State.Queued.pairedNow (h : s.Queued ks) : s.pairedNow.Queued ks := h.frame.startCopy.ite (h.frame.frame.ite h.frame)

theorem State.Queued.unpaired (h : s.Queued ks) : s.unpaired.Queued ks := h.goSolo.frame.raiseFault

theorem State.Queued.copyPart {p : ResyncPart} (h : s.Queued ks) : (s.copyPart p).Queued ks := by
  fun_cases State.copyPart
  · exact h.frame
  · exact h.mirrorReserve
  · exact h.mirrorKey
  · exact h.frame
  · exact h
  · exact h.mirrorRecord
  · exact h.frame
  · exact h.frame
  · exact h.frame
  · exact h.frame
  · exact h.frame
  · exact h.frame
  · exact h.mirrorSetting
  · exact h.frame

theorem State.Queued.becomeSecond (h : s.Queued ks) : s.becomeSecond.Queued ks := h.frame.frame.ite h.frame

/-! ### The rows of the message links (R22 to R43) -/

theorem State.Queued.twinHello {nonce : List Byte} {esn : Nat} {posA : Bool} (h : s.Queued ks) :
    (s.twinHello nonce esn posA).Queued ks :=
  (h.frame.ite h.frame.frame.raiseFault).ite (h.frame.frame.ite (h.frame.frame.unpaired.ite h.frame.frame.sendPair))

theorem State.Queued.acknowledged {l : LinkEnd} {next : Nat} (h : s.Queued ks) : (s.acknowledged l next).Queued ks :=
  (h.modLink.foldl fun _ h _ => h.mirrored).ite h.modLink

theorem State.Queued.takeAck {l : LinkEnd} {next : Nat} (h : s.Queued ks) : (s.takeAck l next).Queued ks :=
  h.acknowledged.modLink.pump.retransmit.ite h.acknowledged.modLink.pump

theorem State.Queued.twinLost (h : s.Queued ks) : s.twinLost.Queued ks := h.frame.frame.ite h.frame.goSolo

theorem State.Queued.refuseProxied (h : s.Queued ks) : s.refuseProxied.Queued ks := h.frame.foldl fun _ h _ => h.reply

theorem State.Queued.execLinkLost {l : LinkEnd} (h : s.Queued ks) : Result.Queued ks (execLinkLost l s) := by
  fun_cases execLinkLost
  · exact h.next
  · exact h.modLink.raiseFault.next
  · exact h.modLink.refuseProxied.frame.raiseFault.next
  · exact h.modLink.twinLost.next

theorem State.Queued.resendAll (h : s.Queued ks) : s.resendAll.Queued ks :=
  (h.modLink.foldl fun _ h _ => h.send).foldl fun _ h _ => h.send

theorem State.Queued.resyncCurrent {l : LinkEnd} {rx : Nat} (h : s.Queued ks) : (s.resyncCurrent l rx).Queued ks :=
  h.modLink.resendAll.ite h.modLink

theorem State.Queued.resyncAt {l : LinkEnd} {tx rx : Nat} (h : s.Queued ks) : (s.resyncAt l tx rx).Queued ks := by
  fun_cases State.resyncAt
  · exact (h.modLink.acknowledged.retransmit.ite h.modLink.resyncCurrent).pump.storeShow
  · exact (h.modLink.acknowledged.retransmit.ite h.modLink.resyncCurrent).pump
  · exact (h.modLink.acknowledged.retransmit.ite h.modLink.resyncCurrent).pump

theorem State.Queued.serveProxied {peer : Peer} {rid : Nat} {q : DictReq} (h : s.Queued ks) : (s.serveProxied peer rid q).Queued ks := by
  cases q with
  | read idx sub => exact h.reply.ite (State.Queued.reply h.dictRead)
  | write idx sub v => exact h.reply.ite (State.Queued.replyAfter h.writeFor)

theorem State.Queued.hostEvents {recs : List JRec} (h : s.Queued ks) : (s.hostEvents recs).Queued ks := h.frame.notifyAll.send

theorem State.Queued.hostRecords {recs : List JRec} (h : s.Queued ks) : (s.hostRecords recs).Queued ks := h.frame.streamAll

theorem State.Queued.storeKnown {k off : Nat} (h : s.Queued ks) : (s.storeKnown k off).Queued ks := h.ite h.frame.release

theorem State.Queued.hostRole {lead : Bool} (h : s.Queued ks) : (s.hostRole lead).Queued ks := (h.ite h.gainService).ite h.frame

theorem State.Queued.carryReport {b : List Byte} (h : s.Queued ks) : (s.carryReport b).Queued ks :=
  h.frame.ite (h.frame.foldl fun _ h _ => h.when fun _ h => h.frame)

end Sys2Proof.Machine
end

section
/-!
PROOFS. Every command, and so every step, keeps the queue.
-/

namespace Sys2Proof.Machine

open Sys2Proof

variable {s : State} {ks : List Instr}

/-- Every command completes and keeps the queue. -/
theorem State.Queued.exec (c : Instr) (h : s.Queued ks) : Result.Queued ks (exec c s) := by
  cases c with
  | linkHello => exact (h.receive fun _ h => h.twinHello.ite h).next
  | helloPeriod => exact .ite h.sendHello.next h.next
  | linkAck => exact (h.receive fun _ h => h.takeAck).next
  | ackPeriod => exact .ite h.sendAck.next h.next
  | retransmitTimeout => exact .ite h.retransmit.next h.next
  | linkLost => exact h.execLinkLost
  | linkResync => exact (h.receive fun _ h => h.resyncAt).next
  | dictReq => exact (h.receive fun _ h => h.serveProxied).next
  | dictRsp | cmdRsp => exact (h.receive fun _ h => h.proxyAnswer).next
  | cmdReq => exact (h.receive fun _ h => h.command).next
  | porterEvent => exact (h.receive fun _ h => h.hostEvents).next
  | porterEventAck | time | mService => exact (h.receive fun _ h => h.frame).next
  | porterJournal => exact (h.receive fun _ h => h.hostRecords).next
  | porterJournalAck => exact (h.receive fun _ h => h.storeKnown).next
  | powerState => exact (h.receive fun _ h => by split; exact h.hostRole.ite h; exact h).next
  | report => exact (h.receive fun _ h => h.carryReport).next
  | faultMsg => exact (h.receive fun _ h => by split; exact h.frame; exact h.journalFault).next
  | porterEcho => exact (h.receive fun _ h => h.modLink.ite h.echoBack).next
  | tbcclRead | tsSave | doorHoldOffEnd | debugExpiry | resume | journalCheckpoint | nodeForget | entryForget | returnToMains =>
    exact h.frame.next
  | referenceChange => exact .ite h.next (h.frame.commit.raiseFault.ite h.frame.commit).next
  | zeroCrossEdge => exact h.execZeroCrossEdge
  | freeRunning | lowPowerIdle => exact .ite h.frame.next h.next
  | mainsReport => exact .ite h.frame.next h.frame.goVirtual.next
  | mainsCycleEnd => exact h.advance.next
  | select => exact (h.beginStage fun _ _ h => h.beginSelect).next
  | shape => exact (h.beginStage fun _ _ h => (h.when fun _ h => h.frame).beginSelect).next
  | emit => exact (h.beginStage fun _ _ h => h.unlessLent fun _ h => h.emitFrame).next
  | listen | exchange => exact (h.beginStage fun _ _ h => h.unlessLent fun _ h => h.prepareListen).next
  | waitStage => exact (h.beginStage fun _ _ h => h.endPlain).next
  | meet => exact (h.beginStage fun _ _ h => h.frame).next
  | meetRelease => exact .ite h.next (h.meetRelease.waveBoundary.calibTry.handoverTry.ite h.meetRelease).next
  | branch => exact (h.beginStage fun _ _ h => h.advance.endPlain).next
  | defer => exact (h.beginStage fun _ _ h => h.frame.post).next
  | verdict => exact h.verdict.next
  | post | mark => exact (h.beginStage fun _ _ h => h.advance.frame.frame.post).next
  | callStage => exact (h.beginStage fun _ _ h => h.stackStop.ite h.advance.frame.goOn).next
  | returnStage => exact h.execReturnStage
  | sense => exact (h.senseRow.ite (h.beginStage fun _ _ h => h.senseOver)).next
  | calib => exact (h.beginStage fun _ _ h => (h.ite (h.ite h.frame)).calStageGo).next
  | halt => exact (h.beginStage fun _ _ h => h.credentialResult.stopTrack).next
  | tout => exact h.execTout
  | resourceWaitEnd => exact .ite h.calStageGo.next h.resourceWaitEnd.next
  | horizonEnd => exact h.execHorizonEnd
  | heldRelease => exact h.releaseHeld.next
  | qpop => exact h.qpop.next
  | qflush => exact h.qflush.next
  | start => exact .ite h.startTrack.frame.mirror.next h.startTrack.next
  | stop => exact (h.when fun _ h => h.sweepStop).stopStage.next
  | abort => exact h.abortTrack.next
  | acknowledgePulse => exact h.execAcknowledgePulse
  | selectorSettle => exact h.execSelectorSettle
  | budgetAdmission => exact h.admitWaiters.next
  | rampEnd => exact h.rampEnd.next
  | trainingComplete => exact h.trainingComplete.next
  | feederAbsent | feederShort | feederOverload => exact (h.feederFault.ite h).next
  | feederFenced => exact h.execFeederFenced
  | feederRecovery | holdOffEnd | step => exact (h.frame.ite h).next
  | aboveCap | powerAtZero => exact .ite h.frame.raiseFault.next h.next
  | peakTimeTick => exact (h.advanceTo.frame.reduceTo.raiseFault.ite h.advanceTo.frame).noteSum.next
  | heatsinkSample => exact (((h.frame.when fun _ h => h.reduceTo).when fun _ h => h.raiseFault).when fun _ h => h.raiseFault).noteSum.next
  | sof => exact h.execSof
  | frameReceived => exact h.execFrameReceived
  | windowClose => exact h.execWindowClose
  | impulseMark => exact .ite h.next (.ite h.frame.next ((h.frame.frame.frame.ite h.frame.frame).each fun _ _ h => h.frame).next)
  | markEnd => exact h.execMarkEnd
  | mapClear | captureArm | apduStart | templateWrite | templateStart | sweepStart | reportBuild | securityStart | doorGroupWrite
  | relearn | guestPage | store | restoreDefaults | counterClear | ringLoopback | shiftRegisterEcho | acknowledgeFaults
  | releaseCapture | calibrateNow | doorLinkLoopback | calibrationStart | hfLoopback => exact h.writeRow.next
  | captureTrigger => exact h.execCaptureTrigger
  | captureDone => exact .ite h.advanceTo.frame.next h.next
  | apduResult => exact .ite h.next h.requests.frame.frame.frame.frame.endApdu.next
  | templateResult => exact h.execTemplateResult
  | sweepPeriod => exact h.execSweepPeriod
  | sweepBegin => exact h.sweepBegin.next
  | sweepClose => exact h.sweepClose.next
  | closeWaitEnd => exact h.execCloseWaitEnd
  | emptyRoster | loadWrappedKey | loadIssuerKey | eraseSlot | releaseUid | guestActivate | enableCoreDebug | checkNewImage
  | setRightsMask | loadTwinKey | handOverLead | acknowledgeAnyLevel | injectFault | commitCalibration => exact h.commandOf.next
  | reportReady => exact h.execReportReady
  | securityResult => exact h.execSecurityResult
  | failuresLeaveWindow => exact h.execFailuresLeaveWindow
  | burstEnd => exact h.execBurstEnd
  | senseSkipped => exact h.execSenseSkipped
  | lanternScan => exact .ite h.next (h.each fun _ _ h => h.skipJudgement).frame.lanternNext.next
  | impulseRepeat => exact h.execImpulseRepeat
  | add | sub | and | or | xor | andn | clt | cltu | shl | shr | shra | shlr | shrr | shrar | addi | andi | ori | xori | clti | cltiu
  | ldhi => exact h.alu.next
  | mul | mulu | mac | macu => exact h.multiply.next
  | productWrite => exact (h.ite h.modCore).next
  | rdph | rdpl => exact (h.issue fun _ h => h.settleProducts.writeBack).next
  | wrph | wrpl => exact (h.issue fun _ h => h.settleProducts.modCore.retire).next
  | jmpr | jmpf => exact (h.issue fun _ h => h.transferBy).next
  | callr => exact (h.issue fun _ h => h.cycles.call).next
  | ret => exact (h.issue fun _ h => h.trapHere.ite h.transferBy).next
  | ldw | ldh | ldhu | ldb | ldbu | ldfw => exact h.load.next
  | stw | sth | stb | stfw => exact h.storeData.next
  | beq | bne | blt | bge | bltu | bgeu => exact h.branch.next
  | jmp => exact (h.issue fun _ h => h.transfer).next
  | call => exact (h.issue fun _ h => h.call).next
  | rdsr => exact (h.issue fun _ h => h.trapHere.ite (h.modCore.ite h).writeBack).next
  | wrsr => exact (h.issue fun _ h => h.trapHere.ite h.modCore.retire).next
  | lck => exact (h.issue fun _ h => h.modCore.retire.modCore).next
  | ulk => exact (h.issue fun _ h => h.modCore.retire.when fun _ h => h.serveDeferred).next
  | lockovr => exact (h.breakLock.ite h).next
  | trap => exact (h.issue fun _ h => h.passOn.trap.when fun _ h => h.guestReturned).next
  | rfe => exact (h.issue fun _ h => h.passOn.modCore.stepDone).next
  | wait => exact (h.issue fun _ h => h.retire.ite h.retire.modCore).next
  | brk => exact (h.issue fun _ h => h.retire.frame.ite h.passOn.trap).next
  | interrupt => exact (h.modCore.trap.ite h).next
  | guestStop => exact .ite h.trapGuest.next h.next
  | debugHalt => exact (h.ite (h.frame.ite h.frame)).next
  | debugPeek | debugConsume | debugWrite => exact h.debugAccess.next
  | lockstepMismatch => exact h.raiseFaultAt.next
  | performanceLevel | levelDrop => exact .ite h.requestLevel.next h.next
  | transitionEnd => exact h.execTransitionEnd
  | wdkick => exact h.wdkick.next
  | watchdog | auxOutOfRange => exact .ite h.next h.frame.raiseFault.next
  | scrub => exact .ite h.scrubField.scrubHost.next h.next
  | nvmProgramDone => exact h.execNvmProgramDone
  | nvmEraseDone => exact h.execNvmEraseDone
  | storeComplete => exact .ite h.next (.ite h.storeField.storeHost.nvmServe.storeShow.next h.storeField.storeHost.nvmServe.frame.next)
  | fieldReset => exact h.fieldReset.next
  | hostReset => exact h.hostHold.next
  | read | write | subscribe | eventAck | journalAck => exact h.unitOf.next
  | nextRecord => exact h.ldpUnit.next
  | eventResend => exact h.resendEvents.next
  | journalResend => exact h.resendStore.next
  | slotHoldEnd => exact h.execSlotHoldEnd
  | ringFrame | wakeFrame => exact h.ringFrame.next
  | supervision =>
    exact .ite h.next (.ite h.frame.portSend.portSend.next (h.frame.portSend.portSend.frame.commit.ite
      h.frame.portSend.portSend.frame.commit.raiseFault).next)
  | linkUp | ringLoopbackEnd => exact .ite h.next h.frame.relaySet.next
  | linkDown => exact h.frame.relaySet.next
  | hostReady => exact .ite h.next h.hostBoot.next
  | addressChange => exact .ite h.next h.useAddress.arpBoth.next
  | serviceArp => exact .ite h.next h.frame.wakeAck.next
  | spiIdle | spiUnit | spiEcho => exact h.spiRow.next
  | echoDurationEnd => exact .ite h.next h.shiftEcho.next
  | heartbeatTick => exact .ite h.next h.frame.pin.send.next
  | heartbeat => exact (h.receive fun _ h => h.frame.followTs).next
  | heartbeatMissed => exact .ite h.next (.ite h.frame.next h.frame.trigger.next)
  | haltIn => exact .ite h.next h.frame.trigger.next
  | fieldAbsent => exact .ite h.frame.send.next h.next
  | fieldQuery => exact (h.receive fun _ h => h.fieldAnswer).next
  | fieldReply => exact (h.receive fun _ h => h.fieldJudge).next
  | fieldQueryTimeout => exact .ite h.frame.trigger.next h.next
  | mJournal => exact (h.receive fun _ h => h.foldl fun _ h _ => h.mirrorRecord).next
  | mWave => exact (h.receive fun _ h => h.mirrorWave).next
  | mClose => exact (h.receive fun _ h => h.ite h.mirrorClose).next
  | mCounter => exact (h.receive fun _ h => h.frame.frame).next
  | mReserve => exact (h.receive fun _ h => h.mirrorReserve).next
  | mInflight => exact (h.receive fun _ h => (h.frame.ite h).frame).next
  | mKeys => exact (h.receive fun _ h => by split; exact h.mirrorKey; exact h.frame; exact h.frame).next
  | mDict => exact (h.receive fun _ h => by split; exact h.mirrorSetting; exact h.storeSettings).next
  | mHost => exact (h.receive fun _ h => by split; exact h.setObserver; exact h.frame; exact h.mirrorStore).next
  | mPower => exact (h.receive fun _ h => h.sendAck.frame.porterStop.powerDown).next
  | haltNotice | handover => exact (h.receive fun _ h => h.trigger).next
  | pair => exact (h.receive fun _ h => h.ite (h.pairedNow.ite h.unpaired)).next
  | resyncData => exact (h.receive fun _ h => h.ite ((h.ite h.frame).foldl fun _ h _ => h.copyPart)).next
  | roleDecision =>
    exact .ite h.next (.ite h.frame.becomeSecond.next (.ite h.frame.takeRole.leadReady.next
      (.ite h.frame.becomeSecond.next (.ite h.frame.next h.frame.frame.next))))
  | yield => exact .ite h.frame.next (.ite (.ite h.frame.next h.frame.yieldLead.next) h.frame.yieldLead.next)
  | mirrorTimeout => exact .ite h.goSolo.next h.next
  | handoverAbandoned => exact .ite h.next h.frame.commit.next
  | ack => exact h.ackDie.next
  | caprel => exact h.releaseCapture.next
  | fltqConsume => exact h.takeRecord.next
  | restartDelay => exact h.execRestartDelay
  | carrierOutOfTolerance | pllUnlock | railOutOfRange | collectorParityError => exact h.raiseFault.next
  | mainsAbsent => exact .ite h.next h.frame.goVirtual.next
  | powerFailWarning => exact h.execPowerFailWarning
  | warningClear => exact .ite h.next (h.frame.fieldReset.when fun _ h => h.frame).next
  | powerLoss => exact h.powerLoss.next
  | enterLantern | enterCurfew | enterCurfewDiscarding => exact h.request.next
  | curfewWindowEnd => exact h.execCurfewWindowEnd
  | wake => exact .ite h.brownout.next h.wakeEvent.next
  | wakeSymbol => exact h.execWakeSymbol
  | wakeFailure => exact h.execWakeFailure
  | brownout => exact h.brownout.next
  | padrel => exact h.execPadrel
  | sleep | idle | fsOn => exact h.radioDo fun _ h => h.radioGo
  | rx => exact h.radioDo fun _ h => h.rxCommand
  | tx => exact h.radioDo fun _ h => h.txCommand
  | calibrate => exact h.radioDo fun _ h => h.calRequest
  | transmitHead => exact h.radioDo fun _ h => h.txAccept
  | leadEnd => exact h.radioDo fun _ h => h.leadEnd
  | coexRetry => exact h.radioDo fun _ h => h.coexRetry
  | packetSent => exact h.radioDo fun _ h => h.packetSent
  | settleEnd => exact h.radioDo fun _ h => h.settleEnd
  | synthesiserCalibrationDone => exact h.execSynthesiserCalibrationDone
  | temperatureSample => exact h.execTemperatureSample
  | backgroundCalibration => exact h.execBackgroundCalibration
  | lossOfLock => exact h.radioDo fun _ h => h.lockLost
  | grantWithdrawn => exact h.radioDo fun _ h => h.grantWithdrawn
  | dutyBucket => exact h.execDutyBucket
  | sniffPeriod => exact h.execSniffPeriod
  | stfDetection => exact h.radioDo fun _ h => h.stf
  | phr => exact h.radioDo fun _ h => h.phr
  | xhr => exact h.radioDo fun _ h => h.xhr
  | packetReceived => exact h.radioDo fun _ h => h.packetReceived
  | mapSetAck => exact h.execMapSetAck
  | mapReport => exact h.execMapReport
  | doorLinkLoopbackEnd => exact h.execDoorLinkLoopbackEnd
  | calibrationDue => exact .ite h.frame.calibTry.next h.next
  | calibrationDone => exact h.execCalibrationDone
  | correctionStep => exact (h.foldl fun _ h _ => h.ite h.frame).next
  | hfLoopbackEnd | hbInEdge => exact .ite h.next h.frame.next
  | registerWrite => exact .ite h.ioWrite.next h.next
  | frameEnd => exact .ite h.next (.ite h.advanceTo.modulate.endSimple.next (.ite h.advanceTo.modulate.openWindow.next h.next))
  | unassignedOpcode => exact (h.ite (h.issue fun _ h => h.trapHere)).next
  | heartbeatLineBroken => exact .ite h.next (.ite h.frame.raiseFault.next h.frame.next)

/-- Settles O19: every command answers a next state, with the queue that it found, by `State.Queued.exec`. -/
theorem commandsCompleteAndKeepQueue : Obligations.CommandsCompleteAndKeepQueue := fun c s => State.Queued.exec c (s := s) rfl

end Sys2Proof.Machine
end
